-- ==== Sys2Proof/Word.lean ====
section
/-! DEFINITION. The plainest words of the model: bytes, wrapping to a width, and the roles
and masters that commands name. -/

namespace Sys2Proof

/-- A byte of a packet, a memory cell or a DOMAIN object. -/
abbrev Byte := BitVec 8

/-- The value of `n` in a field of `w` bits, without a sign. -/
def wrapU (w : Nat) (n : Int) : Nat := (n % (2 ^ w : Int)).toNat

/-- The value of `n` in a two's complement field of `w` bits. -/
def wrapI (w : Nat) (n : Int) : Int :=
  let u := n % (2 ^ w : Int)
  if u < (2 ^ (w - 1) : Int) then u else u - (2 ^ w : Int)

/-- The roles of R8 and R470. -/
inductive Role where
  | viewer | operator | integrator | service | metrology
  deriving DecidableEq, Repr

/-- Who sends an access (R473, R477): a Cheko-64 core in one security state, the unit firmware,
the metrology seam or an FDP session by its number. -/
inductive Master where
  | core (c : Nat) (secure : Bool)
  | unitFw
  | metSeam
  | fdp (session : Nat)
  deriving DecidableEq, Repr

/-- What is asked of a memory port (R384): a write of bytes, or a read; and whether a core in the non-secure state asks it (R502). -/
structure MemAsk where
  write : Option (List Byte)
  nonSecure : Bool := false
  deriving DecidableEq, Repr

/-- How a PTP message reached a port (R454): on Ethernet itself or in UDP, and the MAC and IPv4 addresses of its sender. -/
structure PtpWay where
  l2 : Bool
  from_ : List Byte
  deriving DecidableEq, Repr

end Sys2Proof
end

