-- ==== Sys2Proof/Syntax.lean ====
section
/-! DEFINITION. The commands of the block: one constructor for each row of the table of operations and events. Each
carries first the physical instant `t`, in tt, at which it takes place; then what the row's command names or what the
world outside the block brings (R-numbers in the docstrings are the row's rule). -/

namespace Sys2Proof

/-- A pin of a position input (R47). -/
inductive EncPin where
  | a | b | z
  deriving DecidableEq, Repr

/-- The commands. -/
inductive Instr where
  /-- OFFSET_WRITE (R30): A write to OFFSET steps applied time in FREE, or re-bases and adds to a slew in HELD; it is refused in TRACKING and HOLDOVER. -/
  | offsetWrite (t : Nat) (m : Master) (v : Int)
  /-- RATE_WRITE (R25): A write to RATE within the 400 ppm limit re-bases the time unit; a larger value is refused and counted. -/
  | rateWrite (t : Nat) (m : Master) (v : Int)
  /-- DECLARE_VALID (R28): Writing 1 in FREE moves TIME_STATE to HELD and makes applied time valid. -/
  | declareValid (t : Nat) (m : Master) (v : Int)
  /-- SLEW_LIMIT_WRITE (R30): A new SLEW_LIMIT applies at once to the rest of a running slew, with a re-base, or else to the next slew. -/
  | slewLimitWrite (t : Nat) (m : Master) (v : Int)
  /-- EPOCH_PTP_S_WRITE (R29): EPOCH_PTP_S is taken only while TIME_STATE is FREE. -/
  | epochPtpSWrite (t : Nat) (m : Master) (v : Int)
  /-- SLEW_END (R30): When the slewed amount reaches slew_total, the time unit folds it into the offset and clears the slew. -/
  | slewEnd (t : Nat)
  /-- TC_ARM (R42): Writing 1 to CONTROL.ARM of a time compare unit takes its working copy and arms it, or re-arms it; late targets follow CONTROL.LATE. -/
  | tcArm (t : Nat) (m : Master) (n ctl : Nat)
  /-- TC_DISARM (R45): Writing 1 to CONTROL.DISARM disarms the time compare unit at once. -/
  | tcDisarm (t : Nat) (m : Master) (n ctl : Nat)
  /-- TC_FIRE (R41): A time compare unit reaches its target: it drives its TTO pins, offers its event, records LAST_FIRE and moves to its next target or disarms. -/
  | tcFire (t : Nat) (n : Nat)
  /-- TTO_PULSE_END (R46): PULSE_WIDTH after the last fire of a run, the TTO pin returns to its idle level. -/
  | ttoPulseEnd (t : Nat) (k : Nat)
  /-- ENC_PIN_CHANGE (R48): A level change on an ENCn pin starts the filter's stability count. -/
  | encPinChange (t : Nat) (n : Nat) (pin : EncPin) (level : Bool)
  /-- ENC_FILTER_ACCEPT (R48): A pin level that has been stable for FILTER_N clocks is accepted; the input then counts, updates its frontier and speed, and checks the revolution reference. -/
  | encFilterAccept (t : Nat) (n : Nat)
  /-- STANDSTILL (R60): No count is accepted for STANDSTILL_TIME; STANDSTILL is set and SPEED reads 0. -/
  | standstill (t : Nat) (n : Nat)
  /-- ENC_MODE_WRITE (R48): A write of MODE; leaving OFF makes the filter take the current pin levels as accepted, with no count. -/
  | encModeWrite (t : Nat) (m : Master) (n : Nat) (v : Int)
  /-- INDEX_ARM (R55): Writing INDEX_ARM arms ONCE mode, so the next reference sets the revolution counter to 0. -/
  | indexArm (t : Nat) (m : Master) (n : Nat) (v : Int)
  /-- SET_VALUE_WRITE (R62): A write of SET_VALUE; a value with fraction bits set is refused and sets SET_REFUSED. -/
  | setValueWrite (t : Nat) (m : Master) (n : Nat) (v : Int)
  /-- SET_AT_NEXT_COUNT (R62): SET_CMD = 1 schedules a position set at the next accepted count; it is refused while REVERSE is set. -/
  | setAtNextCount (t : Nat) (m : Master) (n : Nat)
  /-- SET_AT_POS_SET_GRANT (R62): SET_CMD = 2 schedules a position set at the next POS_SET grant followed by the next accepted count. -/
  | setAtPosSetGrant (t : Nat) (m : Master) (n : Nat)
  /-- CMP_ARM (R66): Writing 1 to CONTROL.ARM of a position compare unit arms it, or re-arms it, under the shadow rules. -/
  | cmpArm (t : Nat) (m : Master) (n ctl : Nat)
  /-- CMP_DISARM (R70): Writing 1 to CONTROL.DISARM disarms the position compare unit at once. -/
  | cmpDisarm (t : Nat) (m : Master) (n ctl : Nat)
  /-- CMP_FIRE (R66): The estimate reaches a compare unit's target: the unit fires, offers its event, drives line triggers if OWNER is 1, and moves to its next target. -/
  | cmpFire (t : Nat) (n : Nat)
  /-- TRG_PULSE_END (R74): The TRGn pulse ends after TRG_PULSE_WIDTH. -/
  | trgPulseEnd (t : Nat) (p : Nat)
  /-- BLOCK_LOCK_ACQUIRED (R83): 64 valid sync headers in a row put the lane receiver into block lock. -/
  | blockLockAcquired (t : Nat) (l : Nat)
  /-- LOCK_LOSS (R83): 16 invalid headers in one window drop block lock, increment LOCK_LOSSES and stop the port stream if the lane is in the mask. -/
  | lockLoss (t : Nat) (l : Nat)
  /-- ALIGNMENT_BLOCK_RX (R85): An alignment block is received: the lane's BIP-8 is checked, the lane is declared ALIGNED and the stream released or its mask switched. -/
  | alignmentBlockRx (t : Nat) (l : Nat) (blk : List Byte) (bip : Nat)
  /-- ALIGNMENT_MISSING (R86): An alignment block falls due by the 16,384-block count but is missing or corrupt; after three in a row the lane leaves ALIGNED. -/
  | alignmentMissing (t : Nat) (l : Nat)
  /-- PORT_STREAM_STOPPED (R98): The port stream has stopped for three alignment periods, so the port unit goes from IN_SERVICE to OFF. -/
  | portStreamStopped (t : Nat) (p : Nat)
  /-- LANE_BLOCK_BAD (R81): A lane-layer block of an unknown type or with a wrong CRC is discarded and counted in BAD_CONTROL. -/
  | laneBlockBad (t : Nat) (l : Nat) (blk : List Byte)
  /-- TRAINING_REQUEST_RX (R92): A training request from the peer is applied to the BLX16's transmitter taps, or answered with not updated, and a status block is returned. -/
  | trainingRequestRx (t : Nat) (l : Nat) (blk : List Byte)
  /-- TRAINING_STATUS_RX (R89): A training status block echoes a request; the BLX16 takes the camera's taps and starts its eye measurement. -/
  | trainingStatusRx (t : Nat) (l : Nat) (blk : List Byte)
  /-- TRAIN_TIMEOUT (R89): No matching status arrives within 2 µs; the request is resent, and 8 timeouts in a row fail the lane. -/
  | trainTimeout (t : Nat) (l : Nat)
  /-- TRAIN_STEP_DONE (R90): An eye measurement ends; training steps again, or stops at TRAIN_TARGET or after 512 steps and judges EYE_MIN. -/
  | trainStepDone (t : Nat) (l margin vert : Nat)
  /-- TRAIN_START (R91): TRAIN_CMD = 1 starts training of a lane in TEST or SHADOW; it is refused for a lane of the active mask. -/
  | trainStart (t : Nat) (m : Master) (l : Nat)
  /-- TRAIN_ABORT (R107): TRAIN_CMD = 2 aborts training and keeps the best taps seen. -/
  | trainAbort (t : Nat) (m : Master) (l : Nat)
  /-- MAP_REQUEST (R95): A written mask is checked and, if valid, a lane map request is sent naming the earliest target. -/
  | mapRequest (t : Nat) (m : Master) (p : Nat) (mask : Int)
  /-- LANE_MAP_ACK_RX (R95): The camera's lane map acknowledgement names the actual target of the switch. -/
  | laneMapAckRx (t : Nat) (l : Nat) (blk : List Byte)
  /-- MAP_NO_ACK (R96): No acknowledgement comes after 8 repeats; MAP_STATUS becomes NO_ACK and no switch takes place. -/
  | mapNoAck (t : Nat) (p : Nat)
  /-- LANE_SHADOW_TIMEOUT (R104): A lane commanded from TEST to SHADOW or BYPASS is not ALIGNED within 20 ms; it stays in TEST and the command is refused. -/
  | laneShadowTimeout (t : Nat) (l : Nat)
  /-- INJECT_SINGLE (R103): INJECT = 1 inverts one generator bit. -/
  | injectSingle (t : Nat) (m : Master) (l : Nat)
  /-- INJECT_BURST (R103): INJECT = 2 inverts INJ_LEN consecutive generator bits. -/
  | injectBurst (t : Nat) (m : Master) (l : Nat)
  /-- INJECT_HEADER (R103): INJECT = 3 sends INJ_LEN blocks with sync header 0b00. -/
  | injectHeader (t : Nat) (m : Master) (l : Nat)
  /-- CHK_LOCK (R102): 256 consecutive correct bits lock the pattern checker. -/
  | chkLock (t : Nat) (l : Nat)
  /-- CHK_RELOCK (R102): More than 64 errors in 1,024 bits drop checker lock and start a new seed. -/
  | chkRelock (t : Nat) (l errors : Nat)
  /-- LANE_CLEAR_COUNTS (R107): CLEAR_COUNTS clears the lane's result counters. -/
  | laneClearCounts (t : Nat) (m : Master) (l : Nat) (v : Int)
  /-- LINE_PACKET_RX (R132): A VC0 or VC1 packet is taken whole through the acceptance checks and committed with its arrival stamp, or dropped or rewound. -/
  | linePacketRx (t : Nat) (p : Nat) (head : Nat) (packet : List Byte)
  /-- BAD_BLOCK_RX (R110): An unknown transport block, or a data block outside a packet, is counted in BAD_BLOCK and rewinds an open packet.
  `blk` is a control block, none a data block; `opened` is what has come of the packet that is open. -/
  | badBlockRx (t p : Nat) (blk : Option (List Byte)) (opened : Option (List Byte))
  /-- RESPONSE_RX (R128): A RESPONSE ends the pending command, updates the settings table and advances camera bring-up. -/
  | responseRx (t : Nat) (p : Nat) (packet : List Byte)
  /-- STATUS_MSG_RX (R121): A camera STATUS message is delivered to the cores' VC2 ring. -/
  | statusMsgRx (t : Nat) (p : Nat) (packet : List Byte)
  /-- USER_DATA_RX (R116): A VC3 packet is delivered unchanged to the cores' VC3 ring. -/
  | userDataRx (t : Nat) (p : Nat) (packet : List Byte)
  /-- DELAY_RESP_RX (R125): A DELAY_RESP gives a link delay sample, which is accepted or rejected against DELAY_TOL and updates LINK_DELAY. -/
  | delayRespRx (t : Nat) (p : Nat) (head : Nat) (packet : List Byte)
  /-- BEACON_SEND (R122): Every 1 ms a BEACON carrying applied time is sent to each port that is not OFF. -/
  | beaconSend (t : Nat) (p : Nat)
  /-- DELAY_REQ_SEND (R125): A DELAY_REQ is sent every DELAY_INTERVAL, or every 100 µs while the sample history fills. -/
  | delayReqSend (t : Nat) (p : Nat)
  /-- DELAY_LOST (R125): A delay response that does not arrive within 1 ms is counted in DELAY_LOST. -/
  | delayLost (t : Nat) (p : Nat)
  /-- CMD_REQUEST (R128): A write of CMD_REQUEST sends a camera command, or is refused. -/
  | cmdRequest (t : Nat) (m : Master) (p : Nat) (payload : List Byte)
  /-- CMD_RESEND (R128): The pending camera command is resent every 100 µs until a response echoes it. -/
  | cmdResend (t : Nat) (p : Nat)
  /-- CMD_TIMEOUT (R128): The command is not answered after 8 sends or within CMD_TIMEOUT; CMD_STATUS becomes TIMEOUT. -/
  | cmdTimeout (t : Nat) (p : Nat)
  /-- CAMERA_BUSY_RETRY (R131): 100 µs after a busy response, the bring-up step is repeated as a new command. -/
  | cameraBusyRetry (t : Nat) (p : Nat)
  /-- TRANSPORT_CLEAR_COUNTS (R139): CLEAR_COUNTS clears the transport counters of 0x2022. -/
  | transportClearCounts (t : Nat) (m : Master) (p : Nat) (v : Int)
  /-- LINE_CORRECT (R142): The serving pipeline takes a committed line from ingress and runs unpack, dead-pixel, flat-field, LUT, matrix and output stages into memory. -/
  | lineCorrect (t : Nat) (p : Nat) (skip : Bool) (diff : Option Nat)
  /-- SWAP_NEXT_LINE (R152): SWAP_REQUEST = 1 requests a bank swap at the next committed line. -/
  | swapNextLine (t : Nat) (m : Master) (p : Nat)
  /-- SWAP_NEXT_SOS (R152): SWAP_REQUEST = 2 requests a bank swap at the next committed SOS line. -/
  | swapNextSos (t : Nat) (m : Master) (p : Nat)
  /-- SWAP_AT_LINE (R152): SWAP_REQUEST = 3 requests a bank swap at the first line at or ahead of SWAP_LINE. -/
  | swapAtLine (t : Nat) (m : Master) (p : Nat)
  /-- SWAP_CANCEL (R152): SWAP_REQUEST = 4 cancels a pending bank swap. -/
  | swapCancel (t : Nat) (m : Master) (p : Nat)
  /-- BANK_COPY (R151): BANK_COPY starts copying the active bank into the inactive one; it is refused while a swap or copy is pending. -/
  | bankCopy (t : Nat) (m : Master) (p : Nat) (v : Int)
  /-- BANK_COPY_DONE (R151): The bank copy completes within 1 ms and writes to the inactive bank are taken again. -/
  | bankCopyDone (t : Nat) (p : Nat)
  /-- BANK_CRC_UPDATE (R151): Within 1 ms of the last write, a bank's CRC is recomputed. -/
  | bankCrcUpdate (t : Nat) (kind n b : Nat)
  /-- TAP_ARM (R158): ARM restarts a raw tap and its decimation count. -/
  | tapArm (t : Nat) (m : Master) (p k : Nat) (v : Int)
  /-- STOP_LULL_OPEN (R165): STANDSTILL has held for STOP_HOLDOFF on LULL_INPUT, so a STOP lull opens. -/
  | stopLullOpen (t : Nat)
  /-- SACRIFICE_NEXT (R166): SACRIFICE_NEXT makes the next strip a sacrificial lull. -/
  | sacrificeNext (t : Nat) (m : Master) (v : Int)
  /-- CAL_TRIGGER_FIRE (R167): During a STOP lull the calibration trigger fires every CAL_TRIG_PERIOD and takes a trigger ID. -/
  | calTriggerFire (t : Nat)
  /-- JOB_START_DARK (R170): JOB_START = 1 starts a DARK calibration job. -/
  | jobStartDark (t : Nat) (m : Master) (p : Nat)
  /-- JOB_START_GAIN (R170): JOB_START = 2 starts a GAIN calibration job. -/
  | jobStartGain (t : Nat) (m : Master) (p : Nat)
  /-- JOB_START_GEOMETRY_EDGE (R172): JOB_START = 3 starts a GEOMETRY_EDGE job. -/
  | jobStartGeometryEdge (t : Nat) (m : Master) (p : Nat)
  /-- JOB_START_GEOMETRY_FULL (R172): JOB_START = 4 starts a GEOMETRY_FULL job. -/
  | jobStartGeometryFull (t : Nat) (m : Master) (p : Nat)
  /-- JOB_START_COLOUR (R173): JOB_START = 5 starts a COLOUR job. -/
  | jobStartColour (t : Nat) (m : Master) (p : Nat)
  /-- JOB_START_DELAY (R174): JOB_START = 6 starts a DELAY job. -/
  | jobStartDelay (t : Nat) (m : Master) (p : Nat)
  /-- ILLUM_SETTLE_EXPIRED (R170): ILLUM_SETTLE after DARK_ON, the DARK job begins to accept lines. -/
  | illumSettleExpired (t : Nat) (p : Nat)
  /-- DELAY_REF_GRANT (R174): A grant of DELAY_REF_EVP is paired with the next dark bar seen by the camera. -/
  | delayRefGrant (t : Nat) (k : Nat)
  /-- JOB_COMPUTE_DONE (R175): A job's computation ends and its candidate passes or fails the plausibility checks. -/
  | jobComputeDone (t : Nat) (p : Nat)
  /-- ACQ_TIMEOUT (R169): A job not completed within ACQ_TIMEOUT ends as ABANDONED. -/
  | acqTimeout (t : Nat) (p : Nat)
  /-- COMMIT (R176): Writing COMMIT commits a CANDIDATE job. -/
  | commit (t : Nat) (m : Master) (p : Nat) (v : Int)
  /-- JOB_ABORT (R176): JOB_ABORT ends the job as ABORTED, or discards a candidate. -/
  | jobAbort (t : Nat) (m : Master) (p : Nat) (v : Int)
  /-- DEAD_RESET (R171): DEAD_RESET makes the next committed job start from an all-GOOD map. -/
  | deadReset (t : Nat) (m : Master) (p : Nat) (v : Int)
  /-- JOB_COMMIT_PROCEED (R177): Once no swap is pending, a committing job copies the bank, writes its values, checks the CRC and requests the swap. -/
  | jobCommitProceed (t : Nat) (p : Nat) (crcOk : Bool)
  /-- SCALE_START (R180): SCALE_START begins an encoder scale measurement. -/
  | scaleStart (t : Nat) (m : Master) (v : Int)
  /-- SCALE_DONE (R180): The measured span reaches SCALE_SPAN, and the new SCALE_NM is accepted or rejected. -/
  | scaleDone (t : Nat)
  /-- RETRAIN_START (R181): A lane with low margin or an overdue interval is retrained half-mask by half-mask inside a qualifying lull. -/
  | retrainStart (t : Nat) (l : Nat)
  /-- LINE_PLACE (R192): Once a line is committed, its enclosing edge is accepted and its predecessor placed, the placer computes its midpoint and wp. -/
  | linePlace (t : Nat) (p : Nat) (full : Bool)
  /-- LINE_HOLD (R192): HOLD_TIME passes without the enclosing edge, or standstill was set, so the line is placed by the hold rule. -/
  | lineHold (t : Nat) (p : Nat) (full : Bool)
  /-- GRID_LINE_EMIT (R196): Once four accepted lines lie above a grid position, or a hole is known, the resampler makes or gaps that grid line. -/
  | gridLineEmit (t : Nat) (p : Nat) (poison : List (Nat × Nat × Nat))
  /-- COEF_SWAP (R202): COEF_SWAP = 1 checks the tap sums and schedules the MD coefficient swap at W. -/
  | coefSwap (t : Nat) (m : Master)
  /-- COEF_SWAP_CANCEL (R202): COEF_SWAP = 2 cancels a pending MD coefficient swap. -/
  | coefSwapCancel (t : Nat) (m : Master)
  /-- COEF_COPY (R202): COEF_COPY fills the loading copy from the active one within 1 ms. -/
  | coefCopy (t : Nat) (m : Master) (v : Int)
  /-- RASTER_LINE_MAKE (R215): Once every contributing grid line and the neighbour exchanges are in, the stitcher makes raster line g. -/
  | rasterLineMake (t : Nat)
  /-- NB_WAIT_EXPIRED (R228): A neighbour's EXPORT has not come within NB_WAIT; the line is made without it and the side may go LATE or ABSENT. -/
  | nbWaitExpired (t : Nat)
  /-- EXPORT_RX (R225): A neighbour's EXPORT packet is held for its grid line, or discarded as late, ahead or mismatched. -/
  | exportRx (t : Nat) (side : Nat) (packet : List Byte)
  /-- HELLO_RX (R223): A HELLO is checked field by field; it moves the side to HELLO or to MISMATCH. -/
  | helloRx (t : Nat) (side : Nat) (packet : List Byte)
  /-- HELLO_SEND (R227): Every 1 ms a HELLO is sent on each side that is up. -/
  | helloSend (t : Nat)
  /-- CONTINUE_RX (R290): A CONTINUE packet delivers the neighbour's LINE, MERGE and FRAGMENT entries to the tracker. -/
  | continueRx (t : Nat) (side : Nat) (packet : List Byte)
  /-- SETTLE_PACKET_RX (R315): A SETTLE packet delivers a neighbour's records and subtree watermark to the settle stage. -/
  | settlePacketRx (t : Nat) (side : Nat) (packet : List Byte)
  /-- TAP_PACKET_RX (R222): A TAP packet on the spare group delivers a tap record to the tap sink. -/
  | tapPacketRx (t : Nat) (side : Nat) (packet : List Byte)
  /-- GEO_SWAP_AT_PLACED (R217): GEO_SWAP = 1 checks the bank and schedules the geometry swap at the grid position of the latest placed line. -/
  | geoSwapAtPlaced (t : Nat) (m : Master) (p : Nat)
  /-- GEO_SWAP_AT_WP (R217): GEO_SWAP = 2 checks the bank and schedules the geometry swap at GEO_SWAP_WP. -/
  | geoSwapAtWp (t : Nat) (m : Master) (p : Nat)
  /-- GEO_SWAP_CANCEL (R217): GEO_SWAP = 3 cancels a pending geometry swap. -/
  | geoSwapCancel (t : Nat) (m : Master) (p : Nat)
  /-- GEO_COPY (R217): GEO_COPY copies the active geometry bank into the inactive one. -/
  | geoCopy (t : Nat) (m : Master) (p : Nat) (v : Int)
  /-- CD_COEF_SWAP (R218): CD_COEF_SWAP = 1 schedules the CD coefficient swap at W. -/
  | cdCoefSwap (t : Nat) (m : Master)
  /-- CD_COEF_SWAP_CANCEL (R218): CD_COEF_SWAP = 2 cancels a pending CD coefficient swap. -/
  | cdCoefSwapCancel (t : Nat) (m : Master)
  /-- CD_COEF_COPY (R218): CD_COEF_COPY fills the CD loading copy from the active one. -/
  | cdCoefCopy (t : Nat) (m : Master) (v : Int)
  /-- CHAIN_SAMPLE (R233): A profile chain takes one input sample through its CIC, FIR and resampler stages and may emit a stamped output. -/
  | chainSample (t : Nat) (c : Nat)
  /-- CHAIN_RUN (R241): RUN = 1 starts a chain after the budget, history and source checks, or refuses it. -/
  | chainRun (t : Nat) (m : Master) (c : Nat)
  /-- CHAIN_STOP (R250): RUN = 2 stops a chain. -/
  | chainStop (t : Nat) (m : Master) (c : Nat)
  /-- FEED (R253): A FEED write gives a chain a stamped input sample; a decreasing stamp or a stopped chain refuses it. -/
  | feed (t : Nat) (m : Master) (c : Nat) (data : List Byte)
  /-- CHAIN_SWAP_NEXT (R243): BANK_SWAP = 1 swaps the chain bank at the next input sample. -/
  | chainSwapNext (t : Nat) (m : Master) (c : Nat)
  /-- CHAIN_SWAP_AT_TIME (R243): BANK_SWAP = 2 swaps the chain bank at the first sample stamped at or after SWAP_TIME. -/
  | chainSwapAtTime (t : Nat) (m : Master) (c : Nat)
  /-- CHAIN_SWAP_CANCEL (R243): BANK_SWAP = 3 cancels a pending chain bank swap. -/
  | chainSwapCancel (t : Nat) (m : Master) (c : Nat)
  /-- DET_CLEAR (R248): DET_CLEAR clears the detectors at the next output. -/
  | detClear (t : Nat) (m : Master) (c : Nat) (v : Int)
  /-- CLASS_LINE (R258): The segmenter tracks edges on a raster line, classifies it against the background model, updates the model and emits class line g − 1 after the 3×3 stage. -/
  | classLine (t : Nat)
  /-- RELEARN (R259): RELEARN resets every column model at the next raster line boundary. -/
  | relearn (t : Nat) (m : Master) (v : Int)
  /-- CLASS_LINE_TRACK (R277): The region tracker forms runs, joins and merges regions, closes, cuts, classifies and emits records, and publishes watermarks for a class line. -/
  | classLineTrack (t : Nat)
  /-- LINE_ENTRY_WAIT_EXPIRED (R286): A neighbour's LINE entry has not come within NB_WAIT; its boundary pixel counts as not defective. -/
  | lineEntryWaitExpired (t : Nat)
  /-- SQUALL_CMD_ENTER (R284): SQUALL_CMD = 1 enters squall mode at the next line. -/
  | squallCmdEnter (t : Nat) (m : Master)
  /-- SQUALL_CMD_EXIT (R284): SQUALL_CMD = 2 ends squall mode at the next line. -/
  | squallCmdExit (t : Nat) (m : Master)
  /-- TREE_SWAP (R296): TREE_SWAP = 1 checks the loading tree and schedules its swap at W. -/
  | treeSwap (t : Nat) (m : Master)
  /-- TREE_SWAP_CANCEL (R297): TREE_SWAP = 2 cancels a pending tree swap. -/
  | treeSwapCancel (t : Nat) (m : Master)
  /-- TREE_COPY (R297): TREE_COPY fills the loading tree from the active one. -/
  | treeCopy (t : Nat) (m : Master) (v : Int)
  /-- RECORDS_READY_TIMER (R323): NOTIFY_TIME passes since the first unannounced ring record, and RECORDS_READY is offered. -/
  | recordsReadyTimer (t : Nat)
  /-- MARK_ACCEPT (R339): The marking engine accepts a released record, computes the mark per head, writes its dot block and queues it, or drops it. -/
  | markAccept (t : Nat)
  /-- ROW_FIRE (R335): The estimate reaches x_k − lead; FIRE is issued, or the row is dropped as late. -/
  | rowFire (t : Nat) (h : Nat)
  /-- FIRE_PULSE_END (R329): The FIRE pulse ends after FIRE_WIDTH, or at the 5 µs hardware cut. -/
  | firePulseEnd (t : Nat) (h : Nat)
  /-- HEAD_ID_READ_DONE (R332): The head identification read ends and the head becomes READY or FAULT. -/
  | headIdReadDone (t : Nat) (h : Nat) (regs : Option (List Byte))
  /-- RCHECK_START (R333): Every RCHECK_INTERVAL, if no row is due within the guard, a nozzle resistance measurement starts. -/
  | rcheckStart (t : Nat) (h : Nat)
  /-- RCHECK_RESULT (R333): A resistance measurement completes and is judged; two failures make the nozzle dead. -/
  | rcheckResult (t : Nat) (h : Nat) (reply : Option (Bool × Nat))
  /-- HEAD_POWER (R346): A write of HEAD_POWER raises HEAD_PWR_EN, or cuts FIRE and HEAT and drops it. -/
  | headPower (t : Nat) (m : Master) (v : Int)
  /-- HEAD_PWR_SETTLED (R330): HEAD_PWR_SETTLE after HEAD_PWR_EN rises, FIRE and HEAT may start. -/
  | headPwrSettled (t : Nat)
  /-- FIRE_TEST (R347): A FIRE_TEST write in TEST fires a physical mask COUNT times at PERIOD. -/
  | fireTest (t : Nat) (m : Master) (h : Nat) (data : List Byte)
  /-- REMAP_WRITE (R340): A REMAP write is checked whole and takes effect at each head's next unstarted row. -/
  | remapWrite (t : Nat) (m : Master) (data : List Byte)
  /-- EVENT_OFFER (R359): A producer offers an event to a channel; it is discarded, dropped, latched, gated or accepted and granted at each destination. -/
  | eventOffer (t : Nat) (c delay : Nat)
  /-- HANDSHAKE_COMPLETE (R360): Every destination and relay of a channel has completed; a latched offer is then handled. -/
  | handshakeComplete (t : Nat) (c : Nat)
  /-- TASK_ACTION_END (R364): A task's action ends, and its pending or waiting event is taken. -/
  | taskActionEnd (t : Nat) (k : Nat)
  /-- EVP_EDGE (R372): An edge on an input event pin raises EDGE for the channels naming it. -/
  | evpEdge (t : Nat) (k : Nat) (level : Bool)
  /-- EVP_PULSE_END (R372): An output event pin ends its pulse after PULSE_WIDTH and then holds the idle level for PULSE_GAP. -/
  | evpPulseEnd (t : Nat) (k : Nat)
  /-- SW_FIRE (R374): A write of SW_FIRE fires the selected software producers on the next 200 MHz edge. -/
  | swFire (t : Nat) (m : Master) (v : Int)
  /-- CHANNEL_OWNER_WRITE (R369): A write of OWNER claims or releases a channel, or is refused and sets DENIED. -/
  | channelOwnerWrite (t : Nat) (m : Master) (c : Nat) (v : Int)
  /-- MEM_REQUEST_ACCEPT (R384): The memory controller accepts a request from a port into a channel queue; a write completes then.
  On port 20 the address is a physical one of the map of R501. -/
  | memRequestAccept (t : Nat) (port addr len : Nat) (ask : MemAsk)
  /-- MEM_READ_DONE (R395): A read completes through the ECC check: it is delivered clean, corrected, or poisoned. -/
  | memReadDone (t : Nat) (port kind symbol rank slot : Nat)
  /-- REFRESH_DUE (R388): A refresh falls due; it is issued, postponed in a gust, or forced at 8 postponed. -/
  | refreshDue (t : Nat) (r : Nat) (trackLimit : Bool)
  /-- GUST_END (R388): GUST_HOLD after the last real-time request, postponed refreshes are issued and more pulled in. -/
  | gustEnd (t : Nat) (r : Nat)
  /-- MR4_READ (R389): Every 1 ms MR4 of each rank is read and tREFI scaled. -/
  | mr4Read (t : Nat) (r v : Nat)
  /-- CALM_ENTRY (R390): An idle rank enters power-down after CALM_TIMER. -/
  | calmEntry (t : Nat) (r : Nat)
  /-- MIGRATE_CMD (R397): A write of MIGRATE_CMD requests migration of a rank-channel to its spare. -/
  | migrateCmd (t : Nat) (m : Master) (v : Int)
  /-- MIGRATION_START (R398): When no other migration runs, the spare goes to SHADOW and mirroring and the copy begin. -/
  | migrationStart (t : Nat)
  /-- MIGRATION_DONE (R398): The last group is copied; the slot map switches to the spare and the source goes OFF. -/
  | migrationDone (t : Nat)
  /-- SCRUB_READ (R400): The patrol scrubber reads the next ECC group through the ECC check. -/
  | scrubRead (t : Nat) (kind blk symbol : Nat)
  /-- MEMORY_STARTUP (R391): After a power-on or cold reset, channels are initialised, trained, mapped and zeroed. -/
  | memoryStartup (t : Nat) (density : Nat) (failed : List Nat)
  /-- BUDGET_RECOMPUTE (R423): Every 10 ms, or on a term change, a port's ingress budget is recomputed and BUDGET_WARN offered when negative. -/
  | budgetRecompute (t : Nat) (p : Nat)
  /-- PACE_SHORT (R419): A pipeline's pace stays below its demand for 1 ms. -/
  | paceShort (t : Nat) (p : Nat)
  /-- QUEUE_CLEAR_COUNTS (R422): CLEAR_COUNTS clears the queue counters. -/
  | queueClearCounts (t : Nat) (m : Master) (v : Int)
  /-- TILE_WRITTEN (R432): A look-back tile completes coding and verification and is written, and the band's index entry follows. -/
  | tileWritten (t : Nat) (credit mismatch : Bool)
  /-- CROP_START (R435): The window's last band is indexed, so the crop reads, decodes, cuts and codes its blocks. -/
  | cropStart (t : Nat)
  /-- CROP_DONE (R436): A crop is written to the crop ring. -/
  | cropDone (t : Nat) (mismatch : List Nat)
  /-- CROP_TIMEOUT (R435): The window's last band is not indexed within CROP_WAIT. -/
  | cropTimeout (t : Nat)
  /-- JOB_TAIL_WRITE (R440): Advancing JOB_TAIL makes the unit read and start compression jobs. -/
  | jobTailWrite (t : Nat) (m : Master) (v : Int)
  /-- JOB_COMPLETE (R441): A compression or decompression job ends and writes its completion. -/
  | jobComplete (t : Nat) (k : Nat) (mismatch : Bool)
  /-- FRAME_RX (R450): A received management frame is dropped, answered, passed to FDP or PTP, or written to the host ring. -/
  | frameRx (t : Nat) (g : Nat) (fcsOk : Bool) (frame : List Byte)
  /-- TX_TAIL_WRITE (R451): Advancing TX_TAIL makes the port send the filled transmit slots in order. -/
  | txTailWrite (t : Nat) (m : Master) (g : Nat) (v : Int)
  /-- TS_POP (R453): A read of TS_POP removes and returns the oldest transmit stamp. -/
  | tsPop (t : Nat) (m : Master)
  /-- SYNC_RX (R456): A PTP Sync gives an offset, or waits for its Follow_Up, and runs the slot servo. -/
  | syncRx (t : Nat) (g : Nat) (l2 : Bool) (msg : List Byte)
  /-- FOLLOW_UP_RX (R456): A Follow_Up completes a two-step Sync measurement. -/
  | followUpRx (t : Nat) (g : Nat) (l2 : Bool) (msg : List Byte)
  /-- PTP_DELAY_RESP_RX (R456): A Delay_Resp completes an end-to-end path delay exchange. -/
  | ptpDelayRespRx (t : Nat) (g : Nat) (l2 : Bool) (msg : List Byte)
  /-- ANNOUNCE_RX (R454): An Announce updates the slot's foreign masters and grandmaster. -/
  | announceRx (t : Nat) (g : Nat) (way : PtpWay) (msg : List Byte)
  /-- PDELAY_REQ_RX (R455): A Pdelay_Req is answered with Pdelay_Resp and Pdelay_Resp_Follow_Up. -/
  | pdelayReqRx (t : Nat) (g : Nat) (l2 : Bool) (msg : List Byte)
  /-- PDELAY_RESP_RX (R456): A Pdelay_Resp gives terms of the peer delay. -/
  | pdelayRespRx (t : Nat) (g : Nat) (l2 : Bool) (msg : List Byte)
  /-- PDELAY_RESP_FOLLOW_UP_RX (R456): A Pdelay_Resp_Follow_Up completes the peer delay. -/
  | pdelayRespFollowUpRx (t : Nat) (g : Nat) (l2 : Bool) (msg : List Byte)
  /-- DELAY_REQ_PTP_SEND (R454): The slot sends its next Delay_Req or Pdelay_Req. -/
  | delayReqPtpSend (t : Nat) (k : Nat)
  /-- SYNC_TIMEOUT (R457): No Sync for SYNC_TIMEOUT intervals unlocks the slot. -/
  | syncTimeout (t : Nat) (k : Nat)
  /-- ANNOUNCE_TIMEOUT (R457): No Announce for ANNOUNCE_TIMEOUT intervals unlocks the slot. -/
  | announceTimeout (t : Nat) (k : Nat)
  /-- SWITCH_HOLD_EXPIRED (R458): The preferred slot has been LOCKED for SWITCH_HOLD, and the selection moves to it. -/
  | switchHoldExpired (t : Nat)
  /-- PTP_ENABLE_WRITE (R459): Writing PTP_ENABLE to 0 returns TRACKING or HOLDOVER to HELD. -/
  | ptpEnableWrite (t : Nat) (m : Master) (v : Int)
  /-- PPS_OUT_SECOND (R461): At each PTP second PPS_OUT rises for PPS_WIDTH. -/
  | ppsOutSecond (t : Nat)
  /-- PPS_IN_EDGE (R462): A rising PPS_IN edge is stamped and its error from the PTP second reported. -/
  | ppsInEdge (t : Nat)
  /-- FDP_READ (R481): An FDP READ item returns an object's value. -/
  | fdpRead (t : Nat) (k idx sub : Nat)
  /-- FDP_WRITE (R481): An FDP WRITE item writes an object under its rights and rules. -/
  | fdpWrite (t : Nat) (k idx sub ty : Nat) (value : List Byte)
  /-- FDP_READ_SEG (R481): An FDP READ_SEG item returns part of a DOMAIN or VSTR. -/
  | fdpReadSeg (t : Nat) (k idx sub off count : Nat)
  /-- FDP_WRITE_SEG (R481): An FDP WRITE_SEG item writes part of a DOMAIN. -/
  | fdpWriteSeg (t : Nat) (k idx sub off : Nat) (data : List Byte)
  /-- FDP_DESCRIBE (R481): An FDP DESCRIBE item returns an object's type, access, rights and flags. -/
  | fdpDescribe (t : Nat) (k idx sub : Nat)
  /-- FDP_OPEN (R479): An FDP OPEN opens a session with a role and derives its key. -/
  | fdpOpen (t : Nat) (g peer role : Nat) (nonce : List Byte)
  /-- FDP_CLOSE (R480): An FDP CLOSE closes the session with its streams and snapshots. -/
  | fdpClose (t : Nat) (k : Nat)
  /-- FDP_KEEPALIVE (R481): An FDP KEEPALIVE returns applied time and TIME_STATE. -/
  | fdpKeepalive (t : Nat) (k : Nat)
  /-- FDP_STREAM_OPEN (R484): An FDP STREAM_OPEN binds a stream to the session and a destination. -/
  | fdpStreamOpen (t : Nat) (k n ip port : Nat)
  /-- FDP_STREAM_CLOSE (R484): An FDP STREAM_CLOSE closes a stream. -/
  | fdpStreamClose (t : Nat) (k n : Nat)
  /-- FDP_REQUEST (R483): An FDP datagram is checked for tag, role and sequence, and its items are executed in order. -/
  | fdpRequest (t : Nat) (g peer : Nat) (dgram : List Byte)
  /-- SESSION_TIMEOUT (R480): A session with no valid request for SESSION_TIMEOUT closes. -/
  | sessionTimeout (t : Nat) (k : Nat)
  /-- UNIT_CMD_OFF (R486): COMMAND = 0 takes a unit and the members it reaches to OFF. -/
  | unitCmdOff (t : Nat) (m : Master) (u : Nat)
  /-- UNIT_CMD_IN_SERVICE (R486): COMMAND = 1 takes a unit and its members to IN_SERVICE. -/
  | unitCmdInService (t : Nat) (m : Master) (u : Nat)
  /-- UNIT_CMD_SHADOW (R486): COMMAND = 2 takes a unit and its members to SHADOW. -/
  | unitCmdShadow (t : Nat) (m : Master) (u : Nat)
  /-- UNIT_CMD_TEST (R486): COMMAND = 3 takes a unit and its members to TEST. -/
  | unitCmdTest (t : Nat) (m : Master) (u : Nat)
  /-- UNIT_CMD_BYPASS (R486): COMMAND = 4 takes a unit and its members to BYPASS. -/
  | unitCmdBypass (t : Nat) (m : Master) (u : Nat)
  /-- UNIT_CMD_RESET (R489): COMMAND = 5 resets a unit and its members and returns them to their states. -/
  | unitCmdReset (t : Nat) (m : Master) (u : Nat)
  /-- UNIT_CMD_CANCEL (R488): COMMAND = 6 cancels a pending command. -/
  | unitCmdCancel (t : Nat) (m : Master) (u : Nat)
  /-- UNIT_STATE_TAKES_EFFECT (R486): A pending state change, or a group step, takes effect at its line boundary or edge, and the next step begins. -/
  | unitStateTakesEffect (t : Nat) (u : Nat)
  /-- OVL_STORE (R491): OVL_STORE checks and stores an overlay's entries, or refuses them. -/
  | ovlStore (t : Nat) (m : Master) (k : Nat) (v : Int)
  /-- OVL_ACTIVATE (R492): OVL_CMD = 1 requests activation of an overlay. -/
  | ovlActivate (t : Nat) (m : Master) (k : Nat)
  /-- OVL_DEACTIVATE (R492): OVL_CMD = 2 requests deactivation of an overlay. -/
  | ovlDeactivate (t : Nat) (m : Master) (k : Nat)
  /-- OVL_CANCEL (R497): OVL_CMD = 3 cancels a pending overlay change. -/
  | ovlCancel (t : Nat) (m : Master) (k : Nat)
  /-- OVL_BOUNDARY_REACHED (R495): An overlay's entries come into or go out of force at a unit's boundary. -/
  | ovlBoundaryReached (t : Nat) (k u : Nat)
  /-- CONFIG_SAVE (R490): CONFIG_SAVE writes the base differences and stored overlays to the boot flash. -/
  | configSave (t : Nat) (m : Master) (v : Int)
  /-- CONFIG_SAVE_DONE (R490): The configuration save completes. -/
  | configSaveDone (t : Nat)
  /-- SNAPSHOT_LATCH (R473): A read of a result group's subindex 0 latches the whole group for that reader. -/
  | snapshotLatch (t : Nat) (m : Master) (idx : Nat)
  /-- APERTURE_OFFSET_WRITE (R476): A write of bytes 0–7 of a VSTR or DOMAIN slot sets the master's offset. -/
  | apertureOffsetWrite (t : Nat) (m : Master) (idx sub off : Nat)
  /-- APERTURE_PORT_READ (R476): An 8-byte read of a data port returns bytes at the offset and advances it. -/
  | aperturePortRead (t : Nat) (m : Master) (idx sub : Nat)
  /-- APERTURE_PORT_WRITE (R476): An 8-byte write of a data port stores bytes at the offset and advances it. -/
  | aperturePortWrite (t : Nat) (m : Master) (idx sub v : Nat)
  /-- OBJECT_WRITE (R469): A write to an object that has no row of its own is checked for type, rights and range and applied or shadowed. -/
  | objectWrite (t : Nat) (m : Master) (idx sub ty : Nat) (v : Int) (data : List Byte)
  /-- INT_CLAIM (R508): A read of INT_CLAIM returns the best qualifying interrupt ID and makes it ACTIVE. -/
  | intClaim (t : Nat) (m : Master) (c : Nat)
  /-- INT_COMPLETE (R508): A write of INT_COMPLETE ends an ACTIVE interrupt. -/
  | intComplete (t : Nat) (m : Master) (c : Nat) (v : Int)
  /-- MB_SEND (R512): A SEND queues a word toward the other end, wakes it, or is refused when full. -/
  | mbSend (t : Nat) (m : Master) (b : Nat) (v : Int)
  /-- MB_RECV (R512): A read of RECV removes and returns the oldest incoming word. -/
  | mbRecv (t : Nat) (m : Master) (b : Nat)
  /-- DB_RING (R516): A write of DB_RING sets doorbell pending bits. -/
  | dbRing (t : Nat) (m : Master) (v : Int)
  /-- DB_CLEAR (R516): Writing 1 to DB_PENDING bits clears those doorbells. -/
  | dbClear (t : Nat) (m : Master) (v : Int)
  /-- LOCK_ACQUIRE (R517): A read of a lock takes it if free, or returns the owner. -/
  | lockAcquire (t : Nat) (m : Master) (n : Nat)
  /-- LOCK_FREE (R517): The owner writes 0 to free a lock. -/
  | lockFree (t : Nat) (m : Master) (n : Nat) (v : Int)
  /-- LOCK_BREAK (R519): A write of LOCK_BREAK frees any lock and counts it broken. -/
  | lockBreak (t : Nat) (m : Master) (v : Int)
  /-- MET_FILTER_ACCEPT (R530): An accepted metrology encoder edge counts C up or down, updates the total and may fall due for a pulse. -/
  | metFilterAccept (t : Nat)
  /-- MET_PULSE_END (R532): MET_PULSE ends after MET_PULSE_WIDTH, and the next outstanding pulse may start. -/
  | metPulseEnd (t : Nat)
  /-- ROLL_END (R534): A ROLL_END write ends the open roll, logs it, writes a slot and queues a ROLL message. -/
  | rollEnd (t : Nat) (m : Master) (v : Int)
  /-- MET_PARAM_WRITE (R537): A legally relevant parameter write with the seal open is applied, counted, audited and reported. -/
  | metParamWrite (t : Nat) (m : Master) (sub : Nat) (v : Int) (data : List Byte)
  /-- APPROVE (R539): APPROVE copies IMAGE_HASH into APPROVED_HASH. -/
  | approve (t : Nat) (m : Master) (v : Int)
  /-- MET_RESTART (R528): RESTART with the seal open causes a metrology reset. -/
  | metRestart (t : Nat) (m : Master) (v : Int)
  /-- RTC_SET (R538): RTC_SET sets the metrology real-time clock as a logged change. -/
  | rtcSet (t : Nat) (m : Master) (v : Int)
  /-- TOTALIZER_SLOT_WRITE (R536): Every 100 ms a totalizer slot is written. -/
  | totalizerSlotWrite (t : Nat)
  /-- MET_MESSAGE_SEND (R540): At each tick or queued event, the domain writes a signed message into mailbox 31 if its queue is empty. -/
  | metMessageSend (t : Nat)
  /-- SEAL_CHANGE (R537): MET_SEAL_N holds a new level for 10 ms, and the seal opens or closes. -/
  | sealChange (t : Nat) (level : Bool)
  /-- VDD_MET_WARNING (R529): VDD_MET falls below its warning level; one slot is written and store writes stop. -/
  | vddMetWarning (t : Nat)
  /-- VDD_MET_POWER_ON (R529): VDD_MET powers up; the domain restores the newest valid slot and flags POWER_GAP. -/
  | vddMetPowerOn (t : Nat) (image version : List Byte) (badSlots : List Nat)
  /-- MET_WATCHDOG (R528): The metrology watchdog of 1 s expires and causes a metrology reset. -/
  | metWatchdog (t : Nat)
  /-- MON_SAMPLE (R550): A monitor takes a probe sample into its accumulators and alarm test. -/
  | monSample (t : Nat) (k : Nat) (xs : List Int)
  /-- MON_WINDOW_END (R551): A monitor window ends by time or count and is published. -/
  | monWindowEnd (t : Nat) (k : Nat)
  /-- MON_PUBLISH_WRITE (R551): A write of PUBLISH ends and publishes the window. -/
  | monPublishWrite (t : Nat) (m : Master) (k : Nat) (v : Int)
  /-- TEST_FEED (R553): In TEST a write of TEST_FEED is taken as a sample. -/
  | testFeed (t : Nat) (m : Master) (k : Nat) (v : Int)
  /-- TEMP_READ (R554): Every 1 ms the sensors are read and warnings set or cleared. -/
  | tempRead (t : Nat) (temps : List Int)
  /-- ROT_STEP_START (R557): Every ROT_INTERVAL, if the spare's pace suffices, a rotation step starts on the next pipeline. -/
  | rotStepStart (t : Nat) (pace : Nat)
  /-- ROT_CMD_START (R563): ROT_CMD = 1 starts the next rotation step now. -/
  | rotCmdStart (t : Nat) (m : Master)
  /-- ROT_CMD_ABORT (R563): ROT_CMD = 2 aborts the rotation step. -/
  | rotCmdAbort (t : Nat) (m : Master)
  /-- BIST_DONE (R556): A pipeline BIST completes with PASS or FAIL, and rotation proceeds. -/
  | bistDone (t : Nat) (k : Nat) (pass : Bool)
  /-- GOV_PERIOD (R570): Every GOV_PERIOD the governor computes r and commands VDD_CORE over AVSBus. -/
  | govPeriod (t : Nat) (paces : List (Nat × Nat)) (mv : Nat) (reached : Bool)
  /-- AVS_TRANSACTION_DONE (R571): An AVSBus transaction completes, or fails and is retried, and may set AVS_FAULT. -/
  | avsTransactionDone (t : Nat) (ok : Bool)
  /-- POWER_ON_RESET (R572): VDD_AON rises and the power-on reset runs boot from step 1. -/
  | powerOnReset (t : Nat) (ready : Bool) (dev mode : Nat) (avs : Bool)
  /-- RESET_N_LOW (R572): RESET_N low for 10 µs takes a cold reset. -/
  | resetNLow (t : Nat)
  /-- BROWNOUT (R567): A main rail falls below its threshold and a cold reset is held. -/
  | brownout (t : Nat)
  /-- CLOCK_LOSS (R568): REFCLK_SYS has no edge for 1 µs and a cold reset is held. -/
  | clockLoss (t : Nat)
  /-- WARM_RESET (R572): A write of WARM_RESET takes a warm reset. -/
  | warmReset (t : Nat) (m : Master) (v : Int)
  /-- FW_WATCHDOG (R572): The unit firmware watchdog of 1 s expires and takes a warm reset. -/
  | fwWatchdog (t : Nat)
  /-- THERMAL_TRIP (R577): A sensor at or above TEMP_TRIP for 1 ms takes a warm reset. -/
  | thermalTrip (t : Nat)
  /-- RECOVERY_ANNOUNCE (R581): In recovery an ANNOUNCE is broadcast every 1 s. -/
  | recoveryAnnounce (t : Nat)
  /-- RECOVERY_DATA (R581): A recovery DATA frame at the expected offset is stored and answered with ACK. -/
  | recoveryData (t : Nat) (g : Nat) (frame : List Byte)
  /-- RECOVERY_GO (R581): A recovery GO checks and runs the loaded image. -/
  | recoveryGo (t : Nat) (g : Nat) (frame : List Byte)
  /-- INSPECT_KICK (R576): A write of 1 to INSPECT_KICK satisfies the inspect watchdog and starts a fresh interval. -/
  | inspectKick (t : Nat) (m : Master) (v : Int)
  /-- INSPECT_WDOG_TIME_WRITE (R576): A write of INSPECT_WDOG_TIME sets the interval and counts as a kick, or switches the watchdog off. -/
  | inspectWdogTimeWrite (t : Nat) (m : Master) (v : Int)
  /-- INSPECT_WDOG_EXPIRED (R576): An interval passes without a kick and INSPECT_OK stops toggling. -/
  | inspectWdogExpired (t : Nat)
  /-- LANE_MAP_REQUEST_RX (R220): On a cascade group where this device takes the camera's part, a received lane map request is acknowledged with its actual target and the new mask is placed in the target alignment block. -/
  | laneMapRequestRx (t : Nat) (l : Nat) (blk : List Byte)
  /-- ALIGNMENT_BLOCK_SEND (R82): Every 16,384 blocks each transmitter that is not OFF sends an alignment block on its lanes, carrying the mask in force, and a cascade device in the camera's part switches its striping after the target block. -/
  | alignmentBlockSend (t : Nat) (g : Nat)
  /-- LINK_UP (R449): A management port's link comes up after auto-negotiation or the SGMII link word, setting LINK, SPEED and LINK_CHANGES and offering LINK_UP. -/
  | linkUp (t : Nat) (g speed : Nat)
  /-- LINK_DOWN (R449): A management port's link goes down, setting LINK to down, counting LINK_CHANGES and offering LINK_DOWN. -/
  | linkDown (t : Nat) (g : Nat)
  /-- MET_ENC_PIN_CHANGE (R530): A level change on MET_ENC_A, B or Z starts the metrology filter's stability count under MET_FILTER_N. -/
  | metEncPinChange (t : Nat) (pin : EncPin) (level : Bool)
  /-- COLD_RESET_RELEASE (R572): A held cold or power-on reset ends once RESET_N is high, every rail is back and REFCLK_SYS runs; the straps are sampled and boot starts at step 1. -/
  | coldResetRelease (t : Nat) (dev mode : Nat) (avs : Bool)
  /-- BOOT_MET_CHECK (R580): Boot step 2 ends when the metrology domain reports its image check, or after 300 ms with MET_AT_BOOT set to ABSENT, and step 3 begins. -/
  | bootMetCheck (t : Nat) (report : Bool) (slotA slotB : List Byte)
  /-- VDD_MET_WARNING_END (R529): VDD_MET rises back above its warning level without a power-on, ending the condition under which the domain stops writing its store. -/
  | vddMetWarningEnd (t : Nat)
  deriving DecidableEq, Repr

end Sys2Proof
end

