-- ==== Sys2Proof/Machine/Bits.lean ====
section
/-! DEFINITION. Bit fields, byte order, rounding and the check sums the spec names
(CRC-16 of R118, CRC-32C of R119, BIP-8 of R82). -/

namespace Sys2Proof.Machine

/-- Field `[hi:lo]` of a number. -/
def field (n hi lo : Nat) : Nat := (n >>> lo) % 2 ^ (hi + 1 - lo)

/-- Bit `i` of a number. -/
def bit (n i : Nat) : Bool := (n >>> i) % 2 == 1

/-- A Bool as the number 0 or 1. -/
def b2n (b : Bool) : Nat := if b then 1 else 0

/-- A Bool as the integer 0 or 1. -/
def b2i (b : Bool) : Int := if b then 1 else 0

/-- A number with bit `i` set. -/
def setBit (n i : Nat) : Nat := if bit n i then n else n + 2 ^ i

/-- A number with bit `i` cleared. -/
def clrBit (n i : Nat) : Nat := if bit n i then n - 2 ^ i else n

/-- A number with bit `i` made `b`. -/
def putBit (n i : Nat) (b : Bool) : Nat := if b then setBit n i else clrBit n i

/-- A number with field `[hi:lo]` made `v`. -/
def putField (n hi lo v : Nat) : Nat :=
  n - (field n hi lo) * 2 ^ lo + (v % 2 ^ (hi + 1 - lo)) * 2 ^ lo

/-- The number of bits set among the lowest `w`. -/
def popCount : Nat → Nat → Nat
  | 0, _ => 0
  | w + 1, n => n % 2 + popCount w (n / 2)

/-- The lowest set bit among the lowest `w`, from `i` upwards. -/
def lowBitFrom : Nat → Nat → Nat → Option Nat
  | 0, _, _ => none
  | w + 1, i, n => if n % 2 = 1 then some i else lowBitFrom w (i + 1) (n / 2)

/-- The lowest set bit among the lowest `w`. -/
def lowBit (w n : Nat) : Option Nat := lowBitFrom w 0 n

/-- The positions of the set bits among the lowest `w`. -/
def bitsOf (w n : Nat) : List Nat := (List.range w).filter (fun i => bit n i)

/-- `clamp lo hi x`. -/
def clampI (lo hi x : Int) : Int := if x < lo then lo else if hi < x then hi else x

/-- Truncating subtraction of naturals held in Int. -/
def clampU (w : Nat) (x : Int) : Int := clampI 0 (2 ^ w - 1) x

/-- Round half up: floor(a / b + 1/2) for a positive `b`. -/
def roundHalfUp (a : Int) (b : Int) : Int := (2 * a + b) / (2 * b)

/-- Ceiling division. -/
def ceilDiv (a b : Nat) : Nat := (a + b - 1) / b

/-- floor(log2 n), 0 for 0. -/
def flog2 (n : Nat) : Nat := Nat.log2 n

/-- Integer square root by bits, fuel the number of result bits. -/
def isqrtGo : Nat → Nat → Nat → Nat
  | 0, _, r => r
  | f + 1, n, r =>
    let c := r + 2 ^ f
    if c * c ≤ n then isqrtGo f n c else isqrtGo f n r

/-- floor(sqrt n) for numbers below 2^256. -/
def isqrt (n : Nat) : Nat := isqrtGo 128 n 0

/-- A byte of a number, least significant first. -/
def byteAt (n i : Nat) : Byte := BitVec.ofNat 8 (n >>> (8 * i))

/-- `k` bytes of a number, least significant byte first (R10: fields in memory). -/
def toLE (k n : Nat) : List Byte := (List.range k).map (byteAt n)

/-- `k` bytes of a number, most significant byte first (R10: fields on lanes and networks). -/
def toBE (k n : Nat) : List Byte := ((List.range k).map (byteAt n)).reverse

/-- The number that bytes hold, least significant byte first. -/
def ofLE : List Byte → Nat
  | [] => 0
  | b :: r => b.toNat + 256 * ofLE r

/-- The number that bytes hold, most significant byte first. -/
def ofBE (bs : List Byte) : Nat := bs.foldl (fun a b => a * 256 + b.toNat) 0

/-- `k` bytes from offset `o`; bytes past the end are missing. -/
def slice (bs : List Byte) (o k : Nat) : List Byte := (bs.drop o).take k

/-- The number in `k` bytes at offset `o`, most significant byte first. -/
def beAt (bs : List Byte) (o k : Nat) : Nat := ofBE (slice bs o k)

/-- The number in `k` bytes at offset `o`, least significant byte first. -/
def leAt (bs : List Byte) (o k : Nat) : Nat := ofLE (slice bs o k)

/-- A list with `vs` written from offset `o`; what would lie past the end is discarded. -/
def patch {α : Type} (bs : List α) (o : Nat) (vs : List α) : List α :=
  if bs.length ≤ o then bs
  else bs.take o ++ (vs.take (bs.length - o)) ++ bs.drop (o + vs.length)

/-- One byte through a CRC shift register taken most significant bit first. -/
def crcMsbByte (w poly : Nat) : Nat → Nat → Nat
  | 0, c => c
  | f + 1, c =>
    let top := bit c (w - 1)
    let c2 := (c <<< 1) % 2 ^ w
    crcMsbByte w poly f (if top then c2 ^^^ poly else c2)

/-- One byte through a CRC shift register taken least significant bit first. -/
def crcLsbByte (poly : Nat) : Nat → Nat → Nat
  | 0, c => c
  | f + 1, c => crcLsbByte poly f (if c % 2 = 1 then (c >>> 1) ^^^ poly else c >>> 1)

/-- The 16-bit header CRC of R118: polynomial 0x1021, preset to ones, most significant bit first. -/
def crc16 (bs : List Byte) : Nat :=
  bs.foldl (fun c b => crcMsbByte 16 0x1021 8 (c ^^^ (b.toNat <<< 8))) 0xFFFF

/-- The CRC-32C of R119, one byte at a time on the running register. -/
def crc32cUpd (c : Nat) (b : Byte) : Nat := crcLsbByte 0x82F63B78 8 (c ^^^ b.toNat)

/-- The CRC-32C of R119 over bytes. -/
def crc32c (bs : List Byte) : Nat := (bs.foldl crc32cUpd 0xFFFFFFFF) ^^^ 0xFFFFFFFF

/-- Exclusive or of the bytes, the BIP-8 of R82. -/
def bip8 (bs : List Byte) : Nat := bs.foldl (fun c b => c ^^^ b.toNat) 0

/-- Every `k`-th chunk of a byte list, with fuel. -/
def chunks {α : Type} : Nat → Nat → List α → List (List α)
  | 0, _, _ => []
  | f + 1, k, l => if l.isEmpty then [] else l.take k :: chunks f k (l.drop k)

/-- A list padded with `a` to length `n`. -/
def padTo {α : Type} (l : List α) (n : Nat) (a : α) : List α := l ++ List.replicate (n - l.length) a

/-- Element `i` of a list or a value. -/
def nth {α : Type} (l : List α) (i : Nat) (a : α) : α := (l[i]?).getD a

/-- The sum of integers. -/
def sumI (l : List Int) : Int := l.foldl (· + ·) 0

/-- The sum of naturals. -/
def sumN (l : List Nat) : Nat := l.foldl (· + ·) 0

/-- The largest of naturals, 0 of none. -/
def maxN (l : List Nat) : Nat := l.foldl max 0

end Sys2Proof.Machine
end

