-- ==== Sys2Proof/Machine/F64.lean ====
section
/-! DEFINITION. F32 and F64 as bit patterns (R2): read as exact fractions, and rounded from them to nearest, ties to
even. -/

namespace Sys2Proof.Machine

/-- A fraction: numerator and denominator. -/
structure Frac where
  n : Int
  d : Nat := 1
  deriving DecidableEq, Repr

/-- A fraction in lowest terms; a denominator of 0 counts as 1. -/
def Frac.norm (a : Frac) : Frac :=
  let g := Nat.gcd a.n.natAbs a.d
  if g ≤ 1 then { a with d := max a.d 1 } else { n := a.n / g, d := max (a.d / g) 1 }

/-- An integer as a fraction. -/
def Frac.ofInt (n : Int) : Frac := { n := n }
/-- Sum. -/
def Frac.add (a b : Frac) : Frac := Frac.norm { n := a.n * b.d + b.n * a.d, d := a.d * b.d }
/-- Negation. -/
def Frac.neg (a : Frac) : Frac := { a with n := -a.n }
/-- Difference. -/
def Frac.sub (a b : Frac) : Frac := a.add b.neg
/-- Product. -/
def Frac.mul (a b : Frac) : Frac := Frac.norm { n := a.n * b.n, d := a.d * b.d }
/-- Quotient; by zero it is zero. -/
def Frac.div (a b : Frac) : Frac :=
  if b.n = 0 then { n := 0 } else
    Frac.norm { n := a.n * b.d * (if b.n < 0 then -1 else 1), d := a.d * b.n.natAbs }
/-- Whether one fraction is less than another. -/
def Frac.lt (a b : Frac) : Bool := decide (a.n * b.d < b.n * a.d)
/-- Whether one fraction is at most another. -/
def Frac.le (a b : Frac) : Bool := decide (a.n * b.d ≤ b.n * a.d)
/-- Magnitude. -/
def Frac.abs (a : Frac) : Frac := { a with n := a.n.natAbs }
/-- Floor. -/
def Frac.floor (a : Frac) : Int := a.n / a.d
/-- Rounded half up. -/
def Frac.round (a : Frac) : Int := roundHalfUp a.n a.d
/-- The larger. -/
def Frac.max (a b : Frac) : Frac := if a.lt b then b else a

/-- A binary format: exponent bits and fraction bits. -/
structure FFmt where
  e : Nat
  m : Nat

/-- F64. -/
def f64 : FFmt := { e := 11, m := 52 }
/-- F32. -/
def f32 : FFmt := { e := 8, m := 23 }

/-- The exponent bias of a format. -/
def FFmt.bias (f : FFmt) : Nat := 2 ^ (f.e - 1) - 1

/-- The pattern of infinity. -/
def FFmt.inf (f : FFmt) : Nat := (2 ^ f.e - 1) * 2 ^ f.m

/-- The value of a pattern; none for an infinity or a NaN. -/
def FFmt.read (f : FFmt) (b : Nat) : Option Frac :=
  let x := b / 2 ^ f.m % 2 ^ f.e
  let s := b % 2 ^ f.m
  let sg : Int := if bit b (f.e + f.m) then -1 else 1
  if x = 2 ^ f.e - 1 then none
  else
    let mant : Nat := if x = 0 then s else 2 ^ f.m + s
    let x1 := Nat.max x 1
    let sh := f.bias + f.m
    some (if sh ≤ x1 then { n := sg * (mant * 2 ^ (x1 - sh) : Nat) }
          else Frac.norm { n := sg * mant, d := 2 ^ (sh - x1) })

/-- A quotient of naturals rounded to nearest, ties to even. -/
def rneDiv (a b : Nat) : Nat :=
  let q := a / b
  let r := a % b
  if 2 * r < b then q else if b < 2 * r then q + 1 else q + q % 2

/-- floor(log2(a / b)) of a positive quotient, shifted up by `k`. -/
def log2Q (a b k : Nat) : Nat :=
  let g := a.log2 + k - b.log2
  if a * 2 ^ k < b * 2 ^ g then g - 1 else g

/-- The pattern of a magnitude rounded to nearest even: subnormals kept, overflow to infinity. -/
def FFmt.mag (f : FFmt) (a b : Nat) : Nat :=
  if a = 0 then 0
  else
    let k := a.log2 + b.log2 + f.bias + f.m + 4
    let e : Int := (log2Q a b k : Int) - k
    let emin : Int := 1 - (f.bias : Int)
    let q : Int := (if e < emin then emin else e) - f.m
    let s := if q < 0 then rneDiv (a * 2 ^ q.natAbs) b else rneDiv a (b * 2 ^ q.toNat)
    let r := ((q + f.m + f.bias : Int).toNat - 1) * 2 ^ f.m + s
    if f.inf ≤ r then f.inf else r

/-- The pattern nearest to a fraction. -/
def FFmt.write (f : FFmt) (a : Frac) : Nat :=
  (if a.n < 0 then 2 ^ (f.e + f.m) else 0) + f.mag a.n.natAbs (Nat.max a.d 1)

/-- The value of an F64 pattern, 0 for what is no number. -/
def f64Val (b : Nat) : Frac := (f64.read b).getD { n := 0 }

/-- Whether an F64 pattern is a number. -/
def f64Finite (b : Nat) : Bool := (f64.read b).isSome

end Sys2Proof.Machine
end

