-- ==== Sys2Proof/Config.lean ====
section
/-! DEFINITION. The free values of the model: constants without a body, for what the spec leaves open (results it does
not state, factory tables it names and does not give, standards it cites and does not hold). Nothing in Lean can
evaluate one, so a statement that uses one holds for every value of it. -/

namespace Sys2Proof.Config

/-- A fresh open value: the `n`-th that a run draws, `w` bits wide. -/
opaque free (n : Nat) (w : Nat) : Nat

/-- Byte `i` of the factory table of the loading copy at object index `idx` (R199, R218, R295): named, not given. -/
opaque factoryByte (idx i : Nat) : Nat

/-- By how much, in 2^-24 pixel, the forward differences of R209 miss the F64 polynomial of a bank at a column of its
span; what uses it holds it within the 2^-12 pixel that the rule allows. -/
opaque geoError (c0 c1 c2 c3 column : Nat) : Int

/-- The bytes that the JPEG-LS coder of R426 makes from samples at a precision and a NEAR (ISO/IEC 14495-1). -/
opaque jpegLsCode (bits near width : Nat) (samples : List Nat) : List Byte

/-- How many bytes of that stream the coder has put out at the end of line `n` (R442). -/
opaque jpegLsPut (bits near width : Nat) (samples : List Nat) (n : Nat) : Nat

/-- The samples that the JPEG-LS decoder makes from a stream, none where the stream is not one. -/
opaque jpegLsDecode (bits near width : Nat) (code : List Byte) : Option (List Nat)

/-- Whether an ECDSA P-256 signature verifies over a digest with a key (R579). -/
opaque ecdsaOk (key sig digest : List Byte) : Bool

/-- The device nonce drawn for the `n`-th OPEN (R479). -/
opaque deviceNonce (n : Nat) : List Byte

/-- The four SHA-256 key hashes fused in the part (R579). -/
opaque fusedKeyHash (k : Nat) : List Byte

/-- The scrambler's register of a lane as its transmitter starts (R79 names the scrambler and no start). -/
opaque scrambleStart (lane : Nat) : Nat

/-- The name of a unit that the spec's examples do not spell (R485). -/
opaque unitName (u : Nat) : List Byte

end Sys2Proof.Config
end

