-- ==== Sys2Proof/Machine/DictTypes.lean ====
section
/-! DEFINITION. Types, access codes, defaults and ranges of objects (R7, R469). -/

namespace Sys2Proof.Machine

/-- The object types of R7 and R469. -/
inductive ObjType where
  | bool | u8 | u16 | u32 | u64 | i8 | i16 | i32 | i64 | f32 | f64 | time | wp | vstr | domain
  deriving DecidableEq, Repr

/-- The access codes of R7. -/
inductive Access where
  | ro | rw | wo | rc | w1c | const
  deriving DecidableEq, Repr

/-- A value of an object: a number (F32 and F64 as their bit patterns), or the bytes of a VSTR or DOMAIN. -/
inductive ObjVal where
  | num (v : Int)
  | blob (b : List Byte)
  deriving DecidableEq, Repr

/-- A default of the tables. Bytes that repeat are held as a pattern and a length. -/
inductive Dflt where
  | num (v : Int)
  | blob (b : List Nat)
  | fill (len : Nat) (pat : List Nat)
  | pre (len : Nat) (first : List Nat)
  | ramp (n mul copies : Nat)
  | linear
  | factory (len : Nat)
  deriving DecidableEq, Repr

/-- The range of an object where its table states one. -/
inductive Range where
  | any
  | rng (lo hi : Int)
  | oneOf (l : List Int)
  | orVal (lo hi other : Int)
  | mult (lo hi m : Int)
  deriving DecidableEq, Repr

/-- A row of an object table. -/
structure ObjRow where
  sub : Nat
  nsub : Nat
  name : String
  ty : ObjType
  acc : Access
  dflt : Dflt
  wr : Role
  shadow : Bool
  stat : Bool
  range : Range
  deriving DecidableEq, Repr

/-- A row, by position. -/
abbrev row := ObjRow.mk

/-- The objects that share an index, and the indices that repeat them. -/
structure ObjGroup where
  base : Nat
  first : Nat
  last : Nat
  packed : Bool
  rows : List ObjRow
  deriving DecidableEq, Repr

/-- The type codes of R469. -/
def ObjType.code : ObjType → Nat
  | .bool => 0 | .u8 => 1 | .u16 => 2 | .u32 => 3 | .u64 => 4 | .i8 => 5 | .i16 => 6 | .i32 => 7
  | .i64 => 8 | .f32 => 9 | .f64 => 10 | .time => 11 | .wp => 12 | .vstr => 13 | .domain => 14

/-- The width of a scalar in bytes (R469); 0 for VSTR and DOMAIN. -/
def ObjType.bytes : ObjType → Nat
  | .bool => 1 | .u8 => 1 | .u16 => 2 | .u32 => 4 | .u64 => 8 | .i8 => 1 | .i16 => 2 | .i32 => 4
  | .i64 => 8 | .f32 => 4 | .f64 => 8 | .time => 8 | .wp => 8 | .vstr => 0 | .domain => 0

/-- Whether values of the type carry a sign. -/
def ObjType.signed : ObjType → Bool
  | .i8 => true | .i16 => true | .i32 => true | .i64 => true | .wp => true | _ => false

/-- The access codes as they travel (R469). -/
def Access.code : Access → Nat
  | .ro => 0 | .rw => 1 | .wo => 2 | .rc => 3 | .w1c => 4 | .const => 5

/-- Whether a number can be held in the type: a BOOL of another value is of the right type (R469). -/
def ObjType.holds (t : ObjType) (v : Int) : Bool :=
  let w := 8 * t.bytes
  if t.signed then -(2 ^ (w - 1) : Int) ≤ v && v < (2 ^ (w - 1) : Int) else 0 ≤ v && v < (2 ^ w : Int)

/-- Whether a range admits a number. -/
def Range.admits (r : Range) (v : Int) : Bool :=
  match r with
  | .any => true
  | .rng lo hi => lo ≤ v && v ≤ hi
  | .oneOf l => l.contains v
  | .orVal lo hi o => (lo ≤ v && v ≤ hi) || v == o
  | .mult lo hi m => lo ≤ v && v ≤ hi && v % m == 0

/-- The rank of a role (R470): the metrology role holds the viewer's rights. -/
def roleRank : Role → Nat
  | .viewer => 0 | .operator => 1 | .integrator => 2 | .service => 3 | .metrology => 0

end Sys2Proof.Machine
end

