-- ==== Sys2Proof/Machine/DictA.lean ====
section
/-! DEFINITION. Rows of the object dictionary, from the object tables of the spec's chapters: sub-index, how many
consecutive sub-indices, name, type, access, default, least writing role, shadow-capable, static, range. -/

namespace Sys2Proof.Machine

/-- Objects 0x1000. -/
def grp1000 : ObjGroup := ⟨0x1000, 0x1000, 0x1000, false, [
  row 0x01 1 "PART_NAME" .vstr .const (.blob [72, 77, 45, 66, 76, 88, 49, 54, 45, 65]) .integrator false false (.any),
  row 0x02 1 "FAMILY_NAME" .vstr .const (.blob [66, 97, 108, 108, 105, 116, 104]) .integrator false false (.any),
  row 0x03 1 "SILICON_REV" .u16 .const (.num (161)) .integrator false false (.any),
  row 0x04 1 "DEVICE_NUMBER" .u16 .ro (.num 0) .integrator false false (.any),
  row 0x05 1 "MANUAL_EDITION" .u16 .const (.num (1)) .integrator false false (.any)]⟩

/-- The groups of page 0x10. -/
def page10 : List ObjGroup :=
  [grp1000]

/-- Objects 0x1100. -/
def grp1100 : ObjGroup := ⟨0x1100, 0x1100, 0x1100, false, [
  row 0x01 1 "CONFIG_SAVE" .bool .wo (.num 0) .service false false (.any),
  row 0x02 1 "CONFIG_STATUS" .u8 .ro (.num (0)) .integrator false false (.any),
  row 0x03 1 "CONFIG_CRC" .u32 .ro (.num (0)) .integrator false false (.any),
  row 0x04 1 "ACTIVE_OVERLAYS" .u32 .ro (.num (0)) .integrator false false (.any),
  row 0x05 1 "OVL_IGNORED" .u32 .rc (.num (0)) .integrator false false (.any),
  row 0x06 1 "REJECTED_WRITES" .u32 .rc (.num (0)) .integrator false false (.any)]⟩

/-- Objects 0x1104. -/
def grp1104 : ObjGroup := ⟨0x1104, 0x1104, 0x1104, false, [
  row 0x01 1 "MY_STATUS" .u32 .ro (.num (0)) .integrator false false (.any),
  row 0x02 1 "MY_IDENTITY" .u8 .ro (.num 0) .integrator false false (.any),
  row 0x03 1 "NS_ROLE" .u8 .rw (.num (2)) .service false false (.rng (0) (3)),
  row 0x04 1 "SNAPSHOTS_HELD" .u8 .ro (.num (0)) .integrator false false (.any)]⟩

/-- Objects 0x1111. -/
def grp1111 : ObjGroup := ⟨0x1111, 0x1111, 0x112f, false, [
  row 0x01 1 "OVL_ENTRIES" .domain .rw (.blob []) .integrator false false (.any),
  row 0x02 1 "OVL_STORE" .bool .wo (.num 0) .integrator false false (.any),
  row 0x03 1 "OVL_COUNT" .u16 .ro (.num (0)) .integrator false false (.any),
  row 0x04 1 "OVL_BAD_ENTRY" .u16 .ro (.num (65535)) .integrator false false (.any),
  row 0x05 1 "ACT_ON" .u8 .rw (.num (0)) .integrator false false (.rng (0) (3)),
  row 0x06 1 "ACT_ARG" .u8 .rw (.num (255)) .integrator false false (.any),
  row 0x07 1 "OVL_WP" .wp .rw (.num (0)) .integrator false false (.any),
  row 0x08 1 "DEACT_ON" .u8 .rw (.num (0)) .integrator false false (.rng (0) (4)),
  row 0x09 1 "DEACT_ARG" .u8 .rw (.num (255)) .integrator false false (.any),
  row 0x0a 1 "OVL_SPAN" .wp .rw (.num (0)) .integrator false false (.any),
  row 0x0b 1 "OVL_CMD" .u8 .wo (.num 0) .operator false false (.rng (1) (3)),
  row 0x0c 1 "OVL_STATE" .u8 .ro (.num (0)) .integrator false false (.any),
  row 0x0d 1 "OVL_STATUS" .u8 .ro (.num (0)) .integrator false false (.any),
  row 0x0e 1 "ACT_TIME" .time .ro (.num (0)) .integrator false false (.any),
  row 0x0f 1 "ACT_W" .wp .ro (.num (0)) .integrator false false (.any),
  row 0x10 1 "DEACT_W" .wp .ro (.num (0)) .integrator false false (.any),
  row 0x11 1 "ACT_LINES" .domain .ro (.fill 64 [0]) .integrator false false (.any),
  row 0x12 1 "OVL_OWNER" .u8 .ro (.num (0)) .integrator false false (.any),
  row 0x13 1 "ACTIVATIONS" .u32 .ro (.num (0)) .integrator false false (.any)]⟩

/-- The groups of page 0x11. -/
def page11 : List ObjGroup :=
  [grp1100, grp1104, grp1111]

/-- Objects 0x1200. -/
def grp1200 : ObjGroup := ⟨0x1200, 0x1200, 0x1200, false, [
  row 0x01 1 "GOV_EN" .bool .rw (.num (1)) .integrator false false (.any),
  row 0x02 1 "GOV_VMIN" .u16 .rw (.num (600)) .integrator false false (.rng (550) (720)),
  row 0x03 1 "GOV_VMAX" .u16 .const (.num (720)) .integrator false false (.any),
  row 0x04 1 "GOV_PERIOD" .u32 .rw (.num (100)) .integrator false false (.rng (20) (10000)),
  row 0x05 1 "GOV_STEP_UP" .u8 .rw (.num (20)) .integrator false false (.rng (5) (50)),
  row 0x06 1 "GOV_STEP_DOWN" .u8 .rw (.num (5)) .integrator false false (.rng (1) (20)),
  row 0x07 1 "GOV_HEADROOM" .u8 .rw (.num (5)) .integrator false false (.any),
  row 0x08 1 "GOV_HOLD" .u32 .rw (.num (100)) .integrator false false (.any),
  row 0x09 1 "REJECTED_WRITES" .u32 .rc (.num (0)) .integrator false false (.any)]⟩

/-- Objects 0x1201. -/
def grp1201 : ObjGroup := ⟨0x1201, 0x1201, 0x1201, false, [
  row 0x00 1 "SEQ" .u32 .ro (.num (0)) .integrator false false (.any),
  row 0x01 1 "VCORE_CMD" .u16 .ro (.num (720)) .integrator false false (.any),
  row 0x02 1 "VCORE_MEAS" .u16 .ro (.num (0)) .integrator false false (.any),
  row 0x03 1 "MIN_RATIO" .u16 .ro (.num (0)) .integrator false false (.any),
  row 0x04 1 "LIMIT_STAGE" .u16 .ro (.num (0)) .integrator false false (.any),
  row 0x05 1 "AVS_ERRORS" .u32 .ro (.num (0)) .integrator false false (.any),
  row 0x06 1 "GOV_FLAGS" .u8 .ro (.num (0)) .integrator false false (.any)]⟩

/-- Objects 0x1210. -/
def grp1210 : ObjGroup := ⟨0x1210, 0x1210, 0x1210, false, [
  row 0x01 1 "WARM_RESET" .bool .wo (.num 0) .service false false (.any),
  row 0x02 1 "RESET_CAUSE" .u16 .ro (.num 0) .integrator false false (.any),
  row 0x03 1 "RESET_COUNTS" .domain .ro (.fill 28 [0]) .integrator false false (.any),
  row 0x04 1 "TEMP_TRIP" .i16 .const (.num (2160)) .integrator false false (.any)]⟩

/-- Objects 0x1218. -/
def grp1218 : ObjGroup := ⟨0x1218, 0x1218, 0x1218, false, [
  row 0x01 1 "INSPECT_STATE" .u8 .ro (.num (0)) .integrator false true (.any),
  row 0x02 1 "INSPECT_WDOG_TIME" .u32 .rw (.num (0)) .integrator false false (.rng (0) (10000)),
  row 0x03 1 "INSPECT_KICK" .bool .wo (.num 0) .integrator false false (.any),
  row 0x04 1 "INSPECT_LOSSES" .u32 .ro (.num (0)) .integrator false false (.any),
  row 0x05 1 "INSPECT_TIME" .time .ro (.num (0)) .integrator false false (.any)]⟩

/-- Objects 0x1220. -/
def grp1220 : ObjGroup := ⟨0x1220, 0x1220, 0x1220, false, [
  row 0x01 1 "REFOUT_EN" .u8 .rw (.num (0)) .integrator false false (.rng (0) (15)),
  row 0x02 1 "REFOUT_SPREAD" .u8 .rw (.num (0)) .integrator false false (.rng (0) (15))]⟩

/-- Objects 0x1230. -/
def grp1230 : ObjGroup := ⟨0x1230, 0x1230, 0x1230, false, [
  row 0x01 1 "BOOT_MODE" .u8 .ro (.num 0) .integrator false false (.any),
  row 0x02 1 "BOOT_SLOT" .u8 .ro (.num (0)) .integrator false false (.any),
  row 0x03 1 "IMAGE_VERSION" .u32 .ro (.num (0)) .integrator false false (.any),
  row 0x04 1 "BOOT_CAUSE" .u8 .ro (.num (0)) .integrator false false (.any),
  row 0x05 1 "MET_AT_BOOT" .u8 .ro (.num (0)) .integrator false false (.any),
  row 0x06 1 "ROLLBACK_FLOOR" .u32 .rw (.num (0)) .service false false (.any),
  row 0x07 1 "KEY_REVOKE" .u8 .rw (.num (0)) .service false false (.rng (0) (15))]⟩

/-- Objects 0x1240. -/
def grp1240 : ObjGroup := ⟨0x1240, 0x1240, 0x1240, false, [
  row 0x01 1 "DOMAIN_STATE" .domain .ro (.fill 48 [0]) .integrator false false (.any)]⟩

/-- The groups of page 0x12. -/
def page12 : List ObjGroup :=
  [grp1200, grp1201, grp1210, grp1218, grp1220, grp1230, grp1240]

/-- Objects 0x1300. -/
def grp1300 : ObjGroup := ⟨0x1300, 0x1300, 0x1300, false, [
  row 0x01 1 "TIME_NOW" .time .ro (.num 0) .integrator false false (.any),
  row 0x02 1 "RAW_NOW" .u64 .ro (.num 0) .integrator false false (.any),
  row 0x03 1 "OFFSET" .i64 .rw (.num (0)) .integrator false false (.any),
  row 0x04 1 "RATE" .i64 .rw (.num (0)) .integrator false false (.rng (-112589990684) (112589990684)),
  row 0x05 1 "RAW_REF" .u64 .ro (.num (0)) .integrator false false (.any),
  row 0x06 1 "TIME_STATE" .u8 .ro (.num (0)) .integrator false false (.any),
  row 0x07 1 "DECLARE_VALID" .bool .wo (.num 0) .integrator false false (.any),
  row 0x08 1 "SLEW_LIMIT" .u32 .rw (.num (100000)) .integrator false false (.rng (1000) (100000)),
  row 0x09 1 "SLEW_REMAINING" .i64 .ro (.num (0)) .integrator false false (.any),
  row 0x0a 1 "EPOCH_PTP_S" .u64 .rw (.num (0)) .integrator false false (.any),
  row 0x0b 1 "REJECTED_WRITES" .u32 .rc (.num (0)) .integrator false false (.any)]⟩

/-- Objects 0x1301. -/
def grp1301 : ObjGroup := ⟨0x1301, 0x1301, 0x1301, false, [
  row 0x00 1 "SEQ" .u32 .ro (.num (0)) .integrator false false (.any),
  row 0x01 1 "SNAP_APPLIED" .time .ro (.num (0)) .integrator false false (.any),
  row 0x02 1 "SNAP_RAW" .u64 .ro (.num (0)) .integrator false false (.any),
  row 0x03 1 "SNAP_S" .u32 .ro (.num (0)) .integrator false false (.any),
  row 0x04 1 "SNAP_NS" .u32 .ro (.num (0)) .integrator false false (.any),
  row 0x05 1 "SNAP_SIXTEENTHS" .u8 .ro (.num (0)) .integrator false false (.any),
  row 0x06 1 "SNAP_STATE" .u8 .ro (.num (0)) .integrator false false (.any)]⟩

/-- Objects 0x1302. -/
def grp1302 : ObjGroup := ⟨0x1302, 0x1302, 0x1302, false, [
  row 0x01 1 "ENC_IN_LAT" .i32 .rw (.num (32)) .integrator false false (.any),
  row 0x02 1 "EVP_IN_LAT" .i32 .rw (.num (32)) .integrator false false (.any),
  row 0x03 1 "TRG_PIN_SKEW" .i32 .rw (.num (0)) .integrator false false (.rng (-1600) (1600)),
  row 0x04 1 "TTO_OUT_LAT" .i32 .rw (.num (48)) .integrator false false (.any),
  row 0x05 1 "LANE_TX_LAT" .i32 .const (.num (160)) .integrator false false (.any)]⟩

/-- Objects 0x1310. -/
def grp1310 : ObjGroup := ⟨0x1310, 0x1310, 0x132f, false, [
  row 0x01 1 "TARGET" .time .rw (.num (0)) .operator false false (.any),
  row 0x02 1 "PERIOD" .u64 .rw (.num (0)) .operator false false (.any),
  row 0x03 1 "REPEAT" .u32 .rw (.num (0)) .operator false false (.any),
  row 0x04 1 "CONTROL" .u16 .rw (.num (0)) .operator false false (.any),
  row 0x05 1 "PULSE_WIDTH" .u32 .rw (.num (1600)) .operator false false (.any),
  row 0x06 1 "STATUS" .u8 .w1c (.num (0)) .operator false false (.any),
  row 0x07 1 "FIRE_COUNT" .u32 .rc (.num (0)) .operator false false (.any),
  row 0x08 1 "MISSED_COUNT" .u32 .rc (.num (0)) .operator false false (.any),
  row 0x09 1 "LAST_FIRE" .time .ro (.num (0)) .operator false false (.any)]⟩

/-- Objects 0x1330. -/
def grp1330 : ObjGroup := ⟨0x1330, 0x1330, 0x1330, false, [
  row 0x01 8 "TTO_SOURCE0 to 7" .u8 .rw (.num (255)) .integrator false false (.orVal 0 31 255)]⟩

/-- Objects 0x1340. -/
def grp1340 : ObjGroup := ⟨0x1340, 0x1340, 0x1340, false, [
  row 0x01 1 "PTP_ENABLE" .u8 .rw (.num (0)) .integrator false false (.rng (0) (3)),
  row 0x02 1 "SELECT_MODE" .u8 .rw (.num (0)) .integrator false false (.rng (0) (2)),
  row 0x03 1 "SWITCH_HOLD" .u32 .rw (.num (60)) .integrator false false (.any),
  row 0x04 1 "SELECTED" .u8 .ro (.num (255)) .integrator false false (.any),
  row 0x05 1 "UTC_OFFSET" .i16 .ro (.num (0)) .integrator false false (.any),
  row 0x06 1 "PTP_STATUS" .u8 .w1c (.num (0)) .integrator false false (.any)]⟩

/-- Objects 0x1341. -/
def grp1341 : ObjGroup := ⟨0x1341, 0x1341, 0x1342, false, [
  row 0x01 1 "DOMAIN_NUMBER" .u8 .rw (.num (0)) .integrator false false (.rng (0) (127)),
  row 0x02 1 "PORT" .u8 .rw (.num (0)) .integrator false false (.rng (0) (1)),
  row 0x03 1 "TRANSPORT" .u8 .rw (.num (0)) .integrator false false (.rng (0) (1)),
  row 0x04 1 "DELAY_MECH" .u8 .rw (.num (0)) .integrator false false (.rng (0) (1)),
  row 0x05 1 "DELAY_REQ_UNICAST" .bool .rw (.num (0)) .integrator false false (.any),
  row 0x06 1 "LOG_DELAY_INTERVAL" .i8 .rw (.num (0)) .integrator false false (.rng (-7) (4)),
  row 0x07 1 "ANNOUNCE_TIMEOUT" .u8 .rw (.num (3)) .integrator false false (.rng (2) (10)),
  row 0x08 1 "SYNC_TIMEOUT" .u8 .rw (.num (4)) .integrator false false (.rng (2) (64)),
  row 0x09 1 "DELAY_ASYM" .i32 .rw (.num (0)) .integrator false false (.any),
  row 0x0a 1 "KP" .f32 .rw (.num 1060320051) .integrator false false (.any),
  row 0x0b 1 "KI" .f32 .rw (.num 1050253722) .integrator false false (.any),
  row 0x0c 1 "LOCK_THRESH" .u32 .rw (.num (1600)) .integrator false false (.any),
  row 0x0d 1 "LOCK_COUNT" .u8 .rw (.num (16)) .integrator false false (.any),
  row 0x0e 1 "UNLOCK_THRESH" .u32 .rw (.num (16000)) .integrator false false (.any)]⟩

/-- Objects 0x1344. -/
def grp1344 : ObjGroup := ⟨0x1344, 0x1344, 0x1345, false, [
  row 0x00 1 "SEQ" .u32 .ro (.num (0)) .integrator false false (.any),
  row 0x01 1 "SLOT_STATE" .u8 .ro (.num (0)) .integrator false false (.any),
  row 0x02 1 "GM_IDENTITY" .u64 .ro (.num (0)) .integrator false false (.any),
  row 0x03 1 "GM_CLASS" .u8 .ro (.num (0)) .integrator false false (.any),
  row 0x04 1 "OFFSET" .i64 .ro (.num (0)) .integrator false false (.any),
  row 0x05 1 "MEAN_PATH_DELAY" .i64 .ro (.num (0)) .integrator false false (.any),
  row 0x06 1 "RATE_EST" .i64 .ro (.num (0)) .integrator false false (.any),
  row 0x07 1 "SYNCS_RX" .u64 .ro (.num (0)) .integrator false false (.any),
  row 0x08 1 "FOLLOWUP_MISSING" .u32 .ro (.num (0)) .integrator false false (.any),
  row 0x09 1 "ANNOUNCE_TIMEOUTS" .u32 .ro (.num (0)) .integrator false false (.any),
  row 0x0a 1 "LOCK_LOSSES" .u32 .ro (.num (0)) .integrator false false (.any),
  row 0x0b 1 "IGNORED" .u32 .ro (.num (0)) .integrator false false (.any)]⟩

/-- Objects 0x1348. -/
def grp1348 : ObjGroup := ⟨0x1348, 0x1348, 0x1348, false, [
  row 0x01 1 "PPS_OUT_EN" .bool .rw (.num (0)) .integrator false false (.any),
  row 0x02 1 "PPS_WIDTH" .u32 .rw (.num (1600000000)) .integrator false false (.rng (160) (8000000000)),
  row 0x03 1 "PPS_OUT_LAT" .i32 .rw (.num (48)) .integrator false false (.any),
  row 0x04 1 "PPS_IN_EN" .bool .rw (.num (0)) .integrator false false (.any),
  row 0x05 1 "PPS_IN_LAT" .i32 .rw (.num (32)) .integrator false false (.any)]⟩

/-- Objects 0x1349. -/
def grp1349 : ObjGroup := ⟨0x1349, 0x1349, 0x1349, false, [
  row 0x00 1 "SEQ" .u32 .ro (.num (0)) .integrator false false (.any),
  row 0x01 1 "PPS_IN_STAMP" .time .ro (.num (0)) .integrator false false (.any),
  row 0x02 1 "PPS_IN_ERR" .i64 .ro (.num (0)) .integrator false false (.any),
  row 0x03 1 "PPS_IN_COUNT" .u32 .ro (.num (0)) .integrator false false (.any)]⟩

/-- The groups of page 0x13. -/
def page13 : List ObjGroup :=
  [grp1300, grp1301, grp1302, grp1310, grp1330, grp1340, grp1341, grp1344, grp1348, grp1349]

/-- Objects 0x1400. -/
def grp1400 : ObjGroup := ⟨0x1400, 0x1400, 0x1401, false, [
  row 0x01 1 "PORT_MODE" .u8 .rw (.num (0)) .integrator false true (.rng (0) (2)),
  row 0x02 1 "AUTONEG" .bool .rw (.num (1)) .integrator false true (.any),
  row 0x03 1 "MAC_ADDR" .u64 .rw (.num (0)) .integrator false true (.any),
  row 0x04 1 "IP_ADDR" .u32 .rw (.num (0)) .integrator false false (.any),
  row 0x05 1 "NETMASK" .u32 .rw (.num (0)) .integrator false false (.any),
  row 0x06 1 "GATEWAY" .u32 .rw (.num (0)) .integrator false false (.any),
  row 0x07 1 "VLAN_ID" .u16 .rw (.num (65535)) .integrator false false (.any),
  row 0x08 1 "RX_PHY_LAT" .i32 .rw (.num (0)) .integrator false false (.any),
  row 0x09 1 "TX_PHY_LAT" .i32 .rw (.num (0)) .integrator false false (.any),
  row 0x0a 1 "PTP_COPY" .bool .rw (.num (0)) .integrator false false (.any),
  row 0x0b 1 "MCAST_FILTER" .domain .rw (.blob []) .integrator false false (.any),
  row 0x0c 1 "REJECTED_WRITES" .u32 .rc (.num (0)) .integrator false false (.any)]⟩

/-- Objects 0x1402. -/
def grp1402 : ObjGroup := ⟨0x1402, 0x1402, 0x1403, false, [
  row 0x00 1 "SEQ" .u32 .ro (.num (0)) .integrator false false (.any),
  row 0x01 1 "LINK" .u8 .ro (.num (0)) .integrator false false (.any),
  row 0x02 1 "SPEED" .u8 .ro (.num (0)) .integrator false false (.any),
  row 0x03 1 "FRAMES_RX" .u64 .ro (.num (0)) .integrator false false (.any),
  row 0x04 1 "FRAMES_TX" .u64 .ro (.num (0)) .integrator false false (.any),
  row 0x05 1 "RX_CRC_ERR" .u32 .ro (.num (0)) .integrator false false (.any),
  row 0x06 1 "RX_DROPS" .u32 .ro (.num (0)) .integrator false false (.any),
  row 0x07 1 "HOST_RX_DROPS" .u32 .ro (.num (0)) .integrator false false (.any),
  row 0x08 1 "TX_BAD" .u32 .ro (.num (0)) .integrator false false (.any),
  row 0x09 1 "LINK_CHANGES" .u32 .ro (.num (0)) .integrator false false (.any)]⟩

/-- Objects 0x1404. -/
def grp1404 : ObjGroup := ⟨0x1404, 0x1404, 0x1405, false, [
  row 0x01 1 "TX_BASE" .u64 .rw (.num (0)) .integrator false true (.mult (0) (18446744073709551615) 4096),
  row 0x02 1 "TX_SLOTS" .u16 .rw (.num (0)) .integrator false true (.any),
  row 0x03 1 "TX_TAIL" .u16 .rw (.num (0)) .integrator false false (.any),
  row 0x04 1 "TX_HEAD" .u16 .ro (.num (0)) .integrator false false (.any),
  row 0x05 1 "RX_BASE" .u64 .rw (.num (0)) .integrator false true (.mult (0) (18446744073709551615) 4096),
  row 0x06 1 "RX_SLOTS" .u16 .rw (.num (0)) .integrator false true (.any),
  row 0x07 1 "RX_HEAD" .u16 .ro (.num (0)) .integrator false false (.any),
  row 0x08 1 "RX_TAIL" .u16 .rw (.num (0)) .integrator false false (.any)]⟩

/-- Objects 0x1410. -/
def grp1410 : ObjGroup := ⟨0x1410, 0x1410, 0x1410, false, [
  row 0x01 1 "TS_POP" .domain .rc (.fill 16 [0]) .integrator false false (.any),
  row 0x02 1 "TS_FILL" .u8 .ro (.num (0)) .integrator false false (.any),
  row 0x03 1 "TS_LOST" .u32 .rc (.num (0)) .integrator false false (.any)]⟩

/-- Objects 0x1420. -/
def grp1420 : ObjGroup := ⟨0x1420, 0x1420, 0x1420, false, [
  row 0x01 1 "FDP_ENABLE" .u8 .rw (.num (0)) .integrator false false (.rng (0) (3)),
  row 0x02 1 "SESSION_TIMEOUT" .u32 .rw (.num (10)) .integrator false false (.rng (1) (3600)),
  row 0x03 1 "VIEWER_KEYLESS" .bool .rw (.num (0)) .integrator false false (.any),
  row 0x04 1 "BAD_TAGS" .u32 .rc (.num (0)) .integrator false false (.any),
  row 0x05 1 "STALE" .u32 .rc (.num (0)) .integrator false false (.any),
  row 0x06 1 "SESSIONS_OPEN" .u8 .ro (.num (0)) .integrator false false (.any)]⟩

/-- Objects 0x1421. -/
def grp1421 : ObjGroup := ⟨0x1421, 0x1421, 0x1421, false, [
  row 0x01 1 "ROLE_KEY0" .domain .wo (.fill 32 [0]) .service false false (.any),
  row 0x02 1 "ROLE_KEY1" .domain .wo (.fill 32 [0]) .service false false (.any),
  row 0x03 1 "ROLE_KEY2" .domain .wo (.fill 32 [0]) .service false false (.any),
  row 0x04 1 "ROLE_KEY3" .domain .wo (.fill 32 [0]) .service false false (.any)]⟩

/-- Objects 0x1430. -/
def grp1430 : ObjGroup := ⟨0x1430, 0x1430, 0x143f, false, [
  row 0x00 1 "SEQ" .u32 .ro (.num (0)) .integrator false false (.any),
  row 0x01 1 "S_STATE" .u8 .ro (.num (0)) .integrator false false (.any),
  row 0x02 1 "S_ROLE" .u8 .ro (.num (0)) .integrator false false (.any),
  row 0x03 1 "S_PORT" .u8 .ro (.num (0)) .integrator false false (.any),
  row 0x04 1 "PEER" .u64 .ro (.num (0)) .integrator false false (.any),
  row 0x05 1 "OPENED" .time .ro (.num (0)) .integrator false false (.any),
  row 0x06 1 "REQUESTS" .u64 .ro (.num (0)) .integrator false false (.any)]⟩

/-- Objects 0x1440. -/
def grp1440 : ObjGroup := ⟨0x1440, 0x1440, 0x144f, false, [
  row 0x00 1 "SEQ" .u32 .ro (.num (0)) .integrator false false (.any),
  row 0x01 1 "STREAM_STATE" .u8 .ro (.num (0)) .integrator false false (.any),
  row 0x02 1 "OWNER_SESSION" .u8 .ro (.num (255)) .integrator false false (.any),
  row 0x03 1 "DEST" .u64 .ro (.num (0)) .integrator false false (.any),
  row 0x04 1 "UNITS_SENT" .u64 .ro (.num (0)) .integrator false false (.any),
  row 0x05 1 "BYTES_SENT" .u64 .ro (.num (0)) .integrator false false (.any)]⟩

/-- The groups of page 0x14. -/
def page14 : List ObjGroup :=
  [grp1400, grp1402, grp1404, grp1410, grp1420, grp1421, grp1430, grp1440]

/-- Objects 0x1500. -/
def grp1500 : ObjGroup := ⟨0x1500, 0x1500, 0x1500, false, [
  row 0x01 1 "REJECTED_WRITES" .u32 .rc (.num (0)) .integrator false false (.any),
  row 0x02 1 "LOOPS" .u32 .rc (.num (0)) .integrator false false (.any),
  row 0x03 1 "EDDIES" .u32 .rc (.num (0)) .integrator false false (.any),
  row 0x04 1 "REFUSED_TASKS" .u32 .rc (.num (0)) .integrator false false (.any),
  row 0x05 1 "EDDY_LIMIT" .u8 .const (.num (64)) .integrator false false (.any),
  row 0x06 1 "EDDY_WINDOW" .u32 .const (.num (1000)) .integrator false false (.any)]⟩

/-- Objects 0x1502. -/
def grp1502 : ObjGroup := ⟨0x1502, 0x1502, 0x1502, false, [
  row 0x01 1 "SW_DATA" .u64 .rw (.num (0)) .integrator false false (.any),
  row 0x02 1 "SW_FIRE" .u32 .wo (.num 0) .operator false false (.any)]⟩

/-- Objects 0x1503. -/
def grp1503 : ObjGroup := ⟨0x1503, 0x1503, 0x1503, false, [
  row 0x01 1 "GATE_SOFT" .u16 .rw (.num (0)) .integrator true false (.any)]⟩

/-- Objects 0x1504. -/
def grp1504 : ObjGroup := ⟨0x1504, 0x1504, 0x1504, false, [
  row 0x01 1 "TASK_SELECT" .u16 .rw (.num (0)) .integrator false false (.any)]⟩

/-- Objects 0x1505. -/
def grp1505 : ObjGroup := ⟨0x1505, 0x1505, 0x1505, false, [
  row 0x00 1 "SEQ" .u32 .ro (.num (0)) .integrator false false (.any),
  row 0x01 1 "GRANT_SEQ" .u16 .ro (.num (0)) .integrator false false (.any),
  row 0x02 1 "GRANT_STAMP" .time .ro (.num (0)) .integrator false false (.any),
  row 0x03 1 "GRANT_CHANNEL" .u8 .ro (.num (0)) .integrator false false (.any),
  row 0x04 1 "GRANT_DATA" .u64 .ro (.num (0)) .integrator false false (.any),
  row 0x05 1 "GRANT_OUTCOME" .u8 .ro (.num (0)) .integrator false false (.any),
  row 0x06 1 "HELD_COUNT" .u8 .ro (.num (0)) .integrator false false (.any)]⟩

/-- Objects 0x1530. -/
def grp1530 : ObjGroup := ⟨0x1530, 0x1530, 0x1533, true, [
  row 0x01 1 "EVP_DIR" .u8 .rw (.num (0)) .integrator false false (.rng (0) (2)),
  row 0x02 1 "EVP_EDGE" .u8 .rw (.num (0)) .integrator false false (.rng (0) (2)),
  row 0x03 1 "EVP_POLARITY" .bool .rw (.num (0)) .integrator false false (.any),
  row 0x04 1 "PULSE_WIDTH" .u32 .rw (.num (1600)) .integrator false false (.mult (80) (160000000) 16),
  row 0x05 1 "PULSE_GAP" .u32 .rw (.num (1600)) .integrator false false (.mult (80) (160000000) 16),
  row 0x06 1 "EVP_LEVEL" .bool .ro (.num 0) .integrator false false (.any)]⟩

/-- Objects 0x1540. -/
def grp1540 : ObjGroup := ⟨0x1540, 0x1540, 0x154f, true, [
  row 0x01 1 "PRODUCER" .u16 .rw (.num (65535)) .integrator false false (.any),
  row 0x02 8 "DEST0 to DEST7" .u16 .rw (.num (65535)) .integrator false false (.any),
  row 0x0a 1 "CONTROL" .u8 .rw (.num (0)) .integrator true false (.any),
  row 0x0b 1 "GATE" .u8 .rw (.num (0)) .integrator true false (.any),
  row 0x0c 1 "OWNER" .u8 .rw (.num (0)) .integrator false false (.rng (0) (5)),
  row 0x0d 1 "STATUS" .u8 .w1c (.num (0)) .integrator false false (.any),
  row 0x0e 1 "FIRES" .u32 .rc (.num (0)) .integrator false false (.any),
  row 0x0f 1 "DROPS" .u32 .rc (.num (0)) .integrator false false (.any)]⟩

/-- Objects 0x1580. -/
def grp1580 : ObjGroup := ⟨0x1580, 0x1580, 0x158f, true, [
  row 0x01 1 "TASK_MODE" .u8 .rw (.num (0)) .integrator false false (.rng (0) (1)),
  row 0x02 1 "TASK_STATUS" .u8 .w1c (.num (0)) .integrator false false (.any),
  row 0x03 1 "TASK_OVERRUNS" .u32 .rc (.num (0)) .integrator false false (.any),
  row 0x04 1 "TASK_GRANTS" .u32 .rc (.num (0)) .integrator false false (.any)]⟩

/-- Objects 0x1590. -/
def grp1590 : ObjGroup := ⟨0x1590, 0x1590, 0x1595, true, [
  row 0x01 1 "TASK_MODE" .u8 .rw (.num (1)) .integrator false false (.rng (0) (1)),
  row 0x02 1 "TASK_STATUS" .u8 .w1c (.num (0)) .integrator false false (.any),
  row 0x03 1 "TASK_OVERRUNS" .u32 .rc (.num (0)) .integrator false false (.any),
  row 0x04 1 "TASK_GRANTS" .u32 .rc (.num (0)) .integrator false false (.any)]⟩

/-- Objects 0x1596. -/
def grp1596 : ObjGroup := ⟨0x1596, 0x1596, 0x1598, true, [
  row 0x01 1 "TASK_MODE" .u8 .rw (.num (0)) .integrator false false (.rng (0) (1)),
  row 0x02 1 "TASK_STATUS" .u8 .w1c (.num (0)) .integrator false false (.any),
  row 0x03 1 "TASK_OVERRUNS" .u32 .rc (.num (0)) .integrator false false (.any),
  row 0x04 1 "TASK_GRANTS" .u32 .rc (.num (0)) .integrator false false (.any)]⟩

/-- The groups of page 0x15. -/
def page15 : List ObjGroup :=
  [grp1500, grp1502, grp1503, grp1504, grp1505, grp1530, grp1540, grp1580, grp1590, grp1596]

/-- Objects 0x1600. -/
def grp1600 : ObjGroup := ⟨0x1600, 0x1600, 0x1600, false, [
  row 0x01 1 "REJECTED_WRITES" .u32 .rc (.num (0)) .service false false (.any),
  row 0x02 1 "CORE_POISON_ADDR" .u64 .ro (.num (0)) .service false false (.any),
  row 0x03 1 "CORE_POISONS" .u32 .rc (.num (0)) .service false false (.any)]⟩

/-- Objects 0x1602. -/
def grp1602 : ObjGroup := ⟨0x1602, 0x1602, 0x1602, false, [
  row 0x01 8 "SECREG0 to 7" .u64 .rw (.num (0)) .service false false (.any),
  row 0x09 1 "SECREG_LOCK" .bool .rw (.num (0)) .service false false (.any)]⟩

/-- Objects 0x1608. -/
def grp1608 : ObjGroup := ⟨0x1608, 0x1608, 0x1608, false, [
  row 0x01 1 "DB_RING" .u64 .wo (.num 0) .service false false (.any),
  row 0x02 1 "DB_PENDING" .u64 .w1c (.num (0)) .service false false (.any),
  row 0x03 1 "DB_MERGED" .u32 .rc (.num (0)) .service false false (.any),
  row 0x04 1 "DB_SECURE" .bool .rw (.num (1)) .service false false (.any)]⟩

/-- Objects 0x1610. -/
def grp1610 : ObjGroup := ⟨0x1610, 0x1610, 0x1617, false, [
  row 0x01 1 "INT_CLAIM" .u16 .ro (.num 0) .service false false (.any),
  row 0x02 1 "INT_COMPLETE" .u16 .wo (.num 0) .service false false (.any),
  row 0x03 1 "CLAIM_STAMP" .time .ro (.num (0)) .service false false (.any),
  row 0x04 1 "CLAIM_DATA" .u64 .ro (.num (0)) .service false false (.any)]⟩

/-- Objects 0x1618. -/
def grp1618 : ObjGroup := ⟨0x1618, 0x1618, 0x161f, false, [
  row 0x01 1 "START_ADDR" .u64 .rw (.num (13194139533312)) .service false false (.any),
  row 0x02 1 "WAKE_EN" .bool .rw (.num (1)) .service false false (.any),
  row 0x03 1 "CORE_UPS" .u32 .ro (.num (0)) .service false false (.any)]⟩

/-- Objects 0x1620. -/
def grp1620 : ObjGroup := ⟨0x1620, 0x1620, 0x163f, false, [
  row 0x01 1 "END_A" .u8 .rw (.num (0)) .service false false (.rng (0) (17)),
  row 0x02 1 "END_B" .u8 .rw (.num (1)) .service false false (.rng (0) (17)),
  row 0x03 1 "SEND" .u32 .wo (.num 0) .service false false (.any),
  row 0x04 1 "RECV" .u64 .ro (.num 0) .service false false (.any),
  row 0x05 1 "MB_STATUS" .u16 .ro (.num (0)) .service false false (.any),
  row 0x06 1 "MB_OVERFLOWS" .u32 .rc (.num (0)) .service false false (.any)]⟩

/-- Objects 0x1640. -/
def grp1640 : ObjGroup := ⟨0x1640, 0x1640, 0x1641, false, [
  row 0x01 128 "INT_CFG0 to 255" .u16 .rw (.num (0)) .operator false false (.any)]⟩

/-- Objects 0x1660. -/
def grp1660 : ObjGroup := ⟨0x1660, 0x1660, 0x1660, false, [
  row 0x01 128 "LOCK0 to LOCK127" .u16 .rw (.num (0)) .viewer false false (.any)]⟩

/-- Objects 0x1661. -/
def grp1661 : ObjGroup := ⟨0x1661, 0x1661, 0x1661, false, [
  row 0x01 1 "LOCK_BREAK" .u8 .wo (.num 0) .service false false (.rng (0) (127)),
  row 0x02 1 "LOCKS_BROKEN" .u32 .rc (.num (0)) .service false false (.any)]⟩

/-- The groups of page 0x16. -/
def page16 : List ObjGroup :=
  [grp1600, grp1602, grp1608, grp1610, grp1618, grp1620, grp1640, grp1660, grp1661]

end Sys2Proof.Machine
end

