-- ==== Sys2Proof/Machine/DictB.lean ====
section
/-! DEFINITION. Rows of the object dictionary, from the object tables of the spec's chapters: sub-index, how many
consecutive sub-indices, name, type, access, default, least writing role, shadow-capable, static, range. -/

namespace Sys2Proof.Machine

/-- Objects 0x1700. -/
def grp1700 : ObjGroup := ⟨0x1700, 0x1700, 0x1700, false, [
  row 0x01 1 "DATA_RATE" .u16 .rw (.num (8533)) .integrator false true (.oneOf [3200, 6400, 7500, 8533]),
  row 0x02 1 "DENSITY" .u8 .ro (.num (0)) .integrator false false (.any),
  row 0x03 1 "HOST_BYTES" .u64 .ro (.num (0)) .integrator false false (.any),
  row 0x04 1 "CALM_TIMER" .u32 .rw (.num (2000)) .integrator false false (.any),
  row 0x05 1 "GUST_HOLD" .u32 .rw (.num (500)) .integrator false false (.any),
  row 0x06 1 "PULL_IN" .u8 .rw (.num (4)) .integrator false false (.rng (0) (8)),
  row 0x07 1 "ROW_RUN_MAX" .u8 .rw (.num (16)) .integrator false false (.rng (1) (64)),
  row 0x08 1 "WR_HIGH" .u8 .rw (.num (24)) .integrator false false (.rng (2) (32)),
  row 0x09 1 "WR_LOW" .u8 .rw (.num (8)) .integrator false false (.any),
  row 0x0a 1 "URG_CAP" .u8 .rw (.num (1)) .integrator false false (.rng (0) (3)),
  row 0x0b 1 "MIG_RATE" .u16 .rw (.num (40)) .integrator false false (.rng (10) (160)),
  row 0x0c 1 "MIG_CE_LIMIT" .u32 .rw (.num (0)) .integrator false false (.any),
  row 0x0d 1 "SCRUB_PERIOD" .u32 .rw (.num (86400)) .integrator false false (.rng (3600) (2592000)),
  row 0x0e 1 "MIGRATE_CMD" .u8 .wo (.num 0) .service false false (.rng (0) (95)),
  row 0x0f 1 "REJECTED_WRITES" .u32 .rc (.num (0)) .integrator false false (.any)]⟩

/-- Objects 0x1701. -/
def grp1701 : ObjGroup := ⟨0x1701, 0x1701, 0x1701, false, [
  row 0x00 1 "SEQ" .u32 .ro (.num (0)) .integrator false false (.any),
  row 0x01 1 "CE_TOTAL" .u64 .ro (.num (0)) .integrator false false (.any),
  row 0x02 1 "UE_TOTAL" .u32 .ro (.num (0)) .integrator false false (.any),
  row 0x03 1 "POISON_READS" .u32 .ro (.num (0)) .integrator false false (.any),
  row 0x04 1 "OUT_OF_RANGE" .u32 .ro (.num (0)) .integrator false false (.any),
  row 0x05 1 "MIG_STATE" .u8 .ro (.num (0)) .integrator false false (.any),
  row 0x06 1 "MIG_SOURCE" .u8 .ro (.num (255)) .integrator false false (.any),
  row 0x07 1 "MIG_DEST" .u8 .ro (.num (255)) .integrator false false (.any),
  row 0x08 1 "MIG_PROGRESS" .u32 .ro (.num (0)) .integrator false false (.any),
  row 0x09 1 "MIG_QUEUED" .u8 .ro (.num (0)) .integrator false false (.any),
  row 0x0a 1 "MIG_LOST" .u32 .ro (.num (0)) .integrator false false (.any),
  row 0x0b 1 "SCRUB_PASSES" .u32 .ro (.num (0)) .integrator false false (.any),
  row 0x0c 1 "SCRUB_PASS_TIME" .u32 .ro (.num (0)) .integrator false false (.any),
  row 0x0d 1 "SCRUB_BEHIND" .bool .ro (.num (0)) .integrator false false (.any)]⟩

/-- Objects 0x1702. -/
def grp1702 : ObjGroup := ⟨0x1702, 0x1702, 0x1702, false, [
  row 0x01 1 "ERROR_LOG" .domain .ro (.fill 512 [0]) .integrator false false (.any),
  row 0x02 1 "LOST_LOG" .domain .ro (.fill 512 [0]) .integrator false false (.any)]⟩

/-- Objects 0x1708. -/
def grp1708 : ObjGroup := ⟨0x1708, 0x1708, 0x1713, false, [
  row 0x01 1 "SPARE_RC" .u8 .rw (.num (7)) .service false true (.rng (0) (7)),
  row 0x02 1 "SLOT_MAP" .domain .ro (.blob [0, 1, 2, 3, 4, 5, 6]) .integrator false false (.any),
  row 0x03 1 "SPARE_STATE" .u8 .ro (.num (0)) .integrator false false (.any)]⟩

/-- Objects 0x1720. -/
def grp1720 : ObjGroup := ⟨0x1720, 0x1720, 0x1737, false, [
  row 0x01 1 "LAT_TARGET" .u32 .rw (.num 0) .integrator false false (.rng (100) (1000000)),
  row 0x02 1 "AGE_LIMIT" .u32 .rw (.num (20000)) .integrator false false (.rng (1000) (1000000)),
  row 0x03 1 "BUDGET" .u16 .rw (.num 0) .integrator false false (.any),
  row 0x04 1 "REAL_TIME" .bool .const (.num 0) .integrator false false (.any)]⟩

/-- Objects 0x1740. -/
def grp1740 : ObjGroup := ⟨0x1740, 0x1740, 0x1757, false, [
  row 0x00 1 "SEQ" .u32 .ro (.num (0)) .integrator false false (.any),
  row 0x01 1 "READS" .u64 .ro (.num (0)) .integrator false false (.any),
  row 0x02 1 "WRITES" .u64 .ro (.num (0)) .integrator false false (.any),
  row 0x03 1 "BYTES" .u64 .ro (.num (0)) .integrator false false (.any),
  row 0x04 1 "LAT_MAX" .u32 .ro (.num (0)) .integrator false false (.any),
  row 0x05 1 "LATE" .u32 .ro (.num (0)) .integrator false false (.any),
  row 0x06 1 "AGED" .u32 .ro (.num (0)) .integrator false false (.any),
  row 0x07 1 "CAPPED_US" .u32 .ro (.num (0)) .integrator false false (.any)]⟩

/-- Objects 0x1780. -/
def grp1780 : ObjGroup := ⟨0x1780, 0x1780, 0x17df, false, [
  row 0x00 1 "SEQ" .u32 .ro (.num (0)) .integrator false false (.any),
  row 0x01 1 "SLOT" .u8 .ro (.num (255)) .integrator false false (.any),
  row 0x02 1 "CE" .u32 .ro (.num (0)) .integrator false false (.any),
  row 0x03 1 "UE" .u32 .ro (.num (0)) .integrator false false (.any),
  row 0x04 1 "POSTPONED_PEAK" .u8 .ro (.num (0)) .integrator false false (.any),
  row 0x05 1 "FORCED" .u32 .ro (.num (0)) .integrator false false (.any),
  row 0x06 1 "CALM_ENTRIES" .u64 .ro (.num (0)) .integrator false false (.any),
  row 0x07 1 "MR4" .u8 .ro (.num (0)) .integrator false false (.any),
  row 0x08 1 "TRACK_FLAGS" .u8 .ro (.num (0)) .integrator false false (.any)]⟩

/-- The groups of page 0x17. -/
def page17 : List ObjGroup :=
  [grp1700, grp1701, grp1702, grp1708, grp1720, grp1740, grp1780]

/-- Objects 0x1800. -/
def grp1800 : ObjGroup := ⟨0x1800, 0x1800, 0x1800, false, [
  row 0x01 1 "PACE_MARGIN" .u8 .rw (.num (15)) .integrator false false (.rng (5) (50)),
  row 0x02 1 "QUEUE_COUNT" .u8 .const (.num (76)) .integrator false false (.any),
  row 0x03 1 "CLEAR_COUNTS" .bool .wo (.num 0) .integrator false false (.any),
  row 0x04 1 "REJECTED_WRITES" .u32 .rc (.num (0)) .integrator false false (.any)]⟩

/-- Objects 0x1820. -/
def grp1820 : ObjGroup := ⟨0x1820, 0x1820, 0x182f, false, [
  row 0x00 1 "SEQ" .u32 .ro (.num (0)) .integrator false false (.any),
  row 0x01 1 "T_WIRE" .u32 .ro (.num (0)) .integrator false false (.any),
  row 0x02 1 "T_DRAIN" .u32 .ro (.num (0)) .integrator false false (.any),
  row 0x03 1 "SLACK" .i32 .ro (.num (0)) .integrator false false (.any),
  row 0x04 1 "BUDGET_OK" .bool .ro (.num (0)) .integrator false false (.any),
  row 0x05 1 "DEMAND" .u32 .ro (.num (0)) .integrator false false (.any),
  row 0x06 1 "PACE" .u32 .ro (.num (0)) .integrator false false (.any),
  row 0x07 1 "STALL_TOL" .u32 .ro (.num (0)) .integrator false false (.any)]⟩

/-- Objects 0x1880. -/
def grp1880 : ObjGroup := ⟨0x1880, 0x1880, 0x18cb, false, [
  row 0x00 1 "SEQ" .u32 .ro (.num (0)) .integrator false false (.any),
  row 0x01 1 "CAPACITY" .u32 .const (.num 0) .integrator false false (.any),
  row 0x02 1 "FILL" .u32 .ro (.num (0)) .integrator false false (.any),
  row 0x03 1 "FILL_PEAK" .u32 .ro (.num (0)) .integrator false false (.any),
  row 0x04 1 "COMMITS" .u64 .ro (.num (0)) .integrator false false (.any),
  row 0x05 1 "REWINDS" .u32 .ro (.num (0)) .integrator false false (.any),
  row 0x06 1 "DROPS" .u32 .ro (.num (0)) .integrator false false (.any),
  row 0x07 1 "WAIT_NS" .u64 .ro (.num (0)) .integrator false false (.any),
  row 0x08 1 "PLACE_DROPS" .u32 .ro (.num (0)) .integrator false false (.any),
  row 0x09 1 "SHADOW_SKIPS" .u32 .ro (.num (0)) .integrator false false (.any)]⟩

/-- The groups of page 0x18. -/
def page18 : List ObjGroup :=
  [grp1800, grp1820, grp1880]

/-- Objects 0x1900. -/
def grp1900 : ObjGroup := ⟨0x1900, 0x1900, 0x1900, false, [
  row 0x01 1 "LEVEL_PERIOD" .u32 .rw (.num (1000)) .integrator false false (.rng (10) (1000000)),
  row 0x02 1 "REJECTED_WRITES" .u32 .rc (.num (0)) .integrator false false (.any)]⟩

/-- Objects 0x1910. -/
def grp1910 : ObjGroup := ⟨0x1910, 0x1910, 0x192f, false, [
  row 0x01 1 "PROBE" .u16 .rw (.num (0)) .integrator false false (.any),
  row 0x02 1 "BIN_MODE" .u8 .rw (.num (0)) .integrator false false (.rng (0) (1)),
  row 0x03 1 "BIN_LO" .i32 .rw (.num (0)) .integrator false false (.any),
  row 0x04 1 "BIN_WIDTH" .u32 .rw (.num (1)) .integrator false false (.any),
  row 0x05 1 "WINDOW_MODE" .u8 .rw (.num (1)) .integrator false false (.rng (0) (2)),
  row 0x06 1 "WINDOW_TIME" .u32 .rw (.num (1000000)) .integrator false false (.any),
  row 0x07 1 "WINDOW_COUNT" .u32 .rw (.num (65536)) .integrator false false (.any),
  row 0x08 1 "ACCUMULATE" .bool .rw (.num (0)) .integrator false false (.any),
  row 0x09 1 "PUBLISH" .bool .wo (.num 0) .integrator false false (.any),
  row 0x0a 1 "ALARM_EN" .bool .rw (.num (0)) .integrator false false (.any),
  row 0x0b 1 "ALARM_HI" .i32 .rw (.num (2147483647)) .integrator false false (.any),
  row 0x0c 1 "ALARM_LO" .i32 .rw (.num (-2147483648)) .integrator false false (.any),
  row 0x0d 1 "TEST_FEED" .i32 .wo (.num 0) .integrator false false (.any)]⟩

/-- Objects 0x1930. -/
def grp1930 : ObjGroup := ⟨0x1930, 0x1930, 0x194f, false, [
  row 0x00 1 "SEQ" .u32 .ro (.num (0)) .integrator false false (.any),
  row 0x01 1 "WIN_START" .time .ro (.num (0)) .integrator false false (.any),
  row 0x02 1 "WIN_END" .time .ro (.num (0)) .integrator false false (.any),
  row 0x03 1 "COUNT" .u64 .ro (.num (0)) .integrator false false (.any),
  row 0x04 1 "SUM" .i64 .ro (.num (0)) .integrator false false (.any),
  row 0x05 1 "MIN" .i32 .ro (.num (0)) .integrator false false (.any),
  row 0x06 1 "MAX" .i32 .ro (.num (0)) .integrator false false (.any),
  row 0x07 1 "UNDER" .u32 .ro (.num (0)) .integrator false false (.any),
  row 0x08 1 "OVER" .u32 .ro (.num (0)) .integrator false false (.any),
  row 0x09 1 "HIST" .domain .ro (.fill 256 [0]) .integrator false false (.any),
  row 0x0a 1 "SKIPPED" .u32 .ro (.num (0)) .integrator false false (.any),
  row 0x0b 1 "ALARMS" .u32 .ro (.num (0)) .integrator false false (.any),
  row 0x0c 1 "MFLAGS" .u8 .ro (.num (0)) .integrator false false (.any)]⟩

/-- Objects 0x1950. -/
def grp1950 : ObjGroup := ⟨0x1950, 0x1950, 0x1950, false, [
  row 0x00 1 "SEQ" .u32 .ro (.num (0)) .integrator false false (.any),
  row 0x01 1 "TEMPS" .domain .ro (.fill 32 [0]) .integrator false false (.any),
  row 0x02 1 "TEMP_HOTTEST" .i16 .ro (.num (0)) .integrator false false (.any),
  row 0x03 1 "TEMP_WARNING" .u16 .ro (.num (0)) .integrator false false (.any)]⟩

/-- Objects 0x1951. -/
def grp1951 : ObjGroup := ⟨0x1951, 0x1951, 0x1951, false, [
  row 0x01 1 "TEMP_WARN" .i16 .rw (.num (1840)) .integrator false false (.any),
  row 0x02 1 "TEMP_HYST" .i16 .rw (.num (32)) .integrator false false (.any)]⟩

/-- Objects 0x1960. -/
def grp1960 : ObjGroup := ⟨0x1960, 0x1960, 0x1960, false, [
  row 0x01 1 "ROT_EN" .bool .rw (.num (0)) .integrator false false (.any),
  row 0x02 1 "ROT_INTERVAL" .u32 .rw (.num (60)) .integrator false false (.rng (1) (86400)),
  row 0x03 1 "SHADOW_LINES" .u32 .rw (.num (65536)) .integrator false false (.rng (1024) (16777216)),
  row 0x04 1 "ROT_CMD" .u8 .wo (.num 0) .integrator false false (.rng (1) (2)),
  row 0x05 1 "ROT_STATE" .u8 .ro (.num (0)) .integrator false false (.any),
  row 0x06 1 "ROT_PIPE" .u8 .ro (.num (255)) .integrator false false (.any),
  row 0x07 1 "ROUNDS" .u32 .ro (.num (0)) .integrator false false (.any),
  row 0x08 1 "UNRESOLVED" .u32 .ro (.num (0)) .integrator false false (.any),
  row 0x09 1 "MISMATCH_LOG" .domain .ro (.fill 256 [0]) .integrator false false (.any)]⟩

/-- Objects 0x1970. -/
def grp1970 : ObjGroup := ⟨0x1970, 0x1970, 0x1980, false, [
  row 0x00 1 "SEQ" .u32 .ro (.num (0)) .integrator false false (.any),
  row 0x01 1 "BIST_RESULT" .u8 .ro (.num (0)) .integrator false false (.any),
  row 0x02 1 "LAST_BIST" .time .ro (.num (0)) .integrator false false (.any),
  row 0x03 1 "BIST_RUNS" .u32 .ro (.num (0)) .integrator false false (.any),
  row 0x04 1 "BIST_FAILS" .u32 .ro (.num (0)) .integrator false false (.any),
  row 0x05 1 "LINES_COMPARED" .u64 .ro (.num (0)) .integrator false false (.any),
  row 0x06 1 "MISMATCHES" .u32 .ro (.num (0)) .integrator false false (.any),
  row 0x07 1 "TAKEOVERS" .u32 .ro (.num (0)) .integrator false false (.any)]⟩

/-- The groups of page 0x19. -/
def page19 : List ObjGroup :=
  [grp1900, grp1910, grp1930, grp1950, grp1951, grp1960, grp1970]

/-- Objects 0x1A00. -/
def grp1A00 : ObjGroup := ⟨0x1a00, 0x1a00, 0x1a00, false, [
  row 0x01 1 "TILE_COLS" .u16 .rw (.num (2048)) .integrator false true (.oneOf [512, 1024, 2048, 4096, 8192]),
  row 0x02 1 "REJECTED_WRITES" .u32 .rc (.num (0)) .integrator false false (.any)]⟩

/-- Objects 0x1A01. -/
def grp1A01 : ObjGroup := ⟨0x1a01, 0x1a01, 0x1a01, false, [
  row 0x01 1 "FINE_ENABLE" .bool .rw (.num (1)) .integrator false false (.any),
  row 0x02 1 "FINE_NEAR" .u8 .rw (.num (0)) .integrator true false (.rng (0) (15)),
  row 0x03 1 "FINE_CODING" .u8 .rw (.num (0)) .integrator false true (.rng (0) (1)),
  row 0x04 1 "FINE_BASE" .u64 .rw (.num (0)) .integrator false true (.mult 0 18446744073709551615 4096),
  row 0x05 1 "FINE_SIZE" .u64 .rw (.num (0)) .integrator false true (.mult (0) (18446744073709551615) 4096),
  row 0x06 1 "FINE_INDEX_BASE" .u64 .rw (.num (0)) .integrator false true (.mult 0 18446744073709551615 4096),
  row 0x07 1 "FINE_INDEX_SIZE" .u64 .rw (.num (0)) .integrator false true (.mult (0) (18446744073709551615) 4096),
  row 0x08 1 "FINE_INDEX_PTR" .u64 .ro (.num (0)) .integrator false false (.any)]⟩

/-- Objects 0x1A02. -/
def grp1A02 : ObjGroup := ⟨0x1a02, 0x1a02, 0x1a02, false, [
  row 0x01 1 "COARSE_ENABLE" .bool .rw (.num (1)) .integrator false false (.any),
  row 0x02 1 "COARSE_NEAR" .u8 .rw (.num (3)) .integrator true false (.rng (0) (15)),
  row 0x03 1 "COARSE_CODING" .u8 .ro (.num (0)) .integrator false false (.any),
  row 0x04 1 "COARSE_BASE" .u64 .rw (.num (0)) .integrator false true (.mult 0 18446744073709551615 4096),
  row 0x05 1 "COARSE_SIZE" .u64 .rw (.num (0)) .integrator false true (.mult (0) (18446744073709551615) 4096),
  row 0x06 1 "COARSE_INDEX_BASE" .u64 .rw (.num (0)) .integrator false true (.mult 0 18446744073709551615 4096),
  row 0x07 1 "COARSE_INDEX_SIZE" .u64 .rw (.num (0)) .integrator false true (.mult (0) (18446744073709551615) 4096),
  row 0x08 1 "COARSE_INDEX_PTR" .u64 .ro (.num (0)) .integrator false false (.any),
  row 0x09 1 "COARSE_MD" .u8 .rw (.num (4)) .integrator false true (.oneOf [2, 4]),
  row 0x0a 1 "COARSE_CD" .u8 .rw (.num (4)) .integrator false true (.oneOf [2, 4])]⟩

/-- Objects 0x1A03. -/
def grp1A03 : ObjGroup := ⟨0x1a03, 0x1a03, 0x1a03, false, [
  row 0x01 1 "CROP_BASE" .u64 .rw (.num (0)) .integrator false true (.mult 0 18446744073709551615 4096),
  row 0x02 1 "CROP_SIZE" .u64 .rw (.num (0)) .integrator false true (.mult (1048576) (18446744073709551615) 4096),
  row 0x03 1 "CROP_WRITE_PTR" .u64 .ro (.num (0)) .integrator false false (.any),
  row 0x04 1 "CROP_MD_MARGIN" .u16 .rw (.num (32)) .integrator false false (.any),
  row 0x05 1 "CROP_CD_MARGIN" .u16 .rw (.num (64)) .integrator false false (.any),
  row 0x06 1 "CROP_MAX_LINES" .u16 .rw (.num (1024)) .integrator false false (.rng (64) (16384)),
  row 0x07 1 "CROP_MAX_COLS" .u16 .rw (.num (2048)) .integrator false false (.rng (64) (8192)),
  row 0x08 1 "CROP_NEAR" .u8 .rw (.num (0)) .integrator false false (.rng (0) (15)),
  row 0x09 1 "CROP_WAIT" .u32 .rw (.num (100000)) .integrator false false (.any)]⟩

/-- Objects 0x1A04. -/
def grp1A04 : ObjGroup := ⟨0x1a04, 0x1a04, 0x1a04, false, [
  row 0x01 1 "JOB_RING" .u64 .rw (.num (0)) .integrator false true (.mult 0 18446744073709551615 4096),
  row 0x02 1 "JOB_RING_SIZE" .u32 .rw (.num (0)) .integrator false true (.any),
  row 0x03 1 "JOB_TAIL" .u32 .rw (.num (0)) .integrator false false (.any),
  row 0x04 1 "JOB_HEAD" .u32 .ro (.num (0)) .integrator false false (.any),
  row 0x05 1 "DONE_RING" .u64 .rw (.num (0)) .integrator false true (.any),
  row 0x06 1 "DONE_HEAD" .u32 .ro (.num (0)) .integrator false false (.any)]⟩

/-- Objects 0x1A20. -/
def grp1A20 : ObjGroup := ⟨0x1a20, 0x1a20, 0x1a27, false, [
  row 0x01 1 "VIEW_EN" .bool .rw (.num (0)) .operator false false (.any),
  row 0x02 1 "VIEW_PLANE" .u8 .rw (.num (0)) .operator false false (.rng (0) (3)),
  row 0x03 1 "VIEW_FIRST" .u32 .rw (.num (0)) .operator false false (.any),
  row 0x04 1 "VIEW_COLS" .u32 .rw (.num (0)) .operator false false (.any),
  row 0x05 1 "VIEW_MD" .u8 .rw (.num (4)) .operator false false (.oneOf [1, 2, 4, 8, 16]),
  row 0x06 1 "VIEW_CD" .u8 .rw (.num (4)) .operator false false (.oneOf [1, 2, 4, 8, 16]),
  row 0x07 1 "VIEW_LINES" .u16 .rw (.num (256)) .operator false false (.rng (16) (4096)),
  row 0x08 1 "VIEW_NEAR" .u8 .rw (.num (2)) .operator false false (.rng (0) (15)),
  row 0x09 1 "VIEW_STREAM" .u8 .rw (.num (255)) .operator false false (.orVal 4 15 255),
  row 0x0a 1 "VIEW_RATE_MAX" .u32 .rw (.num (100000)) .operator false false (.any)]⟩

/-- Objects 0x1A40. -/
def grp1A40 : ObjGroup := ⟨0x1a40, 0x1a40, 0x1a40, false, [
  row 0x00 1 "SEQ" .u32 .ro (.num (0)) .integrator false false (.any),
  row 0x01 1 "TILES_WRITTEN" .u64 .ro (.num (0)) .integrator false false (.any),
  row 0x02 1 "TILES_DROPPED" .u32 .ro (.num (0)) .integrator false false (.any),
  row 0x03 1 "RAW_BLOCKS" .u64 .ro (.num (0)) .integrator false false (.any),
  row 0x04 1 "FINE_RATIO" .u16 .ro (.num (0)) .integrator false false (.any),
  row 0x05 1 "FINE_SPAN" .wp .ro (.num (0)) .integrator false false (.any),
  row 0x06 1 "COARSE_SPAN" .wp .ro (.num (0)) .integrator false false (.any),
  row 0x07 1 "CROPS_DONE" .u32 .ro (.num (0)) .integrator false false (.any),
  row 0x08 1 "CROP_OUTCOMES" .domain .ro (.fill 16 [0]) .integrator false false (.any),
  row 0x09 1 "CROP_NOT_OWN" .u32 .ro (.num (0)) .integrator false false (.any),
  row 0x0a 1 "FRAMES_SENT" .domain .ro (.fill 32 [0]) .integrator false false (.any),
  row 0x0b 1 "FRAMES_DROPPED" .domain .ro (.fill 32 [0]) .integrator false false (.any),
  row 0x0c 1 "JOBS_DONE" .u64 .ro (.num (0)) .integrator false false (.any),
  row 0x0d 1 "BAD_HEADERS" .u32 .ro (.num (0)) .integrator false false (.any),
  row 0x0e 1 "LANES_BUSY" .u16 .ro (.num (0)) .integrator false false (.any)]⟩

/-- Objects 0x1A50. -/
def grp1A50 : ObjGroup := ⟨0x1a50, 0x1a50, 0x1a53, false, [
  row 0x00 1 "SEQ" .u32 .ro (.num (0)) .integrator false false (.any),
  row 0x01 1 "VERIFY_FAILS" .u32 .ro (.num (0)) .integrator false false (.any),
  row 0x02 1 "CODED_SAMPLES" .u64 .ro (.num (0)) .integrator false false (.any),
  row 0x03 1 "DECODED_SAMPLES" .u64 .ro (.num (0)) .integrator false false (.any)]⟩

/-- The groups of page 0x1A. -/
def page1A : List ObjGroup :=
  [grp1A00, grp1A01, grp1A02, grp1A03, grp1A04, grp1A20, grp1A40, grp1A50]

/-- Objects 0x1B00. -/
def grp1B00 : ObjGroup := ⟨0x1b00, 0x1b00, 0x1b00, false, [
  row 0x01 1 "RASTER_WIDTH" .u32 .rw (.num (0)) .integrator false true (.rng (1) (524288)),
  row 0x02 1 "DEV_COL_OFFSET" .u32 .rw (.num (0)) .integrator false true (.any),
  row 0x03 1 "RASTER_PLANES" .u8 .rw (.num (1)) .integrator false true (.rng (0) (15)),
  row 0x04 1 "COL_PITCH_NM" .f64 .rw (.num 4672601161629433856) .integrator false false (.any),
  row 0x05 1 "SEAM_MODE" .u8 .rw (.num (1)) .integrator true false (.rng (0) (1)),
  row 0x06 1 "RAMP_WIDTH" .u16 .rw (.num (32)) .integrator false true (.mult (2) (256) 2),
  row 0x07 1 "HALO" .u8 .rw (.num (16)) .integrator false true (.rng (1) (128)),
  row 0x08 1 "STITCH_STATUS" .u8 .w1c (.num (0)) .integrator false false (.any),
  row 0x09 1 "REJECTED_WRITES" .u32 .rc (.num (0)) .integrator false false (.any)]⟩

/-- Objects 0x1B02. -/
def grp1B02 : ObjGroup := ⟨0x1b02, 0x1b02, 0x1b02, false, [
  row 0x01 1 "CD_COEF_SWAP" .u8 .wo (.num 0) .integrator true false (.rng (1) (2)),
  row 0x02 1 "CD_COEF_STATUS" .u8 .ro (.num (0)) .integrator false false (.any),
  row 0x03 1 "CD_COEF_BAD_PHASE" .u16 .ro (.num (0)) .integrator false false (.any),
  row 0x04 1 "CD_COEF_COPY" .bool .wo (.num 0) .integrator false false (.any),
  row 0x05 1 "CD_COEF_CRC_ACTIVE" .u32 .ro (.num 0) .integrator false false (.any),
  row 0x06 1 "CD_COEF_CRC_LOAD" .u32 .ro (.num 0) .integrator false false (.any)]⟩

/-- Objects 0x1B03. -/
def grp1B03 : ObjGroup := ⟨0x1b03, 0x1b03, 0x1b03, false, [
  row 0x01 1 "CD_COEF_LOAD" .domain .rw (.factory 8192) .integrator false false (.any)]⟩

/-- Objects 0x1B04. -/
def grp1B04 : ObjGroup := ⟨0x1b04, 0x1b04, 0x1b04, false, [
  row 0x01 1 "CD_COEF_ACTIVE" .domain .ro (.factory 8192) .integrator false false (.any)]⟩

/-- Objects 0x1B06. -/
def grp1B06 : ObjGroup := ⟨0x1b06, 0x1b06, 0x1b06, false, [
  row 0x00 1 "SEQ" .u32 .ro (.num (0)) .integrator false false (.any),
  row 0x01 1 "LAST_GRID_WP" .wp .ro (.num (0)) .integrator false false (.any),
  row 0x02 1 "RASTER_LINES" .u64 .ro (.num (0)) .integrator false false (.any),
  row 0x03 1 "PART_GAP_LINES" .u64 .ro (.num (0)) .integrator false false (.any),
  row 0x04 1 "FALLBACK_COLUMNS" .u64 .ro (.num (0)) .integrator false false (.any)]⟩

/-- Objects 0x1B08. -/
def grp1B08 : ObjGroup := ⟨0x1b08, 0x1b08, 0x1b08, false, [
  row 0x01 1 "TAP_EN" .bool .rw (.num (0)) .integrator false false (.any),
  row 0x02 1 "DEST" .u8 .rw (.num (0)) .integrator false false (.rng (0) (1)),
  row 0x03 1 "RING_BASE" .u64 .rw (.num (0)) .integrator false false (.any),
  row 0x04 1 "RING_SIZE" .u64 .rw (.num (0)) .integrator false false (.any),
  row 0x05 1 "TAP_MODE" .u8 .rw (.num (0)) .integrator false false (.rng (0) (1)),
  row 0x06 1 "LINE_DECIM" .u16 .rw (.num (1)) .integrator false false (.rng (1) (65535)),
  row 0x07 1 "COL_FIRST" .u32 .rw (.num (0)) .integrator false false (.any),
  row 0x08 1 "COL_COUNT" .u32 .rw (.num (0)) .integrator false false (.any),
  row 0x09 1 "VC_SELECT" .u8 .rw (.num (1)) .integrator false false (.rng (0) (3)),
  row 0x0a 1 "WRITE_PTR" .u64 .ro (.num (0)) .integrator false false (.any),
  row 0x0b 1 "READ_PTR" .u64 .rw (.num (0)) .integrator false false (.any),
  row 0x0c 1 "LINES_WRITTEN" .u64 .ro (.num (0)) .integrator false false (.any),
  row 0x0d 1 "TAP_DROPS" .u32 .rc (.num (0)) .integrator false false (.any),
  row 0x0e 1 "ARM" .bool .wo (.num 0) .integrator false false (.any)]⟩

/-- Objects 0x1B10. -/
def grp1B10 : ObjGroup := ⟨0x1b10, 0x1b10, 0x1b10, false, [
  row 0x01 1 "SIDE_ENABLE" .u8 .rw (.num (0)) .integrator false true (.rng (0) (3)),
  row 0x02 1 "EXCHANGE_LANES" .u8 .rw (.num (2)) .integrator false true (.oneOf [1, 2, 4, 8]),
  row 0x03 1 "CASC_LANE_RATE" .u8 .rw (.num (2)) .integrator false true (.rng (0) (2)),
  row 0x04 1 "NB_WAIT" .u32 .rw (.num (32000)) .integrator false false (.rng (1600) (32000)),
  row 0x05 1 "NB_LOST_LINES" .u16 .rw (.num (16)) .integrator false false (.rng (1) (4096)),
  row 0x06 1 "POS_TOL" .wp .rw (.num (65536)) .integrator false false (.any),
  row 0x07 1 "TAP_SIDE" .u8 .rw (.num (1)) .integrator false false (.rng (0) (1))]⟩

/-- Objects 0x1B12. -/
def grp1B12 : ObjGroup := ⟨0x1b12, 0x1b12, 0x1b13, false, [
  row 0x00 1 "SEQ" .u32 .ro (.num (0)) .integrator false false (.any),
  row 0x01 1 "NB_STATE" .u8 .ro (.num (0)) .integrator false false (.any),
  row 0x02 1 "NB_DEVICE" .u16 .ro (.num (0)) .integrator false false (.any),
  row 0x03 1 "MISMATCH_CAUSE" .u8 .ro (.num (0)) .integrator false false (.any),
  row 0x04 1 "POS_DIFF" .wp .ro (.num (0)) .integrator false false (.any),
  row 0x05 1 "NB_USED" .u64 .ro (.num (0)) .integrator false false (.any),
  row 0x06 1 "NB_MISSING" .u32 .ro (.num (0)) .integrator false false (.any),
  row 0x07 1 "NB_LATE" .u32 .ro (.num (0)) .integrator false false (.any),
  row 0x08 1 "NB_AHEAD" .u32 .ro (.num (0)) .integrator false false (.any),
  row 0x09 1 "LOST_PACKETS" .domain .ro (.fill 20 [0]) .integrator false false (.any),
  row 0x0a 1 "MALFORMED" .u32 .ro (.num (0)) .integrator false false (.any)]⟩

/-- Objects 0x1B20. -/
def grp1B20 : ObjGroup := ⟨0x1b20, 0x1b20, 0x1b2f, false, [
  row 0x01 1 "TX_PRE" .u8 .rw (.num (0)) .integrator false false (.rng (0) (15)),
  row 0x02 1 "TX_MAIN" .u8 .rw (.num (48)) .integrator false false (.rng (0) (63)),
  row 0x03 1 "TX_POST" .u8 .rw (.num (0)) .integrator false false (.rng (0) (31)),
  row 0x04 1 "REMOTE_TX_TRAIN" .bool .rw (.num (1)) .integrator false false (.any),
  row 0x05 1 "TRAIN_CMD" .u8 .wo (.num 0) .integrator false false (.rng (1) (2)),
  row 0x06 1 "RX_POLARITY" .bool .rw (.num (0)) .integrator false true (.any),
  row 0x07 1 "TX_POLARITY" .bool .rw (.num (0)) .integrator false true (.any),
  row 0x08 1 "CLEAR_COUNTS" .bool .wo (.num 0) .integrator false false (.any)]⟩

/-- Objects 0x1B30. -/
def grp1B30 : ObjGroup := ⟨0x1b30, 0x1b30, 0x1b3f, false, [
  row 0x00 1 "SEQ" .u32 .ro (.num (0)) .integrator false false (.any),
  row 0x01 1 "LINK_STATE" .u8 .ro (.num (0)) .integrator false false (.any),
  row 0x02 1 "FLAGS" .u16 .ro (.num (0)) .integrator false false (.any),
  row 0x03 1 "LOCK_LOSSES" .u32 .ro (.num (0)) .integrator false false (.any),
  row 0x04 1 "BIP_ERRORS" .u32 .ro (.num (0)) .integrator false false (.any),
  row 0x05 1 "BAD_CONTROL" .u32 .ro (.num (0)) .integrator false false (.any),
  row 0x06 1 "EYE_MARGIN" .u16 .ro (.num (0)) .integrator false false (.any),
  row 0x07 1 "CAM_TAPS" .u16 .ro (.num (0)) .integrator false false (.any),
  row 0x08 1 "TRAIN_STEPS" .u16 .ro (.num (0)) .integrator false false (.any),
  row 0x09 1 "TRAIN_TIME" .u32 .ro (.num (0)) .integrator false false (.any),
  row 0x0a 1 "TRAIN_TIMEOUTS" .u32 .ro (.num (0)) .integrator false false (.any),
  row 0x0b 1 "CHK_STATE" .u8 .ro (.num (0)) .integrator false false (.any),
  row 0x0c 1 "CHK_BITS" .u64 .ro (.num (0)) .integrator false false (.any),
  row 0x0d 1 "CHK_ERRORS" .u64 .ro (.num (0)) .integrator false false (.any),
  row 0x0e 1 "CHK_RELOCKS" .u32 .ro (.num (0)) .integrator false false (.any)]⟩

/-- Objects 0x1B40. -/
def grp1B40 : ObjGroup := ⟨0x1b40, 0x1b40, 0x1b4f, false, [
  row 0x01 1 "LOOP" .u8 .rw (.num (0)) .service false false (.rng (0) (3)),
  row 0x02 1 "PATTERN" .u8 .rw (.num (4)) .service false false (.rng (0) (5)),
  row 0x03 1 "USER_PATTERN" .u64 .rw (.num (1085102596360827120)) .service false false (.any),
  row 0x04 1 "GEN_EN" .bool .rw (.num (0)) .service false false (.any),
  row 0x05 1 "CHK_EN" .bool .rw (.num (0)) .service false false (.any),
  row 0x06 1 "INJECT" .u8 .wo (.num 0) .service false false (.rng (1) (3)),
  row 0x07 1 "INJ_LEN" .u8 .rw (.num (1)) .service false false (.rng (1) (64)),
  row 0x08 1 "FAR_END_LAT" .u16 .const (.num (96)) .service false false (.any)]⟩

/-- The groups of page 0x1B. -/
def page1B : List ObjGroup :=
  [grp1B00, grp1B02, grp1B03, grp1B04, grp1B06, grp1B08, grp1B10, grp1B12, grp1B20, grp1B30, grp1B40]

/-- Objects 0x2000. -/
def grp2000 : ObjGroup := ⟨0x2000, 0x2000, 0x2000, false, [
  row 0x01 1 "LANE_RATE" .u8 .rw (.num (2)) .integrator false true (.rng (0) (2)),
  row 0x02 1 "LANE_COUNT" .u8 .rw (.num (8)) .integrator false true (.oneOf [1, 2, 4, 8]),
  row 0x03 1 "AUTO_DEGRADE" .bool .rw (.num (0)) .integrator false false (.any),
  row 0x04 1 "TRAIN_TARGET" .u8 .rw (.num (64)) .integrator false false (.any),
  row 0x05 1 "EYE_MIN" .u8 .rw (.num (32)) .integrator false false (.any),
  row 0x06 1 "MAX_SKEW" .u8 .const (.num (48)) .integrator false false (.any),
  row 0x07 1 "REJECTED_WRITES" .u32 .rc (.num (0)) .integrator false false (.any)]⟩

/-- Objects 0x2001. -/
def grp2001 : ObjGroup := ⟨0x2001, 0x2001, 0x2001, false, [
  row 0x00 1 "SEQ" .u32 .ro (.num (0)) .integrator false false (.any),
  row 0x01 1 "PORT_LINK" .u8 .ro (.num (0)) .integrator false false (.any),
  row 0x02 1 "ACTIVE_MASK" .u8 .ro (.num (0)) .integrator false false (.any),
  row 0x03 1 "ALIGN_SEQ" .u8 .ro (.num (0)) .integrator false false (.any),
  row 0x04 1 "SKEW_BLOCKS" .u8 .ro (.num (0)) .integrator false false (.any),
  row 0x05 1 "DESKEW_LOSSES" .u32 .ro (.num (0)) .integrator false false (.any),
  row 0x06 1 "MAP_CHANGES" .u32 .ro (.num (0)) .integrator false false (.any),
  row 0x07 1 "PAYLOAD_CAPACITY" .u32 .ro (.num (0)) .integrator false false (.any)]⟩

/-- Objects 0x2002. -/
def grp2002 : ObjGroup := ⟨0x2002, 0x2002, 0x2002, false, [
  row 0x01 1 "MAP_REQUEST" .u8 .wo (.num 0) .integrator false false (.any),
  row 0x02 1 "MAP_STATUS" .u8 .ro (.num (0)) .integrator false false (.any),
  row 0x03 1 "MAP_SWITCH_SEQ" .u8 .ro (.num (0)) .integrator false false (.any),
  row 0x04 1 "MAP_SWITCH_TIME" .time .ro (.num (0)) .integrator false false (.any)]⟩

/-- Objects 0x2008. -/
def grp2008 : ObjGroup := ⟨0x2008, 0x2008, 0x200f, false, [
  row 0x01 1 "TX_PRE" .u8 .rw (.num (0)) .integrator false false (.rng (0) (15)),
  row 0x02 1 "TX_MAIN" .u8 .rw (.num (48)) .integrator false false (.rng (0) (63)),
  row 0x03 1 "TX_POST" .u8 .rw (.num (0)) .integrator false false (.rng (0) (31)),
  row 0x04 1 "REMOTE_TX_TRAIN" .bool .rw (.num (0)) .integrator false false (.any),
  row 0x05 1 "TRAIN_CMD" .u8 .wo (.num 0) .integrator false false (.rng (1) (2)),
  row 0x06 1 "RX_POLARITY" .bool .rw (.num (0)) .integrator false true (.any),
  row 0x07 1 "TX_POLARITY" .bool .rw (.num (0)) .integrator false true (.any),
  row 0x08 1 "CLEAR_COUNTS" .bool .wo (.num 0) .integrator false false (.any)]⟩

/-- Objects 0x2010. -/
def grp2010 : ObjGroup := ⟨0x2010, 0x2010, 0x2017, false, [
  row 0x00 1 "SEQ" .u32 .ro (.num (0)) .integrator false false (.any),
  row 0x01 1 "LINK_STATE" .u8 .ro (.num (0)) .integrator false false (.any),
  row 0x02 1 "FLAGS" .u16 .ro (.num (0)) .integrator false false (.any),
  row 0x03 1 "LOCK_LOSSES" .u32 .ro (.num (0)) .integrator false false (.any),
  row 0x04 1 "BIP_ERRORS" .u32 .ro (.num (0)) .integrator false false (.any),
  row 0x05 1 "BAD_CONTROL" .u32 .ro (.num (0)) .integrator false false (.any),
  row 0x06 1 "EYE_MARGIN" .u16 .ro (.num (0)) .integrator false false (.any),
  row 0x07 1 "CAM_TAPS" .u16 .ro (.num (0)) .integrator false false (.any),
  row 0x08 1 "TRAIN_STEPS" .u16 .ro (.num (0)) .integrator false false (.any),
  row 0x09 1 "TRAIN_TIME" .u32 .ro (.num (0)) .integrator false false (.any),
  row 0x0a 1 "TRAIN_TIMEOUTS" .u32 .ro (.num (0)) .integrator false false (.any),
  row 0x0b 1 "CHK_STATE" .u8 .ro (.num (0)) .integrator false false (.any),
  row 0x0c 1 "CHK_BITS" .u64 .ro (.num (0)) .integrator false false (.any),
  row 0x0d 1 "CHK_ERRORS" .u64 .ro (.num (0)) .integrator false false (.any),
  row 0x0e 1 "CHK_RELOCKS" .u32 .ro (.num (0)) .integrator false false (.any)]⟩

/-- Objects 0x2018. -/
def grp2018 : ObjGroup := ⟨0x2018, 0x2018, 0x201f, false, [
  row 0x01 1 "LOOP" .u8 .rw (.num (0)) .service false false (.rng (0) (3)),
  row 0x02 1 "PATTERN" .u8 .rw (.num (4)) .service false false (.rng (0) (5)),
  row 0x03 1 "USER_PATTERN" .u64 .rw (.num (1085102596360827120)) .service false false (.any),
  row 0x04 1 "GEN_EN" .bool .rw (.num (0)) .service false false (.any),
  row 0x05 1 "CHK_EN" .bool .rw (.num (0)) .service false false (.any),
  row 0x06 1 "INJECT" .u8 .wo (.num 0) .service false false (.rng (1) (3)),
  row 0x07 1 "INJ_LEN" .u8 .rw (.num (1)) .service false false (.rng (1) (64)),
  row 0x08 1 "FAR_END_LAT" .u16 .const (.num (96)) .service false false (.any)]⟩

/-- Objects 0x2020. -/
def grp2020 : ObjGroup := ⟨0x2020, 0x2020, 0x2020, false, [
  row 0x01 1 "LINE_PIXELS" .u16 .rw (.num (16384)) .integrator false true (.rng (1) (32768)),
  row 0x02 1 "FORMAT" .u8 .rw (.num (2)) .integrator false true (.rng (0) (4)),
  row 0x03 1 "PIPE_VC" .u8 .rw (.num (0)) .integrator false true (.rng (0) (1)),
  row 0x04 1 "PIPE_PLANES" .u8 .rw (.num (1)) .integrator false true (.rng (0) (15)),
  row 0x05 1 "TRIG_MODE" .u8 .rw (.num (0)) .integrator false true (.rng (0) (1)),
  row 0x06 1 "STRIP_LEN" .u16 .rw (.num (1024)) .integrator false false (.rng (256) (16384)),
  row 0x07 1 "BEACON_EN" .bool .rw (.num (1)) .integrator false false (.any),
  row 0x08 1 "DELAY_INTERVAL" .u32 .rw (.num (100000)) .integrator false false (.rng (1000) (10000000)),
  row 0x09 1 "DELAY_TOL" .u32 .rw (.num (160)) .integrator false false (.any),
  row 0x0a 1 "RX_LAT" .u32 .const (.num 0) .integrator false false (.any),
  row 0x0b 1 "CLEAR_COUNTS" .bool .wo (.num 0) .integrator false false (.any),
  row 0x0c 1 "REJECTED_WRITES" .u32 .rc (.num (0)) .integrator false false (.any)]⟩

/-- Objects 0x2021. -/
def grp2021 : ObjGroup := ⟨0x2021, 0x2021, 0x2021, false, [
  row 0x00 1 "SEQ" .u32 .ro (.num (0)) .integrator false false (.any),
  row 0x01 1 "CAMERA_STATE" .u8 .ro (.num (0)) .integrator false false (.any),
  row 0x02 1 "LINK_DELAY" .u32 .ro (.num (0)) .integrator false false (.any),
  row 0x03 1 "LAST_TURNAROUND" .u32 .ro (.num (0)) .integrator false false (.any),
  row 0x04 1 "DELAY_JUMPS" .u32 .ro (.num (0)) .integrator false false (.any),
  row 0x05 1 "DELAY_LOST" .u32 .ro (.num (0)) .integrator false false (.any),
  row 0x06 1 "CAM_VERSION" .u32 .ro (.num (0)) .integrator false false (.any),
  row 0x07 1 "ACTIVE_SETTINGS" .u16 .ro (.num (0)) .integrator false false (.any),
  row 0x08 1 "LAST_BEACON_ID" .u16 .ro (.num (0)) .integrator false false (.any),
  row 0x09 1 "LAST_BEACON_TIME" .time .ro (.num (0)) .integrator false false (.any)]⟩

/-- Objects 0x2022. -/
def grp2022 : ObjGroup := ⟨0x2022, 0x2022, 0x2022, false, [
  row 0x00 1 "SEQ" .u32 .ro (.num (0)) .integrator false false (.any),
  row 0x01 1 "LINES_COMMITTED" .u64 .ro (.num (0)) .integrator false false (.any),
  row 0x02 1 "LINES_MISSING" .u64 .ro (.num (0)) .integrator false false (.any),
  row 0x03 1 "HDR_CRC" .u32 .ro (.num (0)) .integrator false false (.any),
  row 0x04 1 "PAY_CRC" .u32 .ro (.num (0)) .integrator false false (.any),
  row 0x05 1 "LENGTH_ERR" .u32 .ro (.num (0)) .integrator false false (.any),
  row 0x06 1 "MALFORMED" .u32 .ro (.num (0)) .integrator false false (.any),
  row 0x07 1 "SIZE" .u32 .ro (.num (0)) .integrator false false (.any),
  row 0x08 1 "OUT_OF_ORDER" .u32 .ro (.num (0)) .integrator false false (.any),
  row 0x09 1 "UNMATCHED" .u32 .ro (.num (0)) .integrator false false (.any),
  row 0x0a 1 "UNKNOWN_SETTINGS" .u32 .ro (.num (0)) .integrator false false (.any),
  row 0x0b 1 "CAM_FAULT" .u32 .ro (.num (0)) .integrator false false (.any),
  row 0x0c 1 "NO_CREDIT" .u32 .ro (.num (0)) .integrator false false (.any),
  row 0x0d 1 "UNSELECTED" .u32 .ro (.num (0)) .integrator false false (.any),
  row 0x0e 1 "BAD_BLOCK" .u32 .ro (.num (0)) .integrator false false (.any),
  row 0x0f 1 "STRIP_ERRORS" .u32 .ro (.num (0)) .integrator false false (.any),
  row 0x10 1 "NO_PIPELINE" .u32 .ro (.num (0)) .integrator false false (.any)]⟩

/-- Objects 0x2023. -/
def grp2023 : ObjGroup := ⟨0x2023, 0x2023, 0x2023, false, [
  row 0x01 1 "DROP_LOG" .domain .ro (.fill 256 [0]) .integrator false false (.any)]⟩

/-- Objects 0x2024. -/
def grp2024 : ObjGroup := ⟨0x2024, 0x2024, 0x2024, false, [
  row 0x01 1 "CMD_REQUEST" .domain .wo (.blob []) .integrator false false (.any),
  row 0x02 1 "CMD_STATUS" .u8 .ro (.num (0)) .integrator false false (.any),
  row 0x03 1 "CMD_RESPONSE" .domain .ro (.blob []) .integrator false false (.any),
  row 0x04 1 "CMD_TIMEOUT" .u32 .rw (.num (10000)) .integrator false false (.any)]⟩

/-- Objects 0x2025. -/
def grp2025 : ObjGroup := ⟨0x2025, 0x2025, 0x2025, false, [
  row 0x01 1 "SETTINGS_TABLE" .domain .ro (.fill 256 [0]) .integrator false false (.any)]⟩

/-- Objects 0x2026. -/
def grp2026 : ObjGroup := ⟨0x2026, 0x2026, 0x2026, false, [
  row 0x00 1 "SEQ" .u32 .ro (.num (0)) .integrator false false (.any),
  row 0x01 1 "FIRST_LINE" .u32 .ro (.num (0)) .integrator false false (.any),
  row 0x02 1 "LINES_SPANNED" .u16 .ro (.num (0)) .integrator false false (.any),
  row 0x03 1 "LINES_COMMITTED" .u16 .ro (.num (0)) .integrator false false (.any),
  row 0x04 1 "SETTINGS_ID" .u16 .ro (.num (0)) .integrator false false (.any),
  row 0x05 1 "STRIP_FLAGS" .u8 .ro (.num (0)) .integrator false false (.any),
  row 0x06 1 "FIRST_ARRIVAL" .time .ro (.num (0)) .integrator false false (.any),
  row 0x07 1 "LAST_ARRIVAL" .time .ro (.num (0)) .integrator false false (.any)]⟩

/-- Objects 0x2040. -/
def grp2040 : ObjGroup := ⟨0x2040, 0x2040, 0x2040, false, [
  row 0x01 1 "OUT_BITS" .u8 .rw (.num (12)) .integrator false true (.oneOf [12, 16]),
  row 0x02 1 "OUT_PLANES" .u8 .rw (.num (1)) .integrator false true (.rng (0) (15)),
  row 0x03 1 "GLOBAL_GAIN" .u16 .rw (.num (4096)) .integrator true false (.any),
  row 0x04 1 "PEDESTAL" .u16 .rw (.num (0)) .integrator true false (.any),
  row 0x05 1 "SAT_LEVEL" .u16 .rw (.num (65535)) .integrator false false (.any),
  row 0x06 1 "VALID_SRC" .u8 .rw (.num (15)) .integrator false false (.rng (0) (15)),
  row 0x07 1 "MASK_MERGE_GAP" .u8 .rw (.num (4)) .integrator false false (.rng (0) (255)),
  row 0x08 1 "REJECTED_WRITES" .u32 .rc (.num (0)) .integrator false false (.any)]⟩

/-- Objects 0x2041. -/
def grp2041 : ObjGroup := ⟨0x2041, 0x2041, 0x2041, false, [
  row 0x01 8 "COL_MASK0 to 7" .u32 .rw (.num (4294901760)) .integrator true false (.any)]⟩

/-- Objects 0x2042. -/
def grp2042 : ObjGroup := ⟨0x2042, 0x2042, 0x2042, false, [
  row 0x01 1 "ACTIVE_BANK" .u8 .ro (.num (0)) .integrator false false (.any),
  row 0x02 1 "SWAP_REQUEST" .u8 .wo (.num 0) .integrator true false (.rng (1) (4)),
  row 0x03 1 "SWAP_LINE" .u32 .rw (.num (0)) .integrator false false (.any),
  row 0x04 1 "SWAP_STATUS" .u8 .ro (.num (0)) .integrator false false (.any),
  row 0x05 1 "SWAP_DONE_LINE" .u32 .ro (.num (0)) .integrator false false (.any),
  row 0x06 1 "SWAP_DONE_TIME" .time .ro (.num (0)) .integrator false false (.any),
  row 0x07 1 "BANK_COPY" .bool .wo (.num 0) .integrator false false (.any),
  row 0x08 1 "BANK_CRC_0" .u32 .ro (.num 0) .integrator false false (.any),
  row 0x09 1 "BANK_CRC_1" .u32 .ro (.num 0) .integrator false false (.any),
  row 0x0a 1 "SWAP_COUNT" .u32 .ro (.num (0)) .integrator false false (.any)]⟩

/-- Objects 0x2044. -/
def grp2044 : ObjGroup := ⟨0x2044, 0x2044, 0x2045, false, [
  row 0x01 1 "LUT_EN" .bool .rw (.num (0)) .integrator false false (.any),
  row 0x02 1 "MATRIX_EN" .bool .rw (.num (0)) .integrator false false (.any),
  row 0x03 1 "MATRIX" .domain .rw (.blob [0, 16, 0, 0, 0, 0, 0, 0, 0, 0, 0, 16, 0, 0, 0, 0, 0, 0, 0, 0, 0, 16, 0, 0, 0, 0, 0, 0, 0, 0, 0, 16, 0, 0, 0, 0, 0, 0, 0, 0]) .integrator false false (.any),
  row 0x04 1 "DEAD_MAP" .domain .rw (.fill 32768 [0]) .integrator false false (.any),
  row 0x05 1 "DARK" .domain .rw (.fill 262144 [0]) .integrator false false (.any),
  row 0x06 1 "GAIN" .domain .rw (.fill 262144 [0, 64]) .integrator false false (.any),
  row 0x07 1 "LUT" .domain .rw (.ramp 4097 16 4) .integrator false false (.any)]⟩

/-- Objects 0x2048. -/
def grp2048 : ObjGroup := ⟨0x2048, 0x2048, 0x2048, false, [
  row 0x01 1 "STAT_POINT" .u8 .rw (.num (1)) .integrator false false (.rng (0) (2)),
  row 0x02 1 "ZONES" .u8 .rw (.num (64)) .integrator false false (.rng (1) (64)),
  row 0x03 1 "STAT_EXCLUDE_TARGET" .bool .rw (.num (1)) .integrator false false (.any),
  row 0x04 1 "LINE_SIGNALS_EN" .bool .rw (.num (1)) .integrator false false (.any)]⟩

/-- Objects 0x2049. -/
def grp2049 : ObjGroup := ⟨0x2049, 0x2049, 0x2049, false, [
  row 0x00 1 "SEQ" .u32 .ro (.num (0)) .integrator false false (.any),
  row 0x01 1 "FIRST_LINE" .u32 .ro (.num (0)) .integrator false false (.any),
  row 0x02 1 "SETTINGS_ID" .u16 .ro (.num (0)) .integrator false false (.any),
  row 0x03 1 "BANK" .u8 .ro (.num (0)) .integrator false false (.any),
  row 0x04 1 "STRIP_FLAGS" .u8 .ro (.num (0)) .integrator false false (.any),
  row 0x05 1 "LINES_USED" .u16 .ro (.num (0)) .integrator false false (.any),
  row 0x06 1 "VALID_PIXELS" .u64 .ro (.num (0)) .integrator false false (.any),
  row 0x07 1 "SAT_PIXELS" .u64 .ro (.num (0)) .integrator false false (.any),
  row 0x08 1 "CLIP_LOW" .u64 .ro (.num (0)) .integrator false false (.any),
  row 0x09 1 "CLIP_HIGH" .u64 .ro (.num (0)) .integrator false false (.any),
  row 0x0a 1 "HISTOGRAM" .domain .ro (.fill 4096 [0]) .integrator false false (.any),
  row 0x0b 1 "ZONE_SUMS" .domain .ro (.fill 2048 [0]) .integrator false false (.any),
  row 0x0c 1 "ZONE_COUNTS" .domain .ro (.fill 1024 [0]) .integrator false false (.any)]⟩

/-- Objects 0x2050. -/
def grp2050 : ObjGroup := ⟨0x2050, 0x2050, 0x2051, false, [
  row 0x01 1 "TAP_EN" .bool .rw (.num (0)) .integrator false false (.any),
  row 0x02 1 "DEST" .u8 .rw (.num (0)) .integrator false false (.rng (0) (1)),
  row 0x03 1 "RING_BASE" .u64 .rw (.num (0)) .integrator false false (.any),
  row 0x04 1 "RING_SIZE" .u64 .rw (.num (0)) .integrator false false (.any),
  row 0x05 1 "TAP_MODE" .u8 .rw (.num (0)) .integrator false false (.rng (0) (1)),
  row 0x06 1 "LINE_DECIM" .u16 .rw (.num (1)) .integrator false false (.rng (1) (65535)),
  row 0x07 1 "COL_FIRST" .u16 .rw (.num (0)) .integrator false false (.any),
  row 0x08 1 "COL_COUNT" .u16 .rw (.num (0)) .integrator false false (.any),
  row 0x09 1 "VC_SELECT" .u8 .rw (.num (1)) .integrator false false (.rng (0) (3)),
  row 0x0a 1 "WRITE_PTR" .u64 .ro (.num (0)) .integrator false false (.any),
  row 0x0b 1 "READ_PTR" .u64 .rw (.num (0)) .integrator false false (.any),
  row 0x0c 1 "LINES_WRITTEN" .u64 .ro (.num (0)) .integrator false false (.any),
  row 0x0d 1 "TAP_DROPS" .u32 .rc (.num (0)) .integrator false false (.any),
  row 0x0e 1 "ARM" .bool .wo (.num 0) .integrator false false (.any)]⟩

/-- Objects 0x2080. -/
def grp2080 : ObjGroup := ⟨0x2080, 0x2080, 0x2080, false, [
  row 0x01 1 "JOB_START" .u8 .wo (.num 0) .integrator false false (.rng (1) (6)),
  row 0x02 1 "JOB_LULLS" .u8 .rw (.num (0)) .integrator false false (.rng (0) (15)),
  row 0x03 1 "ACC_LOG2" .u8 .rw (.num (8)) .integrator false false (.rng (4) (12)),
  row 0x04 1 "ACQ_TIMEOUT" .u32 .rw (.num (3600)) .integrator false false (.any),
  row 0x05 1 "APPLY_AT" .u8 .rw (.num (2)) .integrator false false (.rng (1) (2)),
  row 0x06 1 "AUTO_COMMIT" .bool .rw (.num (1)) .integrator false false (.any),
  row 0x07 1 "COMMIT" .bool .wo (.num 0) .integrator false false (.any),
  row 0x08 1 "JOB_ABORT" .bool .wo (.num 0) .integrator false false (.any),
  row 0x09 1 "CAL_START_KIND" .u8 .rw (.num (1)) .integrator false false (.rng (1) (6)),
  row 0x0a 1 "GAIN_LEVEL" .u16 .rw (.num (49152)) .integrator false false (.any),
  row 0x0b 1 "GAIN_FROM_WEB" .bool .rw (.num (0)) .integrator false false (.any),
  row 0x0c 1 "DEAD_CODE" .u8 .rw (.num (1)) .integrator false false (.rng (1) (3)),
  row 0x0d 1 "DEAD_STICKY" .bool .rw (.num (1)) .integrator false false (.any),
  row 0x0e 1 "DEAD_RESET" .bool .wo (.num 0) .integrator false false (.any)]⟩

/-- Objects 0x2082. -/
def grp2082 : ObjGroup := ⟨0x2082, 0x2082, 0x2082, false, [
  row 0x01 1 "DARK_MIN" .u16 .rw (.num (0)) .integrator false false (.any),
  row 0x02 1 "DARK_MAX" .u16 .rw (.num (4096)) .integrator false false (.any),
  row 0x03 1 "GAIN_MIN" .u16 .rw (.num (8192)) .integrator false false (.any),
  row 0x04 1 "GAIN_MAX" .u16 .rw (.num (32768)) .integrator false false (.any),
  row 0x05 1 "CHANGE_MAX_DARK" .u16 .rw (.num (512)) .integrator false false (.any),
  row 0x06 1 "CHANGE_MAX_GAIN" .u16 .rw (.num (1024)) .integrator false false (.any),
  row 0x07 1 "DEAD_MAX" .u16 .rw (.num (64)) .integrator false false (.any),
  row 0x08 1 "DEAD_DARK_DEV" .u16 .rw (.num (1024)) .integrator false false (.any),
  row 0x09 1 "DEAD_RESP_DEV" .u8 .rw (.num (20)) .integrator false false (.any),
  row 0x0a 1 "GEO_RMS_MAX" .u16 .rw (.num (100)) .integrator false false (.any),
  row 0x0b 1 "GEO_MAX_LIMIT" .u16 .rw (.num (300)) .integrator false false (.any),
  row 0x0c 1 "GEO_SHIFT_MAX" .u16 .rw (.num (4000)) .integrator false false (.any),
  row 0x0d 1 "COLOUR_RES_MAX" .u16 .rw (.num (512)) .integrator false false (.any),
  row 0x0e 1 "DELAY_STEP_MAX" .u32 .rw (.num (8000)) .integrator false false (.any)]⟩

/-- Objects 0x2083. -/
def grp2083 : ObjGroup := ⟨0x2083, 0x2083, 0x2083, false, [
  row 0x00 1 "SEQ" .u32 .ro (.num (0)) .integrator false false (.any),
  row 0x01 1 "JOB_STATE" .u8 .ro (.num (0)) .integrator false false (.any),
  row 0x02 1 "JOB_KIND" .u8 .ro (.num (0)) .integrator false false (.any),
  row 0x03 1 "LINES_ACC" .u32 .ro (.num (0)) .integrator false false (.any),
  row 0x04 1 "LAST_OUTCOME" .u8 .ro (.num (0)) .integrator false false (.any),
  row 0x05 1 "FAILED_CHECK" .u8 .ro (.num (0)) .integrator false false (.any),
  row 0x06 1 "GEO_RMS" .f32 .ro (.num 0) .integrator false false (.any),
  row 0x07 1 "GEO_MAX" .f32 .ro (.num 0) .integrator false false (.any),
  row 0x08 1 "COLOUR_RES" .f32 .ro (.num 0) .integrator false false (.any),
  row 0x09 1 "DELAY_E" .i32 .ro (.num (0)) .integrator false false (.any),
  row 0x0a 1 "DELAY_D" .wp .ro (.num (0)) .integrator false false (.any)]⟩

/-- Objects 0x2084. -/
def grp2084 : ObjGroup := ⟨0x2084, 0x2084, 0x2084, false, [
  row 0x01 1 "DELAY_TRIM" .i32 .rw (.num (0)) .integrator false false (.any),
  row 0x02 1 "DELAY_REF_EVP" .u8 .rw (.num (255)) .integrator false false (.orVal 0 63 255),
  row 0x03 1 "DELAY_REF_LAT" .i32 .rw (.num (0)) .integrator false false (.any),
  row 0x04 1 "BAR_COL_FIRST" .u16 .rw (.num (0)) .integrator false false (.any),
  row 0x05 1 "BAR_COL_COUNT" .u16 .rw (.num (256)) .integrator false false (.any),
  row 0x06 1 "DELAY_MIN_BARS" .u16 .rw (.num (64)) .integrator false false (.any),
  row 0x07 1 "PAIR_WINDOW" .wp .rw (.num (1048576)) .integrator false false (.any)]⟩

/-- Objects 0x2085. -/
def grp2085 : ObjGroup := ⟨0x2085, 0x2085, 0x2085, false, [
  row 0x01 1 "STRIPE_PITCH_NM" .u32 .rw (.num (1000000)) .integrator false false (.any),
  row 0x02 1 "GEO_COL_FIRST" .u16 .rw (.num (0)) .integrator false false (.any),
  row 0x03 1 "GEO_COL_COUNT" .u16 .rw (.num (0)) .integrator false false (.any),
  row 0x04 1 "TARGET_ORIGIN" .u32 .rw (.num (0)) .integrator false false (.any)]⟩

/-- Objects 0x2086. -/
def grp2086 : ObjGroup := ⟨0x2086, 0x2086, 0x2086, false, [
  row 0x01 1 "COLOUR_REF" .domain .rw (.blob []) .integrator false false (.any)]⟩

/-- Objects 0x20A0. -/
def grp20A0 : ObjGroup := ⟨0x20a0, 0x20a0, 0x20a0, false, [
  row 0x01 1 "GEO_ACTIVE_BANK" .u8 .ro (.num (0)) .integrator false false (.any),
  row 0x02 1 "GEO_SWAP" .u8 .wo (.num 0) .integrator true false (.rng (1) (3)),
  row 0x03 1 "GEO_SWAP_WP" .wp .rw (.num (0)) .integrator false false (.any),
  row 0x04 1 "GEO_STATUS" .u8 .ro (.num (0)) .integrator false false (.any),
  row 0x05 1 "GEO_REFUSE_CAUSE" .u8 .ro (.num (0)) .integrator false false (.any),
  row 0x06 1 "GEO_COPY" .bool .wo (.num 0) .integrator false false (.any),
  row 0x07 1 "GEO_DONE_WP" .wp .ro (.num (0)) .integrator false false (.any),
  row 0x08 1 "REJECTED_WRITES" .u32 .rc (.num (0)) .integrator false false (.any)]⟩

/-- Objects 0x20A2. -/
def grp20A2 : ObjGroup := ⟨0x20a2, 0x20a2, 0x20a3, false, [
  row 0x01 1 "C0" .f64 .rw (.num 4613937818241073152) .integrator false false (.any),
  row 0x02 1 "C1" .f64 .rw (.num 4607182418800017408) .integrator false false (.any),
  row 0x03 1 "C2" .f64 .rw (.num 0) .integrator false false (.any),
  row 0x04 1 "C3" .f64 .rw (.num 0) .integrator false false (.any),
  row 0x05 1 "SPAN_FIRST" .u32 .rw (.num (1)) .integrator false false (.any),
  row 0x06 1 "SPAN_LAST" .u32 .rw (.num (0)) .integrator false false (.any),
  row 0x07 1 "SEAM_RIGHT" .u32 .rw (.num (4294967295)) .integrator false false (.any),
  row 0x08 1 "CD_CLASS" .u8 .ro (.num (0)) .integrator false false (.any)]⟩

/-- Objects 0x20A8. -/
def grp20A8 : ObjGroup := ⟨0x20a8, 0x20a8, 0x20a8, false, [
  row 0x01 1 "TAP_EN" .bool .rw (.num (0)) .integrator false false (.any),
  row 0x02 1 "DEST" .u8 .rw (.num (0)) .integrator false false (.rng (0) (1)),
  row 0x03 1 "RING_BASE" .u64 .rw (.num (0)) .integrator false false (.any),
  row 0x04 1 "RING_SIZE" .u64 .rw (.num (0)) .integrator false false (.any),
  row 0x05 1 "TAP_MODE" .u8 .rw (.num (0)) .integrator false false (.rng (0) (1)),
  row 0x06 1 "LINE_DECIM" .u16 .rw (.num (1)) .integrator false false (.rng (1) (65535)),
  row 0x07 1 "COL_FIRST" .u16 .rw (.num (0)) .integrator false false (.any),
  row 0x08 1 "COL_COUNT" .u16 .rw (.num (0)) .integrator false false (.any),
  row 0x09 1 "VC_SELECT" .u8 .rw (.num (1)) .integrator false false (.rng (0) (3)),
  row 0x0a 1 "WRITE_PTR" .u64 .ro (.num (0)) .integrator false false (.any),
  row 0x0b 1 "READ_PTR" .u64 .rw (.num (0)) .integrator false false (.any),
  row 0x0c 1 "LINES_WRITTEN" .u64 .ro (.num (0)) .integrator false false (.any),
  row 0x0d 1 "TAP_DROPS" .u32 .rc (.num (0)) .integrator false false (.any),
  row 0x0e 1 "ARM" .bool .wo (.num 0) .integrator false false (.any)]⟩

/-- The groups of page 0x20. -/
def page20 : List ObjGroup :=
  [grp2000, grp2001, grp2002, grp2008, grp2010, grp2018, grp2020, grp2021, grp2022, grp2023, grp2024, grp2025, grp2026, grp2040, grp2041, grp2042, grp2044, grp2048, grp2049, grp2050, grp2080, grp2082, grp2083, grp2084, grp2085, grp2086, grp20A0, grp20A2, grp20A8]

end Sys2Proof.Machine
end

