-- ==== Sys2Proof/Machine/DictC.lean ====
section
/-! DEFINITION. Rows of the object dictionary, from the object tables of the spec's chapters: sub-index, how many
consecutive sub-indices, name, type, access, default, least writing role, shadow-capable, static, range. -/

namespace Sys2Proof.Machine

/-- Objects 0x3000. -/
def grp3000 : ObjGroup := ⟨0x3000, 0x3000, 0x3000, false, [
  row 0x01 1 "PLACE_INPUT" .u8 .rw (.num (0)) .integrator false true (.rng (0) (3)),
  row 0x02 1 "GRID_ORIGIN" .wp .rw (.num (0)) .integrator false true (.any),
  row 0x03 1 "GRID_PITCH" .u64 .rw (.num (4294967296)) .integrator false true (.any),
  row 0x04 1 "HOLD_TIME" .u32 .rw (.num (1000)) .integrator false false (.rng (10) (100000)),
  row 0x05 1 "GAP_REACH" .u8 .rw (.num (4)) .integrator false false (.oneOf [2, 4]),
  row 0x06 1 "MAX_RATIO" .u16 .rw (.num (6144)) .integrator false false (.any),
  row 0x07 1 "CLASS_T1" .u16 .rw (.num (3482)) .integrator false false (.any),
  row 0x08 1 "CLASS_T2" .u16 .rw (.num (2458)) .integrator false false (.any),
  row 0x09 1 "CLASS_T3" .u16 .rw (.num (1638)) .integrator false false (.any),
  row 0x0a 1 "CLASS_HYST" .u16 .rw (.num (123)) .integrator false false (.any),
  row 0x0b 1 "PLACE_STATUS" .u8 .w1c (.num (0)) .integrator false false (.any),
  row 0x0c 1 "REJECTED_WRITES" .u32 .rc (.num (0)) .integrator false false (.any)]⟩

/-- Objects 0x3001. -/
def grp3001 : ObjGroup := ⟨0x3001, 0x3001, 0x3001, false, [
  row 0x01 1 "COEF_SWAP" .u8 .wo (.num 0) .integrator true false (.rng (1) (2)),
  row 0x02 1 "COEF_STATUS" .u8 .ro (.num (0)) .integrator false false (.any),
  row 0x03 1 "COEF_BAD_PHASE" .u16 .ro (.num (0)) .integrator false false (.any),
  row 0x04 1 "COEF_SWAP_WP" .wp .ro (.num (0)) .integrator false false (.any),
  row 0x05 1 "COEF_COPY" .bool .wo (.num 0) .integrator false false (.any),
  row 0x06 1 "COEF_CRC_ACTIVE" .u32 .ro (.num 0) .integrator false false (.any),
  row 0x07 1 "COEF_CRC_LOAD" .u32 .ro (.num 0) .integrator false false (.any)]⟩

/-- Objects 0x3002. -/
def grp3002 : ObjGroup := ⟨0x3002, 0x3002, 0x3002, false, [
  row 0x01 1 "COEF_LOAD" .domain .rw (.factory 16384) .integrator false false (.any)]⟩

/-- Objects 0x3003. -/
def grp3003 : ObjGroup := ⟨0x3003, 0x3003, 0x3003, false, [
  row 0x01 1 "COEF_ACTIVE" .domain .ro (.factory 16384) .integrator false false (.any)]⟩

/-- Objects 0x3010. -/
def grp3010 : ObjGroup := ⟨0x3010, 0x3010, 0x301f, false, [
  row 0x00 1 "SEQ" .u32 .ro (.num (0)) .integrator false false (.any),
  row 0x01 1 "LAST_LINE" .u32 .ro (.num (0)) .integrator false false (.any),
  row 0x02 1 "LAST_MID" .time .ro (.num (0)) .integrator false false (.any),
  row 0x03 1 "LAST_WP" .wp .ro (.num (0)) .integrator false false (.any),
  row 0x04 1 "LAST_FLAGS" .u16 .ro (.num (0)) .integrator false false (.any),
  row 0x05 1 "GRID_NEXT" .wp .ro (.num (0)) .integrator false false (.any),
  row 0x06 1 "RATIO" .u16 .ro (.num (0)) .integrator false false (.any),
  row 0x07 1 "CLASS" .u8 .ro (.num (0)) .integrator false false (.any),
  row 0x08 1 "LINES_PLACED" .u64 .ro (.num (0)) .integrator false false (.any),
  row 0x09 1 "LINES_HELD" .u32 .ro (.num (0)) .integrator false false (.any),
  row 0x0a 1 "LINES_BEHIND" .u32 .ro (.num (0)) .integrator false false (.any),
  row 0x0b 1 "REVERSE_LINES" .u32 .ro (.num (0)) .integrator false false (.any),
  row 0x0c 1 "LINES_STALE" .u32 .ro (.num (0)) .integrator false false (.any),
  row 0x0d 1 "HOLES" .u32 .ro (.num (0)) .integrator false false (.any),
  row 0x0e 1 "GRID_LINES" .u64 .ro (.num (0)) .integrator false false (.any),
  row 0x0f 1 "GAP_LINES" .u64 .ro (.num (0)) .integrator false false (.any),
  row 0x10 1 "BRIDGED_LINES" .u32 .ro (.num (0)) .integrator false false (.any),
  row 0x11 1 "CLASS_CHANGES" .u32 .ro (.num (0)) .integrator false false (.any)]⟩

/-- The groups of page 0x30. -/
def page30 : List ObjGroup :=
  [grp3000, grp3001, grp3002, grp3003, grp3010]

/-- Objects 0x3100. -/
def grp3100 : ObjGroup := ⟨0x3100, 0x3100, 0x3100, false, [
  row 0x01 1 "MAC_LOAD" .u32 .ro (.num (0)) .integrator false false (.any),
  row 0x02 1 "MAC_BUDGET" .u32 .const (.num (800000000)) .integrator false false (.any),
  row 0x03 1 "RING_BASE" .u64 .rw (.num (0)) .integrator false false (.mult (0) (18446744073709551615) 4096),
  row 0x04 1 "RING_SIZE" .u64 .rw (.num (0)) .integrator false false (.mult (0) (18446744073709551615) 4096),
  row 0x05 1 "WRITE_PTR" .u64 .ro (.num (0)) .integrator false false (.any),
  row 0x06 1 "READ_PTR" .u64 .rw (.num (0)) .integrator false false (.any),
  row 0x07 1 "RING_DROPS" .u32 .rc (.num (0)) .integrator false false (.any),
  row 0x08 1 "REJECTED_WRITES" .u32 .rc (.num (0)) .integrator false false (.any),
  row 0x09 1 "REFUSE_CAUSE" .u8 .ro (.num (0)) .integrator false false (.any)]⟩

/-- Objects 0x3110. -/
def grp3110 : ObjGroup := ⟨0x3110, 0x3110, 0x312f, false, [
  row 0x01 1 "SOURCE" .u8 .rw (.num (0)) .integrator false true (.rng (0) (5)),
  row 0x02 1 "SOURCE_ARG" .u16 .rw (.num (0)) .integrator false true (.any),
  row 0x03 1 "BASE" .u8 .rw (.num (0)) .integrator false true (.rng (0) (1)),
  row 0x04 1 "TIME_TC" .u8 .rw (.num (0)) .integrator false true (.rng (0) (31)),
  row 0x05 1 "MAX_RATE" .u32 .rw (.num (400000)) .integrator false true (.rng (0) (1000000)),
  row 0x06 1 "CIC_R" .u16 .rw (.num (1)) .integrator false true (.rng (1) (4096)),
  row 0x07 1 "CIC_M" .u8 .rw (.num (1)) .integrator false true (.rng (1) (2)),
  row 0x08 1 "CIC_N" .u8 .rw (.num (1)) .integrator false true (.rng (1) (5)),
  row 0x09 1 "FIR_A_LEN" .u8 .rw (.num (0)) .integrator false true (.rng (0) (128)),
  row 0x0a 1 "FIR_A_DECIM" .u8 .rw (.num (1)) .integrator false true (.rng (1) (16)),
  row 0x0b 1 "FIR_B_LEN" .u8 .rw (.num (0)) .integrator false true (.rng (0) (128)),
  row 0x0c 1 "FIR_B_DECIM" .u8 .rw (.num (1)) .integrator false true (.rng (1) (16)),
  row 0x0d 1 "STEP" .u64 .rw (.num (0)) .integrator false true (.orVal (16777216) (17592186044416) (0)),
  row 0x0e 1 "HOLD_MAX" .u16 .rw (.num (64)) .integrator false false (.any),
  row 0x0f 1 "RUN" .u8 .wo (.num 0) .integrator false false (.rng (1) (2)),
  row 0x10 1 "OUT_RING_EN" .bool .rw (.num (0)) .integrator false false (.any),
  row 0x11 1 "DETECT_MODE" .u8 .rw (.num (2)) .integrator false false (.rng (0) (2)),
  row 0x12 1 "THR_HI" .i64 .rw (.num (9223372036854775807)) .operator true false (.any),
  row 0x13 1 "THR_LO" .i64 .rw (.num (-9223372036854775808)) .operator true false (.any),
  row 0x14 1 "THR_HYST" .i64 .rw (.num (0)) .operator true false (.any),
  row 0x15 1 "THR_EN" .bool .rw (.num (0)) .operator false false (.any),
  row 0x16 1 "DET_K" .u8 .rw (.num (8)) .integrator false false (.rng (1) (20)),
  row 0x17 1 "DET_DECAY" .u8 .rw (.num (10)) .integrator false false (.rng (1) (20)),
  row 0x18 1 "DET_HOLD" .u16 .rw (.num (64)) .integrator false false (.any),
  row 0x19 1 "DET_CLEAR" .bool .wo (.num 0) .operator false false (.any),
  row 0x1a 1 "BANK_SWAP" .u8 .wo (.num 0) .integrator true false (.rng (1) (3)),
  row 0x1b 1 "SWAP_TIME" .time .rw (.num (0)) .integrator false false (.any),
  row 0x1c 1 "ACTIVE_BANK" .u8 .ro (.num (0)) .integrator false false (.any),
  row 0x1d 1 "CHAIN_STATUS" .u8 .w1c (.num (0)) .integrator false false (.any)]⟩

/-- Objects 0x3150. -/
def grp3150 : ObjGroup := ⟨0x3150, 0x3150, 0x316f, false, [
  row 0x00 1 "SEQ" .u32 .ro (.num (0)) .integrator false false (.any),
  row 0x01 1 "STATE" .u8 .ro (.num (0)) .integrator false false (.any),
  row 0x02 1 "LAST_VALUE" .i64 .ro (.num (0)) .integrator false false (.any),
  row 0x03 1 "LAST_TIME" .time .ro (.num (0)) .integrator false false (.any),
  row 0x04 1 "LAST_WP" .wp .ro (.num (0)) .integrator false false (.any),
  row 0x05 1 "THR_STATE" .u8 .ro (.num (1)) .integrator false false (.any),
  row 0x06 1 "MODE_IN_FORCE" .u8 .ro (.num (0)) .integrator false false (.any),
  row 0x07 1 "PEAK_MAX" .i64 .ro (.num (0)) .integrator false false (.any),
  row 0x08 1 "PEAK_MAX_TIME" .time .ro (.num (0)) .integrator false false (.any),
  row 0x09 1 "PEAK_MIN" .i64 .ro (.num (0)) .integrator false false (.any),
  row 0x0a 1 "PEAK_MIN_TIME" .time .ro (.num (0)) .integrator false false (.any),
  row 0x0b 1 "MEAN" .f64 .ro (.num 0) .integrator false false (.any),
  row 0x0c 1 "RMS" .f64 .ro (.num 0) .integrator false false (.any),
  row 0x0d 1 "ENVELOPE" .f64 .ro (.num 0) .integrator false false (.any),
  row 0x0e 1 "INPUTS" .u64 .ro (.num (0)) .integrator false false (.any),
  row 0x0f 1 "OUTPUTS" .u64 .ro (.num (0)) .integrator false false (.any),
  row 0x10 1 "HELD" .u32 .ro (.num (0)) .integrator false false (.any),
  row 0x11 1 "RESTARTS" .u32 .ro (.num (0)) .integrator false false (.any),
  row 0x12 1 "OVERRUNS" .u32 .ro (.num (0)) .integrator false false (.any),
  row 0x13 1 "LAG" .wp .ro (.num (0)) .integrator false false (.any)]⟩

/-- Objects 0x3180. -/
def grp3180 : ObjGroup := ⟨0x3180, 0x3180, 0x31bf, false, [
  row 0x01 1 "FIR_A_COEF" .domain .rw (.pre 512 [0, 0, 0, 64]) .integrator false false (.any),
  row 0x02 1 "FIR_A_DELAY" .u32 .rw (.num (0)) .integrator false false (.any),
  row 0x03 1 "FIR_B_COEF" .domain .rw (.pre 512 [0, 0, 0, 64]) .integrator false false (.any),
  row 0x04 1 "FIR_B_DELAY" .u32 .rw (.num (0)) .integrator false false (.any),
  row 0x05 1 "RES_COEF" .domain .rw (.linear) .integrator false false (.any),
  row 0x06 1 "BANK_CRC" .u32 .ro (.num 0) .integrator false false (.any)]⟩

/-- Objects 0x31C0. -/
def grp31C0 : ObjGroup := ⟨0x31c0, 0x31c0, 0x31df, false, [
  row 0x01 1 "FEED" .domain .wo (.fill 16 [0]) .integrator false false (.any)]⟩

/-- The groups of page 0x31. -/
def page31 : List ObjGroup :=
  [grp3100, grp3110, grp3150, grp3180, grp31C0]

/-- Objects 0x3200. -/
def grp3200 : ObjGroup := ⟨0x3200, 0x3200, 0x3200, false, [
  row 0x01 1 "CLASS_PLANE" .u8 .rw (.num (0)) .integrator false true (.rng (0) (3)),
  row 0x02 1 "BG_K" .u8 .rw (.num (10)) .integrator true false (.rng (4) (16)),
  row 0x03 1 "LEARN_MIN" .u16 .rw (.num (1024)) .integrator false false (.rng (16) (65535)),
  row 0x04 1 "FREEZE_MAX" .u32 .rw (.num (16384)) .integrator false false (.any),
  row 0x05 1 "FREEZE_MARGIN" .u8 .rw (.num (2)) .integrator false false (.rng (0) (64)),
  row 0x06 1 "FREEZE_LULLS" .u8 .rw (.num (15)) .integrator false false (.rng (0) (15)),
  row 0x07 1 "THR_MODE" .u8 .rw (.num (1)) .integrator true false (.rng (0) (1)),
  row 0x08 1 "DARK1_THR" .u16 .rw (.num (1024)) .operator true false (.any),
  row 0x09 1 "DARK2_THR" .u16 .rw (.num (2048)) .operator true false (.any),
  row 0x0a 1 "LIGHT1_THR" .u16 .rw (.num (1024)) .operator true false (.any),
  row 0x0b 1 "LIGHT2_THR" .u16 .rw (.num (2048)) .operator true false (.any),
  row 0x0c 1 "SIGMA_FLOOR" .u16 .rw (.num (512)) .integrator false false (.any),
  row 0x0d 1 "CLEAN_MIN" .u8 .rw (.num (1)) .integrator false false (.rng (0) (8)),
  row 0x0e 1 "FILL_MIN" .u8 .rw (.num (6)) .integrator false false (.rng (1) (9)),
  row 0x0f 1 "RELEARN" .bool .wo (.num 0) .operator true false (.any),
  row 0x10 1 "REJECTED_WRITES" .u32 .rc (.num (0)) .integrator false false (.any)]⟩

/-- Objects 0x3201. -/
def grp3201 : ObjGroup := ⟨0x3201, 0x3201, 0x3201, false, [
  row 0x01 1 "EDGE_SIDES" .u8 .rw (.num (0)) .integrator false false (.rng (0) (3)),
  row 0x02 1 "EDGE_POLARITY" .u8 .rw (.num (0)) .integrator false false (.rng (0) (1)),
  row 0x03 1 "EDGE_LEVEL" .u16 .rw (.num (1024)) .integrator false false (.any),
  row 0x04 1 "EDGE_RUN" .u8 .rw (.num (8)) .integrator false false (.rng (1) (64)),
  row 0x05 1 "EDGE_WINDOW" .u16 .rw (.num (256)) .integrator false false (.any),
  row 0x06 1 "EDGE_LOST_MAX" .u16 .rw (.num (64)) .integrator false false (.any),
  row 0x07 1 "EDGE_MARGIN" .u16 .rw (.num (16)) .integrator false false (.any),
  row 0x08 1 "SEARCH_FIRST_L" .u32 .rw (.num (0)) .integrator false false (.any),
  row 0x09 1 "SEARCH_LAST_L" .u32 .rw (.num (4095)) .integrator false false (.any),
  row 0x0a 1 "SEARCH_FIRST_R" .u32 .rw (.num (0)) .integrator false false (.any),
  row 0x0b 1 "SEARCH_LAST_R" .u32 .rw (.num (0)) .integrator false false (.any)]⟩

/-- Objects 0x3202. -/
def grp3202 : ObjGroup := ⟨0x3202, 0x3202, 0x3202, false, [
  row 0x01 32 "STAT_MASK0 to 31" .u64 .rw (.num (18446744069414584320)) .integrator true false (.any)]⟩

/-- Objects 0x3203. -/
def grp3203 : ObjGroup := ⟨0x3203, 0x3203, 0x3203, false, [
  row 0x01 16 "SLICE_FIRST0 to 15" .u32 .rw (.num (0)) .integrator false true (.any),
  row 0x11 1 "SLICE_LAYOUT" .u8 .rw (.num (0)) .integrator false true (.rng (0) (1))]⟩

/-- Objects 0x3204. -/
def grp3204 : ObjGroup := ⟨0x3204, 0x3204, 0x3204, false, [
  row 0x00 1 "SEQ" .u32 .ro (.num (0)) .integrator false false (.any),
  row 0x01 1 "LAST_GRID_WP" .wp .ro (.num (0)) .integrator false false (.any),
  row 0x02 1 "EDGE_LEFT" .i32 .ro (.num (0)) .integrator false false (.any),
  row 0x03 1 "EDGE_RIGHT" .i32 .ro (.num (0)) .integrator false false (.any),
  row 0x04 1 "EDGE_STATE" .u8 .ro (.num (0)) .integrator false false (.any),
  row 0x05 1 "LEARNED_COLUMNS" .u32 .ro (.num (0)) .integrator false false (.any),
  row 0x06 1 "FROZEN_COLUMNS" .u32 .ro (.num (0)) .integrator false false (.any),
  row 0x07 1 "FORCED_COLUMNS" .u32 .ro (.num (0)) .integrator false false (.any),
  row 0x08 1 "CLASS_COUNTS" .domain .ro (.fill 48 [0]) .integrator false false (.any),
  row 0x09 1 "MORPH_REMOVED" .u64 .ro (.num (0)) .integrator false false (.any),
  row 0x0a 1 "MORPH_FILLED" .u64 .ro (.num (0)) .integrator false false (.any),
  row 0x0b 1 "FORCED_UPDATES" .u64 .ro (.num (0)) .integrator false false (.any),
  row 0x0c 1 "EDGE_LOST_LINES" .u32 .ro (.num (0)) .integrator false false (.any)]⟩

/-- Objects 0x3205. -/
def grp3205 : ObjGroup := ⟨0x3205, 0x3205, 0x3205, false, [
  row 0x01 1 "BG_READ_COL" .u32 .rw (.num (0)) .integrator false false (.any)]⟩

/-- Objects 0x3206. -/
def grp3206 : ObjGroup := ⟨0x3206, 0x3206, 0x3206, false, [
  row 0x00 1 "SEQ" .u32 .ro (.num (0)) .integrator false false (.any),
  row 0x01 1 "BG_MEAN" .u32 .ro (.num (0)) .integrator false false (.any),
  row 0x02 1 "BG_VAR" .u32 .ro (.num (0)) .integrator false false (.any),
  row 0x03 1 "BG_N" .u16 .ro (.num (0)) .integrator false false (.any),
  row 0x04 1 "BG_FROZEN_RUN" .u32 .ro (.num (0)) .integrator false false (.any),
  row 0x05 1 "BG_GRID_WP" .wp .ro (.num (0)) .integrator false false (.any)]⟩

/-- Objects 0x3208. -/
def grp3208 : ObjGroup := ⟨0x3208, 0x3208, 0x3208, false, [
  row 0x01 1 "TAP_EN" .bool .rw (.num (0)) .integrator false false (.any),
  row 0x02 1 "DEST" .u8 .rw (.num (0)) .integrator false false (.rng (0) (1)),
  row 0x03 1 "RING_BASE" .u64 .rw (.num (0)) .integrator false false (.any),
  row 0x04 1 "RING_SIZE" .u64 .rw (.num (0)) .integrator false false (.any),
  row 0x05 1 "TAP_MODE" .u8 .rw (.num (0)) .integrator false false (.rng (0) (1)),
  row 0x06 1 "LINE_DECIM" .u16 .rw (.num (1)) .integrator false false (.rng (1) (65535)),
  row 0x07 1 "COL_FIRST" .u32 .rw (.num (0)) .integrator false false (.any),
  row 0x08 1 "COL_COUNT" .u32 .rw (.num (0)) .integrator false false (.any),
  row 0x09 1 "VC_SELECT" .u8 .rw (.num (1)) .integrator false false (.rng (0) (3)),
  row 0x0a 1 "WRITE_PTR" .u64 .ro (.num (0)) .integrator false false (.any),
  row 0x0b 1 "READ_PTR" .u64 .rw (.num (0)) .integrator false false (.any),
  row 0x0c 1 "LINES_WRITTEN" .u64 .ro (.num (0)) .integrator false false (.any),
  row 0x0d 1 "TAP_DROPS" .u32 .rc (.num (0)) .integrator false false (.any),
  row 0x0e 1 "ARM" .bool .wo (.num 0) .integrator false false (.any)]⟩

/-- Objects 0x3210. -/
def grp3210 : ObjGroup := ⟨0x3210, 0x3210, 0x3210, false, [
  row 0x01 1 "JOIN_POLARITY" .bool .rw (.num (1)) .integrator false true (.any),
  row 0x02 1 "FEATURE_PLANE" .u8 .rw (.num (0)) .integrator false true (.any),
  row 0x03 1 "STREAK_LEN" .wp .rw (.num (4294967296)) .integrator true false (.any),
  row 0x04 1 "SQUALL_HIGH" .u16 .rw (.num (1792)) .integrator false false (.rng (1024) (2047)),
  row 0x05 1 "SQUALL_LOW" .u16 .rw (.num (1024)) .integrator false false (.any),
  row 0x06 1 "SQUALL_EXIT_LINES" .u32 .rw (.num (4096)) .integrator false false (.rng (1) (1048576)),
  row 0x07 1 "SQUALL_CMD" .u8 .wo (.num 0) .integrator false false (.rng (1) (2)),
  row 0x08 1 "REJECTED_WRITES" .u32 .rc (.num (0)) .integrator false false (.any)]⟩

/-- Objects 0x3211. -/
def grp3211 : ObjGroup := ⟨0x3211, 0x3211, 0x3211, false, [
  row 0x01 16 "SLICE_QUOTA0 to 15" .u16 .rw (.num (128)) .integrator false false (.rng (0) (2048))]⟩

/-- Objects 0x3212. -/
def grp3212 : ObjGroup := ⟨0x3212, 0x3212, 0x3212, false, [
  row 0x00 1 "SEQ" .u32 .ro (.num (0)) .integrator false false (.any),
  row 0x01 1 "OCCUPANCY" .u16 .ro (.num (0)) .integrator false false (.any),
  row 0x02 1 "OCCUPANCY_PEAK" .u16 .ro (.num (0)) .integrator false false (.any),
  row 0x03 1 "SQUALL_STATE" .u8 .ro (.num (0)) .integrator false false (.any),
  row 0x04 1 "SQUALL_EXIT_COUNT" .u32 .ro (.num (0)) .integrator false false (.any),
  row 0x05 1 "SQUALLS" .u32 .ro (.num (0)) .integrator false false (.any),
  row 0x06 1 "SLICE_CHARGE" .domain .ro (.fill 32 [0]) .integrator false false (.any),
  row 0x07 1 "REGIONS_OPENED" .u64 .ro (.num (0)) .integrator false false (.any),
  row 0x08 1 "MERGES" .u64 .ro (.num (0)) .integrator false false (.any),
  row 0x09 1 "SEGMENTS_CUT" .u64 .ro (.num (0)) .integrator false false (.any),
  row 0x0a 1 "REFUSED_FULL" .u64 .ro (.num (0)) .integrator false false (.any),
  row 0x0b 1 "REFUSED_SQUALL" .u64 .ro (.num (0)) .integrator false false (.any),
  row 0x0c 1 "REFUSED_QUOTA" .u64 .ro (.num (0)) .integrator false false (.any),
  row 0x0d 1 "ZONE_PIXELS" .u64 .ro (.num (0)) .integrator false false (.any),
  row 0x0e 1 "ZONE_RECORDS" .u64 .ro (.num (0)) .integrator false false (.any),
  row 0x0f 1 "DISCARDED" .domain .ro (.fill 64 [0]) .integrator false false (.any),
  row 0x10 1 "LINK_MISSING" .domain .ro (.fill 8 [0]) .integrator false false (.any),
  row 0x11 1 "FRAGMENTS_SENT" .u32 .ro (.num (0)) .integrator false false (.any),
  row 0x12 1 "FRAGMENTS_MERGED" .u32 .ro (.num (0)) .integrator false false (.any),
  row 0x13 1 "FRAGMENTS_SEPARATE" .u32 .ro (.num (0)) .integrator false false (.any),
  row 0x14 1 "ORPHANS" .u32 .ro (.num (0)) .integrator false false (.any),
  row 0x15 1 "GIVEN_UP" .u32 .ro (.num (0)) .integrator false false (.any),
  row 0x16 1 "LAST_GRID_WP" .wp .ro (.num (0)) .integrator false false (.any)]⟩

/-- Objects 0x3220. -/
def grp3220 : ObjGroup := ⟨0x3220, 0x3220, 0x3220, false, [
  row 0x01 1 "TREE_SWAP" .u8 .wo (.num 0) .integrator true false (.rng (1) (2)),
  row 0x02 1 "TREE_STATUS" .u8 .ro (.num (0)) .integrator false false (.any),
  row 0x03 1 "TREE_BAD_NODE" .u8 .ro (.num (0)) .integrator false false (.any),
  row 0x04 1 "TREE_SWAP_WP" .wp .ro (.num (0)) .integrator false false (.any),
  row 0x05 1 "TREE_COPY" .bool .wo (.num 0) .integrator false false (.any),
  row 0x06 1 "TREE_CRC_ACTIVE" .u32 .ro (.num 0) .integrator false false (.any),
  row 0x07 1 "TREE_CRC_LOAD" .u32 .ro (.num 0) .integrator false false (.any)]⟩

/-- Objects 0x3221. -/
def grp3221 : ObjGroup := ⟨0x3221, 0x3221, 0x3221, false, [
  row 0x01 1 "TREE_LOAD" .domain .rw (.factory 512) .integrator false false (.any)]⟩

/-- Objects 0x3222. -/
def grp3222 : ObjGroup := ⟨0x3222, 0x3222, 0x3222, false, [
  row 0x01 1 "TREE_ACTIVE" .domain .ro (.factory 512) .integrator false false (.any)]⟩

/-- Objects 0x3224. -/
def grp3224 : ObjGroup := ⟨0x3224, 0x3224, 0x3224, false, [
  row 0x01 16 "CLASS_ACTION0 to 15" .u16 .rw (.num (1)) .operator true false (.any),
  row 0x11 1 "ZONE_ACTION" .u16 .rw (.num (1)) .operator true false (.any)]⟩

/-- Objects 0x3228. -/
def grp3228 : ObjGroup := ⟨0x3228, 0x3228, 0x3228, false, [
  row 0x01 1 "REPEAT_INPUT" .u8 .rw (.num (255)) .integrator false false (.oneOf [0, 1, 2, 3, 255]),
  row 0x02 1 "REPEAT_CD_TOL" .u16 .rw (.num (32)) .integrator false false (.any),
  row 0x03 1 "REPEAT_PHASE_TOL" .u32 .rw (.num (262144)) .integrator false false (.any),
  row 0x04 1 "REPEAT_MIN" .u8 .rw (.num (3)) .integrator false false (.rng (2) (255)),
  row 0x05 1 "REPEAT_MAX_GAP" .u8 .rw (.num (2)) .integrator false false (.rng (1) (16))]⟩

/-- Objects 0x3229. -/
def grp3229 : ObjGroup := ⟨0x3229, 0x3229, 0x3229, false, [
  row 0x00 1 "SEQ" .u32 .ro (.num (0)) .integrator false false (.any),
  row 0x01 1 "REV_INDEX" .u32 .ro (.num (0)) .integrator false false (.any),
  row 0x02 1 "TRACKS_ACTIVE" .u8 .ro (.num (0)) .integrator false false (.any),
  row 0x03 1 "REPEATS_FOUND" .u32 .ro (.num (0)) .integrator false false (.any),
  row 0x04 1 "TRACKS" .domain .ro (.fill 2048 [0]) .integrator false false (.any)]⟩

/-- The groups of page 0x32. -/
def page32 : List ObjGroup :=
  [grp3200, grp3201, grp3202, grp3203, grp3204, grp3205, grp3206, grp3208, grp3210, grp3211, grp3212, grp3220, grp3221, grp3222, grp3224, grp3228, grp3229]

/-- Objects 0x3400. -/
def grp3400 : ObjGroup := ⟨0x3400, 0x3400, 0x3400, false, [
  row 0x01 1 "SETTLE_WINDOW" .wp .rw (.num (4194304)) .integrator true false (.rng (0) (4294967296)),
  row 0x02 1 "SETTLE_ROUTE" .u8 .rw (.num (0)) .integrator false true (.rng (0) (2)),
  row 0x03 1 "SETTLE_FROM" .u8 .rw (.num (0)) .integrator false true (.rng (0) (3)),
  row 0x04 1 "WM_LAG_MAX" .wp .rw (.num (536870912)) .integrator false false (.any),
  row 0x05 1 "WM_EVERY" .wp .rw (.num (4194304)) .integrator false false (.any),
  row 0x06 1 "HOLD_CAPACITY" .u32 .const (.num (8192)) .integrator false false (.any),
  row 0x07 1 "MARK_DEVICES" .domain .rw (.fill 128 [255]) .integrator false false (.any),
  row 0x08 1 "SETTLE_STATUS" .u8 .w1c (.num (0)) .integrator false false (.any),
  row 0x09 1 "REJECTED_WRITES" .u32 .rc (.num (0)) .integrator false false (.any)]⟩

/-- Objects 0x3401. -/
def grp3401 : ObjGroup := ⟨0x3401, 0x3401, 0x3401, false, [
  row 0x01 1 "RING_BASE" .u64 .rw (.num (0)) .integrator false true (.any),
  row 0x02 1 "RING_SIZE" .u64 .rw (.num (0)) .integrator false true (.any),
  row 0x03 1 "RING_MODE" .u8 .rw (.num (1)) .integrator false false (.rng (0) (1)),
  row 0x04 1 "WRITE_PTR" .u64 .ro (.num (0)) .integrator false false (.any),
  row 0x05 1 "READ_PTR" .u64 .rw (.num (0)) .integrator false false (.any),
  row 0x06 1 "NOTIFY_COUNT" .u16 .rw (.num (64)) .integrator false false (.rng (1) (65535)),
  row 0x07 1 "NOTIFY_TIME" .u32 .rw (.num (1000)) .integrator false false (.any)]⟩

/-- Objects 0x3402. -/
def grp3402 : ObjGroup := ⟨0x3402, 0x3402, 0x3405, false, [
  row 0x01 1 "STREAM_EN" .bool .rw (.num (0)) .operator false false (.any),
  row 0x02 1 "KIND_MASK" .u8 .rw (.num (30)) .operator false false (.any),
  row 0x03 1 "CLASS_MASK" .u16 .rw (.num (65535)) .operator false false (.any),
  row 0x04 1 "LATE_PASS" .bool .rw (.num (1)) .operator false false (.any)]⟩

/-- Objects 0x3408. -/
def grp3408 : ObjGroup := ⟨0x3408, 0x3408, 0x3408, false, [
  row 0x00 1 "SEQ" .u32 .ro (.num (0)) .integrator false false (.any),
  row 0x01 1 "NEXT_RECORD_SEQ" .u32 .ro (.num (1)) .integrator false false (.any),
  row 0x02 1 "M" .wp .ro (.num (0)) .integrator false false (.any),
  row 0x03 1 "FRONTIER" .wp .ro (.num (0)) .integrator false false (.any),
  row 0x04 1 "HELD" .u32 .ro (.num (0)) .integrator false false (.any),
  row 0x05 1 "HELD_PEAK" .u32 .ro (.num (0)) .integrator false false (.any),
  row 0x06 1 "RELEASED" .u64 .ro (.num (0)) .integrator false false (.any),
  row 0x07 1 "FORWARDED" .u64 .ro (.num (0)) .integrator false false (.any),
  row 0x08 1 "LATE_RECORDS" .u32 .ro (.num (0)) .integrator false false (.any),
  row 0x09 1 "FORCED_RELEASES" .u32 .ro (.num (0)) .integrator false false (.any),
  row 0x0a 1 "LAG_OVERRIDES" .u32 .ro (.num (0)) .integrator false false (.any),
  row 0x0b 1 "EPOCH_LOST" .u32 .ro (.num (0)) .integrator false false (.any),
  row 0x0c 1 "UNEXPECTED_SETTLE" .u32 .ro (.num (0)) .integrator false false (.any),
  row 0x0d 1 "DISCARDED_STATE" .u32 .ro (.num (0)) .integrator false false (.any),
  row 0x0e 1 "UNNAMED_CHAINS" .u32 .ro (.num (0)) .integrator false false (.any),
  row 0x0f 1 "OVERWRITTEN" .u64 .ro (.num (0)) .integrator false false (.any),
  row 0x10 1 "RING_FULL" .u32 .ro (.num (0)) .integrator false false (.any),
  row 0x11 1 "STREAM_DROPS" .domain .ro (.fill 16 [0]) .integrator false false (.any),
  row 0x12 1 "MARK_DROPS" .u32 .ro (.num (0)) .integrator false false (.any),
  row 0x13 1 "CROP_DROPS" .u32 .ro (.num (0)) .integrator false false (.any)]⟩

/-- The groups of page 0x34. -/
def page34 : List ObjGroup :=
  [grp3400, grp3401, grp3402, grp3408]

/-- Objects 0x3500. -/
def grp3500 : ObjGroup := ⟨0x3500, 0x3500, 0x3503, false, [
  row 0x01 1 "MODE" .u8 .rw (.num (0)) .integrator false false (.rng (0) (2)),
  row 0x02 1 "FILTER_N" .u8 .rw (.num (4)) .integrator false false (.rng (1) (255)),
  row 0x03 1 "QUAD_MULT" .u8 .rw (.num (4)) .integrator false true (.oneOf [1, 2, 4]),
  row 0x04 1 "PULSE_EDGE" .u8 .rw (.num (0)) .integrator false true (.rng (0) (2)),
  row 0x05 1 "INVERT_DIR" .bool .rw (.num (0)) .integrator false true (.any),
  row 0x06 1 "REF_KIND" .u8 .rw (.num (0)) .integrator false true (.rng (0) (2)),
  row 0x07 1 "MISSING_TEETH" .u8 .rw (.num (1)) .integrator false true (.rng (1) (4)),
  row 0x08 1 "GAP_RATIO" .u8 .rw (.num (24)) .integrator false false (.rng (16) (255)),
  row 0x09 1 "EXTRA_RATIO" .u8 .rw (.num (192)) .integrator false false (.any),
  row 0x0a 1 "REV_COUNTS" .u32 .rw (.num (0)) .integrator false false (.any),
  row 0x0b 1 "INDEX_MODE" .u8 .rw (.num (0)) .integrator false false (.rng (0) (2)),
  row 0x0c 1 "INDEX_ARM" .bool .wo (.num 0) .integrator false false (.any),
  row 0x0d 1 "INDEX_TOL" .u16 .rw (.num (1)) .integrator false false (.any),
  row 0x0e 1 "SLIP_POLICY" .u8 .rw (.num (0)) .integrator false false (.rng (0) (1)),
  row 0x0f 1 "Z_GATE" .bool .rw (.num (0)) .integrator false false (.any),
  row 0x10 1 "BACKLASH" .u16 .rw (.num (4)) .integrator false false (.any),
  row 0x11 1 "STANDSTILL_TIME" .u32 .rw (.num (10000)) .integrator false false (.rng (100) (10000000)),
  row 0x12 1 "SPEED_EDGES" .u8 .rw (.num (8)) .integrator false false (.rng (1) (64)),
  row 0x13 1 "SCALE_NM" .f64 .rw (.num 4652007308841189376) .integrator false false (.any)]⟩

/-- Objects 0x3504. -/
def grp3504 : ObjGroup := ⟨0x3504, 0x3504, 0x3507, false, [
  row 0x00 1 "SEQ" .u32 .ro (.num (0)) .integrator false false (.any),
  row 0x01 1 "POSITION" .wp .ro (.num (0)) .integrator false false (.any),
  row 0x02 1 "FRONTIER" .wp .ro (.num (0)) .integrator false false (.any),
  row 0x03 1 "EST" .wp .ro (.num (0)) .integrator false false (.any),
  row 0x04 1 "REV_COUNT" .u32 .ro (.num (0)) .integrator false false (.any),
  row 0x05 1 "SPEED" .i32 .ro (.num (0)) .integrator false false (.any),
  row 0x06 1 "LAST_EDGE_TIME" .time .ro (.num (0)) .integrator false false (.any),
  row 0x07 1 "SNAP_TIME" .time .ro (.num (0)) .integrator false false (.any),
  row 0x08 1 "SNAP_STATUS" .u16 .ro (.num (0)) .integrator false false (.any)]⟩

/-- Objects 0x3508. -/
def grp3508 : ObjGroup := ⟨0x3508, 0x3508, 0x350b, false, [
  row 0x01 1 "STATUS" .u16 .w1c (.num (0)) .integrator false false (.any),
  row 0x02 1 "QUAD_ERRORS" .u32 .rc (.num (0)) .integrator false false (.any),
  row 0x03 1 "OVERRATE" .u32 .rc (.num (0)) .integrator false false (.any),
  row 0x04 1 "INDEX_SLIPS" .u32 .rc (.num (0)) .integrator false false (.any),
  row 0x05 1 "INDEX_MISSING" .u32 .rc (.num (0)) .integrator false false (.any),
  row 0x06 1 "REVERSALS" .u32 .rc (.num (0)) .integrator false false (.any),
  row 0x07 1 "POS_EPOCH" .u16 .ro (.num (0)) .integrator false false (.any),
  row 0x08 1 "REJECTED_WRITES" .u32 .rc (.num (0)) .integrator false false (.any)]⟩

/-- Objects 0x350C. -/
def grp350C : ObjGroup := ⟨0x350c, 0x350c, 0x350f, false, [
  row 0x01 1 "SET_VALUE" .wp .rw (.num (0)) .operator false false (.any),
  row 0x02 1 "SET_CMD" .u8 .wo (.num 0) .operator false false (.rng (1) (2)),
  row 0x03 1 "LAST_SET_DELTA" .wp .ro (.num (0)) .operator false false (.any),
  row 0x04 1 "LAST_SET_TIME" .time .ro (.num (0)) .operator false false (.any)]⟩

/-- Objects 0x3540. -/
def grp3540 : ObjGroup := ⟨0x3540, 0x3540, 0x357f, false, [
  row 0x01 1 "INPUT" .u8 .rw (.num (0)) .integrator false false (.rng (0) (3)),
  row 0x02 1 "TARGET" .wp .rw (.num (0)) .integrator false false (.any),
  row 0x03 1 "PERIOD" .u64 .rw (.num (0)) .integrator true false (.any),
  row 0x04 1 "REPEAT" .u32 .rw (.num (0)) .integrator false false (.any),
  row 0x05 1 "CONTROL" .u16 .rw (.num (0)) .integrator false false (.any),
  row 0x06 1 "STATUS" .u8 .w1c (.num (0)) .integrator false false (.any),
  row 0x07 1 "FIRE_COUNT" .u32 .rc (.num (0)) .integrator false false (.any),
  row 0x08 1 "SKIP_COUNT" .u32 .rc (.num (0)) .integrator false false (.any),
  row 0x09 1 "LAST_FIRE_POS" .wp .ro (.num (0)) .integrator false false (.any),
  row 0x0a 1 "LAST_FIRE_TIME" .time .ro (.num (0)) .integrator false false (.any),
  row 0x0b 1 "NEXT_TARGET" .wp .ro (.num (0)) .integrator false false (.any)]⟩

/-- Objects 0x3580. -/
def grp3580 : ObjGroup := ⟨0x3580, 0x3580, 0x358f, false, [
  row 0x01 1 "TRIG_SOURCE" .u8 .rw (.num (255)) .integrator false false (.orVal 0 63 255),
  row 0x02 1 "TRIG_ENABLE" .u8 .rw (.num (0)) .integrator false false (.rng (0) (3)),
  row 0x03 1 "MIN_PERIOD" .u32 .rw (.num (40000)) .integrator false false (.any),
  row 0x04 1 "TRG_PULSE_WIDTH" .u32 .rw (.num (1600)) .integrator false false (.any),
  row 0x05 1 "TRG_POLARITY" .bool .rw (.num (0)) .integrator false false (.any),
  row 0x06 1 "TRIG_ID" .u16 .ro (.num (0)) .integrator false false (.any),
  row 0x07 1 "TRIG_SKIPPED" .u32 .rc (.num (0)) .integrator false false (.any),
  row 0x08 1 "LAST_TRIG_TIME" .time .ro (.num (0)) .integrator false false (.any),
  row 0x09 1 "LINE_OVERSPEED" .bool .w1c (.num (0)) .integrator false false (.any)]⟩

/-- Objects 0x3590. -/
def grp3590 : ObjGroup := ⟨0x3590, 0x3590, 0x3590, false, [
  row 0x01 1 "TRIG_LAT" .u32 .const (.num (960)) .integrator false false (.any),
  row 0x02 1 "REJECTED_WRITES" .u32 .rc (.num (0)) .integrator false false (.any)]⟩

/-- The groups of page 0x35. -/
def page35 : List ObjGroup :=
  [grp3500, grp3504, grp3508, grp350C, grp3540, grp3580, grp3590]

/-- Objects 0x3600. -/
def grp3600 : ObjGroup := ⟨0x3600, 0x3600, 0x3600, false, [
  row 0x01 1 "HEAD_POWER" .bool .rw (.num (0)) .operator false false (.any),
  row 0x02 1 "HEAD_PWR_SETTLE" .u32 .rw (.num (50000)) .integrator false false (.rng (1000) (1000000)),
  row 0x03 1 "HEAD_CLK_DIV" .u8 .rw (.num (4)) .integrator false true (.oneOf [4, 8, 16]),
  row 0x04 1 "ZONE_MARK_RULE" .u8 .rw (.num (0)) .integrator false false (.rng (0) (15)),
  row 0x05 1 "AUTO_COVER" .bool .rw (.num (1)) .integrator false false (.any),
  row 0x06 1 "DOT_BASE" .u64 .rw (.num (0)) .integrator false true (.mult (0) (18446744073709551615) 4096),
  row 0x07 1 "DOT_SIZE" .u64 .rw (.num (0)) .integrator false true (.mult (1048576) (18446744073709551615) 4096),
  row 0x08 1 "GLYPH_BASE" .u64 .rw (.num (0)) .integrator false false (.mult (0) (18446744073709551615) 4096),
  row 0x09 1 "REJECTED_WRITES" .u32 .rc (.num (0)) .integrator false false (.any)]⟩

/-- Objects 0x3608. -/
def grp3608 : ObjGroup := ⟨0x3608, 0x3608, 0x3608, false, [
  row 0x00 1 "SEQ" .u32 .ro (.num (0)) .integrator false false (.any),
  row 0x01 1 "ACCEPTED" .u64 .ro (.num (0)) .integrator false false (.any),
  row 0x02 1 "NO_HEAD" .u32 .ro (.num (0)) .integrator false false (.any),
  row 0x03 1 "QUEUE_FULL" .u32 .ro (.num (0)) .integrator false false (.any),
  row 0x04 1 "EPOCH_DROPS" .u32 .ro (.num (0)) .integrator false false (.any),
  row 0x05 1 "TRUNCATED" .u32 .ro (.num (0)) .integrator false false (.any),
  row 0x06 1 "BYPASSED" .u32 .ro (.num (0)) .integrator false false (.any),
  row 0x07 1 "MARK_LOG" .domain .ro (.fill 512 [0]) .integrator false false (.any)]⟩

/-- Objects 0x3610. -/
def grp3610 : ObjGroup := ⟨0x3610, 0x3610, 0x3617, false, [
  row 0x01 1 "NOZZLES" .u8 .rw (.num (128)) .integrator false true (.rng (1) (128)),
  row 0x02 1 "CMP_UNIT" .u8 .rw (.num (255)) .integrator false true (.orVal 0 63 255),
  row 0x03 1 "HEAD_DIST" .wp .rw (.num (0)) .integrator false true (.any),
  row 0x04 1 "ROW_PITCH" .u64 .rw (.num (4294967296)) .integrator false true (.any),
  row 0x05 1 "COL_FIRST" .u64 .rw (.num (0)) .integrator false false (.any),
  row 0x06 1 "COL_PER_NOZZLE" .u32 .rw (.num (65536)) .integrator false false (.any),
  row 0x07 1 "PREP_WP" .wp .rw (.num (1048576)) .integrator false false (.any),
  row 0x08 1 "FLIGHT_NS" .u32 .rw (.num (0)) .integrator false false (.rng (0) (1000000)),
  row 0x09 1 "FIRE_WIDTH" .u16 .rw (.num (1000)) .integrator false false (.mult (200) (5000) 5),
  row 0x0a 1 "HEAT_GAP_MIN" .u16 .rw (.num (1000)) .integrator false false (.any),
  row 0x0b 1 "NOZZLE_MAX_RATE" .u32 .rw (.num (36000)) .integrator false false (.rng (1000) (36000)),
  row 0x0c 1 "HEAD_I2C_ADDR" .u8 .rw (.num (44)) .integrator false true (.rng (0) (127)),
  row 0x0d 1 "RCHECK_EN" .bool .rw (.num (1)) .integrator false false (.any),
  row 0x0e 1 "RCHECK_INTERVAL" .u32 .rw (.num (100)) .integrator false false (.rng (10) (3600000)),
  row 0x0f 1 "RCHECK_GUARD" .u32 .rw (.num (2000)) .integrator false false (.any),
  row 0x10 1 "R_TOL" .u8 .rw (.num (15)) .integrator false false (.any),
  row 0x11 1 "FIRE_TEST" .domain .wo (.fill 24 [0]) .integrator false false (.any)]⟩

/-- Objects 0x3620. -/
def grp3620 : ObjGroup := ⟨0x3620, 0x3620, 0x362f, false, [
  row 0x01 1 "HEAD_MASK" .u8 .rw (.num (255)) .operator true false (.any),
  row 0x02 1 "PATTERN" .u8 .rw (.num (0)) .operator true false (.rng (0) (4)),
  row 0x03 1 "MD_PRE" .wp .rw (.num (0)) .operator true false (.any),
  row 0x04 1 "MD_POST" .wp .rw (.num (0)) .operator true false (.any),
  row 0x05 1 "CD_PRE" .u32 .rw (.num (0)) .operator true false (.any),
  row 0x06 1 "CD_POST" .u32 .rw (.num (0)) .operator true false (.any),
  row 0x07 1 "MIN_ROWS" .u16 .rw (.num (1)) .operator true false (.rng (1) (16384)),
  row 0x08 1 "MIN_NOZZLES" .u8 .rw (.num (1)) .operator true false (.rng (1) (128)),
  row 0x09 1 "GLYPH" .u8 .rw (.num (0)) .operator true false (.rng (0) (15)),
  row 0x0a 1 "FLAG_FIRST" .u8 .rw (.num (0)) .operator true false (.any),
  row 0x0b 1 "FLAG_LAST" .u8 .rw (.num (0)) .operator true false (.any)]⟩

/-- Objects 0x3640. -/
def grp3640 : ObjGroup := ⟨0x3640, 0x3640, 0x3640, false, [
  row 0x01 1 "REMAP" .domain .rw (.ramp 1024 1 1) .integrator false false (.any),
  row 0x02 1 "TRIM" .domain .rw (.fill 1024 [0]) .integrator false false (.any)]⟩

/-- Objects 0x3650. -/
def grp3650 : ObjGroup := ⟨0x3650, 0x3650, 0x3657, false, [
  row 0x00 1 "SEQ" .u32 .ro (.num (0)) .integrator false false (.any),
  row 0x01 1 "HEAD_STATE" .u8 .ro (.num (0)) .integrator false false (.any),
  row 0x02 1 "FAULT_CAUSE" .u8 .ro (.num (0)) .integrator false false (.any),
  row 0x03 1 "HEAD_FLAGS" .u8 .ro (.num (0)) .integrator false false (.any),
  row 0x04 1 "THIN_N" .u8 .ro (.num (1)) .integrator false false (.any),
  row 0x05 1 "QUEUED" .u16 .ro (.num (0)) .integrator false false (.any),
  row 0x06 1 "ROWS_FIRED" .u64 .ro (.num (0)) .integrator false false (.any),
  row 0x07 1 "LATE_ROWS" .u32 .ro (.num (0)) .integrator false false (.any),
  row 0x08 1 "MISSED_ROWS" .u32 .ro (.num (0)) .integrator false false (.any),
  row 0x09 1 "MARKS_DONE" .u32 .ro (.num (0)) .integrator false false (.any),
  row 0x0a 1 "MARKS_PARTIAL" .u32 .ro (.num (0)) .integrator false false (.any),
  row 0x0b 1 "MARKS_MISSED" .u32 .ro (.num (0)) .integrator false false (.any),
  row 0x0c 1 "OVERLAP_DROPS" .u32 .ro (.num (0)) .integrator false false (.any),
  row 0x0d 1 "NOZZLE_HOLDOFF" .u32 .ro (.num (0)) .integrator false false (.any),
  row 0x0e 1 "DEAD_NOZZLES" .u8 .ro (.num (0)) .integrator false false (.any),
  row 0x0f 1 "UNCOVERED" .u8 .ro (.num (0)) .integrator false false (.any),
  row 0x10 1 "RCHECK_DONE" .u32 .ro (.num (0)) .integrator false false (.any),
  row 0x11 1 "RCHECK_FAILS" .u32 .ro (.num (0)) .integrator false false (.any),
  row 0x12 1 "HEAD_TEMP" .i8 .ro (.num (0)) .integrator false false (.any),
  row 0x13 1 "HEAD_ID" .domain .ro (.fill 21 [0]) .integrator false false (.any),
  row 0x14 1 "RMEAS" .domain .ro (.fill 256 [0]) .integrator false false (.any)]⟩

/-- The groups of page 0x36. -/
def page36 : List ObjGroup :=
  [grp3600, grp3608, grp3610, grp3620, grp3640, grp3650]

/-- Objects 0x3800. -/
def grp3800 : ObjGroup := ⟨0x3800, 0x3800, 0x3800, false, [
  row 0x01 1 "LULL_ENABLE" .u8 .rw (.num (7)) .integrator false false (.rng (0) (15)),
  row 0x02 1 "LULL_INPUT" .u8 .rw (.num (0)) .integrator false false (.rng (0) (3)),
  row 0x03 1 "STOP_HOLDOFF" .u32 .rw (.num (500000)) .integrator false false (.any),
  row 0x04 1 "SPLICE_SPAN" .wp .rw (.num (0)) .integrator false false (.any),
  row 0x05 1 "SACRIFICIAL_EVERY" .u32 .rw (.num (0)) .integrator false false (.any),
  row 0x06 1 "SACRIFICE_NEXT" .bool .wo (.num 0) .operator false false (.any),
  row 0x07 1 "CAL_TRIG_PERIOD" .u32 .rw (.num (160000)) .integrator false false (.any),
  row 0x08 1 "LULL_STATE" .u8 .ro (.num (0)) .integrator false false (.any),
  row 0x09 1 "ILLUM_SETTLE" .u32 .rw (.num (20000)) .integrator false false (.any)]⟩

/-- Objects 0x3801. -/
def grp3801 : ObjGroup := ⟨0x3801, 0x3801, 0x3801, false, [
  row 0x01 1 "CAL_LOG" .domain .ro (.fill 1024 [0]) .integrator false false (.any),
  row 0x02 1 "LOG_COUNT" .u32 .ro (.num (0)) .integrator false false (.any)]⟩

/-- Objects 0x3802. -/
def grp3802 : ObjGroup := ⟨0x3802, 0x3802, 0x3802, false, [
  row 0x01 1 "SCALE_INPUT" .u8 .rw (.num (0)) .integrator false false (.rng (0) (3)),
  row 0x02 1 "SCALE_SOURCE" .u8 .rw (.num (1)) .integrator false false (.rng (1) (2)),
  row 0x03 1 "BAR_PITCH_NM" .u32 .rw (.num (100000000)) .integrator false false (.any),
  row 0x04 1 "SCALE_SPAN" .wp .rw (.num (6553600000)) .integrator false false (.any),
  row 0x05 1 "SCALE_CHANGE_MAX" .u32 .rw (.num (2000)) .integrator false false (.any),
  row 0x06 1 "SCALE_START" .bool .wo (.num 0) .integrator false false (.any),
  row 0x07 1 "SCALE_STATE" .u8 .ro (.num (0)) .integrator false false (.any)]⟩

/-- Objects 0x3803. -/
def grp3803 : ObjGroup := ⟨0x3803, 0x3803, 0x3803, false, [
  row 0x01 1 "RETRAIN_INTERVAL" .u32 .rw (.num (86400)) .integrator false false (.any),
  row 0x02 1 "RETRAIN_MARGIN" .u8 .rw (.num (48)) .integrator false false (.any),
  row 0x03 1 "RETRAIN_LULLS" .u8 .rw (.num (4)) .integrator false false (.rng (0) (15)),
  row 0x04 1 "RETRAINS_DONE" .u32 .ro (.num (0)) .integrator false false (.any),
  row 0x05 1 "RETRAINS_ABORTED" .u32 .ro (.num (0)) .integrator false false (.any)]⟩

/-- The groups of page 0x38. -/
def page38 : List ObjGroup :=
  [grp3800, grp3801, grp3802, grp3803]

/-- Objects 0x6000. -/
def grp6000 : ObjGroup := ⟨0x6000, 0x6000, 0x6000, false, [
  row 0x01 1 "SW_ID" .vstr .ro (.blob []) .integrator false false (.any),
  row 0x02 1 "IMAGE_HASH" .domain .ro (.fill 32 [0]) .integrator false false (.any),
  row 0x03 1 "SHORT_ID" .u32 .ro (.num 0) .integrator false false (.any),
  row 0x04 1 "APPROVED_HASH" .domain .ro (.fill 32 [0]) .integrator false false (.any),
  row 0x05 1 "EVENT_COUNTER" .u32 .ro (.num (0)) .integrator false false (.any),
  row 0x06 1 "SEAL_OPEN" .bool .ro (.num 0) .integrator false false (.any)]⟩

/-- Objects 0x6001. -/
def grp6001 : ObjGroup := ⟨0x6001, 0x6001, 0x6001, false, [
  row 0x00 1 "SEQ" .u32 .ro (.num (0)) .integrator false false (.any),
  row 0x01 1 "TOTAL_NM" .i64 .ro (.num (0)) .integrator false false (.any),
  row 0x02 1 "COUNT" .i64 .ro (.num (0)) .integrator false false (.any),
  row 0x03 1 "ROLL" .u32 .ro (.num (0)) .integrator false false (.any),
  row 0x04 1 "ROLL_NM" .i64 .ro (.num (0)) .integrator false false (.any),
  row 0x05 1 "MET_STATUS" .u16 .ro (.num (0)) .integrator false false (.any),
  row 0x06 1 "RTC" .u32 .ro (.num (0)) .integrator false false (.any),
  row 0x07 1 "Z_COUNT" .u32 .ro (.num (0)) .integrator false false (.any)]⟩

/-- Objects 0x6010. -/
def grp6010 : ObjGroup := ⟨0x6010, 0x6010, 0x6010, false, [
  row 0x01 1 "MET_SCALE_PM" .u32 .rw (.num (1000000)) .integrator false false (.any),
  row 0x02 1 "MET_QUAD_MULT" .u8 .rw (.num (4)) .integrator false false (.oneOf [1, 2, 4]),
  row 0x03 1 "MET_FILTER_N" .u8 .rw (.num (4)) .integrator false false (.rng (1) (255)),
  row 0x04 1 "MET_INVERT_DIR" .bool .rw (.num (0)) .integrator false false (.any),
  row 0x05 1 "MET_RES_UM" .u32 .rw (.num (1000)) .integrator false false (.any),
  row 0x06 1 "MET_PULSE_LEN_UM" .u32 .rw (.num (1000000)) .integrator false false (.any),
  row 0x07 1 "MET_PULSE_WIDTH" .u16 .rw (.num (100)) .integrator false false (.rng (1) (10000)),
  row 0x08 1 "MET_ERR_MAX" .u32 .rw (.num (0)) .integrator false false (.any),
  row 0x09 1 "MET_SIGN_KEY" .domain .wo (.fill 32 [0]) .integrator false false (.any),
  row 0x0a 1 "MET_ROLE_KEY" .domain .wo (.fill 32 [0]) .integrator false false (.any),
  row 0x0b 1 "RTC_SET" .u32 .wo (.num 0) .integrator false false (.any),
  row 0x0c 1 "APPROVE" .bool .wo (.num 0) .integrator false false (.any),
  row 0x0d 1 "RESTART" .bool .wo (.num 0) .integrator false false (.any),
  row 0x0e 1 "ROLL_END" .bool .wo (.num 0) .integrator false false (.any)]⟩

/-- Objects 0x6020. -/
def grp6020 : ObjGroup := ⟨0x6020, 0x6020, 0x6020, false, [
  row 0x01 1 "ROLL_LOG" .domain .ro (.fill 2048 [0]) .integrator false false (.any)]⟩

/-- Objects 0x6021. -/
def grp6021 : ObjGroup := ⟨0x6021, 0x6021, 0x6021, false, [
  row 0x01 1 "AUDIT" .domain .ro (.fill 32768 [0]) .integrator false false (.any)]⟩

/-- Objects 0x6022. -/
def grp6022 : ObjGroup := ⟨0x6022, 0x6022, 0x6022, false, [
  row 0x01 1 "QUAD_ERRORS" .u32 .ro (.num (0)) .integrator false false (.any),
  row 0x02 1 "MSG_SKIPPED" .u32 .ro (.num (0)) .integrator false false (.any),
  row 0x03 1 "PULSES_LOST" .u32 .ro (.num (0)) .integrator false false (.any),
  row 0x04 1 "POWER_GAPS" .u32 .ro (.num (0)) .integrator false false (.any),
  row 0x05 1 "STORE_ERRORS" .u32 .ro (.num (0)) .integrator false false (.any)]⟩

/-- The groups of page 0x60. -/
def page60 : List ObjGroup :=
  [grp6000, grp6001, grp6010, grp6020, grp6021, grp6022]

/-- Objects 0x7000. -/
def grp7000 : ObjGroup := ⟨0x7000, 0x7000, 0x72ef, false, [
  row 0x01 1 "UNIT_ID" .u16 .const (.num 0) .integrator false false (.any),
  row 0x02 1 "PARENT" .u16 .const (.num 0) .integrator false false (.any),
  row 0x03 1 "NAME" .vstr .const (.blob []) .integrator false false (.any),
  row 0x04 1 "MEMBERS" .domain .const (.blob []) .integrator false false (.any),
  row 0x05 1 "STATE" .u8 .ro (.num 0) .integrator false false (.any),
  row 0x06 1 "COMMAND" .u8 .wo (.num 0) .integrator false false (.rng (0) (6)),
  row 0x07 1 "CMD_STATUS" .u8 .ro (.num (0)) .integrator false false (.any),
  row 0x08 1 "REFUSE_CAUSE" .u8 .ro (.num (0)) .integrator false false (.any),
  row 0x09 1 "REFUSE_MEMBER" .u16 .ro (.num (65535)) .integrator false false (.any),
  row 0x0a 1 "STATE_TIME" .time .ro (.num (0)) .integrator false false (.any),
  row 0x0b 1 "STATE_CHANGES" .u32 .ro (.num (0)) .integrator false false (.any),
  row 0x0c 1 "ALLOWED" .u8 .const (.num 0) .integrator false false (.any),
  row 0x0d 1 "RESETS" .u32 .ro (.num (0)) .integrator false false (.any)]⟩

/-- The groups of page 0x70. -/
def page70 : List ObjGroup :=
  [grp7000]

end Sys2Proof.Machine
end

