-- ==== Sys2Proof/Machine/Dict.lean ====
section
/-! DEFINITION. The object dictionary (R469, R7): which objects exist and what each one is. -/

namespace Sys2Proof.Machine

/-- The groups of a page of the index space. Port blocks 0x2000 to 0x2FFF repeat every 0x100 (R105). -/
def dictPage : Nat → List ObjGroup
  | 0x10 => page10
  | 0x11 => page11
  | 0x12 => page12
  | 0x13 => page13
  | 0x14 => page14
  | 0x15 => page15
  | 0x16 => page16
  | 0x17 => page17
  | 0x18 => page18
  | 0x19 => page19
  | 0x1a => page1A
  | 0x1b => page1B
  | 0x20 => page20
  | 0x30 => page30
  | 0x31 => page31
  | 0x32 => page32
  | 0x34 => page34
  | 0x35 => page35
  | 0x36 => page36
  | 0x38 => page38
  | 0x60 => page60
  | 0x70 => page70
  | 0x71 => page70
  | 0x72 => page70
  | _ => []

/-- The index in the tables that a port block's index stands for: P0's. -/
def tableIndex (idx : Nat) : Nat := if 0x2000 ≤ idx ∧ idx < 0x3000 then 0x2000 + idx % 0x100 else idx

/-- Whether a unit ID is listed (R21). -/
def unitExists (u : Nat) : Bool :=
  u ≤ 0x034 || (0x050 ≤ u && u ≤ 0x0FB) || (0x100 ≤ u && u ≤ 0x107) || (0x200 ≤ u && u ≤ 0x2EF)

/-- The group that holds an index. -/
def objGroup (idx : Nat) : Option ObjGroup :=
  let i := tableIndex idx
  if 0x7000 ≤ i && !unitExists (i - 0x7000) then none
  else (dictPage (i / 256)).find? (fun g => g.first ≤ i && i ≤ g.last)

/-- The row of an object (index, sub-index). Fabric objects pack sixteen instances in an index (R375 to R377). -/
def objInfo (idx sub : Nat) : Option ObjRow :=
  match objGroup idx with
  | none => none
  | some g =>
    let s := if g.packed then sub % 16 else sub
    g.rows.find? (fun r => r.sub ≤ s && s < r.sub + r.nsub)

/-- The table's index of an object's group, 0 where there is none: the group a rule names. -/
def objBase (idx : Nat) : Nat := match objGroup idx with | none => 0 | some g => g.base

/-- The instance number of an index within its group. -/
def objInst (idx : Nat) : Nat :=
  match objGroup idx with | none => 0 | some g => tableIndex idx - g.first

/-- Whether an index is a result group: it has a SEQ at sub-index 0 (R473). -/
def isResultGroup (idx : Nat) : Bool :=
  match objGroup idx with
  | none => false
  | some g => g.rows.any (fun r => r.sub == 0 && r.name == "SEQ")

/-- The bits of a field object that are not reserved (R9): you must write 0 to a reserved bit, and a write of 1 to
one is refused (DEDUCED, assumption log 13). -/
def objMask (base sub : Nat) : Nat :=
  match base, sub with
  | 0x1310, 4 => 0x3F
  | 0x3540, 5 => 0xF7
  | 0x1540, s => if s % 16 = 0x0A then 0x87 else 2 ^ 64 - 1
  | 0x1400, 3 => 0xFFFFFFFFFFFF
  | 0x3110, 2 => 0x3F7F
  | 0x3224, s => if s = 0x11 then 0xF else 0xF1F
  | 0x1640, _ => 0xEFFF
  | 0x1602, s => if s ≤ 8 then 0xFFFFF000FFFFF000 else 2 ^ 64 - 1
  | _, _ => 2 ^ 64 - 1


end Sys2Proof.Machine
end

