-- ==== Sys2Proof/Machine/Tab.lean ====
section
/-! DEFINITION. Sparse tables keyed by a number, in one canonical form: keys strictly rising.
Every per-instance table of the block (objects, units, ports, lanes, channels) is one of these. -/

namespace Sys2Proof.Machine

/-- A sparse table: pairs of a key and a value, keys strictly rising. -/
abbrev Tab (α : Type) := List (Nat × α)

/-- The entry at a key, if the table lists one. -/
def tabFind {α : Type} : Tab α → Nat → Option α
  | [], _ => none
  | (k, v) :: r, n => if k = n then some v else if n < k then none else tabFind r n

/-- The entry at a key, or the value given for keys the table does not list. -/
def tabGet {α : Type} (t : Tab α) (dflt : α) (n : Nat) : α := (tabFind t n).getD dflt

/-- The table with an entry set. -/
def tabSet {α : Type} : Tab α → Nat → α → Tab α
  | [], n, a => [(n, a)]
  | (k, v) :: r, n, a =>
    if k = n then (n, a) :: r else if n < k then (n, a) :: (k, v) :: r else (k, v) :: tabSet r n a

/-- The table with an entry taken out. -/
def tabErase {α : Type} : Tab α → Nat → Tab α
  | [], _ => []
  | (k, v) :: r, n => if k = n then r else (k, v) :: tabErase r n

/-- Keys strictly rising. -/
def tabWf {α : Type} : Tab α → Bool
  | [] => true
  | [_] => true
  | (k, _) :: (k2, v2) :: r => decide (k < k2) && tabWf ((k2, v2) :: r)

end Sys2Proof.Machine
end

