-- ==== Sys2Proof/Machine/State.lean ====
section
/-! DEFINITION. The state of the block, as plain data: the object store, what each chapter keeps beside its objects, the
time unit, the sealed metrology domain, and the queue of waiting commands. -/

namespace Sys2Proof.Machine

/-! Units (R485) -/

/-- Unit states (R485). -/
inductive UState where
  | off | inService | shadow | test | bypass
  deriving DecidableEq, Repr

/-! Device time (chapter 2) -/

/-- TIME_STATE (R27). -/
inductive TimeState where
  | free | held | tracking | holdover
  deriving DecidableEq, Repr

/-- A slew in progress (R30): the amount, the raw value at which it began and its rate in ppb. -/
structure Slew where
  total : Int
  start : Nat
  limit : Nat
  deriving DecidableEq, Repr

/-- A parameter set of applied time (R24, R35). -/
structure TimeParams where
  offset : Int := 0
  rate : Int := 0
  rawRef : Nat := 0
  slew : Option Slew := none
  deriving DecidableEq, Repr

/-- The time unit: the base of its raw counter (R23), the parameters in force, the sets that were in force with the
raw value up to which each held (R35), and what R27 to R33 keep. -/
structure TimeUnit where
  rawBase : Nat := 0
  par : TimeParams := {}
  past : List (Nat × TimeParams) := []
  state : TimeState := .free
  slewLimit : Nat := 100000
  epoch : Nat := 0
  deriving DecidableEq, Repr

/-- What a command asks of the time unit; the one way by which a command changes it (R25, R28 to R30, R458). -/
inductive TuOp where
  | setOffset (v : Int)
  | setRate (v : Int)
  | declareValid
  | setSlewLimit (v : Nat)
  | setEpoch (v : Nat)
  | endSlew
  | lockFrom (offset : Int) (rate : Int)
  | addSlew (v : Int)
  | track
  | holdover
  | hold
  deriving DecidableEq, Repr

/-- The working copy of a time compare unit (R42 to R44): whether it is armed, its target, its period, how many
targets are left (none: without end), and which fields were written while it was armed. `late` marks a target that
was late and is to fire under LATE_FIRE. -/
structure TcWork where
  armed : Bool := false
  target : Nat := 0
  period : Nat := 0
  left : Option Nat := none
  shTarget : Bool := false
  shPeriod : Bool := false
  shRepeat : Bool := false
  late : Bool := false
  deriving DecidableEq, Repr

/-! Web position (chapter 3) -/

/-- A filtered pin (R48): the level at the ball, the raw instant at which it began as the filter's samples see it, the
accepted level, the filter clock that first sees the ball's latest change, and the level and its beginning as the samples
before that clock saw them. -/
structure PinFilter where
  lvl : Bool := false
  since : Nat := 0
  acc : Bool := false
  primed : Bool := false
  cell : Nat := 0
  runLvl : Bool := false
  runSince : Nat := 0
  deriving DecidableEq, Repr

/-- A counted edge (R189, R191): stamp, position after it, the step it made, the interval ending at it, whether the
input counted a QUAD_ERROR or an OVERRATE between the edge before it and this one, and the revolution counter after it with
the revolutions before (R299), in counts. -/
structure Edge where
  stamp : Nat
  pos : Int
  step : Int
  dt : Nat
  suspect : Bool
  rev : Int := 0
  deriving DecidableEq, Repr

/-- A pending position set (R62): whether it still waits for a grant at POS_SET. -/
structure SetPend where
  waitGrant : Bool
  deriving DecidableEq, Repr

/-- A position input (R48 to R62). Positions are in Q48.16; `stillAt` is the raw instant at which STANDSTILL was set, and
`stillStamp` that instant as applied time. -/
structure Enc where
  pinA : PinFilter := {}
  pinB : PinFilter := {}
  pinZ : PinFilter := {}
  suspect : Bool := false
  onSince : Nat := 0
  pos : Int := 0
  frontier : Int := 0
  rev : Int := 0
  lastStamp : Option Nat := none
  lastClock : Nat := 0
  intervals : List (Nat × Int) := []
  prevInterval : Nat := 0
  tLast : Nat := 0
  dtLast : Nat := 0
  reverse : Bool := false
  standstill : Bool := false
  stillAt : Nat := 0
  stillStamp : Nat := 0
  onceArmed : Bool := false
  refSeen : Bool := false
  sinceRef : Int := 0
  setPend : Option SetPend := none
  edges : List Edge := []
  revs : List (Nat × Option Nat) := []
  turns : Int := 0
  deriving DecidableEq, Repr

/-- The working copy of a position compare unit (R66, R67): targets in Q48.32. -/
structure CmpWork where
  armed : Bool := false
  target : Int := 0
  period : Nat := 0
  left : Option Nat := none
  shTarget : Bool := false
  shPeriod : Bool := false
  shRepeat : Bool := false
  late : Bool := false
  lastClk : Option Nat := none
  deriving DecidableEq, Repr

/-- A line trigger that a port sent (R71, R134): its ID, the raw instant of its first bit at the ball and its stamp,
whether a line has used the ID, DELAY_TRIM in force for it (R188), and whether the calibration trigger made it (R167). -/
structure Trig where
  id : Nat
  raw : Nat
  stamp : Nat
  used : Bool
  trim : Int
  cal : Bool
  deriving DecidableEq, Repr

/-- The line trigger of a port (R71 to R73). For the holes of R194 it notes the skips of its source unit since the last accepted
line, each with the ID before it and its applied time, and the IDs of the calibration trigger as ranges. -/
structure TrigPort where
  id : Nat := 0
  lastSent : Option Nat := none
  pulseEnd : Option Nat := none
  sent : List Trig := []
  skipAfter : List (Nat × Nat) := []
  calIds : List (Nat × Nat) := []
  deriving DecidableEq, Repr

/-! Camera and cascade lanes (chapter 4) -/

/-- LINK_STATE of a lane (R107). -/
inductive LinkState where
  | down | hunt | train | locked | aligned | failed
  deriving DecidableEq, Repr

/-- What a training waits for (R89, R90): the answer to a request, the measurement after a step, the answers on the way
back to the best taps, or the answer to RX_READY. -/
inductive TrainPhase where
  | asked | measuring | returning | ready
  deriving DecidableEq, Repr

/-- A training in progress (R89, R90): when it began, the request in flight (sequence number, byte 2, the instant it was
last sent), consecutive timeouts, steps taken, the camera's taps and margin now, the best seen, and whether the camera
reported a limit in the latest status. -/
structure Training where
  start : Nat
  phase : TrainPhase := .asked
  seq : Nat
  req : Nat
  sentAt : Nat
  timeouts : Nat := 0
  steps : Nat := 0
  taps : Nat := 0
  margin : Nat := 0
  best : Option (Nat × Nat) := none
  limit : Bool := false
  deriving DecidableEq, Repr

/-- A lane (R83 to R104): camera lanes 0 to 127, cascade lanes at 128 to 143. It holds whether its PHY is powered and has
block lock, the consistent alignment periods in a row and the missed ones, the latest alignment block's sequence
number, mask and raw arrival, its training, the sequence number of its requests and the peer's latest with its answer,
the state a command takes it to from TEST with that command's raw deadline (R104), the checker with the raw instant from which it
counts bits, and when its latest training ended. On the transmit side it holds the scrambler's register and the slot of the
block that left it last (R79), the BIP-8 of the blocks since the latest alignment block (R82), and the generator's start with its
raw instant (R101). -/
structure Lane where
  link : LinkState := .down
  powered : Bool := false
  locked : Bool := false
  run : Nat := 0
  missed : Nat := 0
  seq : Option Nat := none
  mask : Nat := 0
  arrived : Nat := 0
  training : Option Training := none
  reqSeq : Nat := 0
  remoteSeq : Option Nat := none
  remoteAns : Nat := 0
  leaveTest : Option (Nat × Nat) := none
  chk : Nat := 0
  chkFrom : Nat := 0
  inject : Option (Nat × Nat) := none
  trainedAt : Nat := 0
  scr : Nat := 0
  lastSlot : Nat := 0
  bip : Nat := 0
  gen : Nat := 0
  genFrom : Nat := 0
  deriving DecidableEq, Repr

/-- A block that waits for a slot of a group's transmitter (R113): 0 a TRIGGER, 1 a lane-layer block, 2 a CARRIER; its lanes,
its bytes, the raw instants from which it may go and up to which it is repeated (R89, R96), and for a TRIGGER the instant of
its first bit at the ball (R71). -/
structure TxBlk where
  prio : Nat
  lanes : List Nat
  bytes : List Byte
  due : Nat
  until_ : Nat := 0
  ball : Option Nat := none
  deriving DecidableEq, Repr

/-- A map change in progress (R95, R96): its mask, earliest target, when it was first sent, and the target the camera
acknowledged. -/
structure MapChange where
  mask : Nat
  target : Nat
  sentAt : Nat
  acked : Option Nat := none
  deriving DecidableEq, Repr

/-- PORT_LINK (R106). -/
inductive PortLink where
  | down | training | deskewing | up | upDegraded | broken
  deriving DecidableEq, Repr

/-- The lane side of a port 0 to 15, of an exchange group (16 left, 17 right) or of a spare group (18, 19) (R84 to R99,
R220): its link, active mask, last alignment sequence number and skew, the raw instant at which its stream stopped, the
map change in progress, and on the transmit side the next alignment sequence number, the raw instant of the latest
alignment blocks and their slot, the striping mask and a change of it that the peer asked for (mask, target), the blocks that
wait for a slot and the first slot that is free (R113). -/
structure PortLanes where
  link : PortLink := .down
  mask : Nat := 0
  alignSeq : Nat := 0
  skew : Nat := 0
  stoppedAt : Option Nat := none
  change : Option MapChange := none
  txSeq : Nat := 0
  txAt : Option Nat := none
  txMask : Nat := 0
  txChange : Option (Nat × Nat) := none
  alignSlot : Nat := 0
  txq : List TxBlk := []
  txSlot : Nat := 0
  deriving DecidableEq, Repr

/-! Line transport (chapter 5) -/

/-- CAMERA_STATE (R131). -/
inductive CameraState where
  | absent | identifying | configuring | ready | fault
  deriving DecidableEq, Repr

/-- An outstanding command to a camera (R126, R128): its sequence number, opcode, settings ID, the COMMAND payload
after the sequence, sends, first and latest send, and the bring-up step it serves (0: software's own). -/
structure CamCmd where
  seq : Nat
  opcode : Nat
  settings : Nat
  payload : List Byte
  sends : Nat
  first : Nat
  last : Nat
  step : Nat
  deriving DecidableEq, Repr

/-- A settings table entry (R130). -/
structure Settings where
  id : Nat
  expDelay : Nat
  exposure : Nat
  deriving DecidableEq, Repr

/-- The planes of one line as they arrive (R135): line number, VC_TYPE and TRIGGER_ID of its latest plane, ingress bank
reserved, first plane's arrival and the planes that came with their payloads; `dropped` marks a line already dropped, and
`broken` one behind whose latest plane a packet with a bad header came. -/
structure PlaneSet where
  line : Nat
  vcType : Nat
  trig : Nat
  bank : Nat
  arrival : Nat
  planes : List (Nat × List Byte)
  dropped : Bool
  broken : Bool := false
  deriving DecidableEq, Repr

/-- An open strip (R136). -/
structure Strip where
  first : Nat
  spanned : Nat
  committed : Nat
  settings : Nat
  target : Bool
  noSos : Bool
  firstArr : Nat
  lastArr : Nat
  deriving DecidableEq, Repr

/-- A drop log entry (R138). -/
structure DropEntry where
  stamp : Nat
  line : Nat
  check : Nat
  vcType : Nat
  trig : Nat
  deriving DecidableEq, Repr

/-- A committed line with its own metadata (R13): it waits in an ingress bank until its pipeline has taken it. For a
free-run line `trigStamp` is its beacon's send stamp and `freeNs` the offset of R123. `bankSwap` marks the boundary line
of a coefficient bank swap (R152), `strip` the first line number of its strip, `lulls` the lulls that offer it to
calibration (R165). -/
structure CamLine where
  line : Nat
  vcType : Nat
  flags : Nat
  settings : Nat
  trig : Nat
  trigStamp : Nat
  trim : Int
  freeNs : Option Nat
  arrival : Nat
  linkDelay : Nat
  expDelay : Nat
  exposure : Nat
  planes : List (Nat × List Byte)
  bank : Nat
  cal : Bool
  bankSwap : Bool := false
  strip : Option Nat := none
  lulls : Nat := 0
  deriving DecidableEq, Repr

/-- The transport side of a port (R110 to R141). Times are raw. It holds the camera's bring-up (state, step, busy
answers, retry), the command outstanding, the delay history, LINK_DELAY values with the stamp of the response that made
each (newest first), outstanding delay requests (ID, stamp, raw), the beacons sent (ID, stamp), the settings table
(oldest first), the line-number sequence with the latest number and the latest committed one, the open strip, the drop log, the
committed lines that wait in ingress, and since when each ingress bank is free (none: in use). -/
structure PortT where
  cam : CameraState := .absent
  busy : Nat := 0
  retry : Option (Nat × Nat) := none
  cmd : Option CamCmd := none
  cmdSeq : Nat := 0
  readBack : List Nat := []
  settingsDone : Bool := false
  history : List Int := []
  filling : Bool := true
  rejects : Nat := 0
  linkDelays : List (Nat × Nat) := []
  delayReqs : List (Nat × Nat × Nat) := []
  delayId : Nat := 0
  delayAt : Option Nat := none
  beacons : List (Nat × Nat) := []
  beaconId : Nat := 0
  beaconAt : Option Nat := none
  settings : List Settings := []
  lastLine : Option Nat := none
  lastDone : Option Nat := none
  lastSettings : Option Nat := none
  lastCommitted : Option Nat := none
  planes : Option PlaneSet := none
  strip : Option Strip := none
  sosAt : Option Nat := none
  dropLog : List DropEntry := []
  ingress : List CamLine := []
  banks : List (Option Nat) := [some 0, some 0]
  deriving DecidableEq, Repr

/-! Pixel correction (chapter 6) -/

/-- A line after stage 6 (R142, R149, R150): the camera line's metadata, its output planes with their samples of `bits`
bits, invalid runs, whether the run list overflowed and whether any pixel clipped, the bank that corrected it, and per
plane the line mean and the zone means at STAT_POINT with none for a zone without valid pixels (R154). -/
structure CorrLine where
  cam : CamLine
  planes : List (Nat × List Nat)
  bits : Nat
  runs : List (Nat × Nat)
  overflow : Bool
  clip : Bool
  bank : Nat
  means : List (Nat × Nat × List (Option Nat))
  deriving DecidableEq, Repr

/-- A line's signals (R154): whether the line carries TARGET, and per plane its mean and zone means. -/
structure LineSig where
  target : Bool := false
  means : List (Nat × Nat × List (Option Nat)) := []
  deriving DecidableEq, Repr

/-- The statistics of a strip as its lines add to them (R155): lines used, counts of valid, saturated, clip-low and
clip-high pixels, and per plane the histogram and the zones' sums and counts. `closed` are the STRIP_FLAGS once the
strip has closed. -/
structure StatAcc where
  strip : Nat
  settings : Nat
  bank : Nat
  mixed : Bool := false
  used : Nat := 0
  valid : Nat := 0
  sat : Nat := 0
  low : Nat := 0
  high : Nat := 0
  hist : Tab (List Nat) := []
  sums : Tab (List (Nat × Nat)) := []
  closed : Option Nat := none
  deriving DecidableEq, Repr

/-- A pending bank swap (R152, R153): its value, SWAP_LINE where that is the boundary, whether it is late, and whether
its boundary line has been committed. -/
structure SwapReq where
  value : Nat
  line : Nat
  late : Bool
  fixed : Bool
  deriving DecidableEq, Repr

/-- What pixel correction keeps for a port (R151 to R155): its pending swap, the copy in progress (from, to), whether a
calibration commit holds the inactive bank (R177), and the statistics of the strips not published yet, oldest first. -/
structure PixPort where
  swap : Option SwapReq := none
  copy : Option (Nat × Nat) := none
  held : Bool := false
  stats : List StatAcc := []
  deriving DecidableEq, Repr

/-- A raw or raster tap (R156 to R158, R219): whether it is armed, and the lines counted since. -/
structure TapSt where
  armed : Bool := false
  lines : Nat := 0
  deriving DecidableEq, Repr

/-! Calibration in lulls (chapter 7) -/

/-- The lulls (R165, R166): ports whose TARGET lull is open, the open SPLICE lull's start and the windows of applied time
that SPLICE lulls covered (newest first), whether STOP is open, the open SACRIFICIAL lull's SOS line number and the
latest one, whether one is asked for, strips counted, and when the calibration trigger last fired. -/
structure Lulls where
  target : List Nat := []
  splice : Option Int := none
  windows : List (Nat × Option Nat) := []
  stop : Bool := false
  sacr : Option Nat := none
  sacrLine : Option Nat := none
  sacrNext : Bool := false
  strips : Nat := 0
  trigAt : Option Nat := none
  deriving DecidableEq, Repr

/-- JOB_STATE (R168, R185). -/
inductive JobState where
  | idle | waiting | acquiring | computing | candidate | committing
  deriving DecidableEq, Repr

/-- What a job computed (R170 to R174): by plane the new dark or gain of every pixel and the code of every pixel found dead (0:
none), with whether codes in the map are kept and whether the job starts from an all-GOOD map (R171); a polynomial's F64
patterns, a matrix with offsets, DELAY_TRIM; the metric of its main limit as F32, and how many pixels it found dead. -/
structure Candidate where
  vals : List (List Nat) := []
  marks : List (List Nat) := []
  sticky : Bool := false
  allGood : Bool := false
  poly : List Nat := []
  matrix : List Int := []
  trim : Int := 0
  metric : Nat := 0
  added : Nat := 0
  deriving DecidableEq, Repr

/-- The dark bars of a DELAY job (R174): brightest and darkest line mean seen, whether a bar is under the camera, and its
weights and weighted positions. -/
structure BarSt where
  hi : Nat := 0
  lo : Nat := 65535
  inside : Bool := false
  w : Int := 0
  wx : Int := 0
  deriving DecidableEq, Repr

/-- A port's calibration job (R168 to R179): kind, start, whether it may accept lines (R170), settings and lines
accumulated; per plane each pixel's sum and sum of squares; edge positions summed (R172); per plane each patch's sum
and count (R173); grants that wait for their bar and pairs (R174); its candidate, and how far its commit has come.
`deadReset` asks the next committed job to start from an all-GOOD map. -/
structure Job where
  state : JobState := .idle
  kind : Nat := 0
  start : Nat := 0
  settled : Bool := false
  settleAt : Nat := 0
  settings : Option Nat := none
  lines : Nat := 0
  sums : Tab (List (Nat × Nat)) := []
  edges : List Int := []
  patches : Tab (List (Nat × Nat)) := []
  grants : List (Int × Int) := []
  pairs : List (Int × Int) := []
  bar : BarSt := {}
  cand : Candidate := {}
  step : Nat := 0
  deadReset : Bool := false
  deriving DecidableEq, Repr

/-- The encoder scale measurement (R180): the reference at its start (length in nm, position) and the latest. -/
structure ScaleSt where
  first : Option (Nat × Int) := none
  last : Option (Nat × Int) := none
  deriving DecidableEq, Repr

/-- A retraining in a lull (R181, R182): the full mask, the half in training, the kinds of lull that were open for its port when
it began and have not closed since, and the step: 0 waiting for the other half to carry the stream, 1 training, 2 waiting for
alignment, 3 waiting for the full mask. -/
structure Retrain where
  full : Nat
  half : Nat
  step : Nat
  lulls : Nat
  deriving DecidableEq, Repr

/-- A placed line that is not corrected yet (R188): its number, arrival, midpoint and position, and whether the resampler
accepted it (R194). -/
structure PlacedLine where
  line : Nat
  arrival : Nat
  mid : Nat
  wp : Int
  accepted : Bool := false
  deriving DecidableEq, Repr

/-! Placing lines and MD resampling (chapter 8) -/

/-- A committed line that waits to be placed (R192); `lost` marks a line of a SACRIFICIAL strip (R165). -/
structure PlaceIn where
  cam : CamLine
  lost : Bool
  deriving DecidableEq, Repr

/-- An accepted line (R13, R194): line number, trigger ID and stamp, exposure midpoint, web position in Q48.16, flags of R193,
settings, arrival stamp, and whether a hole lies between the accepted line before it and it. -/
structure AccLine where
  line : Nat
  trig : Nat
  tTrig : Nat
  mid : Nat
  wp : Int
  flags : Nat
  settings : Nat
  arrival : Nat
  hole : Bool
  deriving DecidableEq, Repr

/-- The placer and resampler side of a port (R189 to R201): lines that wait, accepted lines in order, the numbers of the lines
ahead of the last accepted one that were set aside or diverted, the trigger IDs that the former echoed, whether a hole is known
above it, how many lines were accepted since the port entered service, the index of the next grid position, the class, the index
last emitted, and how many swaps of the coefficient table its grid lines have followed. -/
structure PlacePort where
  queue : List PlaceIn := []
  acc : List AccLine := []
  aside : List Nat := []
  leftOut : List Nat := []
  hole : Bool := false
  count : Nat := 0
  next : Option Int := none
  cls : Nat := 0
  lastM : Option Int := none
  swaps : Nat := 0
  deriving DecidableEq, Repr

/-- A grid line of a port (R196, R200): the index and web position of its grid position, whether it is a gap line, its
flag word, the settings of lines a and b, its samples by output plane, its invalid runs and whether they overflowed (R150), the
arrival stamp of the newest line of its window, and the raw instant at which it was emitted. -/
structure GridLine where
  m : Int
  wp : Int
  gap : Bool
  flags : Nat
  setA : Nat
  setB : Nat
  planes : List (Nat × List Nat)
  runs : List (Nat × Nat)
  ovf : Bool := false
  arrival : Nat
  at_ : Nat := 0
  deriving DecidableEq, Repr

/-- A coefficient table that swaps at a grid position (R202, R218): whether a swap is pending, the index of its W where
one is set, for each swap that took place its W and the table that grid positions below it still use, newest first, and how many
took place since reset. -/
structure CoefSwap where
  pending : Bool := false
  w : Option Int := none
  prevs : List (Int × List Byte) := []
  count : Nat := 0
  deriving DecidableEq, Repr

/-! Stitching and the cascade (chapter 9) -/

/-- A pending geometry swap of a port (R217): the grid index of its boundary, none for the next raster line, and whether
it is late. -/
structure GeoReq where
  at_ : Option Int
  late : Bool
  deriving DecidableEq, Repr

/-- A port's part of a raster line (R13, R215): the port, its span's first and last device column, and the settings ID of line a. -/
structure PortSpan where
  port : Nat
  first : Nat
  last : Nat
  settings : Nat
  deriving DecidableEq, Repr

/-- A raster line (R215): grid index, web position, flag word, samples by raster plane, invalid runs and whether they overflowed
(R150), gap runs, the span and the settings of line a of every contributing port, the arrival stamp of the newest camera line in
it. -/
structure RasterLine where
  m : Int
  wp : Int
  flags : Nat
  planes : List (Nat × List Nat)
  runs : List (Nat × Nat)
  ovf : Bool := false
  gaps : List (Nat × Nat)
  settings : List PortSpan
  arrival : Nat
  deriving DecidableEq, Repr

/-- NB_STATE of a side (R226). -/
inductive NbState where
  | none | linkDown | hello | present | late | absent | mismatch
  deriving DecidableEq, Repr

/-- A neighbour's EXPORT (R225): grid index, first system column, column count, planes present, whether it is a gap line,
samples by plane, invalid runs counted from the window's start. -/
structure Export where
  m : Int
  first : Nat
  cols : Nat
  gap : Bool
  planes : List (Nat × List Nat)
  runs : List (Nat × Nat)
  deriving DecidableEq, Repr

/-- A side of the cascade (R223 to R228): its state, whether a HELLO has been accepted since the link came up, EXPORTs
held, lines in a row that went without one, the next SEQUENCE expected of each kind, and when the latest HELLO was
sent. -/
structure CascSide where
  state : NbState := .none
  helloOk : Bool := false
  exports : List Export := []
  missed : Nat := 0
  seqs : Tab Nat := []
  helloAt : Option Nat := none
  deriving DecidableEq, Repr

/-- The stitcher (R215): the index of the next raster line and that of the line before it, and the highest index for which the
columns of an EXPORT were computed (R224). -/
structure Stitch where
  next : Option Int := none
  last : Option Int := none
  sent : Option Int := none
  deriving DecidableEq, Repr

/-! Profile filter chains (chapter 10) -/

/-- An input that waits for a chain (R236): how many held samples come before it, its stamp and web position in Q48.16,
and its value, none where it is held itself. -/
structure ChainIn where
  held : Nat
  stamp : Nat
  wp : Int
  val : Option Int
  deriving DecidableEq, Repr

/-- A sample between the stages of a chain: its value in Q32.32, the chain inputs that the newest and the oldest sample of
its window descend from (negative where the window is not full), whether it saturated, and whether a held sample lies in
its window. -/
structure Samp where
  val : Int
  newest : Int
  oldest : Int
  sat : Bool
  held : Bool
  deriving DecidableEq, Repr

/-- A FIR stage at work (R238): its newest inputs, newest first, and how many it has taken. -/
structure FirSt where
  xs : List Samp := []
  count : Nat := 0
  deriving DecidableEq, Repr

/-- A chain at work (R233 to R248): its input queue, the inputs dropped since the newest that waits, the newest camera
line number or FEED stamp, the sample before (stamp, web position, value) and the last spacing, the held samples in a
row, the index of the next input and of the newest held one; the CIC's integrators and combs; the stamp history, newest
first, by stage-1 output; the FIR stages; the resampler's newest inputs, count and position u in Q32.32; the sequence
number of the next output; whether a restart or a bank swap is still to be marked, with the input of the swap; the
pending swap, with its time where it has one; the detector outputs left under DET_HOLD, whether the detectors are in
force and empty, the mean square as F64, and whether a threshold output is to be judged without an event. -/
structure Chain where
  running : Bool := false
  queue : List ChainIn := []
  lost : Nat := 0
  lastLine : Option Nat := none
  lastFeed : Option Nat := none
  prev : Option (Nat × Int × Int) := none
  spaceT : Int := 0
  spaceW : Int := 0
  heldRun : Nat := 0
  index : Nat := 0
  lastHeld : Option Nat := none
  acc : List Nat := []
  combs : List (List Nat) := []
  hist : List (Nat × Nat × Int) := []
  a : FirSt := {}
  b : FirSt := {}
  xs : List Samp := []
  count : Nat := 0
  u : Nat := 0
  seq : Nat := 0
  restart : Bool := false
  boundary : Option Int := none
  swap : Option (Option Nat) := none
  hold : Nat := 0
  det : Bool := false
  detEmpty : Bool := true
  ms : Nat := 0
  quiet : Bool := false
  deriving DecidableEq, Repr

/-! Background and pixel classes (chapter 11) -/

/-- The background model of a device column (R257, R261). -/
structure ColModel where
  mean : Nat := 0
  var : Nat := 0
  n : Nat := 0
  frozen : Nat := 0
  forced : Bool := false
  deriving DecidableEq, Repr

/-- A classified raster line before the 3×3 stage (R256 to R264): the raster line, its flag word, its raster-line time,
its class codes, the deviation d of each column, which columns are MASK by rules 1 to 5 and 7, which are not learned, which
belong to a slice that runs the 3×3 stage, whether the line is frozen, and whether its models have been updated. -/
structure ClassRow where
  r : RasterLine
  flags : Nat
  time : Nat
  codes : List Nat
  dev : List Int
  hard : List Bool
  soft : List Bool
  stage : List Bool
  frozen : Bool
  updated : Bool
  deriving DecidableEq, Repr

/-- A class line (R264): grid index, web position, flag word, raster-line time, class codes, and of its raster line the
deviations, planes, gap runs, port settings and arrival stamp. -/
structure ClassLine where
  m : Int
  wp : Int
  flags : Nat
  time : Nat
  codes : List Nat
  dev : List Int
  planes : List (Nat × List Nat)
  gaps : List (Nat × Nat)
  settings : List PortSpan
  arrival : Nat
  deriving DecidableEq, Repr

/-- A web edge side (R265): 0 off, 1 ACQUIRING, 2 TRACKING, 3 LOST; e in 1/256 column; lost lines in a row. -/
structure EdgeSide where
  state : Nat := 0
  e : Int := 0
  lost : Nat := 0
  deriving DecidableEq, Repr

/-- The segmenter (R257 to R268): the column models, the classified line that waits for the next one and the line before
it, the edge sides, whether LEARNED is still to be offered, and whether RELEARN is pending. -/
structure Seg where
  cols : List ColModel := []
  wait : Option ClassRow := none
  before : Option ClassRow := none
  left : EdgeSide := {}
  right : EdgeSide := {}
  learning : Bool := true
  relearn : Bool := false
  deriving DecidableEq, Repr

/-! Regions (chapter 12) -/

/-- A feature set (R291): positions with their grid indexes, system columns, counts, sums, extremes, times, settings and
RFLAGS. -/
structure Feat where
  mdStart : Int
  mdEnd : Int
  g0 : Int
  g1 : Int
  cdFirst : Nat := 0
  cdLast : Nat := 0
  area : Nat := 0
  perim : Nat := 0
  contact : Nat := 0
  hist : List Nat := [0, 0, 0, 0]
  sumX : Nat := 0
  sumY : Nat := 0
  sumI : Nat := 0
  sumI2 : Nat := 0
  sumDev : Int := 0
  minI : Nat := 0
  maxI : Nat := 0
  t0 : Nat := 0
  t1 : Nat := 0
  settings : Nat := 0
  rflags : Nat := 0
  deriving DecidableEq, Repr

/-- An entry of the region table (R278 to R289): its ID, features, the slice it is charged to, chain (0 none) and the
number of its next segment, the chains that merges ended since its last record, whether it is WAITING, whether it has a
run on the latest line with that run set's device columns, the neighbours' IDs it is linked to, the right ones still
pending, and the sides to which its ID was sent. -/
structure Region where
  id : Nat
  feat : Feat
  slice : Nat
  chain : Nat := 0
  segNo : Nat := 0
  ended : List Nat := []
  waiting : Bool := false
  on : Bool := true
  ext : Nat × Nat := (0, 0)
  left : List Nat := []
  right : List Nat := []
  pend : List Nat := []
  sent : Nat := 0
  deriving DecidableEq, Repr

/-- A run (R275): its device columns, polarity (0 where both join), and the region it belongs to, 0 for none. -/
structure TrackRun where
  a : Nat
  b : Nat
  pol : Nat
  id : Nat := 0
  deriving DecidableEq, Repr

/-- A class line the tracker keeps while its pixels are completed (R277): grid index, codes, whether it is a gap line, its
gap runs, and its runs. -/
structure TrackLine where
  m : Int
  codes : List Nat
  gapLine : Bool
  gaps : List (Nat × Nat)
  runs : List TrackRun
  deriving DecidableEq, Repr

/-- A LINE entry (R290): position, class code of the boundary pixel, and the region that covers it, 0 for none. -/
structure LineEnt where
  wp : Int
  cls : Nat
  id : Nat
  deriving DecidableEq, Repr

/-- A zone cell (R285): counts of the four classes, first and last grid index counted, and the causes that fed it. -/
structure ZoneCell where
  counts : List Nat := [0, 0, 0, 0]
  first : Int
  last : Int
  causes : Nat := 0
  deriving DecidableEq, Repr

/-- A repeat track (R300): class, hits, CD centre, last R in Q48.16 counts, first and last revolution index, last time. -/
structure RepTrack where
  cls : Nat
  hits : Nat
  cd : Nat
  r : Int
  first : Int
  last : Int
  time : Nat
  deriving DecidableEq, Repr

/-- The region tracker (R275 to R303): the table, the entries absorbed on this line by the slice they are charged to, the
next region and chain IDs, the two lines before, the line that waits for a neighbour's LINE entry with its runs and the
raw instant at which it began to wait, zone cells with their band, squall mode with its exit count and the command for
the next line, LINE entries received and the one used last of each side, MERGE and FRAGMENT entries received, entries to
send, the highest class line begun, the tree's swap, and the repeat tracks. -/
structure Tracker where
  regions : List Region := []
  merged : List Nat := []
  nextId : Nat := 1
  nextChain : Nat := 1
  prev : Option TrackLine := none
  prev2 : Option TrackLine := none
  mid : Option (ClassLine × List TrackRun × Nat) := none
  cells : Tab ZoneCell := []
  band : Option Int := none
  squall : Bool := false
  exit : Nat := 0
  cmd : Nat := 0
  lineIn : Tab (List LineEnt) := []
  lineLast : Tab LineEnt := []
  inbox : List (Nat × List Byte) := []
  outbox : Tab (List (List Byte)) := []
  begun : Option Int := none
  tree : CoefSwap := {}
  tracks : Tab RepTrack := []
  deriving DecidableEq, Repr

/-! Records and the settle stage (chapter 13) -/

/-- A record (R309 to R312): its bytes as stored, and the positions and system columns that key it. -/
structure Rec where
  bytes : List Byte
  mdStart : Int
  mdEnd : Int
  cdFirst : Nat
  cdLast : Nat
  deriving DecidableEq, Repr

/-- The settle stage (R313 to R323): held records in ascending key order, the key of the last record released in order, W_s
of each slice, the subtree watermark of each side, what waits on a side whose next record is an epoch ahead, the W of the
last frontier watermark, the next SEQ, records written since the last RECORDS_READY with the raw instant of the first, and
the addresses of the records that the ring holds whole, oldest first. -/
structure Settle where
  hold : List Rec := []
  last : Option (Int × Nat × Nat × Nat) := none
  own : List Int := []
  side : Tab Int := []
  sideQ : Tab (List (List Byte)) := []
  front : Option Int := none
  seq : Nat := 1
  notify : Nat := 0
  notifyAt : Nat := 0
  ringRecs : List Nat := []
  deriving DecidableEq, Repr

/-! Marking heads (chapter 14) -/

/-- A queued mark (R337 to R339, R344): its dot block's place in the ring (counted without wrapping, which also names
the mark), ORIGIN and SEQ of its record, its rows, the row to judge next, the row on which it last fired, how many rows
fired, were lost and are in work, its outcome flags, the applied time of its first FIRE, and whether it runs dry. -/
structure Mark where
  at_ : Nat
  origin : Nat
  seq : Nat
  first : Int
  last : Int
  next : Int
  prev : Option Int := none
  fired : Nat := 0
  lost : Nat := 0
  busy : Nat := 0
  flags : Nat := 0
  stamp : Nat := 0
  dry : Bool := false
  deriving DecidableEq, Repr

/-- A row of a head (R329, R335): its index, its compare's fire clock, the marks that fire on it with their dots, whether
dot data was poisoned, its fire mask, the raw instants at which F is latched and the last HEAT pulse ends, and whether
FIRE_TEST asked for it. -/
structure HeadRow where
  k : Int
  t0 : Nat
  marks : List (Nat × Nat) := []
  poison : Bool := false
  f : Nat := 0
  latch : Nat := 0
  heatEnd : Option Nat := none
  test : Bool := false
  deriving DecidableEq, Repr

/-- A head (R331 to R335, R341, R343, R347): its queue, the row of the compare's next target, whether its compare runs,
rows that wait for their sequence, the row in sequence, the raw end of its FIRE pulse, when each channel last fired,
SPEED_LIMIT, the FIRE_TEST rows left after the one in work with their mask, period and next start, and the resistance
check: whether one runs, its nozzle, when the latest started, each nozzle's failures in a row, and transfers without an
acknowledge in a row. -/
structure Head where
  queue : List Mark := []
  nextRow : Int := 0
  armed : Bool := false
  rows : List HeadRow := []
  cur : Option HeadRow := none
  fireEnd : Option Nat := none
  lastFire : Tab Nat := []
  slim : Bool := false
  tests : Option (Nat × Nat × Nat × Nat) := none
  checking : Bool := false
  nozzle : Nat := 0
  checkedAt : Nat := 0
  fails : Tab Nat := []
  nacks : Nat := 0
  deriving DecidableEq, Repr

/-- HEAD_PWR_EN (R330, R346): whether the engine enables the supply, since when, whether HEAD_PWR_SETTLE has passed, and
until when the ball stays high after a cut. -/
structure HeadPower where
  on : Bool := false
  since : Nat := 0
  settled : Bool := false
  lowAt : Nat := 0
  deriving DecidableEq, Repr

/-! Event fabric (chapter 15) -/

/-- An offer that a producer raised on a channel and the channel has not handled (R359): the producer, its DATA, and
the relay whose take made it, if one did (R360). -/
structure Offer where
  chan : Nat
  prod : Nat
  data : Nat
  at_ : Nat
  relay : Option Nat
  deriving DecidableEq, Repr

/-- A channel at work (R359, R360, R368): busy with the relays it waits on and the offer it accepted, its offer latch,
and the acceptance times of its last 64 accepted offers, newest first. -/
structure Chan where
  busy : Bool := false
  doneAt : Nat := 0
  waitRelays : List Nat := []
  cur : Option Offer := none
  latch : Option Offer := none
  accepts : List Nat := []
  deriving DecidableEq, Repr

/-- A granted event at a task input (R363): the raw instant that its stamp is for, stamp, data, channel and sequence
number. -/
structure Granted where
  at_ : Nat
  stamp : Nat
  data : Nat
  chan : Nat
  seq : Nat
  deriving DecidableEq, Repr

/-- A task input (R363 to R365): the event in work, the raw instant at which its action ends, what waits behind it,
GRANT_SEQ, and its latest grant with its outcome. -/
structure TaskIn where
  work : Option Granted := none
  busyTill : Nat := 0
  held : List Granted := []
  seq : Nat := 0
  last : Option Granted := none
  outcome : Nat := 0
  deriving DecidableEq, Repr

/-- An event pin (R372): the level from outside when it is an input, and the raw instant at which its pulse ends when
it is an output. -/
structure EvPin where
  lvl : Bool := false
  pulseEnd : Option Nat := none
  deriving DecidableEq, Repr

/-- A relay at work (R360): the channel that brought its event and the channels whose offers it waits for. -/
structure RelayWork where
  chan : Nat
  waits : List Nat
  deriving DecidableEq, Repr

/-! External memory (chapter 16) -/

/-- A read that a port has in the controller (R384, R386): its port, address, length and the raw instant of its
acceptance. -/
structure MemReq where
  port : Nat
  addr : Nat
  len : Nat
  at_ : Nat
  deriving DecidableEq, Repr

/-- A channel of the controller (R385, R387): its write queue, oldest first, and for each bank, 16 to a rank, the row that
is open with the number of column commands of its run. -/
structure MemChan where
  writes : List MemReq := []
  rows : Tab (Nat × Nat) := []
  deriving DecidableEq, Repr

/-- A rank-channel (R388 to R390, R397): postponed and pulled-in refreshes, the raw instants at which a real-time port
and any port was last served, whether it is in power-down, the corrected errors of the last hour, and the latest
MEM_CE. -/
structure RankSt where
  postponed : Nat := 0
  pulled : Nat := 0
  lastRt : Option Nat := none
  lastServed : Nat := 0
  calm : Bool := false
  ces : List Nat := []
  ceAt : Option Nat := none
  deriving DecidableEq, Repr

/-- A migration in progress (R398): source, destination, raw start. -/
structure Mig where
  src : Nat
  dst : Nat
  at_ : Nat
  deriving DecidableEq, Repr

/-- An entry of ERROR_LOG (R403). -/
structure MemErr where
  stamp : Nat
  addr : Nat
  rank : Nat
  kind : Nat
  source : Nat
  block : Nat
  slot : Nat
  symbol : Nat
  deriving DecidableEq, Repr

/-- What a port's service keeps (R384, R407): the traffic of the last 10 µs, the latest PORT_LATE, and, up to the raw
instant `seenAt`, the time spent over BUDGET that CAPPED_US does not show yet, in tt. -/
structure MemPort where
  traffic : List (Nat × Nat) := []
  lateAt : Option Nat := none
  seenAt : Nat := 0
  capped : Nat := 0
  deriving DecidableEq, Repr

/-! Queues (chapter 17) -/

/-- The spare pipeline and the rotation of the in-service test (R416, R557, R558): the port that the spare serves, the
pipeline that shadows another and the one it shadows, lines compared without mismatch, and ROT_STATE with its pipeline.
`bist` names the pipelines that run their self-test, `pending` the phase that follows at the next committed line,
`retry` that phase 3 is repeated, `back` the state to which a pipeline returns, `at_` the raw instant of the latest
step's start, `wanted` that a step was asked for and waits, `ahead` how many lines before the boundary line wait in
ingress. -/
structure Rot where
  serves : Option Nat := none
  shadow : Option (Nat × Nat) := none
  compared : Nat := 0
  state : Nat := 0
  pipe : Nat := 0xFF
  next : Nat := 0
  bist : List Nat := []
  pending : Nat := 0
  disagree : Bool := false
  retry : Bool := false
  back : UState := .off
  at_ : Nat := 0
  wanted : Bool := false
  ahead : Nat := 0
  deriving DecidableEq, Repr

/-! Compression, look-back and live views (chapter 18) -/

/-- A look-back band that a ring gathers (R430 to R432): its first grid index, its tiles (tile column, plane, and the
coding lane given to it, none where none was free), and its raster lines so far, newest first. -/
structure OpenBand where
  first : Int
  tiles : List (Nat × Nat × Option Nat)
  rows : List RasterLine
  deriving DecidableEq, Repr

/-- A look-back tile whose last line has been coded (R429 to R432): its ring, its band's first grid index, tile column,
plane, size, NEAR, bits, FLAGS, samples line by line, its lane (none where it is dropped), and whether it is its band's
last. -/
structure Tile where
  ring : Nat
  first : Int
  tile : Nat
  plane : Nat
  cols : Nat
  lines : Nat
  near : Nat
  bits : Nat
  flags : Nat
  samples : List Nat
  lane : Option Nat
  last : Bool
  deriving DecidableEq, Repr

/-- A band in the writing (R432, R433): where it starts, its bytes so far, tiles written and dropped, and BFLAGS. -/
structure BandOut where
  start : Nat
  bytes : List Byte := []
  tiles : Nat := 0
  dropped : Nat := 0
  flags : Nat := 0
  deriving DecidableEq, Repr

/-- A band that a ring's index holds (R433): its first grid index, where it starts, and its length in bytes. -/
structure BandIx where
  first : Int
  start : Nat
  len : Nat
  deriving DecidableEq, Repr

/-- A look-back ring: the band it gathers, the band it writes, where the next block goes, its index newest first, and when
TILE_DROP was last offered. -/
structure CompRing where
  gather : Option OpenBand := none
  writing : Option BandOut := none
  wp : Nat := 0
  index : List BandIx := []
  dropAt : Option Nat := none
  deriving DecidableEq, Repr

/-- A crop request in the unit (R434 to R437): its record, its window in grid indexes and device columns, whether it was
clipped, when it arrived, its coding lanes and, once cut, FLAGS and the samples of each plane. -/
structure Crop where
  src : Rec
  m0 : Int
  m1 : Int
  c0 : Nat
  c1 : Nat
  clipped : Bool
  at_ : Nat
  lanes : List Nat := []
  cut : Option (Nat × List (Nat × List Nat)) := none
  deriving DecidableEq, Repr

/-- The frame of a live view in the making (R438): its settings (plane, first column, columns, MD and CD factors, lines,
NEAR, bits), its lane, its first grid index and raster position, the lines of the group to be averaged, and the averaged
lines, newest first, with FLAGS. -/
structure ViewFrame where
  plane : Nat
  col : Nat
  cols : Nat
  md : Nat
  cd : Nat
  lines : Nat
  near : Nat
  bits : Nat
  lane : Option Nat
  first : Int
  flags : Nat := 0
  group : List (Bool × List Nat) := []
  done : List (List Nat) := []
  deriving DecidableEq, Repr

/-- A core job that runs (R440): its descriptor, its lane, and whether that is a decoding lane. -/
structure CompJob where
  desc : List Byte
  lane : Nat
  dec : Bool := false
  deriving DecidableEq, Repr

/-- A coding context that a stopped COMPRESS job saved (R442): the address it was saved at, the job's first DST, its
sizes, the samples coded so far, the stream bytes put out so far, and whether input was poisoned. -/
structure CompCtx where
  dst : Nat
  bits : Nat
  near : Nat
  cols : Nat
  lines : Nat
  done : Nat
  samples : List Nat
  put : Nat
  poison : Bool
  deriving DecidableEq, Repr

/-- The compression unit (R426 to R444): tiles to write, its rings (0 fine, 1 coarse), crops, view frames, the bytes each
view sent in the last second, jobs, saved contexts by address, coding lanes in use, raw and coded bytes of fine tiles of
the last second, and decoding lanes in use. -/
structure Comp where
  work : List Tile := []
  rings : Tab CompRing := []
  crops : List Crop := []
  views : Tab ViewFrame := []
  viewSent : Tab (List (Nat × Nat)) := []
  jobs : List CompJob := []
  ctxs : Tab CompCtx := []
  lanes : List Nat := []
  ratio : List (Nat × Nat × Nat) := []
  decs : List Nat := []
  deriving DecidableEq, Repr

/-! Management ports and network time (chapter 19) -/

/-- A foreign master of a slot (R454): its port identity, the MAC and IPv4 addresses that its Announce came from, the dataset of its Announce in the order of the standard's
comparison, its grandmaster, its Announce interval, and when it was last heard. -/
structure Foreign where
  id : Nat
  from_ : List Byte := []
  set : List Nat
  gm : Nat
  cls : Nat
  utc : Int
  logInt : Int
  at_ : Nat
  deriving DecidableEq, Repr

/-- A Sync that waits for its Follow_Up (R456): sequence, N(t2), its correction. -/
structure SyncWait where
  seq : Nat
  t2 : Int
  corr : Int
  deriving DecidableEq, Repr

/-- A PTP slot (R454 to R458): its foreign masters, the master it follows, the Sync in wait, when the latest Sync came and
its interval, N(t1) and ms of the latest Sync, twice the mean path delay, its Delay_Req in flight with N(t3), the servo's
integral as a fraction, e, Syncs in a row within and beyond the thresholds, since when it is LOCKED, and whether it has
been LOCKED and saw a step since. -/
structure PtpSlot where
  foreign : List Foreign := []
  master : Option Nat := none
  wait : Option SyncWait := none
  syncAt : Option Nat := none
  logSync : Int := 0
  t1 : Int := 0
  ms : Option Int := none
  mpd2 : Option Int := none
  req : Option (Nat × Int) := none
  reqSeq : Nat := 0
  reqAt : Nat := 0
  iNum : Int := 0
  iDen : Nat := 1
  e : Int := 0
  near : Nat := 0
  far : Nat := 0
  lockedAt : Nat := 0
  was : Bool := false
  step : Bool := false
  deriving DecidableEq, Repr

/-- The peer-delay exchange of a port (R455, R456): sequence and N(t1p) of the request in flight, then N(t4p), t2p and the
corrections of the response while its follow-up is due, when the last was sent, twice the peer delay. -/
structure PeerDelay where
  seq : Nat := 0
  t1 : Option Int := none
  resp : Option (Int × Int × Int) := none
  sentAt : Nat := 0
  mpd2 : Option Int := none
  deriving DecidableEq, Repr

/-- What the management side keeps: slots, peer-delay exchanges of the ports, the transmit stamp queue (port, TS_ID,
stamp), raw instants of echo replies of the last second per port, the PTP second of the latest PPS_OUT, and the raw instant at
which that pulse ends. -/
structure Net where
  slots : Tab PtpSlot := []
  peers : Tab PeerDelay := []
  stamps : List (Nat × Nat × Nat) := []
  echoes : Tab (List Nat) := []
  ppsSec : Int := 0
  ppsEnd : Nat := 0
  deriving DecidableEq, Repr

/-! Dictionary, units, overlays, FDP (chapter 20) -/

/-- CMD_STATUS (R485). -/
inductive CmdStatus where
  | idle | pending | done | refused | cancelled
  deriving DecidableEq, Repr

/-- A PENDING command of a unit or group (R486 to R489): its target state, the units that still have to take it in
order, whether a first step has taken effect, and for RESET the states to return to. -/
structure UnitCmd where
  target : UState
  steps : List (Nat × UState)
  started : Bool
  reset : Bool
  at_ : Nat
  deriving DecidableEq, Repr

/-- A unit's standard block (R485); of a pipeline also its moves of the last 200 µs, newest first, by raw instant with the state
before each (R132). -/
structure UnitRec where
  state : UState := .off
  cmd : Option UnitCmd := none
  status : CmdStatus := .idle
  cause : Nat := 0
  member : Nat := 0xFFFF
  time : Nat := 0
  changes : Nat := 0
  resets : Nat := 0
  past : List (Nat × UState) := []
  deriving DecidableEq, Repr

/-- OVL_STATE (R499). -/
inductive OvlState where
  | empty | stored | pendingOn | active | pendingOff
  deriving DecidableEq, Repr

/-- A stored overlay entry (R491). -/
structure OvlEntry where
  idx : Nat
  sub : Nat
  val : Int
  deriving DecidableEq, Repr

/-- An overlay (R491 to R499): its entries, the domain and role that stored it, which entries are applied, the raw instant
of its activation with W (none while no grid line had been emitted) and the boundary lines by port; the same of its
deactivation, whose boundary AFTER fixes at activation, and whether an entry has gone out of force since. -/
structure Ovl where
  state : OvlState := .empty
  entries : List OvlEntry := []
  owner : Nat := 0
  role : Role := .viewer
  applied : List Nat := []
  at_ : Nat := 0
  wIdx : Option Int := none
  lines : Tab Nat := []
  offAt : Option Nat := none
  offIdx : Option Int := none
  offLines : Tab Nat := []
  removed : Bool := false
  deriving DecidableEq, Repr

/-- A reader's latched result groups (R473, R474), newest last: the group's index and the values latched. -/
structure Held where
  idx : Nat
  seq : Nat
  vals : List (Nat × ObjVal)
  deriving DecidableEq, Repr

/-- What the dictionary keeps for a master (R474, R476, R498): its last access and its latched groups, and its offset
register of each slot. -/
structure MasterRec where
  notReady : Bool := false
  refused : Bool := false
  overlaid : Bool := false
  denied : Bool := false
  wstatus : Nat := 0
  held : List Held := []
  offsets : Tab Nat := []
  deriving DecidableEq, Repr

/-- An FDP session (R479, R480), with the ID that it was given. -/
structure Session where
  isOpen : Bool := false
  id : Nat := 0
  role : Role := .viewer
  port : Nat := 0
  peer : Nat := 0
  key : List Byte := []
  last : Nat := 0
  lastAt : Nat := 0
  lastResp : List Byte := []
  requests : Nat := 0
  deriving DecidableEq, Repr

/-- An FDP stream (R484). -/
structure Stream where
  isOpen : Bool := false
  owner : Nat := 255
  dest : Nat := 0
  port : Nat := 0
  unit : Nat := 1
  packets : Nat := 0
  deriving DecidableEq, Repr

/-- How the latest access or service of a command ended: a STATUS of R482 and the value a read returned. -/
structure Resp where
  status : Nat := 0
  val : ObjVal := .num 0
  deriving DecidableEq, Repr

/-- What a command puts on the balls, lanes, networks or buses. A head pulse is 0 LAT, 1 HEAT, 2 FIRE or 3 a cut. `at_` is a
raw instant; for a TTO pin it is an applied time, as its targets are. `laneBlock` and `carrier` are what is given to a
transmitter, in clear; `wire` is a block other than IDLE as it leaves a lane, its 66 bits with the first one lowest (R79). An
injection carries the generator's word as it is sent (R103). `memData` is a read delivered to its port, with or without a
poison mark (R395), `busError` the end of a core's access outside the physical map or into what is not its own (R501, R502). -/
inductive Out where
  | laneBlock (lane : Nat) (bytes : List Byte) (at_ : Nat)
  | carrier (port : Nat) (packet : List Byte) (at_ : Nat)
  | pin (name : String) (k : Nat) (level : Bool) (at_ : Nat)
  | frame (mg : Nat) (bytes : List Byte)
  | datagram (session : Nat) (bytes : List Byte)
  | cascade (side : Nat) (kind : Nat) (payload : List Byte)
  | cascadeRec (side : Nat) (words : List Int)
  | avs (mv : Nat)
  | head (h : Nat) (what : Nat) (mask : Nat) (at_ : Nat) (width : Nat)
  | i2c (h : Nat) (addr : Nat) (bytes : List Byte)
  | inject (lane kind len word : Nat)
  | wire (lane : Nat) (bits : Nat) (at_ : Nat)
  | memData (port : Nat) (addr : Nat) (poison : Bool)
  | busError (addr : Nat)
  deriving DecidableEq, Repr

/-! Cores, mailboxes, locks (chapter 21) -/

/-- A mailbox (R510 to R513): the words from A to B and from B to A, oldest first. -/
structure Mbox where
  ab : List Nat := []
  ba : List Nat := []
  deriving DecidableEq, Repr

/-! Sealed metrology domain (chapter 22) -/

/-- A totalizer slot (R535). -/
structure MetSlot where
  seq : Nat
  roll : Nat
  l0 : Int
  c : Int
  rollStart : Int
  rtc : Nat
  flags : Nat
  deriving DecidableEq, Repr

/-- The parameters of R545. -/
structure MetParams where
  scale : Nat := 1000000
  quadMult : Nat := 4
  filterN : Nat := 4
  invert : Bool := false
  resUm : Nat := 1000
  pulseLen : Nat := 1000000
  pulseWidth : Nat := 100
  errMax : Nat := 0
  signKey : List Byte := []
  roleKey : List Byte := []
  deriving DecidableEq, Repr

/-- A message that waits in the domain (R540): type, w1 and w2, w3. -/
structure MetMsg where
  kind : Nat
  w1 : Nat
  w2 : Nat
  w3 : Nat
  deriving DecidableEq, Repr

/-- The view at 0x6001 as last published (R544): total, C, open roll, its length, MET_STATUS, RTC, Z_COUNT. -/
structure MetView where
  seq : Nat := 0
  total : Int := 0
  c : Int := 0
  roll : Nat := 0
  rollNm : Int := 0
  status : Nat := 0
  rtc : Nat := 0
  zCount : Nat := 0
  deriving DecidableEq, Repr

/-- What metrology-role FDP asks of the domain: a write of a number to a subindex of 0x6010, or of bytes, or a session of
its own as it then stands. -/
inductive MetOp where
  | num (sub : Nat) (v : Int)
  | blob (sub : Nat) (b : List Byte)
  | session (k : Nat) (x : Session)
  deriving DecidableEq, Repr

/-- What the store of the metrology domain held when VDD_MET fell below its warning level (R529): roll log, audit trail,
EVENT_COUNTER, parameters, approved hash. -/
structure MetStore where
  rollLog : List (List Byte)
  audit : List (List Byte)
  eventCounter : Nat
  par : MetParams
  approved : List Byte
  deriving DecidableEq, Repr

/-- The sealed metrology domain (R526 to R547). Kept while VDD_MET stands: whether it is powered and warned (with what the
store held then), the pins, the counting block, the real-time clock (its value at an instant; none while it is not set), the
open roll, the pulse output with the highest total pulsed, how many pulses wait, when its pulse ends and when the last
began, seal and image, messages in wait with the next sequence number, whether a TOTAL is due and whether a sending is, the
instant of the latest 100 ms tick with whether the interval's extra and power-warning slots are written, and the counters.
Kept in the store: slots newest first, roll log, audit trail, EVENT_COUNTER, parameters and the approved hash. Its sessions
are its own (R542). -/
structure Met where
  powered : Bool := false
  warned : Bool := false
  kept : Option MetStore := none
  pinA : PinFilter := {}
  pinB : PinFilter := {}
  pinZ : PinFilter := {}
  sealPin : PinFilter := { lvl := true, acc := true }
  c : Int := 0
  l0 : Int := 0
  zCount : Nat := 0
  rtcAt : Option (Nat × Nat) := none
  roll : Nat := 0
  rollStart : Int := 0
  rollRtc : Nat := 0
  rollErrors : Nat := 0
  rollGap : Bool := false
  rollSeal : Bool := false
  pulsed : Int := 0
  pulsesDue : Nat := 0
  pulseEnd : Option Nat := none
  pulseFrom : Option Nat := none
  okOut : Bool := false
  imageHash : List Byte := []
  version : List Byte := []
  storeFault : Bool := false
  queue : List MetMsg := []
  msgSeq : Nat := 0
  totalDue : Bool := false
  tryDue : Bool := false
  tickAt : Nat := 0
  extraUsed : Bool := false
  warnUsed : Bool := false
  quadErrors : Nat := 0
  msgSkipped : Nat := 0
  pulsesLost : Nat := 0
  powerGaps : Nat := 0
  storeErrors : Nat := 0
  view : MetView := {}
  slots : List MetSlot := []
  rollLog : List (List Byte) := []
  audit : List (List Byte) := []
  eventCounter : Nat := 0
  par : MetParams := {}
  approved : List Byte := []
  sessions : Tab Session := []
  deriving DecidableEq, Repr

/-! Monitors (chapter 23) -/

/-- The accumulators of a monitor unit (R549 to R552): the window's start, the samples taken in it, what its samples made
of it (with ACCUMULATE, and those before), and whether its first alarm was offered. -/
structure MonAcc where
  start : Nat := 0
  startRaw : Nat := 0
  taken : Nat := 0
  count : Nat := 0
  sum : Int := 0
  sumSat : Bool := false
  min : Int := 0
  max : Int := 0
  under : Nat := 0
  over_ : Nat := 0
  hist : List Nat := []
  binSat : Bool := false
  skipped : Nat := 0
  alarms : Nat := 0
  alarmed : Bool := false
  deriving DecidableEq, Repr

/-- An entry of MISMATCH_LOG (R563). -/
structure Mismatch where
  stamp : Nat
  line : Nat
  pipe : Nat
  phase : Nat
  col : Nat
  deriving DecidableEq, Repr

/-! Power, reset and start-up (chapter 24) -/

/-- Where boot stands (R580): step 1 to 5, halted in recovery on a port, or halted. Step 5 stands for the rest of boot,
which software commands. -/
inductive BootState where
  | step (n : Nat)
  | recovery (mg : Nat)
  | halted
  deriving DecidableEq, Repr

/-- The governor (R570, R571), the heartbeat (R575, R576), boot (R580) and the reset log (R572). VDD_CORE as commanded,
whether the regulator reports it as reached, the demands of the active stages in the period before, since when r has
given headroom, AVSBus failures in a row, since when VDD_CORE reads low and whether that was offered, the sensors that read at or above TEMP_TRIP with
the instant of the first such reading, whether boot waits for them, which causes hold a reset, the heartbeat with the
instant of its first edge since it last started, the latest kick, whether an interval was missed, whether INSPECT_TIME is
recorded, the image that recovery receives, whether the AVSBus is unused (R595), and the instant of
the latest ANNOUNCE (R581). -/
structure PowerD where
  vcmd : Nat := 720
  reached : Bool := true
  lastDemand : Tab Nat := []
  goodSince : Option Nat := none
  avsFails : Nat := 0
  lowSince : Option (Nat × Bool) := none
  hot : Tab Nat := []
  coolWait : Bool := false
  boot : BootState := .step 2
  heldBy : Option Nat := none
  inspecting : Bool := false
  beat : Nat := 0
  kickAt : Nat := 0
  wdogMissed : Bool := false
  firstEdge : Bool := false
  recv : List Byte := []
  avsOff : Bool := false
  announceAt : Option Nat := none
  deriving DecidableEq, Repr

/-- The main domain of the device: everything outside PD_MET and the time unit's applied time. -/
structure Dev where
  /-- Objects whose base value differs from the dictionary's default, by index times 256 plus sub-index (R469, R490) -/
  o : Tab ObjVal := []
  /-- Values that ACTIVE overlays put in force, by object (R495) -/
  inForce : Tab ObjVal := []
  /-- Written values of shadow-capable objects that wait for their boundary (R472) -/
  shadow : Tab ObjVal := []
  /-- How many open values were drawn; the model's own -/
  freeN : Nat := 0
  /-- What the command in work asks of the time unit; empty between commands -/
  tuOps : List TuOp := []
  /-- Working copies of TC0 to TC31 (R42) -/
  tcs : Tab TcWork := []
  /-- TTO pins in their pulse state, with the applied time at which the pulse ends (R46) -/
  tto : Tab Nat := []
  /-- Position inputs E0 to E3 -/
  encs : Tab Enc := []
  /-- Working copies of C0 to C63 (R66) -/
  cmps : Tab CmpWork := []
  /-- Line triggers of P0 to P15 (R71) -/
  trigs : Tab TrigPort := []
  /-- Camera lanes 0 to 127 and cascade lanes at 128 to 143 -/
  lanes : Tab Lane := []
  /-- Lane side of P0 to P15, of the exchange groups at 16 and 17 and of the spare groups at 18 and 19 -/
  ports : Tab PortLanes := []
  /-- Transport side of P0 to P15 -/
  ptx : Tab PortT := []
  /-- Packets of the cores' VC2 and VC3 rings, by port times two plus 0 or 1 (R116, R121) -/
  vcRings : Tab (List (List Byte)) := []
  /-- Pixel correction of P0 to P15 -/
  pix : Tab PixPort := []
  /-- Corrected lines of each port that the placer has not placed, oldest first -/
  corr : Tab (List CorrLine) := []
  /-- Taps by the index of their objects -/
  taps : Tab TapSt := []
  /-- SEQUENCE of the next cascade packet, by side times eight plus kind (R221) -/
  cascTx : Tab Nat := []
  /-- The lulls -/
  lulls : Lulls := {}
  /-- Calibration jobs of P0 to P15 -/
  jobs : Tab Job := []
  /-- The encoder scale measurement -/
  scale : ScaleSt := {}
  /-- Retraining of P0 to P15 -/
  retrains : Tab Retrain := []
  /-- Placed lines of each port that are not corrected yet -/
  placed : Tab (List PlacedLine) := []
  /-- The placer's and the MD resampler's side of P0 to P15 -/
  place : Tab PlacePort := []
  /-- Grid lines of each port that the stitcher has not used, oldest first -/
  grid : Tab (List GridLine) := []
  /-- The MD coefficient table's swap -/
  mdCoef : CoefSwap := {}
  /-- Pending geometry swaps of P0 to P15 -/
  geo : Tab GeoReq := []
  /-- The CD coefficient table's swap -/
  cdCoef : CoefSwap := {}
  /-- The stitcher -/
  stitch : Stitch := {}
  /-- Cascade sides: 0 left, 1 right -/
  sides : Tab CascSide := []
  /-- Raster lines that the segmenter has not taken, oldest first -/
  raster : List RasterLine := []
  /-- Profile chains 0 to 31 -/
  chains : Tab Chain := []
  /-- Latest line signals of each port (R154, R234) -/
  lineSig : Tab LineSig := []
  /-- The segmenter -/
  seg : Seg := {}
  /-- Class lines that the region tracker has not taken, oldest first -/
  classLines : List ClassLine := []
  /-- CD extents of the regions open after the previous class line (R260) -/
  openCols : List (Nat × Nat) := []
  /-- The region tracker -/
  trk : Tracker := {}
  /-- The settle stage -/
  settle : Settle := {}
  /-- Records that wait for the marking engine (R322) -/
  markQ : List Rec := []
  /-- Records that wait for a crop (R322) -/
  cropQ : List Rec := []
  /-- Heads H0 to H7 -/
  heads : Tab Head := []
  /-- The supply of the heads -/
  headPow : HeadPower := {}
  /-- Bytes ever put into the dot ring (R339) -/
  dotHead : Nat := 0
  /-- Offers raised and not yet handled, oldest first (R359) -/
  offers : List Offer := []
  /-- Channels 0 to 255 -/
  chans : Tab Chan := []
  /-- Task inputs by task ID -/
  tasks : Tab TaskIn := []
  /-- Event pins EVP0 to EVP63 -/
  evps : Tab EvPin := []
  /-- RELAY0 to RELAY15 in work -/
  relays : Tab RelayWork := []
  /-- The enabled channels, ascending (R376) -/
  chanOn : List Nat := []
  /-- Raw instant from which a direct write of GATE_SOFT is in force (R374) -/
  gateAt : Nat := 0
  /-- External memory by host address, ascending; an address not listed reads 0 (R391) -/
  mem : List Host.Cell := []
  /-- Poisoned 64-byte blocks by host address divided by 64, ascending (R395) -/
  poison : List Nat := []
  /-- Reads in the controller, oldest first -/
  memReads : List MemReq := []
  /-- What each port's service keeps -/
  memPorts : Tab MemPort := []
  /-- The channels of the controller -/
  memChans : Tab MemChan := []
  /-- Rank-channels 0 to 95 -/
  ranks : Tab RankSt := []
  /-- SLOT_MAP of each group: rank-channels of slots 0 to 6 (R380) -/
  slots : Tab (List Nat) := []
  /-- The spare rank-channel of each group that has one -/
  spares : Tab Nat := []
  /-- Rank-channels that wait for a migration (R397) -/
  migs : List Nat := []
  /-- The migration in progress -/
  mig : Option Mig := none
  /-- ERROR_LOG, newest first -/
  memErrs : List MemErr := []
  /-- LOST_LOG, oldest first -/
  memLost : List Nat := []
  /-- The patrol scrubber's next rank-channel and ECC group (R400) -/
  scrubAt : Nat × Nat := (0, 0)
  /-- Raw instant at which the scrub pass began -/
  scrubFrom : Nat := 0
  /-- Raw instant of the latest QUEUE_DROP of each queue (R425) -/
  qDropAt : Tab Nat := []
  /-- Speeds of E0 to E3 that may still be the peak of the last 10 ms, with their raw instants (R419) -/
  peaks : Tab (List (Nat × Nat)) := []
  /-- The spare pipeline and the rotation of the in-service test -/
  rot : Rot := {}
  /-- Latest PACE sample of each pipeline, in Msample/s (R423, R548) -/
  paces : Tab Nat := []
  /-- Since which raw instant a pipeline's pace lies below its demand, and whether PACE_SHORT was offered (R419) -/
  paceLow : Tab (Nat × Bool) := []
  /-- The compression unit -/
  comp : Comp := {}
  /-- Management ports and network time -/
  net : Net := {}
  /-- The units' standard blocks, by unit ID (R485) -/
  units : Tab UnitRec := []
  /-- Overlays 1 to 31 -/
  ovls : Tab Ovl := []
  /-- What is kept for each master, by its code (R473, R498) -/
  masters : Tab MasterRec := []
  /-- FDP sessions 0 to 15 -/
  sessions : Tab Session := []
  /-- FDP streams 0 to 15 -/
  streams : Tab Stream := []
  /-- How many device nonces were drawn -/
  nonce : Nat := 0
  /-- CONFIG_SAVE in progress (R490) -/
  saving : Bool := false
  /-- How the latest access ended -/
  resp : Resp := {}
  /-- What the latest command sent -/
  out : List Out := []
  /-- What a metrology session asks of the sealed domain in the command in work; empty between commands -/
  metOps : List MetOp := []
  /-- A warm reset asked for by the command in work; false between commands (R572) -/
  warmAsk : Bool := false
  /-- Pending bits of interrupts 160 to 163 (R506) -/
  irqFlags : Nat := 0
  /-- Interrupts that are ACTIVE, with their core (R508) -/
  irqActive : Tab Nat := []
  /-- Mailboxes 0 to 31 -/
  mboxes : Tab Mbox := []
  /-- Owned locks, with MY_IDENTITY of the owner plus 1 (R517) -/
  locks : Tab Nat := []
  /-- Monitor units M0 to M31 -/
  mons : Tab MonAcc := []
  /-- MISMATCH_LOG, newest first -/
  mismatches : List Mismatch := []
  /-- Governor, heartbeat, boot -/
  pow : PowerD := {}
  /-- Powered domains, bit by bit in the order of R569 -/
  domains : Nat := 1
  /-- The configuration region of the boot flash as last saved (R490) -/
  flash : List Byte := []
  deriving DecidableEq, Repr

/-- The whole block: the commands that wait, first in first out; the physical time in tt since the model's start, which
no reset turns back; the time unit; the sealed metrology domain; the main domain. -/
structure State where
  pending : List Instr := []
  now : Nat := 0
  tu : TimeUnit := {}
  met : Met := {}
  d : Dev := {}
  deriving DecidableEq, Repr

/-- Why a step can stop with a fault. -/
inductive Fault where
  /-- A command names an instance (a port, lane, unit, channel, session or the like) that the part does not have.
  Every meaning raises it through its own instance check. Safe: the spec gives such a command no effect. -/
  | noInstance
  deriving DecidableEq, Repr

/-- Why a step can be refused. -/
inductive Refusal where
  /-- No meaning yet for the command of this mnemonic: raised by the arms of exec alone. Safe: the run stops. -/
  | notModelled (mnemonic : String)
  deriving DecidableEq, Repr

/-- The block right after VDD_AON has risen, with nothing configured, nothing powered that R572 leaves off, an empty
queue, and physical time 0. RESET_CAUSE (0x1210.02) reads POWER_ON. -/
def State.reset : State := { d := { o := [(0x121002, .num 1)] } }

end Sys2Proof.Machine
end

