-- ==== Sys2Proof/WellFormed.lean ====
section
/-! DEFINITION. Which commands are well formed: every instance a command names is one that the part has (R11, R21). -/

namespace Sys2Proof.Machine

/-- Time compare unit 0 to 31. -/
def okTc (n : Nat) : Bool := decide (n < 32)
/-- Time-trigger pin 0 to 7. -/
def okTto (k : Nat) : Bool := decide (k < 8)
/-- Position input 0 to 3. -/
def okEnc (n : Nat) : Bool := decide (n < 4)
/-- Position compare unit 0 to 63. -/
def okCmp (n : Nat) : Bool := decide (n < 64)
/-- Camera port 0 to 15. -/
def okPort (p : Nat) : Bool := decide (p < 16)
/-- Lane: camera lanes 0 to 127, cascade lanes at 128 to 143. -/
def okLane (l : Nat) : Bool := decide (l < 144)
/-- Lane group: ports 0 to 15, exchange groups 16 and 17, spare groups 18 and 19 (R220). -/
def okGroup (g : Nat) : Bool := decide (g < 20)
/-- Profile chain 0 to 31 (R233). -/
def okChain (c : Nat) : Bool := decide (c < 32)
/-- Head H0 to H7 (R328). -/
def okHead (h : Nat) : Bool := decide (h < 8)
/-- Channel 0 to 255 of the event fabric. -/
def okChan (c : Nat) : Bool := decide (c < 256)
/-- Event pin EVP0 to EVP63. -/
def okEvp (k : Nat) : Bool := decide (k < 64)
/-- A task ID that is not reserved (R358, R492). -/
def okTask (k : Nat) : Bool :=
  decide (k < 0x46) || (decide (0x48 ≤ k) && decide (k < 0x58)) || (decide (0x60 ≤ k) && decide (k < 0xD0)) ||
  (decide (0xD1 ≤ k) && decide (k < 0xF0)) || (decide (0x100 ≤ k) && decide (k < 0x160)) ||
  (decide (0x171 ≤ k) && decide (k < 0x190))
/-- Management port MG0 or MG1 (R449). -/
def okMg (g : Nat) : Bool := decide (g < 2)
/-- PTP slot 0 or 1 (R454). -/
def okSlot (k : Nat) : Bool := decide (k < 2)
/-- A unit ID that the table of R21 lists. -/
def okUnit (u : Nat) : Bool :=
  decide (u ≤ 0x034) || (decide (0x050 ≤ u) && decide (u ≤ 0x0FB)) || (decide (0x100 ≤ u) && decide (u ≤ 0x107)) ||
  (decide (0x200 ≤ u) && decide (u ≤ 0x2EF))
/-- Overlay 1 to 31 (R491). -/
def okOvl (k : Nat) : Bool := decide (1 ≤ k) && decide (k < 32)
/-- FDP session 0 to 15 (R480), and FDP stream 0 to 15 (R484). -/
def okSess (k : Nat) : Bool := decide (k < 16)
/-- Core 0 to 7 (R509). -/
def okCore (c : Nat) : Bool := decide (c < 8)
/-- Mailbox 0 to 31 (R510), and monitor unit M0 to M31 (R548). -/
def okMbox (b : Nat) : Bool := decide (b < 32)
/-- Lock 0 to 127 (R517). -/
def okLock (n : Nat) : Bool := decide (n < 128)
/-- Pipeline 0 to 15, the spare at 16 (R21). -/
def okPipe (k : Nat) : Bool := decide (k < 17)
/-- Port of the memory controller 0 to 23 (R386). -/
def okMemPort (p : Nat) : Bool := decide (p < 24)
/-- Rank-channel 0 to 95 (R379). -/
def okRank (r : Nat) : Bool := decide (r < 96)
/-- Side of the cascade: 0 left, 1 right (R219). -/
def okSide (s : Nat) : Bool := decide (s < 2)
/-- Tap: 0 and 1 of the port's camera line, 2 of its grid line, 3 of the raster line, 4 of the class line. -/
def okTap (k : Nat) : Bool := decide (k < 5)
/-- Whether the copy that BANK_CRC_UPDATE names exists: a bank of a port or chain, or one of the three tables. -/
def okBank (kind n b : Nat) : Bool :=
  (kind == 0 && okPort n && decide (b < 2)) || (kind == 1 && okChain n && decide (b < 2)) || (decide (2 ≤ kind) && decide (kind < 5))
/-- A master that exists: eight cores, sixteen sessions (R477). -/
def masterOk : Master → Bool
  | .core c _ => decide (c < 8)
  | .fdp k => decide (k < 16)
  | _ => true
/-- A subindex of a parameter of the metrology domain (R545). -/
def okMetPar (sub : Nat) : Bool := decide (1 ≤ sub) && decide (sub < 0x0F)

/-- Whether a command is well formed: every instance that it names exists. -/
def wellFormed : Instr → Bool
  | .offsetWrite _ m _ => masterOk m
  | .rateWrite _ m _ => masterOk m
  | .declareValid _ m _ => masterOk m
  | .slewLimitWrite _ m _ => masterOk m
  | .epochPtpSWrite _ m _ => masterOk m
  | .slewEnd _ => true
  | .tcArm _ m n _ => masterOk m && okTc n
  | .tcDisarm _ m n _ => masterOk m && okTc n
  | .tcFire _ n => okTc n
  | .ttoPulseEnd _ k => okTto k
  | .encPinChange _ n _ _ => okEnc n
  | .encFilterAccept _ n => okEnc n
  | .standstill _ n => okEnc n
  | .encModeWrite _ m n _ => masterOk m && okEnc n
  | .indexArm _ m n _ => masterOk m && okEnc n
  | .setValueWrite _ m n _ => masterOk m && okEnc n
  | .setAtNextCount _ m n => masterOk m && okEnc n
  | .setAtPosSetGrant _ m n => masterOk m && okEnc n
  | .cmpArm _ m n _ => masterOk m && okCmp n
  | .cmpDisarm _ m n _ => masterOk m && okCmp n
  | .cmpFire _ n => okCmp n
  | .trgPulseEnd _ p => okPort p
  | .blockLockAcquired _ l => okLane l
  | .lockLoss _ l => okLane l
  | .alignmentBlockRx _ l _ _ => okLane l
  | .alignmentMissing _ l => okLane l
  | .portStreamStopped _ p => okPort p
  | .laneBlockBad _ l _ => okLane l
  | .trainingRequestRx _ l _ => okLane l
  | .trainingStatusRx _ l _ => okLane l
  | .trainTimeout _ l => okLane l
  | .trainStepDone _ l _ _ => okLane l
  | .trainStart _ m l => masterOk m && okLane l
  | .trainAbort _ m l => masterOk m && okLane l
  | .mapRequest _ m p _ => masterOk m && okPort p
  | .laneMapAckRx _ l _ => okLane l
  | .mapNoAck _ p => okGroup p
  | .laneShadowTimeout _ l => okLane l
  | .injectSingle _ m l => masterOk m && okLane l
  | .injectBurst _ m l => masterOk m && okLane l
  | .injectHeader _ m l => masterOk m && okLane l
  | .chkLock _ l => okLane l
  | .chkRelock _ l _ => okLane l
  | .laneClearCounts _ m l _ => masterOk m && okLane l
  | .linePacketRx _ p _ _ => okPort p
  | .badBlockRx _ p _ _ => okPort p
  | .responseRx _ p _ => okPort p
  | .statusMsgRx _ p _ => okPort p
  | .userDataRx _ p _ => okPort p
  | .delayRespRx _ p _ _ => okPort p
  | .beaconSend _ p => okPort p
  | .delayReqSend _ p => okPort p
  | .delayLost _ p => okPort p
  | .cmdRequest _ m p _ => masterOk m && okPort p
  | .cmdResend _ p => okPort p
  | .cmdTimeout _ p => okPort p
  | .cameraBusyRetry _ p => okPort p
  | .transportClearCounts _ m p _ => masterOk m && okPort p
  | .lineCorrect _ p _ _ => okPort p
  | .swapNextLine _ m p => masterOk m && okPort p
  | .swapNextSos _ m p => masterOk m && okPort p
  | .swapAtLine _ m p => masterOk m && okPort p
  | .swapCancel _ m p => masterOk m && okPort p
  | .bankCopy _ m p _ => masterOk m && okPort p
  | .bankCopyDone _ p => okPort p
  | .bankCrcUpdate _ kind n b => okBank kind n b
  | .tapArm _ m p k _ => masterOk m && okPort p && okTap k
  | .stopLullOpen _ => true
  | .sacrificeNext _ m _ => masterOk m
  | .calTriggerFire _ => true
  | .jobStartDark _ m p => masterOk m && okPort p
  | .jobStartGain _ m p => masterOk m && okPort p
  | .jobStartGeometryEdge _ m p => masterOk m && okPort p
  | .jobStartGeometryFull _ m p => masterOk m && okPort p
  | .jobStartColour _ m p => masterOk m && okPort p
  | .jobStartDelay _ m p => masterOk m && okPort p
  | .illumSettleExpired _ p => okPort p
  | .delayRefGrant _ k => okEvp k
  | .jobComputeDone _ p => okPort p
  | .acqTimeout _ p => okPort p
  | .commit _ m p _ => masterOk m && okPort p
  | .jobAbort _ m p _ => masterOk m && okPort p
  | .deadReset _ m p _ => masterOk m && okPort p
  | .jobCommitProceed _ p _ => okPort p
  | .scaleStart _ m _ => masterOk m
  | .scaleDone _ => true
  | .retrainStart _ l => okLane l
  | .linePlace _ p _ => okPort p
  | .lineHold _ p _ => okPort p
  | .gridLineEmit _ p _ => okPort p
  | .coefSwap _ m => masterOk m
  | .coefSwapCancel _ m => masterOk m
  | .coefCopy _ m _ => masterOk m
  | .rasterLineMake _ => true
  | .nbWaitExpired _ => true
  | .exportRx _ side _ => okSide side
  | .helloRx _ side _ => okSide side
  | .helloSend _ => true
  | .continueRx _ side _ => okSide side
  | .settlePacketRx _ side _ => okSide side
  | .tapPacketRx _ side _ => okSide side
  | .geoSwapAtPlaced _ m p => masterOk m && okPort p
  | .geoSwapAtWp _ m p => masterOk m && okPort p
  | .geoSwapCancel _ m p => masterOk m && okPort p
  | .geoCopy _ m p _ => masterOk m && okPort p
  | .cdCoefSwap _ m => masterOk m
  | .cdCoefSwapCancel _ m => masterOk m
  | .cdCoefCopy _ m _ => masterOk m
  | .chainSample _ c => okChain c
  | .chainRun _ m c => masterOk m && okChain c
  | .chainStop _ m c => masterOk m && okChain c
  | .feed _ m c _ => masterOk m && okChain c
  | .chainSwapNext _ m c => masterOk m && okChain c
  | .chainSwapAtTime _ m c => masterOk m && okChain c
  | .chainSwapCancel _ m c => masterOk m && okChain c
  | .detClear _ m c _ => masterOk m && okChain c
  | .classLine _ => true
  | .relearn _ m _ => masterOk m
  | .classLineTrack _ => true
  | .lineEntryWaitExpired _ => true
  | .squallCmdEnter _ m => masterOk m
  | .squallCmdExit _ m => masterOk m
  | .treeSwap _ m => masterOk m
  | .treeSwapCancel _ m => masterOk m
  | .treeCopy _ m _ => masterOk m
  | .recordsReadyTimer _ => true
  | .markAccept _ => true
  | .rowFire _ h => okHead h
  | .firePulseEnd _ h => okHead h
  | .headIdReadDone _ h _ => okHead h
  | .rcheckStart _ h => okHead h
  | .rcheckResult _ h _ => okHead h
  | .headPower _ m _ => masterOk m
  | .headPwrSettled _ => true
  | .fireTest _ m h _ => masterOk m && okHead h
  | .remapWrite _ m _ => masterOk m
  | .eventOffer _ c _ => okChan c
  | .handshakeComplete _ c => okChan c
  | .taskActionEnd _ k => okTask k
  | .evpEdge _ k _ => okEvp k
  | .evpPulseEnd _ k => okEvp k
  | .swFire _ m _ => masterOk m
  | .channelOwnerWrite _ m c _ => masterOk m && okChan c
  | .memRequestAccept _ p _ _ _ => okMemPort p
  | .memReadDone _ p _ _ rank _ => (okMemPort p || p == 0xFD) && okRank rank
  | .refreshDue _ r _ => okRank r
  | .gustEnd _ r => okRank r
  | .mr4Read _ r _ => okRank r
  | .calmEntry _ r => okRank r
  | .migrateCmd _ m _ => masterOk m
  | .migrationStart _ => true
  | .migrationDone _ => true
  | .scrubRead _ _ _ _ => true
  | .memoryStartup _ _ _ => true
  | .budgetRecompute _ p => okPort p
  | .paceShort _ p => okPort p
  | .queueClearCounts _ m _ => masterOk m
  | .tileWritten _ _ _ => true
  | .cropStart _ => true
  | .cropDone _ _ => true
  | .cropTimeout _ => true
  | .jobTailWrite _ m _ => masterOk m
  | .jobComplete _ _ _ => true
  | .frameRx _ g _ _ => okMg g
  | .txTailWrite _ m g _ => masterOk m && okMg g
  | .tsPop _ m => masterOk m
  | .syncRx _ g _ _ => okMg g
  | .followUpRx _ g _ _ => okMg g
  | .ptpDelayRespRx _ g _ _ => okMg g
  | .announceRx _ g _ _ => okMg g
  | .pdelayReqRx _ g _ _ => okMg g
  | .pdelayRespRx _ g _ _ => okMg g
  | .pdelayRespFollowUpRx _ g _ _ => okMg g
  | .delayReqPtpSend _ k => okSlot k
  | .syncTimeout _ k => okSlot k
  | .announceTimeout _ k => okSlot k
  | .switchHoldExpired _ => true
  | .ptpEnableWrite _ m _ => masterOk m
  | .ppsOutSecond _ => true
  | .ppsInEdge _ => true
  | .fdpRead _ k _ _ => okSess k
  | .fdpWrite _ k _ _ _ _ => okSess k
  | .fdpReadSeg _ k _ _ _ _ => okSess k
  | .fdpWriteSeg _ k _ _ _ _ => okSess k
  | .fdpDescribe _ k _ _ => okSess k
  | .fdpOpen _ g _ _ _ => okMg g
  | .fdpClose _ k => okSess k
  | .fdpKeepalive _ k => okSess k
  | .fdpStreamOpen _ k _ _ _ => okSess k
  | .fdpStreamClose _ k _ => okSess k
  | .fdpRequest _ g _ _ => okMg g
  | .sessionTimeout _ k => okSess k
  | .unitCmdOff _ m u => masterOk m && okUnit u
  | .unitCmdInService _ m u => masterOk m && okUnit u
  | .unitCmdShadow _ m u => masterOk m && okUnit u
  | .unitCmdTest _ m u => masterOk m && okUnit u
  | .unitCmdBypass _ m u => masterOk m && okUnit u
  | .unitCmdReset _ m u => masterOk m && okUnit u
  | .unitCmdCancel _ m u => masterOk m && okUnit u
  | .unitStateTakesEffect _ u => okUnit u
  | .ovlStore _ m k _ => masterOk m && okOvl k
  | .ovlActivate _ m k => masterOk m && okOvl k
  | .ovlDeactivate _ m k => masterOk m && okOvl k
  | .ovlCancel _ m k => masterOk m && okOvl k
  | .ovlBoundaryReached _ k u => okOvl k && okUnit u
  | .configSave _ m _ => masterOk m
  | .configSaveDone _ => true
  | .snapshotLatch _ m _ => masterOk m
  | .apertureOffsetWrite _ m _ _ _ => masterOk m
  | .aperturePortRead _ m _ _ => masterOk m
  | .aperturePortWrite _ m _ _ _ => masterOk m
  | .objectWrite _ m _ _ _ _ _ => masterOk m
  | .intClaim _ m c => masterOk m && okCore c
  | .intComplete _ m c _ => masterOk m && okCore c
  | .mbSend _ m b _ => masterOk m && okMbox b
  | .mbRecv _ m b => masterOk m && okMbox b
  | .dbRing _ m _ => masterOk m
  | .dbClear _ m _ => masterOk m
  | .lockAcquire _ m n => masterOk m && okLock n
  | .lockFree _ m n _ => masterOk m && okLock n
  | .lockBreak _ m _ => masterOk m
  | .metFilterAccept _ => true
  | .metPulseEnd _ => true
  | .rollEnd _ m _ => masterOk m
  | .metParamWrite _ m sub _ _ => masterOk m && okMetPar sub
  | .approve _ m _ => masterOk m
  | .metRestart _ m _ => masterOk m
  | .rtcSet _ m _ => masterOk m
  | .totalizerSlotWrite _ => true
  | .metMessageSend _ => true
  | .sealChange _ _ => true
  | .vddMetWarning _ => true
  | .vddMetPowerOn _ _ _ _ => true
  | .metWatchdog _ => true
  | .monSample _ k _ => okMbox k
  | .monWindowEnd _ k => okMbox k
  | .monPublishWrite _ m k _ => masterOk m && okMbox k
  | .testFeed _ m k _ => masterOk m && okMbox k
  | .tempRead _ temps => temps.length == 16
  | .rotStepStart _ _ => true
  | .rotCmdStart _ m => masterOk m
  | .rotCmdAbort _ m => masterOk m
  | .bistDone _ k _ => okPipe k
  | .govPeriod _ _ _ _ => true
  | .avsTransactionDone _ _ => true
  | .powerOnReset _ _ _ _ _ => true
  | .resetNLow _ => true
  | .brownout _ => true
  | .clockLoss _ => true
  | .warmReset _ m _ => masterOk m
  | .fwWatchdog _ => true
  | .thermalTrip _ => true
  | .recoveryAnnounce _ => true
  | .recoveryData _ g _ => okMg g
  | .recoveryGo _ g _ => okMg g
  | .inspectKick _ m _ => masterOk m
  | .inspectWdogTimeWrite _ m _ => masterOk m
  | .inspectWdogExpired _ => true
  | .laneMapRequestRx _ l _ => okLane l
  | .alignmentBlockSend _ g => okGroup g
  | .linkUp _ g _ => okMg g
  | .linkDown _ g => okMg g
  | .metEncPinChange _ _ _ => true
  | .coldResetRelease _ _ _ _ => true
  | .bootMetCheck _ _ _ _ => true
  | .vddMetWarningEnd _ => true

end Sys2Proof.Machine
end

