-- ==== Sys2Proof/Machine/Ops.lean ====
section
/-! DEFINITION. The named operations that every meaning uses: applied time, the object store, result groups, rights and
refusals, events, units, and the one shape of a command's step. -/

namespace Sys2Proof.Machine

/-! ### Clock edges (R23, R48) -/

/-- The next multiple of `k` at or after `n`. -/
def ceilTo (k n : Nat) : Nat := ceilDiv n k * k

/-- The last multiple of `k` at or before `n`. -/
def floorTo (k n : Nat) : Nat := n / k * k

/-- The next 200 MHz edge at or after a raw value: 80 tt apart. -/
def clk200 (raw : Nat) : Nat := ceilTo 80 raw

/-- The raw counter's value on the 1 GHz edge at or after a raw instant: it advances by 16 (R23). -/
def edge16 (raw : Nat) : Nat := ceilTo 16 raw

/-! ### Applied time (R24, R25, R30, R35) -/

/-- The part of a slew that has run at a raw value (R30). -/
def Slew.done (s : Slew) (raw : Nat) : Int :=
  let k : Int := (min s.total.natAbs (s.limit * (raw - s.start) / 1000000000) : Nat)
  if s.total < 0 then -k else k

/-- `slewed` of R24. -/
def TimeParams.slewed (p : TimeParams) (raw : Nat) : Int :=
  match p.slew with
  | none => 0
  | some s => s.done raw

/-- The rate term of R24: the product shifted right arithmetically by 48. -/
def TimeParams.rateTerm (p : TimeParams) (raw : Nat) : Int :=
  (p.rate * ((raw : Int) - p.rawRef)) / 281474976710656

/-- Applied time of R24 before it is taken modulo 2^64. -/
def TimeParams.appliedInt (p : TimeParams) (raw : Nat) : Int :=
  raw + p.offset + p.rateTerm raw + p.slewed raw

/-- Applied time (R24). -/
def TimeParams.applied (p : TimeParams) (raw : Nat) : Nat := wrapU 64 (p.appliedInt raw)

/-- The parameter set that was in force at a raw value (R35). -/
def TimeUnit.paramsAt (tu : TimeUnit) (raw : Nat) : TimeParams :=
  match tu.past.find? (fun q => raw < q.1) with
  | some q => q.2
  | none => tu.par

/-- The parameters with the rate re-based at a raw value (R25). The offset is an I64. -/
def TimeParams.rebaseRate (p : TimeParams) (raw : Nat) (rate : Int) : TimeParams :=
  { p with offset := wrapI 64 (p.offset + p.rateTerm raw), rawRef := raw, rate := rate }

/-- The parameters with the slew re-based at a raw value, `added` more to run and a limit (R30). The offset and what
remains of the slew are I64s (R33). -/
def TimeParams.rebaseSlew (p : TimeParams) (raw : Nat) (added : Int) (limit : Nat) : TimeParams :=
  let dn := p.slewed raw
  let tot := match p.slew with | none => 0 | some s => s.total
  let left := wrapI 64 (tot - dn + added)
  { p with offset := wrapI 64 (p.offset + dn),
           slew := if left = 0 then none else some { total := left, start := raw, limit := limit } }

/-- A new parameter set from a raw value on; the set before it is kept for the stamps of the last 16 µs (R35). -/
def TimeUnit.setPar (tu : TimeUnit) (raw : Nat) (p : TimeParams) : TimeUnit :=
  { tu with par := p, past := tu.past.filter (fun q => raw < q.1 + 256000) ++ [(raw, tu.par)] }

/-- What one request does to the time unit at a raw value. TIME_STATE never becomes FREE here (R28). -/
def TuOp.apply (raw : Nat) (tu : TimeUnit) : TuOp → TimeUnit
  | .setOffset v =>
    match tu.state with
    | .free => tu.setPar raw { tu.par with offset := v }
    | .held =>
      let rebased := tu.par.offset + tu.par.slewed raw
      tu.setPar raw (tu.par.rebaseSlew raw (v - rebased) tu.slewLimit)
    | _ => tu
  | .setRate v => tu.setPar raw (tu.par.rebaseRate raw v)
  | .declareValid => match tu.state with | .free => { tu with state := .held } | _ => tu
  | .setSlewLimit v =>
    let tu2 := { tu with slewLimit := v }
    match tu.par.slew with
    | none => tu2
    | some _ => tu2.setPar raw (tu.par.rebaseSlew raw 0 v)
  | .setEpoch v => match tu.state with | .free => { tu with epoch := v } | _ => tu
  | .endSlew =>
    match tu.par.slew with
    | none => tu
    | some s =>
      if s.total.natAbs ≤ s.limit * (raw - s.start) / 1000000000 then
        tu.setPar raw { tu.par with offset := wrapI 64 (tu.par.offset + s.total), slew := none }
      else tu
  | .lockFrom off rate =>
    { (tu.setPar raw { tu.par.rebaseRate raw rate with offset := wrapI 64 off, slew := none }) with state := .tracking }
  | .addSlew v => tu.setPar raw (tu.par.rebaseSlew raw v tu.slewLimit)
  | .track => { tu with state := .tracking }
  | .holdover => match tu.state with | .tracking => { tu with state := .holdover } | _ => tu
  | .hold => match tu.state with | .tracking => { tu with state := .held } | .holdover => { tu with state := .held } | _ => tu

/-- What a command sees of the rest of the block: the raw counter at its instant, the time unit and the metrology
domain as they stood before it. -/
structure Env where
  raw : Nat
  tu : TimeUnit
  met : Met

/-- The time unit as the requests of the command in work have left it: they take effect on the 1 GHz edge on which the
command reaches it. -/
def tuOf (e : Env) (d : Dev) : TimeUnit := d.tuOps.foldl (TuOp.apply (edge16 e.raw)) e.tu

/-- Applied time at the 1 GHz edge on which the command reaches the time unit (R32). -/
def nowA (e : Env) (d : Dev) : Nat := (tuOf e d).par.applied (edge16 e.raw)

/-- Applied time at the 200 MHz edge on which the command reaches the position inputs (R61, R64, R66). -/
def clkA (e : Env) (d : Dev) : Nat := (tuOf e d).par.applied (clk200 e.raw)

/-- A raw stamp as applied time, under the parameters in force at it (R35). -/
def stampA (e : Env) (d : Dev) (raw : Nat) : Nat := ((tuOf e d).paramsAt raw).applied raw

/-- A request to the time unit. -/
def askTu (d : Dev) (op : TuOp) : Dev := { d with tuOps := d.tuOps ++ [op] }

/-! ### The object store -/

/-- The key of an object. -/
def okey (idx sub : Nat) : Nat := idx * 256 + sub

/-- The table that an object holds at the factory: an active copy holds the one of its loading copy (R204, R230, R295). -/
def factoryOf : Nat → Nat
  | 0x1B04 => 0x1B03
  | 0x3003 => 0x3002
  | 0x3222 => 0x3221
  | idx => idx

/-- A default as a value. -/
def Dflt.val (idx : Nat) : Dflt → ObjVal
  | .num v => .num v
  | .blob b => .blob (b.map (BitVec.ofNat 8))
  | .fill len pat => .blob ((List.range len).map (fun i => BitVec.ofNat 8 (nth pat (i % pat.length) 0)))
  | .pre len first => .blob (padTo (first.map (BitVec.ofNat 8)) len 0)
  | .ramp n mul copies =>
    .blob (((List.range copies).map (fun _ => (List.range n).flatMap (fun i => toLE 2 (min (i * mul) 65535)))).flatten)
  | .linear =>
    .blob ((List.range 64).flatMap (fun p =>
      (List.range 8).flatMap (fun t => toLE 2 (if t = 3 then 16384 - 256 * p else if t = 4 then 256 * p else 0))))
  | .factory len => .blob ((List.range len).map (fun i => BitVec.ofNat 8 (Config.factoryByte (factoryOf idx) i)))

/-- The dictionary's default of an object. -/
def objDflt (idx sub : Nat) : ObjVal :=
  match objInfo idx sub with
  | none => .num 0
  | some r => r.dflt.val (objBase idx)

/-- The base value of an object (R490, R495). -/
def Dev.baseOf (d : Dev) (idx sub : Nat) : ObjVal :=
  match tabFind d.o (okey idx sub) with
  | some v => v
  | none => objDflt idx sub

/-- The value in force of an object (R495): the highest active overlay's, else the base. -/
def Dev.get (d : Dev) (idx sub : Nat) : ObjVal :=
  match tabFind d.inForce (okey idx sub) with
  | some v => v
  | none => d.baseOf idx sub

/-- The number a value holds. -/
def ObjVal.int : ObjVal → Int
  | .num v => v
  | .blob _ => 0

/-- The bytes a value holds. -/
def ObjVal.bytes : ObjVal → List Byte
  | .num _ => []
  | .blob b => b

/-- The number in force. -/
def Dev.gi (d : Dev) (idx sub : Nat) : Int := (d.get idx sub).int

/-- The number in force of an unsigned object. -/
def Dev.gn (d : Dev) (idx sub : Nat) : Nat := (d.gi idx sub).toNat

/-- A BOOL in force. -/
def Dev.gb (d : Dev) (idx sub : Nat) : Bool := d.gi idx sub != 0

/-- The bytes in force. -/
def Dev.gB (d : Dev) (idx sub : Nat) : List Byte := (d.get idx sub).bytes

/-- The object store with a value written. -/
def Dev.putV (d : Dev) (idx sub : Nat) (v : ObjVal) : Dev := { d with o := tabSet d.o (okey idx sub) v }

/-- A number written. -/
def Dev.put (d : Dev) (idx sub : Nat) (v : Int) : Dev := d.putV idx sub (.num v)

/-- Bytes written. -/
def Dev.putB (d : Dev) (idx sub : Nat) (b : List Byte) : Dev := d.putV idx sub (.blob b)

/-- A number added to a counter, at its type's width: counters wrap (DESIGN CHOICE, assumption log 12). -/
def Dev.add (d : Dev) (idx sub : Nat) (k : Int) : Dev :=
  let w := match objInfo idx sub with | some r => 8 * r.ty.bytes | none => 64
  d.put idx sub ((d.gi idx sub + k) % (2 ^ w : Int))

/-- A counter incremented. -/
def Dev.inc (d : Dev) (idx sub : Nat) : Dev := d.add idx sub 1

/-- The larger of a number and an object's kept as its peak. -/
def Dev.peak (d : Dev) (idx sub : Nat) (v : Int) : Dev := if d.gi idx sub < v then d.put idx sub v else d

/-- A bit of a status object set. -/
def Dev.setFlag (d : Dev) (idx sub b : Nat) : Dev := d.put idx sub (setBit (d.gn idx sub) b)

/-- A bit of a status object cleared. -/
def Dev.clrFlag (d : Dev) (idx sub b : Nat) : Dev := d.put idx sub (clrBit (d.gn idx sub) b)

/-- A bit of a status object made `v`. -/
def Dev.putFlag (d : Dev) (idx sub b : Nat) (v : Bool) : Dev := if v then d.setFlag idx sub b else d.clrFlag idx sub b

/-- A result group publishes (R473): SEQ goes up and skips 0 when it wraps. -/
def Dev.publish (d : Dev) (idx : Nat) : Dev :=
  let s := d.gn idx 0 + 1
  d.put idx 0 (if s = 4294967296 then 1 else s)

/-- Fields of a result group written and published together. -/
def Dev.pub (d : Dev) (idx : Nat) (vs : List (Nat × Int)) : Dev :=
  (vs.foldl (fun d p => d.put idx p.1 p.2) d).publish idx

/-- A counter of a result group incremented and published. -/
def Dev.incP (d : Dev) (idx sub : Nat) : Dev := (d.inc idx sub).publish idx

/-- Objects of an index returned to their defaults. -/
def Dev.clearSubs (d : Dev) (idx : Nat) (subs : List Nat) : Dev :=
  { d with o := subs.foldl (fun t s => tabErase t (okey idx s)) d.o }

/-- Every object in a range of indices returned to its default. -/
def Dev.clearRange (d : Dev) (lo hi : Nat) : Dev :=
  { d with o := d.o.filter (fun p => p.1 < lo * 256 || (hi + 1) * 256 ≤ p.1) }

/-- A fresh open value of `w` bits, and the device with the draw counted. -/
def Dev.fresh (d : Dev) (w : Nat) : Nat × Dev :=
  (Config.free d.freeN w % 2 ^ w, { d with freeN := d.freeN + 1 })

/-- Something sent. -/
def Dev.emit (d : Dev) (x : Out) : Dev := { d with out := d.out ++ [x] }

/-- The values of shadow-capable objects of a range of indices taken at their boundary (R472). -/
def Dev.takeShadow (d : Dev) (lo hi : Nat) : Dev :=
  let mine (p : Nat × ObjVal) : Bool := lo * 256 ≤ p.1 && p.1 < (hi + 1) * 256
  if d.shadow.any mine then
    { d with o := (d.shadow.filter mine).foldl (fun t p => tabSet t p.1 p.2) d.o,
             shadow := d.shadow.filter (fun p => !mine p) }
  else d

/-! ### Units (R21, R485) -/

/-- The state a unit holds when nothing has commanded it: units of PD_AON that start-up leaves in service, or OFF
(R421, R509, R572; DESIGN CHOICE for the others, assumption log 14). -/
def unitStart (u : Nat) : UState :=
  if u = 1 || u = 2 || u = 3 || u = 4 || u = 0x034 || (0x06C ≤ u && u ≤ 0x06F) || (0x090 ≤ u && u ≤ 0x0EF) then .inService
  else .off

/-- A unit's record. -/
def Dev.unit (d : Dev) (u : Nat) : UnitRec := tabGet d.units { state := unitStart u } u

/-- A unit's state. -/
def Dev.ustate (d : Dev) (u : Nat) : UState := (d.unit u).state

/-- Whether a unit is IN_SERVICE. -/
def Dev.inSvc (d : Dev) (u : Nat) : Bool := d.ustate u == .inService

/-- A unit's record written. -/
def Dev.setUnit (d : Dev) (u : Nat) (r : UnitRec) : Dev := { d with units := tabSet d.units u r }

/-! ### Events (R355, R356) -/

/-- The index of channel `c`'s objects (R376). -/
def chIdx (c : Nat) : Nat := 0x1540 + c / 16
/-- Subindex `f` of channel `c` (R376). -/
def chSub (c f : Nat) : Nat := 16 * (c % 16) + f
/-- The index of task input `k`'s objects (R377). -/
def tkIdx (k : Nat) : Nat := 0x1580 + k / 16
/-- Subindex `f` of task input `k` (R377). -/
def tkSub (k f : Nat) : Nat := 16 * (k % 16) + f
/-- The index of event pin `k`'s objects (R375). -/
def evIdx (k : Nat) : Nat := 0x1530 + k / 16
/-- Subindex `f` of event pin `k` (R375). -/
def evSub (k f : Nat) : Nat := 16 * (k % 16) + f

/-- The enabled channels that name a producer, in ascending order. Channels that nothing has configured name none. -/
def Dev.chansOf (d : Dev) (prod : Nat) : List Nat :=
  d.chanOn.filter (fun c => d.gn (chIdx c) (chSub c 1) == prod)

/-- A producer offers an event to every enabled channel that names it (R355), at the raw instant `at_`; the offers wait
until each channel handles its own. -/
def Dev.raiseFrom (d : Dev) (prod data at_ : Nat) (relay : Option Nat) : Dev :=
  { d with offers := d.offers ++ (d.chansOf prod).map (fun c => Offer.mk c prod (data % 2 ^ 64) at_ relay) }

/-- A producer that is no relay offers an event. -/
def Dev.raise (d : Dev) (e : Env) (prod data : Nat) : Dev := d.raiseFrom prod data e.raw none

/-! ### Power domains (R569) and the main path (R22, R575) -/

/-- The power domain of a unit, in the order of R569; PD_MET, 1, holds no unit of the main domain. -/
def domainOf (u : Nat) : Nat :=
  if 0x020 ≤ u && u ≤ 0x030 then u - 0x020 + 2
  else if (0x00A ≤ u && u ≤ 0x00E) || (0x050 ≤ u && u ≤ 0x05F) then 19
  else if u = 0x00F || (0x060 ≤ u && u ≤ 0x067) then 20
  else if 0x100 ≤ u && u ≤ 0x107 then u - 0x100 + 21
  else if u = 0x032 || (0x0F0 ≤ u && u ≤ 0x0FB) || (0x290 ≤ u && u ≤ 0x2EF) then 29
  else if 0x200 ≤ u && u ≤ 0x27F then (u - 0x200) / 8 + 30
  else if 0x280 ≤ u && u ≤ 0x28F then (u - 0x280) / 8 + 46
  else 0

/-- A domain switched; DOMAIN_UP or DOMAIN_DOWN is offered (R569, R584). -/
def domainSet (e : Env) (d : Dev) (k : Nat) (on : Bool) : Dev :=
  if bit d.domains k = on then d
  else ({ d with domains := putBit d.domains k on }).raise e (if on then 0x2F3 else 0x2F4) k

/-- The domain of a unit that moved, powered while one of its units is not OFF; PD_AON is always on, and PD_MEM stays on
until a cold or power-on reset (R569). -/
def domainFollow (e : Env) (d : Dev) (u : Nat) : Dev :=
  let k := domainOf u
  if k = 0 then d
  else if d.ustate u != .off then domainSet e d k true
  else if k = 29 then d
  else domainSet e d k (d.units.any (fun p => domainOf p.1 == k && p.2.state != .off))

/-- Whether a camera port is configured: a line trigger or free-run mode makes its lines (DEDUCED, assumption log 90). -/
def portConfigured (d : Dev) (p : Nat) : Bool :=
  d.gn (0x3580 + p) 1 != 0xFF || d.gn (0x2020 + 0x100 * p) 5 == 1

/-- The configured camera ports. -/
def configuredPorts (d : Dev) : List Nat := (List.range 16).filter (portConfigured d)

/-- The first column that a slice owns, and the one after its last (R268): only columns of the raster are owned. -/
def sliceSpan (d : Dev) (s : Nat) : Nat × Nat :=
  let w := d.gn 0x1B00 1
  let first (k : Nat) : Nat := if d.gn 0x3203 0x11 = 0 then k * w / 16 else min (d.gn 0x3203 (k + 1)) w
  (first s, if s < 15 then first (s + 1) else w)

/-- The columns that an enabled web edge masks (R265, R266), as the first and the one after the last. -/
def webMask (d : Dev) (side : Nat) : Nat × Nat :=
  let x := if side = 0 then d.seg.left else d.seg.right
  let mg : Int := d.gn 0x3201 7
  match x.state with
  | 0 => (0, 0)
  | 1 => (d.gn 0x3201 (8 + 2 * side), d.gn 0x3201 (9 + 2 * side) + 1)
  | _ => if side = 0 then (0, (-((-x.e) / 256) + mg).toNat) else ((x.e / 256 - mg + 1).toNat, 4294967296)

/-- Whether a slice covers raster columns inside the web (R22, R266). -/
def sliceInWeb (d : Dev) (s : Nat) : Bool :=
  let (a, b) := sliceSpan d s
  let skip (x : Nat) (r : Nat × Nat) : Nat := if r.1 ≤ x && x < r.2 then r.2 else x
  let l := webMask d 0
  let r := webMask d 1
  decide (skip (skip (skip a l) r) l < b)

/-- The units of the main path (R22). -/
def mainPath (d : Dev) : List Nat :=
  let ps := configuredPorts d
  ps.map (fun p => 0x010 + p) ++
  ps.map (fun p => if d.rot.serves = some p then 0x030 else 0x020 + p) ++
  [0x00A, 0x00B, 0x00C, 0x00D, 0x00E] ++
  ((List.range 16).filter (sliceInWeb d)).map (fun s => 0x050 + s) ++
  [0x001] ++
  (ps.filter (fun p => d.gn (0x3580 + p) 1 < 64)).map (fun p => 0x06C + d.gn (0x3540 + d.gn (0x3580 + p) 1) 1)

/-- Whether inspection is valid (R22). -/
def inspectValid (d : Dev) : Bool :=
  !(configuredPorts d).isEmpty && (mainPath d).all (fun u => d.inSvc u)

/-- The heartbeat ends (R575): the pin goes low at its next half-period edge, 50 µs apart, and INSPECT_LOST is offered. -/
def heartStop (e : Env) (d : Dev) : Dev :=
  if d.pow.inspecting then
    let edge := d.pow.beat + ceilTo 800000 (e.raw - d.pow.beat)
    let d1 := { d with pow := { d.pow with inspecting := false } }
    ((d1.put 0x1218 1 0).emit (.pin "INSPECT_OK" 0 false edge)).raise e 0x2F1 0
  else d

/-- The commands whose remaining steps reach a unit end: CMD_STATUS reads CANCELLED (R486). -/
def cancelReaching (d : Dev) (u : Nat) : Dev :=
  let hit (r : UnitRec) : Bool := match r.cmd with | none => false | some c => c.steps.any (fun x => x.1 == u)
  if d.units.any (fun p => hit p.2) then
    { d with units := d.units.map (fun p => if hit p.2 then (p.1, { p.2 with cmd := none, status := .cancelled }) else p) }
  else d

/-- The moves that a unit's record keeps once it moves at a raw instant: of a pipeline those of the last 200 µs, in which the
longest packet fits. -/
def movesKept (u raw : Nat) (r : UnitRec) : List (Nat × UState) :=
  if 0x020 ≤ u && u ≤ 0x030 then (raw, r.state) :: r.past.filter (fun q => raw < q.1 + 3200000) else []

/-- The state a unit held at a raw instant of the last 200 µs. -/
def Dev.stateAt (d : Dev) (u raw : Nat) : UState :=
  match ((d.unit u).past.filter (fun q => raw < q.1)).getLast? with
  | some q => q.2
  | none => d.ustate u

/-- A unit moves to a state (R485, R486): STATE, STATE_TIME and STATE_CHANGES. A command still to move it ends (R486), and its
power domain follows (R569). The heartbeat is judged at the next line boundary (R22). -/
def unitMove (e : Env) (d0 : Dev) (u : Nat) (st : UState) : Dev :=
  let d := cancelReaching d0 u
  let r := d.unit u
  if r.state = st then d0
  else
    domainFollow e (d.setUnit u { r with state := st, time := nowA e d, changes := (r.changes + 1) % 4294967296,
                                         past := movesKept u e.raw r }) u

/-- The unit of a port, its own pipeline, a lane, a compare unit, a head, a column slice. -/
def uPort (p : Nat) : Nat := 0x010 + p
/-- The unit of pipeline `p`, the spare at 16. -/
def uPipe (p : Nat) : Nat := 0x020 + p
/-- The unit of a lane: camera lanes 0 to 127, cascade lanes at 128 to 143. -/
def uLane (l : Nat) : Nat := 0x200 + l

/-! ### Tables of parts -/

/-- A position input. -/
def Dev.enc (d : Dev) (n : Nat) : Enc := tabGet d.encs {} n
/-- A position input written. -/
def Dev.setEnc (d : Dev) (n : Nat) (x : Enc) : Dev := { d with encs := tabSet d.encs n x }
/-- A position compare unit's working copy. -/
def Dev.cmp (d : Dev) (n : Nat) : CmpWork := tabGet d.cmps {} n
/-- A position compare unit's working copy written. -/
def Dev.setCmp (d : Dev) (n : Nat) (x : CmpWork) : Dev := { d with cmps := tabSet d.cmps n x }
/-- A time compare unit's working copy. -/
def Dev.tc (d : Dev) (n : Nat) : TcWork := tabGet d.tcs {} n
/-- A time compare unit's working copy written. -/
def Dev.setTc (d : Dev) (n : Nat) (x : TcWork) : Dev := { d with tcs := tabSet d.tcs n x }
/-- A port's line trigger. -/
def Dev.trig (d : Dev) (p : Nat) : TrigPort := tabGet d.trigs {} p
/-- A port's line trigger written. -/
def Dev.setTrig (d : Dev) (p : Nat) (x : TrigPort) : Dev := { d with trigs := tabSet d.trigs p x }
/-- A lane. -/
def Dev.lane (d : Dev) (l : Nat) : Lane := tabGet d.lanes {} l
/-- A lane written. -/
def Dev.setLane (d : Dev) (l : Nat) (x : Lane) : Dev := { d with lanes := tabSet d.lanes l x }
/-- The lane side of a port or cascade side. -/
def Dev.port (d : Dev) (p : Nat) : PortLanes := tabGet d.ports {} p
/-- The lane side of a port or cascade side written. -/
def Dev.setPort (d : Dev) (p : Nat) (x : PortLanes) : Dev := { d with ports := tabSet d.ports p x }
/-- The transport side of a port. -/
def Dev.pt (d : Dev) (p : Nat) : PortT := tabGet d.ptx {} p
/-- The transport side of a port written. -/
def Dev.setPt (d : Dev) (p : Nat) (x : PortT) : Dev := { d with ptx := tabSet d.ptx p x }
/-- A channel of the event fabric. -/
def Dev.chan (d : Dev) (n : Nat) : Chan := tabGet d.chans {} n
/-- A channel of the event fabric written. -/
def Dev.setChan (d : Dev) (n : Nat) (x : Chan) : Dev := { d with chans := tabSet d.chans n x }
/-- A task input. -/
def Dev.task (d : Dev) (n : Nat) : TaskIn := tabGet d.tasks {} n
/-- A task input written. -/
def Dev.setTask (d : Dev) (n : Nat) (x : TaskIn) : Dev := { d with tasks := tabSet d.tasks n x }
/-- An event pin. -/
def Dev.evp (d : Dev) (k : Nat) : EvPin := tabGet d.evps {} k
/-- An event pin written. -/
def Dev.setEvp (d : Dev) (k : Nat) (x : EvPin) : Dev := { d with evps := tabSet d.evps k x }
/-- An overlay. -/
def Dev.ovl (d : Dev) (k : Nat) : Ovl := tabGet d.ovls {} k
/-- An overlay written. -/
def Dev.setOvl (d : Dev) (k : Nat) (x : Ovl) : Dev := { d with ovls := tabSet d.ovls k x }
/-- An FDP session. -/
def Dev.session (d : Dev) (k : Nat) : Session := tabGet d.sessions {} k
/-- An FDP stream. -/
def Dev.stream (d : Dev) (k : Nat) : Stream := tabGet d.streams {} k

/-! ### Masters, rights and refusals (R469, R470, R477) -/

/-- A role by its code (R478, R498). -/
def roleOf : Nat → Role
  | 0 => .viewer | 1 => .operator | 2 => .integrator | 3 => .service | _ => .metrology

/-- A role's code. -/
def roleCode : Role → Nat
  | .viewer => 0 | .operator => 1 | .integrator => 2 | .service => 3 | .metrology => 4

/-- MY_IDENTITY of a master (R498). -/
def masterId : Master → Nat
  | .core c s => if s then c else 8 + c
  | .unitFw => 16
  | .metSeam => 17
  | .fdp _ => 0xFF

/-- The key under which the dictionary keeps a master: FDP sessions from 32 on. -/
def masterKey : Master → Nat
  | .core c s => if s then c else 8 + c
  | .unitFw => 16
  | .metSeam => 17
  | .fdp k => 32 + k

/-- The role a master acts in (R477). -/
def Dev.roleOfM (d : Dev) : Master → Role
  | .core _ true => .service
  | .core _ false => roleOf (d.gn 0x1104 3)
  | .unitFw => .service
  | .metSeam => .metrology
  | .fdp k => (d.session k).role

/-- The event fabric domain a master acts in (R369, R477, R378). -/
def Dev.domOfM (d : Dev) : Master → Nat
  | .core _ true => 1
  | .core _ false => 2
  | .unitFw => 4
  | .metSeam => 3
  | .fdp k => if roleRank (d.session k).role ≥ 2 then 5 else 0

/-- Whether a master's domain is secure (R369). -/
def Dev.secureM (d : Dev) (m : Master) : Bool := d.domOfM m == 1 || d.domOfM m == 3 || d.domOfM m == 4

/-- Whether a master is a core in the secure state. -/
def isSecState : Master → Bool
  | .core _ true => true
  | _ => false

/-- STATUS codes of R482. -/
def stOK : Nat := 0
/-- NOT_READY. -/
def stNotReady : Nat := 1
/-- NO_OBJECT. -/
def stNoObject : Nat := 2
/-- DENIED. -/
def stDenied : Nat := 3
/-- READ_ONLY. -/
def stReadOnly : Nat := 4
/-- REFUSED. -/
def stRefused : Nat := 5
/-- BAD_TYPE. -/
def stBadType : Nat := 6
/-- RANGE. -/
def stRange : Nat := 7
/-- BUSY. -/
def stBusy : Nat := 8
/-- TOO_BIG. -/
def stTooBig : Nat := 9
/-- OVERLAID. -/
def stOverlaid : Nat := 10
/-- NOT_EXECUTED. -/
def stNotExec : Nat := 11

/-- What the dictionary keeps for a master. -/
def Dev.mrec (d : Dev) (m : Master) : MasterRec := tabGet d.masters {} (masterKey m)

/-- What the dictionary keeps for a master, written. -/
def Dev.setMrec (d : Dev) (m : Master) (r : MasterRec) : Dev := { d with masters := tabSet d.masters (masterKey m) r }

/-- A write ended with a status: MY_STATUS of its master (R477, R498) and the response. A DENIED write leaves bit 1
clear. -/
def Dev.ended (d : Dev) (m : Master) (st : Nat) : Dev :=
  let r := d.mrec m
  let r2 := { r with refused := st != stOK && st != stOverlaid && st != stDenied,
                     overlaid := st == stOverlaid, denied := st == stDenied, wstatus := st }
  { (d.setMrec m r2) with resp := { status := st, val := .num 0 } }

/-- STATUS of an access that ends in a bus error: the model's own code, beyond those of R482. -/
def stBusError : Nat := 255

/-- A bus error: nothing changes but the response (R475). -/
def busError (d : Dev) : Dev := { d with resp := { status := stBusError, val := .num 0 } }

/-- Whether a master reaches objects through the aperture: cores and the unit firmware (R477). -/
def onAperture : Master → Bool
  | .fdp _ => false
  | _ => true

/-- A write of another type or width than the object's: BAD_TYPE over FDP, a bus error over the aperture (R469, R475). -/
def Dev.badType (d : Dev) (m : Master) : Dev := if onAperture m then busError d else d.ended m stBadType

/-- The REJECTED_WRITES that counts a refused write to an index (R469). -/
def rejectOf (idx : Nat) : Option (Nat × Nat) :=
  if 0x2000 ≤ idx && idx < 0x3000 then
    let b := idx / 256 * 256
    let o := idx % 256
    if o < 0x20 then some (b, 7) else if o < 0x40 then some (b + 0x20, 0x0C)
    else if o < 0xA0 then some (b + 0x40, 8) else some (b + 0xA0, 8)
  else if 0x1100 ≤ idx && idx < 0x1200 then some (0x1100, 6)
  else if 0x1200 ≤ idx && idx < 0x1300 then some (0x1200, 9)
  else if 0x1300 ≤ idx && idx < 0x1340 then some (0x1300, 0x0B)
  else if 0x1400 ≤ idx && idx < 0x1500 then some (0x1400 + (if idx < 0x1410 then idx % 2 else 0), 0x0C)
  else if 0x1500 ≤ idx && idx < 0x1600 then some (0x1500, 1)
  else if 0x1600 ≤ idx && idx < 0x1700 then some (0x1600, 1)
  else if 0x1700 ≤ idx && idx < 0x1800 then some (0x1700, 0x0F)
  else if 0x1800 ≤ idx && idx < 0x1900 then some (0x1800, 4)
  else if 0x1900 ≤ idx && idx < 0x1A00 then some (0x1900, 2)
  else if 0x1A00 ≤ idx && idx < 0x1B00 then some (0x1A00, 2)
  else if 0x1B00 ≤ idx && idx < 0x1C00 then some (0x1B00, 9)
  else if 0x3000 ≤ idx && idx < 0x3100 then some (0x3000, 0x0C)
  else if 0x3100 ≤ idx && idx < 0x3200 then some (0x3100, 8)
  else if 0x3200 ≤ idx && idx < 0x3210 then some (0x3200, 0x10)
  else if 0x3210 ≤ idx && idx < 0x3230 then some (0x3210, 8)
  else if 0x3400 ≤ idx && idx < 0x3500 then some (0x3400, 9)
  else if 0x3500 ≤ idx && idx < 0x3510 then some (0x3508 + idx % 4, 8)
  else if 0x3540 ≤ idx && idx ≤ 0x3590 then some (0x3590, 2)
  else if 0x3600 ≤ idx && idx < 0x3800 then some (0x3600, 9)
  else none

/-- A write refused by a rule of the object's chapter: counted in its range (R469). -/
def Dev.reject (d : Dev) (m : Master) (idx : Nat) : Dev :=
  (match rejectOf idx with
   | some (i, s) => d.inc i s
   | none => d).ended m stRefused

/-- A swap request of a master ends: one that a check refuses is a refused write, counted as any other (R469; assumption log 44). -/
def Dev.swapAsked (d : Dev) (m : Master) (idx : Nat) (taken : Bool) : Dev :=
  if taken then d.ended m stOK else d.reject m idx

/-- Whether a master holds at least a role's rights (R470). -/
def Dev.hasRole (d : Dev) (m : Master) (r : Role) : Bool := roleRank r ≤ roleRank (d.roleOfM m)

/-- The least role that may write an object, by its table. -/
def objWr (idx sub : Nat) : Role := match objInfo idx sub with | some r => r.wr | none => .service

/-- A write that a master may make goes on with `f`; another ends DENIED (R482). -/
def Dev.asWriter (d : Dev) (m : Master) (idx sub : Nat) (f : Dev → Dev) : Dev :=
  if d.hasRole m (objWr idx sub) then f d else d.ended m stDenied

/-- A write of a number through the checks that come before an object's own rules: right, type, access, range (R469,
R482). -/
def Dev.asWrite (d : Dev) (m : Master) (idx sub : Nat) (v : Int) (f : Dev → Dev) : Dev :=
  match objInfo idx sub with
  | none => d.ended m stNoObject
  | some r =>
    if !r.ty.holds v then d.badType m
    else if r.acc == .ro || r.acc == .const || r.acc == .rc then d.ended m stReadOnly
    else if !d.hasRole m r.wr then d.ended m stDenied
    else if !(r.range.admits v && (r.ty != .bool || v == 0 || v == 1)
        && (r.ty.signed || (v.toNat &&& (objMask (objBase idx) sub)) == v.toNat)) then d.reject m idx
    else f d

/-! ### The shape of a step -/

/-- The physical instant of a command: time never turns back. -/
def instant (t : Nat) (s : State) : Nat := max s.now t

/-- The raw counter at a command's instant. -/
def rawAt (t : Nat) (s : State) : Nat := instant t s - s.tu.rawBase

/-- What a command at `t` sees. -/
def envOf (t : Nat) (s : State) : Env := { raw := rawAt t s, tu := s.tu, met := s.met }

/-- The main domain as a command finds it: nothing sent yet, nothing answered, nothing asked of the time unit. -/
def begun (d : Dev) : Dev := { d with out := [], resp := {}, tuOps := [] }

/-- A trigger that leaves only after a raw value carries the stamp that the parameters then in force give it (R35). -/
def Trig.restamp (tu : TimeUnit) (raw : Nat) (x : Trig) : Trig :=
  if raw < x.raw then { x with stamp := (tu.paramsAt x.raw).applied x.raw } else x

/-- The triggers of a port that leave only after a raw value, stamped anew; LAST_TRIG_TIME follows the latest. -/
def restampPort (tu : TimeUnit) (raw : Nat) (d : Dev) (p : Nat) : Dev :=
  let g := d.trig p
  match g.sent with
  | [] => d
  | x :: _ =>
    if raw < x.raw then
      (d.put (0x3580 + p) 8 (x.restamp tu raw).stamp).setTrig p { g with sent := g.sent.map (Trig.restamp tu raw) }
    else d

/-- A grant that falls only after a raw value, stamped anew (R35). -/
def Granted.restamp (tu : TimeUnit) (raw : Nat) (g : Granted) : Granted :=
  if raw < g.at_ then { g with stamp := (tu.paramsAt g.at_).applied g.at_ } else g

/-- The grants of a task input that fall only after a raw value, stamped anew; GRANT_STAMP follows (R377). -/
def restampTask (tu : TimeUnit) (raw : Nat) (d : Dev) (p : Nat × TaskIn) : Dev :=
  let x := { p.2 with work := p.2.work.map (Granted.restamp tu raw), held := p.2.held.map (Granted.restamp tu raw),
                      last := p.2.last.map (Granted.restamp tu raw) }
  if x = p.2 then d
  else
    let d1 := { d with tasks := tabSet d.tasks p.1 x }
    match x.last with
    | some g => if d.gn 0x1504 1 = p.1 then d1.put 0x1505 2 (g.stamp : Nat) else d1
    | none => d1

/-- After a change of the parameters at a raw value, stamps of instants still to come are those of the new set (R35). -/
def restamp (tu : TimeUnit) (raw : Nat) (d : Dev) : Dev :=
  d.tasks.foldl (restampTask tu raw) ((List.range 16).foldl (restampPort tu raw) d)

/-- What a command of the main domain makes of the block once `d` is its effect: the time unit does what was asked of it, in
order, stamps of instants still to come follow its parameters (R35), and `after` follows where applied time has stepped
(R41). -/
def settled (after : Env → Dev → Dev) (t : Nat) (s : State) (d : Dev) : State :=
  let e := envOf t s
  let edge := edge16 e.raw
  let tu := tuOf e d
  let d1 := { d with tuOps := [] }
  let d2 := if tu.par = s.tu.par then d1 else restamp tu edge d1
  let e2 : Env := { raw := e.raw, tu := tu, met := s.met }
  { s with now := instant t s, tu := tu,
           d := { (if s.tu.par.applied edge != tu.par.applied edge then after e2 d2 else d2) with tuOps := [] } }

/-- A command of the main domain: time moves on to its instant, and `f` says what it does to the main domain. While a cold
reset is held (R567, R568) time only passes. The queue and the metrology domain are untouched (R527). -/
def runMain (after : Env → Dev → Dev) (t : Nat) (s : State) (f : Env → Dev → Dev) : State :=
  if s.d.pow.heldBy.isSome then { s with now := instant t s }
  else settled after t s (f (envOf t s) (begun s.d))

end Sys2Proof.Machine
end

