-- ==== Sys2Proof/Machine/Downlink.lean ====
section
/-! DEFINITION. The transmit side of the lanes (chapters 4 and 5): groups of lanes and their rates (R76), the line coding
(R79), the test patterns (R101), and the order in which blocks take the slots of a port (R112, R113). -/

namespace Sys2Proof.Machine

/-! ### Lanes and groups (R11, R76, R220) -/

/-- The index of a lane within its port or side. -/
def laneIx (l : Nat) : Nat := l % 8

/-- The group of a lane (R11, R220): its port; on the cascade the exchange group 16 or 17, or the spare group 18 or 19. -/
def laneGroup (d : Dev) (l : Nat) : Nat :=
  if l < 128 then l / 8
  else if laneIx l < d.gn 0x1B10 2 then 16 + (l - 128) / 8 else 18 + (l - 128) / 8

/-- The first lane of a group's port or side. -/
def groupBase (g : Nat) : Nat := if g < 16 then 8 * g else 128 + 8 * (g % 2)

/-- The lanes configured to a group, as a mask (R11, R94, R220). -/
def groupLanes (d : Dev) (g : Nat) : Nat :=
  if g < 16 then 2 ^ (d.gn (0x2000 + 0x100 * g) 2) - 1
  else
    let x := 2 ^ (d.gn 0x1B10 2) - 1
    if g < 18 then x else 255 - x

/-- The configured lanes of a group by number. -/
def groupLaneList (d : Dev) (g : Nat) : List Nat := (bitsOf 8 (groupLanes d g)).map (fun i => groupBase g + i)

/-- The rate code of a group (R76). -/
def groupRate (d : Dev) (g : Nat) : Nat := if g < 16 then d.gn (0x2000 + 0x100 * g) 1 else d.gn 0x1B10 3

/-- Twenty-five block periods at a rate, in tt (R76). -/
def block25 (rate : Nat) : Nat := match rate with | 0 => 2560 | 1 => 2048 | _ => 1024

/-- `n` block periods in tt, rounded down. -/
def blocksTt (d : Dev) (g n : Nat) : Nat := n * block25 (groupRate d g) / 25

/-- The alignment period in tt (R76). -/
def alignPeriod (d : Dev) (g : Nat) : Nat := blocksTt d g 16384

/-- The bits that pass on a lane of a group in a time (R76). -/
def bitsIn (d : Dev) (g tt : Nat) : Nat :=
  match groupRate d g with | 0 => tt * 165 / 256 | 1 => tt * 825 / 1024 | _ => tt * 825 / 512

/-- The index of a lane's configuration objects (R107, R231). -/
def laneCfg (l : Nat) : Nat := if l < 128 then 0x2008 + 0x100 * (l / 8) + laneIx l else 0x1B20 + (l - 128)
/-- The index of a lane's results. -/
def laneRes (l : Nat) : Nat := if l < 128 then 0x2010 + 0x100 * (l / 8) + laneIx l else 0x1B30 + (l - 128)
/-- The index of a lane's test objects. -/
def laneTst (l : Nat) : Nat := if l < 128 then 0x2018 + 0x100 * (l / 8) + laneIx l else 0x1B40 + (l - 128)

/-- LOOP of a lane (R100). -/
def laneLoop (d : Dev) (l : Nat) : Nat := d.gn (laneTst l) 1

/-- RX_LAT at a port's rate (R139). -/
def rxLat (d : Dev) (p : Nat) : Nat := match groupRate d p with | 0 => 1600 | 1 => 1280 | _ => 640

/-- Whether the pattern generator of a lane runs: in loop 3 it is off (R101). -/
def genRuns (d : Dev) (l : Nat) : Bool := d.gb (laneTst l) 4 && laneLoop d l != 3

/-- Whether the receiver of a lane sees its ball: in the near-end loops it sees its own transmitter (R100). -/
def hearsBall (d : Dev) (l : Nat) : Bool := laneLoop d l != 1 && laneLoop d l != 2

/-! ### Shift registers as polynomials over GF(2) -/

/-- A polynomial below degree `n` times x, modulo x^n + `low`. -/
def polyX (n low a : Nat) : Nat := if bit a (n - 1) then ((a <<< 1) % 2 ^ n) ^^^ low else a <<< 1

/-- The product of two polynomials below degree `n`, modulo x^n + `low`. -/
def polyMul (n low a b : Nat) : Nat :=
  (List.range n).foldl (fun r i => (polyX n low r) ^^^ (if bit b (n - 1 - i) then a else 0)) 0

/-- The bits of a number from its highest one down. -/
def bitsDown (k : Nat) : List Bool := (List.range (Nat.log2 k + 1)).map (fun i => bit k (Nat.log2 k - i))

/-- x^k modulo x^n + `low`. -/
def polyPow (n low k : Nat) : Nat :=
  (bitsDown k).foldl (fun r b => let q := polyMul n low r r; if b then polyX n low q else q) 1

/-- x^(64 k) and the sum of x^(64 i) for i below k, modulo x^n + `low`. -/
def polyRun (n low k : Nat) : Nat × Nat :=
  let y := polyPow n low 64
  (bitsDown k).foldl (fun (r : Nat × Nat) b =>
    let s := r.2 ^^^ polyMul n low r.1 r.2
    let m := polyMul n low r.1 r.1
    if b then (polyMul n low m y, s ^^^ m) else (m, s)) (1, 0)

/-! ### Line coding (R79) -/

/-- One bit through the scrambler 1 + x^39 + x^58: the register of the 58 latest bits on the line, the newest lowest, and the
bit that leaves. -/
def scrBit (s : Nat) (b : Bool) : Nat × Bool :=
  let y := (b != bit s 38) != bit s 57
  ((2 * s + b2n y) % 2 ^ 58, y)

/-- The payload bits of a block in the order in which they leave: byte 0 first, each byte least significant bit first
(PRESUMED: IEEE 802.3 Clause 49, which R79 names; assumption log 111). -/
def blockBits (b : List Byte) : List Bool := b.flatMap (fun x => (List.range 8).map (fun i => x.getLsbD i))

/-- A block through the scrambler: the register after it, and the scrambled bits, the first in bit 0. -/
def scrBlock (s : Nat) (b : List Byte) : Nat × Nat :=
  let r := (blockBits b).foldl (fun (r : Nat × Nat × Nat) x =>
    let (s1, y) := scrBit r.1 x
    (s1, r.2.1 + b2n y * 2 ^ r.2.2, r.2.2 + 1)) (s, 0, 0)
  (r.1, r.2.1)

/-- An IDLE block (R110). -/
def idleBlock : List Byte := 0x80#8 :: List.replicate 7 0

/-- A register after the polynomial `r` in its own shift has acted on it. -/
def scrActs (r s : Nat) : Nat :=
  ((List.range 58).foldl (fun (q : Nat × Nat) i => (if bit r i then q.1 ^^^ q.2 else q.1, (scrBit q.2 false).1)) (0, s)).1

/-- The register after `k` IDLE blocks: the scrambler's register shifts by x^58 = x^19 + 1. -/
def scrIdle (s k : Nat) : Nat :=
  if k = 0 then s
  else
    let (r, q) := polyRun 58 0x80001 k
    scrActs r s ^^^ scrActs q (scrBlock 0 idleBlock).1

/-! ### Test patterns (R101) -/

/-- The degree of a PRBS and what its highest power is, by the code of PATTERN. -/
def prbsPoly : Nat → Nat × Nat
  | 0 => (7, 0x3) | 1 => (9, 0x11) | 2 => (15, 0x3) | 3 => (23, 0x21) | _ => (31, 0x9)

/-- 64 bits of a PRBS from its bit `k` on, the first one highest; bit `j` of `seed` is the sequence's bit `j`. -/
def prbsWord (pat seed k : Nat) : Nat :=
  let (n, low) := prbsPoly pat
  ((List.range 64).foldl (fun (r : Nat × Nat) _ =>
    (2 * r.1 + popCount n (r.2 &&& seed) % 2, polyX n low r.2)) (0, polyPow n low k)).1

/-- The generator's next 64-bit word at a raw instant: of the PRBS from the bit it has come to, or USER_PATTERN. -/
def genWord (d : Dev) (l raw : Nat) : Nat :=
  let x := d.lane l
  let pat := d.gn (laneTst l) 2
  if pat = 5 then d.gn (laneTst l) 3
  else prbsWord pat x.gen (ceilTo 64 (bitsIn d (laneGroup d l) (raw - x.genFrom)))

/-! ### Slots (R112, R113) -/

/-- The first slot that starts at or after a raw instant: slots follow each other from raw value 0 (DESIGN CHOICE, assumption
log 111). -/
def slotFrom (d : Dev) (g raw : Nat) : Nat := ceilDiv (raw * 25) (block25 (groupRate d g))

/-- Whether a lane's transmitter carries a block: in loops 1 and 3 and under the generator it carries none, in loop 2 the
alignment blocks alone (R100, R101). -/
def laneCarries (d : Dev) (l : Nat) (align : Bool) : Bool :=
  (d.lane l).powered && !genRuns d l && (laneLoop d l == 0 || (laneLoop d l == 2 && align))

/-- Whether an odd number of IDLE blocks lies between the block that left a lane last and a slot, as BIP-8 (R82): each adds the
byte 0x80. -/
def idleBip (x : Lane) (slot : Nat) : Nat := if (slot - x.lastSlot - 1) % 2 = 1 then 0x80 else 0

/-- A control block leaves a lane in a slot: IDLE blocks have filled the slots since the block before it, its payload is
scrambled behind them (R79), and the BIP-8 of the period takes them all (R82). What a cascade lane carries of its side's stream
is not followed (assumption log 111). -/
def laneWire (d : Dev) (l slot at_ : Nat) (b : List Byte) : Dev :=
  let x := d.lane l
  let (s, w) := scrBlock (scrIdle x.scr (slot - x.lastSlot - 1)) b
  (d.setLane l { x with scr := s, lastSlot := slot, bip := (x.bip ^^^ idleBip x slot) ^^^ bip8 b }).emit
    (.wire l (1 + 4 * w) at_)

/-- A waiting block takes a slot on its lanes; a repeated one waits for its next turn, 64 blocks on (R89, R96). -/
def txSend (d : Dev) (g slot i : Nat) (x : TxBlk) : Dev :=
  let pt := d.port g
  let start := blocksTt d g slot
  let again := start + blocksTt d g 64
  let rest := pt.txq.eraseIdx i
  let q := if again ≤ x.until_ then rest ++ [{ x with due := again }] else rest
  let d1 := d.setPort g { pt with txq := q, txSlot := slot + 1 }
  x.lanes.foldl (fun d l => if laneCarries d l false then laneWire d l slot (x.ball.getD start) x.bytes else d) d1

/-- The block that takes a slot: the first of those due that comes highest in R113. -/
def txPick (q : List TxBlk) (start : Nat) : Option Nat :=
  let due := (List.range q.length).filter (fun i => (q[i]?).any (fun x => x.due ≤ start))
  let top := (due.filterMap (fun i => (q[i]?).map (·.prio))).foldl min 9
  due.find? (fun i => (q[i]?).any (fun x => x.prio == top))

/-- Whether a slot is kept for the alignment blocks, one in every 16,384 (R82, R113). -/
def alignsIn16384 (pt : PortLanes) (slot : Nat) : Bool := pt.txAt.isSome && (slot - pt.alignSlot) % 16384 == 0

/-- The slots that start before a raw instant are taken by what waits; the others carry IDLE. Fuel bounds the blocks sent. -/
def slotsRun : Nat → Dev → Nat → Nat → Dev
  | 0, d, _, _ => d
  | f + 1, d, g, limit =>
    let q := (d.port g).txq
    match q with
    | [] => d
    | x :: r =>
      let free := max (d.port g).txSlot (slotFrom d g (r.foldl (fun m y => min m y.due) x.due))
      let slot := if alignsIn16384 (d.port g) free then free + 1 else free
      let start := blocksTt d g slot
      if limit ≤ start then d
      else match txPick q start with
        | none => d
        | some i =>
          match q[i]? with
          | none => d
          | some y => slotsRun f (txSend d g slot i y) g limit

/-- A group's transmitter has sent what falls due before a raw instant. -/
def txUpTo (d : Dev) (g raw : Nat) : Dev := slotsRun (16 * ((d.port g).txq.length + 1)) d g raw

/-- A block given to a group's transmitter. -/
def txPut (e : Env) (d0 : Dev) (g : Nat) (x : TxBlk) : Dev :=
  let d := txUpTo d0 g e.raw
  d.setPort g { d.port g with txq := (d.port g).txq ++ [x] }

/-- The raw start of the slot that a CARRIER given now takes: the first free one behind what is due and the alignment blocks. -/
def carrierAt (e : Env) (d0 : Dev) (g : Nat) : Nat :=
  let d := txUpTo d0 g e.raw
  let pt := d.port g
  let free := max pt.txSlot (slotFrom d g e.raw)
  let first := free + (pt.txq.filter (fun x => x.due ≤ blocksTt d g free)).length
  let kept := (List.range (first + 1 - free)).any (fun i => alignsIn16384 pt (free + i))
  blocksTt d g (if kept then first + 1 else first)

/-- Repeats of a block type on a lane end (R89, R96). -/
def txStop (e : Env) (d0 : Dev) (g ty : Nat) (l : Option Nat) : Dev :=
  let d := txUpTo d0 g e.raw
  let mine (x : TxBlk) : Bool := nth x.bytes 0 0 == BitVec.ofNat 8 ty && l.all (fun k => x.lanes.contains k)
  d.setPort g { d.port g with txq := (d.port g).txq.filter (fun x => !mine x) }

/-- The BIP-8 of a lane over the blocks since its previous alignment block, where the next one takes a slot (R82). -/
def laneBip (x : Lane) (slot : Nat) : Nat := x.bip ^^^ idleBip x slot

/-- The CARRIER blocks of a packet (R112): six bytes each, FIRST on the first, the count modulo 128, zeros after the last
byte. -/
def carriers (packet : List Byte) : List (List Byte) :=
  let parts := chunks packet.length 6 packet
  (List.range parts.length).map (fun i =>
    [0x9C, BitVec.ofNat 8 ((if i = 0 then 128 else 0) + i % 128)] ++ padTo ((parts[i]?).getD []) 6 0)

end Sys2Proof.Machine
end

