-- ==== Sys2Proof/Machine/Flags.lean ====
section
/-! DEFINITION. Status registers: how a w1c object takes a write (R7), and which bits of it are live and ignore writes, and
which bits are reserved and read 0 (R9). -/

namespace Sys2Proof.Machine

/-- The bits of a w1c object that show live state and ignore writes (R65, R250, R377). -/
def liveBits (base sub : Nat) : Nat :=
  if base = 0x3508 && sub = 1 then 0x6
  else if base = 0x3110 && sub = 0x1D then 0x4
  else if base = 0x1580 && sub % 16 = 2 then 0x2
  else 0

/-- A w1c write: a 1 clears its bit, a 0 has no effect, live bits stay (R7). -/
def w1cWrite (old v live : Nat) : Nat := old &&& ((v &&& (2 ^ 64 - 1 - live)) ^^^ (2 ^ 64 - 1))

end Sys2Proof.Machine
end

