-- ==== Sys2Proof/Machine/Time.lean ====
section
/-! DEFINITION. Device time and the time compare units (chapter 2): R23 to R46. -/

namespace Sys2Proof.Machine

/-! ### Time compare units (R41 to R46) -/

/-- How far applied time has passed a target, modulo 2^64; the target is reached when this is below 2^63 (R41). -/
def tcPast (now target : Nat) : Nat := wrapU 64 ((now : Int) - target)

/-- Whether a target is reached (R41). -/
def tcReached (now target : Nat) : Bool := tcPast now target < 2 ^ 63

/-- REPEAT as a count of targets left: 0 is without end (R44). -/
def repeatLeft (r : Nat) : Option Nat := if r = 0 then none else some r

/-- One target counted off. -/
def leftDown : Option Nat → Option Nat
  | none => none
  | some n => some (n - 1)

/-- The working copy after a fire or skip (R42, R44): the shadow is taken, a one-shot unit or one at its last target
disarms. A shadowed PERIOD is taken as it stands: R44 checks it at an arm only (DESIGN CHOICE, assumption log 109). -/
def tcAdvance (d : Dev) (n : Nat) (w : TcWork) : TcWork :=
  if w.period = 0 then { w with armed := false, late := false }
  else if w.left = some 1 then { w with armed := false, late := false, left := some 0 }
  else
    let per := if w.shPeriod then d.gn (0x1310 + n) 2 else w.period
    let tgt := if w.shTarget then d.gn (0x1310 + n) 1 else wrapU 64 ((w.target : Int) + per)
    let left := if w.shRepeat then repeatLeft (d.gn (0x1310 + n) 3) else leftDown w.left
    { armed := true, target := tgt, period := per, left := left }

/-- Skip the targets that lie in the past, whole periods at once (R43): the working copy and how many were skipped. -/
def tcSkipRun (now : Nat) (w : TcWork) : TcWork × Nat :=
  if w.armed && tcReached now w.target then
    if w.period = 0 then ({ w with armed := false }, 1)
    else
      let k := tcPast now w.target / w.period + 1
      match w.left with
      | none => ({ w with target := wrapU 64 ((w.target : Int) + k * w.period) }, k)
      | some n =>
        if n ≤ k then ({ w with armed := false, left := some 0 }, n)
        else ({ w with target := wrapU 64 ((w.target : Int) + k * w.period), left := some (n - k) }, k)
  else (w, 0)

/-- A target already reached, at arming or after a step of applied time, under CONTROL.LATE (R43). -/
def tcLateHandle (e : Env) (d : Dev) (n : Nat) : Dev :=
  let w := d.tc n
  let now := nowA e d
  if !w.armed then d
  else if !tcReached now w.target then d.setTc n { w with late := false }
  else if field (d.gn (0x1310 + n) 4) 5 4 = 1 then d.setTc n { w with late := true }
  else
    let w1 := tcAdvance d n w
    let (w2, k) := tcSkipRun now w1
    ((d.setTc n w2).setFlag (0x1310 + n) 6 3).add (0x1310 + n) 8 (1 + k)

/-- Whether an arm breaks R44 or names a reserved LATE (R45). -/
def tcBadArm (d : Dev) (n : Nat) : Bool :=
  let per := d.gn (0x1310 + n) 2
  let pw := d.gn (0x1310 + n) 5
  (per ≠ 0 && (per < 320 || per ≤ pw)) || pw < 160 || field (d.gn (0x1310 + n) 4) 5 4 = 3

/-- Arming (R42): the working copy takes TARGET, PERIOD and REPEAT, and a late target is handled. A refused arm sets
BAD_ARM and changes nothing else (R44). An armed unit takes the three objects too, whether or not they were written while
it was armed (DESIGN CHOICE, assumption log 109). -/
def tcArmNow (e : Env) (d : Dev) (n : Nat) : Dev :=
  if tcBadArm d n then d.setFlag (0x1310 + n) 6 4
  else
    tcLateHandle e (d.setTc n { armed := true, target := d.gn (0x1310 + n) 1, period := d.gn (0x1310 + n) 2,
                                left := repeatLeft (d.gn (0x1310 + n) 3) }) n

/-- Disarming at once (R45). -/
def tcDisarmNow (d : Dev) (n : Nat) : Dev := d.setTc n { d.tc n with armed := false, late := false }


/-- A field of the unit was written while it was armed (R42). -/
def tcFieldWritten (d : Dev) (n sub : Nat) : Dev :=
  let w := d.tc n
  if w.armed then
    d.setTc n { w with shTarget := w.shTarget || sub == 1, shPeriod := w.shPeriod || sub == 2,
                       shRepeat := w.shRepeat || sub == 3 }
  else d

/-- The TTO pins that a unit drives (R46). -/
def ttoPinsOf (d : Dev) (n : Nat) : List Nat := (List.range 8).filter (fun k => d.gn 0x1330 (k + 1) == n)

/-- The level of a TTO pin under a unit: POLARITY turns the pulse (R45); a pin without a unit is low (R46). -/
def ttoLevel (d : Dev) (n : Nat) (active : Bool) : Bool := decide (n < 32) && (active != bit (d.gn (0x1310 + n) 4) 3)

/-- The level that a TTO pin shows: in its pulse or idle, under its source. -/
def ttoShows (d : Dev) (k : Nat) : Bool := ttoLevel d (d.gn 0x1330 (k + 1)) (tabFind d.tto k).isSome

/-- The instant at which a TTO edge meant for an applied time leaves the ball: it is driven early by TTO_OUT_LAT and takes
the latency of the characterised silicon, 48 tt, which is that object's default (R37, R41; DEDUCED, assumption log 109). -/
def ttoBall (d : Dev) (a : Nat) : Nat := wrapU 64 ((a : Int) + 48 - d.gi 0x1302 4)

/-- The TTO pins whose level a write has moved, against the device before it, change at once (R46). -/
def ttoFollow (e : Env) (old d : Dev) : Dev :=
  (List.range 8).foldl (fun d k =>
    if ttoShows old k = ttoShows d k then d else d.emit (.pin "TTO" k (ttoShows d k) (ttoBall d (nowA e d)))) d

/-- A pin's source written: a pulse of the source before it ends, and the pin is idle under the new one (R46). -/
def ttoSourced (e : Env) (old d : Dev) (k : Nat) : Dev :=
  if old.gi 0x1330 (k + 1) = d.gi 0x1330 (k + 1) then d
  else ttoFollow e old { d with tto := tabErase d.tto k }

/-- A write of CONTROL (R45): the stored fields, the level of the unit's pins where POLARITY turned, then DISARM, which wins
over ARM (DEDUCED, log 18), or ARM. -/
def tcControl (e : Env) (d : Dev) (n ctl : Nat) : Dev :=
  let d1 := ttoFollow e d (d.put (0x1310 + n) 4 (ctl &&& 0x3C : Nat))
  if bit ctl 1 then tcDisarmNow d1 n else if bit ctl 0 then tcArmNow e d1 n else d1

/-- A fire (R41, R46): its pins, its event, LAST_FIRE, and the move to the next target. A target that a shadow set, or that
follows a late one, is judged as at an arming (R42, R43). -/
def tcFireNow (e : Env) (d : Dev) (n : Nat) : Dev :=
  let i := 0x1310 + n
  let w := d.tc n
  let at_ := if w.late then nowA e d else w.target
  let pw := d.gn i 5
  let d1 := (ttoPinsOf d n).foldl (fun d k =>
    { (d.emit (.pin "TTO" k (ttoLevel d n true) (ttoBall d at_))) with
      tto := tabSet d.tto k (wrapU 64 ((at_ : Int) + pw)) }) d
  let d2 := ((d1.put i 9 w.target).inc i 7).setFlag i 6 1
  let d3 := if w.late then d2.setFlag i 6 2 else d2
  let d4 := if bit (d.gn i 4) 2 then d3.raise e n 0 else d3
  let d5 := d4.setTc n { tcAdvance d n w with late := false }
  if w.late || w.shTarget || w.shPeriod then tcLateHandle e d5 n else d5

/-- After applied time has stepped, every armed unit is judged against it as if armed on that edge (R41). -/
def tcJudgeAll (e : Env) (d : Dev) : Dev := (List.range 32).foldl (fun d n => tcLateHandle e d n) d

/-! ### The step of a main-domain command -/

/-- A command of the main domain, refused as a fault where it names an instance that does not exist. -/
def mainStep (ok : Bool) (t : Nat) (s : State) (f : Env → Dev → Dev) : Host.Outcome State Fault Refusal :=
  if ok then .next (runMain tcJudgeAll t s f) else .fault .noInstance

/-! ### Applied time: writes (R26 to R33) -/

/-- Whether your writes of OFFSET and RATE are taken in a TIME_STATE (R27). -/
def timeWritable : TimeState → Bool
  | .free => true
  | .held => true
  | _ => false

/-- A write of OFFSET (R29, R30). -/
def offsetWrite (e : Env) (d : Dev) (m : Master) (v : Int) : Dev :=
  d.asWrite m 0x1300 3 v fun d =>
    if timeWritable (tuOf e d).state then (askTu d (.setOffset v)).ended m stOK else d.reject m 0x1300

/-- A write of RATE (R25, R26). -/
def rateWrite (e : Env) (d : Dev) (m : Master) (v : Int) : Dev :=
  d.asWrite m 0x1300 4 v fun d =>
    if timeWritable (tuOf e d).state then (askTu d (.setRate v)).ended m stOK else d.reject m 0x1300

/-- A write of DECLARE_VALID (R28). -/
def declareValidWrite (d : Dev) (m : Master) (v : Int) : Dev :=
  d.asWrite m 0x1300 7 v fun d => (if v = 1 then askTu d .declareValid else d).ended m stOK

/-- A write of SLEW_LIMIT (R30). -/
def slewLimitWrite (d : Dev) (m : Master) (v : Int) : Dev :=
  d.asWrite m 0x1300 8 v fun d => (askTu d (.setSlewLimit v.toNat)).ended m stOK

/-- A write of EPOCH_PTP_S, taken only in FREE (R29). -/
def epochWrite (e : Env) (d : Dev) (m : Master) (v : Int) : Dev :=
  d.asWrite m 0x1300 0x0A v fun d =>
    if (tuOf e d).state = .free then (askTu d (.setEpoch v.toNat)).ended m stOK else d.reject m 0x1300

/-- OFFSET_WRITE (R30). -/
def execOffsetWrite (t : Nat) (m : Master) (v : Int) (s : State) : Host.Outcome State Fault Refusal :=
  mainStep (masterOk m) t s fun e d => offsetWrite e d m v

/-- RATE_WRITE (R25). -/
def execRateWrite (t : Nat) (m : Master) (v : Int) (s : State) : Host.Outcome State Fault Refusal :=
  mainStep (masterOk m) t s fun e d => rateWrite e d m v

/-- DECLARE_VALID (R28). -/
def execDeclareValid (t : Nat) (m : Master) (v : Int) (s : State) : Host.Outcome State Fault Refusal :=
  mainStep (masterOk m) t s fun _ d => declareValidWrite d m v

/-- SLEW_LIMIT_WRITE (R30). -/
def execSlewLimitWrite (t : Nat) (m : Master) (v : Int) (s : State) : Host.Outcome State Fault Refusal :=
  mainStep (masterOk m) t s fun _ d => slewLimitWrite d m v

/-- EPOCH_PTP_S_WRITE (R29). -/
def execEpochPtpSWrite (t : Nat) (m : Master) (v : Int) (s : State) : Host.Outcome State Fault Refusal :=
  mainStep (masterOk m) t s fun e d => epochWrite e d m v

/-- SLEW_END (R30): on the first edge at which the whole slew has run it is folded into the offset. -/
def execSlewEnd (t : Nat) (s : State) : Host.Outcome State Fault Refusal :=
  mainStep true t s fun _ d => askTu d .endSlew

/-- TC_ARM (R42): a write of CONTROL with ARM set. -/
def execTcArm (t : Nat) (m : Master) (n ctl : Nat) (s : State) : Host.Outcome State Fault Refusal :=
  mainStep (masterOk m && okTc n) t s fun e d =>
    d.asWrite m (0x1310 + n) 4 ctl fun d => (tcControl e d n (clrBit (setBit ctl 0) 1)).ended m stOK

/-- TC_DISARM (R45): a write of CONTROL with DISARM set. -/
def execTcDisarm (t : Nat) (m : Master) (n ctl : Nat) (s : State) : Host.Outcome State Fault Refusal :=
  mainStep (masterOk m && okTc n) t s fun e d =>
    d.asWrite m (0x1310 + n) 4 ctl fun d => (tcControl e d n (setBit ctl 1)).ended m stOK

/-- TTO_PULSE_END (R46): PULSE_WIDTH after the last fire of a run the pin returns to idle. -/
def execTtoPulseEnd (t : Nat) (k : Nat) (s : State) : Host.Outcome State Fault Refusal :=
  mainStep (okTto k) t s fun e d =>
    match tabFind d.tto k with
    | none => d
    | some end_ =>
      if tcReached (nowA e d) end_ then
        { (d.emit (.pin "TTO" k (ttoLevel d (d.gn 0x1330 (k + 1)) false) (ttoBall d end_))) with tto := tabErase d.tto k }
      else d

end Sys2Proof.Machine
end

