-- ==== Sys2Proof/Machine/Position.lean ====
section
/-! DEFINITION. Position inputs, position compare units and line triggers (chapter 3): R47 to R75. -/

namespace Sys2Proof.Machine

/-- What other chapters do with a count: after each count with the input, the count's direction, its stamp and whether
it was a revolution reference, and at a position set with the distance moved (R62). -/
structure PosHooks where
  onCount : Env → Dev → Nat → Int → Nat → Dev
  onRef : Env → Dev → Nat → Dev
  onSet : Env → Dev → Nat → Int → Dev

/-- One count as a distance in Q48.16. -/
def oneWp : Int := 65536

/-- MODE of an input (R47). -/
def encMode (d : Dev) (n : Nat) : Nat := d.gn (0x3500 + n) 1

/-! ### The filter (R48) -/

/-- The filter clock that takes the last of FILTER_N samples of the level a pin holds. -/
def acceptClock (d : Dev) (n : Nat) (x : Enc) (p : PinFilter) : Nat :=
  let reach := ((p.since : Int) + d.gi 0x1302 1).toNat
  let first := clk200 (if p.primed then reach else max reach x.onSince)
  first + (d.gn (0x3500 + n) 2 - 1) * 80

/-- Whether a pin's level is due to be accepted by a raw instant. -/
def pinDue (d : Dev) (n : Nat) (x : Enc) (p : PinFilter) (raw : Nat) : Bool :=
  (p.lvl != p.acc || !p.primed) && acceptClock d n x p ≤ raw

/-! ### Estimate and speed (R59, R61) -/

/-- The interpolated frontier on the 200 MHz clock of the command (R61). With one count only there is no interval yet, and
the estimate holds at the frontier (DESIGN CHOICE, assumption log 110). -/
def encEst (e : Env) (d : Dev) (n : Nat) : Int :=
  let x := d.enc n
  if x.pos < x.frontier || x.standstill || x.dtLast = 0 then x.frontier
  else
    let dt := wrapI 64 ((clkA e d : Int) - x.tLast)
    let f := if dt < 0 then 0 else (dt * 65536) / x.dtLast
    x.frontier + min f 65535

/-- SPEED in 2^-16 wp/µs, truncated toward zero (R59). -/
def encSpeed (e : Env) (d : Dev) (n : Nat) : Int :=
  let x := d.enc n
  if x.standstill || x.intervals.isEmpty then 0
  else
    let l := x.intervals.take (d.gn (0x3500 + n) 0x12)
    let since := match x.lastStamp with | none => 0 | some s => wrapU 64 ((clkA e d : Int) - s)
    let first := match l with | [] => 0 | q :: _ => q.1
    let total := sumN (l.map (·.1)) - first + max first since
    if total = 0 then 0 else Int.tdiv (sumI (l.map (·.2)) * 65536 * 16000) total

/-! ### Counting (R49 to R57) -/

/-- The status object of an input. -/
def encStat (n : Nat) : Nat := 0x3508 + n

/-- An input's event (R75). -/
def encEvent (e : Env) (d : Dev) (n k data : Nat) : Dev := d.raise e (0x020 + 8 * n + k) data

/-- The revolution reference (R55, R56). -/
def encRef (e : Env) (d : Dev) (n : Nat) : Dev :=
  let x := d.enc n
  let rc := d.gn (0x3500 + n) 0x0A
  let mode := d.gn (0x3500 + n) 0x0B
  let slip := x.refSeen && rc ≠ 0 &&
    decide ((d.gn (0x3500 + n) 0x0D : Int) < (((x.sinceRef.natAbs : Int) - rc).natAbs : Int))
  let d1 := encEvent e (d.setFlag (encStat n) 1 0) n 1 0
  let d2 := if slip then encEvent e ((d1.inc (encStat n) 4).setFlag (encStat n) 1 5) n 2 0 else d1
  let zero := rc ≠ 0 && ((mode = 1 && !(slip && d.gn (0x3500 + n) 0x0E = 1)) || (mode = 2 && x.onceArmed))
  d2.setEnc n { x with rev := if zero then 0 else x.rev, refSeen := true, sinceRef := 0,
                       turns := if zero && decide ((rc : Int) ≤ 2 * x.rev) then x.turns + 1 else x.turns,
                       onceArmed := if mode = 2 then false else x.onceArmed }

/-- The revolution counter after `k` counts (R55, R56). With INDEX_MODE = ALWAYS it runs on to the tolerance and then
wraps as if the reference had come; the counts since the reference before go on (R56). -/
def encRevCount (e : Env) (d : Dev) (n : Nat) (k : Int) (isRef : Bool) : Dev :=
  let x := d.enc n
  let rc : Int := d.gn (0x3500 + n) 0x0A
  if rc = 0 then d.setEnc n { x with sinceRef := x.sinceRef + k }
  else
    let r := x.rev + k
    let always := d.gn (0x3500 + n) 0x0B = 1
    let tol : Int := d.gn (0x3500 + n) 0x0D
    if always then
      if r < 0 then d.setEnc n { x with rev := r + rc, sinceRef := x.sinceRef + k, turns := x.turns - 1 }
      else if !isRef && rc - 1 + tol < r then
        let d1 := d.setEnc n { x with rev := r - rc, sinceRef := x.sinceRef + k, turns := x.turns + 1 }
        encEvent e ((d1.inc (encStat n) 5).setFlag (encStat n) 1 6) n 3 0
      else d.setEnc n { x with rev := r, sinceRef := x.sinceRef + k }
    else
      d.setEnc n { x with rev := r % rc, sinceRef := x.sinceRef + k,
                          turns := x.turns + r / rc }

/-- Frontier and reversal after the counter has moved (R57). REVERSE rises in QUADRATURE mode only (R51). -/
def encFrontier (e : Env) (d : Dev) (n : Nat) (stamp dt : Nat) : Dev :=
  let x := d.enc n
  if x.frontier ≤ x.pos then
    let x1 := { x with frontier := x.pos, tLast := stamp, dtLast := dt }
    if x.reverse then
      let revs := match x.revs with
        | (a, none) :: r => (a, some stamp) :: r
        | r => r
      encEvent e (d.setEnc n { x1 with reverse := false, revs := revs }) n 5 0
    else d.setEnc n x1
  else if encMode d n = 2 && !x.reverse && x.pos < x.frontier - d.gn (0x3500 + n) 0x10 * oneWp then
    encEvent e ((d.setEnc n { x with reverse := true, revs := ((stamp, none) :: x.revs).take 64 }).inc (encStat n) 6)
      n 4 0
  else d

/-- The position set at the count where it takes effect (R62), with SET_VALUE as it then stands. The working targets of the
armed units move; a TARGET in a unit's shadow keeps its value (DESIGN CHOICE, assumption log 110). -/
def encSetDone (h : PosHooks) (e : Env) (d : Dev) (n : Nat) (stamp : Nat) : Dev :=
  let x := d.enc n
  let value := d.gi (0x350C + n) 1
  let dd := value - x.pos
  let d1 := d.setEnc n { x with pos := value, frontier := x.frontier + dd, setPend := none,
                                edges := x.edges.map (fun g => { g with pos := g.pos + dd }) }
  let d2 := (List.range 64).foldl (fun d k =>
    let w := d.cmp k
    if w.armed && d.gn (0x3540 + k) 1 = n then
      (d.setCmp k { w with target := w.target + dd * 65536 }).setFlag (0x3540 + k) 6 4
    else d) d1
  let d3 := ((d2.inc (encStat n) 7).put (0x350C + n) 3 dd).put (0x350C + n) 4 stamp
  h.onSet e (encEvent e d3 n 7 0) n dd

/-- The revolution counter of an input with the revolutions before it, in counts (R299). -/
def revCount (d : Dev) (n : Nat) : Int := (d.enc n).turns * d.gn (0x3500 + n) 0x0A + (d.enc n).rev

/-- The newest edge takes the revolution counter as its count leaves it (R55, R299). -/
def edgeRev (d : Dev) (n : Nat) : Dev :=
  let x := d.enc n
  match x.edges with
  | g :: r => d.setEnc n { x with edges := { g with rev := revCount d n } :: r }
  | [] => d

/-- One accepted count (R49 to R62): the counter, its edge, its events, frontier and reversal, standstill cleared, and
a position set that falls due. -/
def encCount (h : PosHooks) (e : Env) (d : Dev) (n clk stamp : Nat) (up : Bool) (k : Nat) (isRef noSpeed : Bool) :
    Dev :=
  let x := d.enc n
  let dir : Int := if up then 1 else -1
  let dt := match x.lastStamp with | none => 0 | some s => wrapU 64 ((stamp : Int) - s)
  let tooFast := x.lastStamp.isSome && dt < 320
  let step := dir * k * oneWp
  let edge : Edge := { stamp := stamp, pos := x.pos + step, step := step, dt := dt, suspect := x.suspect || tooFast }
  let x1 := { x with pos := x.pos + step, lastStamp := some stamp, lastClock := clk, prevInterval := dt,
                     standstill := false, suspect := false, edges := (edge :: x.edges).take 256,
                     intervals := if noSpeed || x.lastStamp.isNone then x.intervals
                                  else ((dt, dir * k) :: x.intervals).take 64 }
  let d1 := d.setEnc n x1
  let d2 := if tooFast then (d1.inc (encStat n) 3).setFlag (encStat n) 1 4 else d1
  let d3 := encEvent e (encRevCount e d2 n (dir * k) isRef) n 0 (b2n up)
  let d4 := encFrontier e d3 n stamp dt
  let d5 := h.onCount e d4 n dir stamp
  let d6 := edgeRev (if isRef then h.onRef e (encRef e d5 n) n else d5) n
  let x6 := d6.enc n
  match x6.setPend with
  | some p => if p.waitGrant || x6.reverse then d6 else encSetDone h e d6 n stamp
  | none => d6

/-- An accepted edge of ENCn_A in PULSE mode (R51 to R53). -/
def pulseEdge (h : PosHooks) (e : Env) (d : Dev) (n clk stamp : Nat) (rising : Bool) : Dev :=
  let x := d.enc n
  let which := d.gn (0x3500 + n) 4
  if (which = 0 && !rising) || (which = 1 && rising) then d
  else
    let dt := match x.lastStamp with | none => 0 | some s => wrapU 64 ((stamp : Int) - s)
    let kind := d.gn (0x3500 + n) 6
    let judged := x.lastStamp.isSome && x.prevInterval ≠ 0
    if kind = 1 && judged && d.gn (0x3500 + n) 8 * x.prevInterval ≤ 16 * dt then
      encCount h e d n clk stamp true (d.gn (0x3500 + n) 7 + 1) true true
    else if kind = 2 && judged && 256 * dt < d.gn (0x3500 + n) 9 * x.prevInterval then
      h.onRef e (encRef e d n) n
    else encCount h e d n clk stamp true 1 false false

/-- Whether an accepted edge of A or B counts, and then whether up (R49): `other` is the level of the other pin. With x1 the
two edges of A that meet at one phase of the cycle count, so that a rising edge of A counts up and a falling one down. -/
def quadCounts (mult : Nat) (inv inA rising other : Bool) : Option Bool :=
  let up := if inA then rising != other else rising == other
  if mult = 4 || (mult = 2 && inA) || (mult = 1 && inA && other == inv) then some (up != inv) else none

/-- An accepted edge of A or B in QUADRATURE mode (R49). -/
def quadEdge (h : PosHooks) (e : Env) (d : Dev) (n clk stamp : Nat) (inA rising : Bool) : Dev :=
  let x := d.enc n
  match quadCounts (d.gn (0x3500 + n) 3) (d.gb (0x3500 + n) 5) inA rising (if inA then x.pinB.acc else x.pinA.acc) with
  | none => d
  | some up => encCount h e d n clk stamp up 1 false false

/-- A level of ENCn_Z accepted (R55). -/
def zEdge (h : PosHooks) (e : Env) (d : Dev) (n : Nat) (rising : Bool) : Dev :=
  let x := d.enc n
  if rising && d.gn (0x3500 + n) 6 = 1 && encMode d n = 2 && (!d.gb (0x3500 + n) 0x0F || (x.pinA.acc && x.pinB.acc))
  then h.onRef e (encRef e d n) n else d

/-- A pin's level accepted; the first acceptance after MODE has left OFF takes no count (R48). -/
def acceptPin (h : PosHooks) (e : Env) (d : Dev) (n : Nat) (pin : EncPin) : Dev :=
  let x := d.enc n
  let p := match pin with | .a => x.pinA | .b => x.pinB | .z => x.pinZ
  let clk := acceptClock d n x p
  let stamp := stampA e d p.since
  let p1 := { p with acc := p.lvl, primed := true }
  let d1 := d.setEnc n (match pin with
    | .a => { x with pinA := p1 } | .b => { x with pinB := p1 } | .z => { x with pinZ := p1 })
  if !p.primed then d1
  else match encMode d n, pin with
    | 1, .a => pulseEdge h e d1 n clk stamp p.lvl
    | 2, .a => quadEdge h e d1 n clk stamp true p.lvl
    | 2, .b => quadEdge h e d1 n clk stamp false p.lvl
    | 2, .z => zEdge h e d1 n p.lvl
    | _, _ => d1

/-- A and B accepted on one filter clock (R49): nothing is counted. -/
def quadError (d : Dev) (n : Nat) : Dev :=
  let x := d.enc n
  let d1 := d.setEnc n { x with pinA := { x.pinA with acc := x.pinA.lvl }, pinB := { x.pinB with acc := x.pinB.lvl },
                                suspect := true }
  (d1.inc (encStat n) 2).setFlag (encStat n) 1 3

/-- The pins of an input that are due, in the order of their accepting clocks; A before B before Z on one clock. -/
def duePins (d : Dev) (n raw : Nat) : List (Nat × EncPin) :=
  let x := d.enc n
  let one (p : PinFilter) (k : EncPin) : List (Nat × EncPin) :=
    if pinDue d n x p raw then [(acceptClock d n x p, k)] else []
  let l := one x.pinA .a ++ one x.pinB .b ++ one x.pinZ .z
  l.mergeSort (fun p q => p.1 ≤ q.1)

/-- Every level that has been stable for FILTER_N clocks by now is accepted (R48). -/
def encAccept (h : PosHooks) (e : Env) (d : Dev) (n : Nat) : Dev :=
  let due := duePins d n e.raw
  let x := d.enc n
  let both := encMode d n = 2 && x.pinA.primed && x.pinB.primed &&
    (due.any (fun p => p.2 = .a && due.any (fun q => q.2 = .b && p.1 = q.1)))
  if both then
    (due.filter (fun p => p.2 = .z)).foldl (fun d p => acceptPin h e d n p.2) (quadError d n)
  else due.foldl (fun d p => acceptPin h e d n p.2) d

/-- The filter clock that first sees what a ball does at the command's instant: ENC_IN_LAT after it (R48). -/
def pinClock (e : Env) (d : Dev) : Nat := clk200 ((e.raw : Int) + d.gi 0x1302 1).toNat

/-- A level at a ball as the filter's samples see it (R48): levels that come and go between two samples leave no trace, so
a level that is back on the same sample goes on as it was. -/
def PinFilter.change (p : PinFilter) (clk raw : Nat) (level : Bool) : PinFilter :=
  let (l, s) := if p.cell = clk then (p.runLvl, p.runSince) else (p.lvl, p.since)
  { p with lvl := level, since := if level = l then s else raw, cell := clk, runLvl := l, runSince := s }

/-- A level change at a ball (R48). -/
def encPinChange (e : Env) (d : Dev) (n : Nat) (pin : EncPin) (level : Bool) : Dev :=
  let x := d.enc n
  let held (p : PinFilter) : PinFilter :=
    if !p.primed && encMode d n ≠ 0 && pinDue d n x p e.raw then { p with primed := true, acc := p.lvl } else p
  let ch (p : PinFilter) : PinFilter := if p.lvl = level then p else (held p).change (pinClock e d) e.raw level
  d.setEnc n (match pin with
    | .a => { x with pinA := ch x.pinA } | .b => { x with pinB := ch x.pinB } | .z => { x with pinZ := ch x.pinZ })

/-- STANDSTILL (R60): no count for STANDSTILL_TIME. -/
def standstillDue (e : Env) (d : Dev) (n : Nat) : Dev :=
  let x := d.enc n
  let from_ := max x.lastClock x.onSince
  if encMode d n ≠ 0 && !x.standstill && from_ + d.gn (0x3500 + n) 0x11 * 16000 ≤ e.raw then
    encEvent e (d.setEnc n { x with standstill := true, stillAt := e.raw, stillStamp := nowA e d }) n 6 0
  else d

/-- A write of MODE (R47, R48). A MODE that leaves OFF clears STANDSTILL, whose time then runs from that moment (R60; DESIGN
CHOICE, assumption log 110). -/
def encModeWrite (e : Env) (d : Dev) (m : Master) (n : Nat) (v : Int) : Dev :=
  d.asWrite m (0x3500 + n) 1 v fun d =>
    let x := d.enc n
    let leaving := encMode d n = 0 && v ≠ 0
    let un (p : PinFilter) : PinFilter := { p with primed := false, acc := p.lvl }
    let d1 := if leaving then
      d.setEnc n { x with pinA := un x.pinA, pinB := un x.pinB, pinZ := un x.pinZ, onSince := e.raw,
                          standstill := false } else d
    (d1.put (0x3500 + n) 1 v).ended m stOK

/-- A write of INDEX_ARM (R55). -/
def indexArmWrite (d : Dev) (m : Master) (n : Nat) (v : Int) : Dev :=
  d.asWrite m (0x3500 + n) 0x0C v fun d =>
    (if v = 1 then d.setEnc n { d.enc n with onceArmed := true } else d).ended m stOK

/-- A write of SET_VALUE: fraction bits are refused, with STATUS.SET_REFUSED (R62). -/
def setValueWrite (d : Dev) (m : Master) (n : Nat) (v : Int) : Dev :=
  d.asWrite m (0x350C + n) 1 v fun d =>
    if v % 65536 ≠ 0 then (d.setFlag (encStat n) 1 7).reject m (0x350C + n)
    else (d.put (0x350C + n) 1 v).ended m stOK

/-- A write of SET_CMD (R62): refused while REVERSE is set; a second one replaces the first. -/
def setCmdWrite (d : Dev) (m : Master) (n : Nat) (v : Int) : Dev :=
  d.asWrite m (0x350C + n) 2 v fun d =>
    let x := d.enc n
    if x.reverse then (d.setFlag (encStat n) 1 7).reject m (0x350C + n)
    else (d.setEnc n { x with setPend := some { waitGrant := v == 2 } }).ended m stOK

/-- A grant at the POS_SET task input (R62). -/
def posSetGrant (d : Dev) (n : Nat) : Dev :=
  let x := d.enc n
  match x.setPend with
  | some p => if p.waitGrant then d.setEnc n { x with setPend := some { p with waitGrant := false } } else d
  | none => d

/-- STATUS of an input as it reads: REVERSE and STANDSTILL are live (R65). -/
def encStatus (d : Dev) (n : Nat) : Nat :=
  let x := d.enc n
  putBit (putBit (d.gn (encStat n) 1) 2 x.standstill) 1 x.reverse

/-! ### Position compare units (R66 to R70) -/

/-- OWNER of a unit (R69). -/
def cmpOwner (d : Dev) (n : Nat) : Nat := field (d.gn (0x3540 + n) 5) 7 6

/-- LATE in force (R69): CATCH_UP for line triggers, DROP for the marking engine. -/
def cmpLate (d : Dev) (n : Nat) : Nat :=
  match cmpOwner d n with
  | 1 => 2
  | 2 => 0
  | _ => field (d.gn (0x3540 + n) 5) 5 4

/-- A target as it is compared: Q48.32 truncated to Q48.16 (R67). -/
def cmpTarget (w : CmpWork) : Int := w.target / 65536

/-- How far an estimate lies past a target, as an I64 (R66). -/
def cmpPast (est : Int) (w : CmpWork) : Int := wrapI 64 (est - cmpTarget w)

/-- Whether the estimate of a unit's input has reached its target (R66). -/
def cmpReached (e : Env) (d : Dev) (n : Nat) : Bool :=
  decide (0 ≤ cmpPast (encEst e d (d.gn (0x3540 + n) 1)) (d.cmp n))

/-- The working copy after a fire or skip (R42, R66). -/
def cmpAdvance (d : Dev) (n : Nat) (w : CmpWork) : CmpWork :=
  if w.period = 0 then { w with armed := false, late := false }
  else if w.left = some 1 then { w with armed := false, late := false, left := some 0 }
  else
    let per := if w.shPeriod then d.gn (0x3540 + n) 3 else w.period
    { w with armed := true,
             target := if w.shTarget then d.gi (0x3540 + n) 2 * 65536 else w.target + per,
             period := per,
             left := if w.shRepeat then repeatLeft (d.gn (0x3540 + n) 4) else leftDown w.left,
             shTarget := false, shPeriod := false, shRepeat := false, late := false }

/-- Skip whole periods up to the first target ahead of an estimate (R68). -/
def cmpSkipRun (est : Int) (w : CmpWork) : CmpWork × Nat :=
  if w.armed && 0 ≤ cmpPast est w then
    if w.period = 0 then ({ w with armed := false }, 1)
    else
      let k := ((cmpPast est w * 65536 + 65535 - w.target % 65536) / w.period).toNat + 1
      match w.left with
      | none => ({ w with target := w.target + k * w.period }, k)
      | some n =>
        if n ≤ k then ({ w with armed := false, left := some 0 }, n)
        else ({ w with target := w.target + k * w.period, left := some (n - k) }, k)
  else (w, 0)

/-- The ports that take their triggers from a unit (R71). -/
def portsOfSource (d : Dev) (n : Nat) : List Nat := (List.range 16).filter (fun p => d.gn (0x3580 + p) 1 == n)

/-- A unit skipped `k` targets on this clock: SKIP_COUNT, MISSED, its event, and the note that the ports it drives keep
for the holes of R194 while they are in service. -/
def cmpMissed (e : Env) (d : Dev) (n k : Nat) : Dev :=
  if k = 0 then d
  else
    let d1 := ((d.add (0x3540 + n) 8 k).setFlag (0x3540 + n) 6 2).raise e (0x040 + 2 * n + 1) k
    if cmpOwner d n = 1 then
      ((portsOfSource d n).filter (fun p => d.inSvc (uPort p))).foldl (fun d p =>
        let g := d.trig p
        d.setTrig p { g with skipAfter := (g.id, clkA e d) :: g.skipAfter }) d1
    else d1

/-- Late targets, at arming or on the clock of an earlier fire, under LATE (R68). -/
def cmpLateHandle (e : Env) (d : Dev) (n : Nat) : Dev :=
  let w := d.cmp n
  let est := encEst e d (d.gn (0x3540 + n) 1)
  if !(w.armed && 0 ≤ cmpPast est w) then d
  else if cmpLate d n = 1 then d.setCmp n { w with late := true }
  else
    let (w2, k) := cmpSkipRun est (cmpAdvance d n w)
    cmpMissed e (d.setCmp n w2) n (1 + k)

/-- Whether an arm is refused: a reserved code, or an input with MODE 0 (R70). -/
def cmpBadArm (d : Dev) (n : Nat) : Bool :=
  field (d.gn (0x3540 + n) 5) 5 4 = 3 || cmpOwner d n = 3 || encMode d (d.gn (0x3540 + n) 1) = 0

/-- Arming (R66 as R42); a refused arm sets BAD_ARM. -/
def cmpArmNow (e : Env) (d : Dev) (n : Nat) : Dev :=
  if cmpBadArm d n then d.setFlag (0x3540 + n) 6 3
  else
    cmpLateHandle e (d.setCmp n { armed := true, target := d.gi (0x3540 + n) 2 * 65536, period := d.gn (0x3540 + n) 3,
                                  left := repeatLeft (d.gn (0x3540 + n) 4) }) n

/-- Disarming at once. -/
def cmpDisarmNow (d : Dev) (n : Nat) : Dev := d.setCmp n { d.cmp n with armed := false, late := false }

/-- A write of CONTROL: OWNER 2 is the marking engine's alone (R69), and LATE of a line-trigger unit is forced. -/
def cmpControl (e : Env) (d : Dev) (m : Master) (n ctl : Nat) : Dev :=
  if cmpOwner d n = 2 || field ctl 7 6 = 2 then d.reject m (0x3540 + n)
  else
    let late := if field ctl 7 6 = 1 then 2 else field ctl 5 4
    let d1 := d.put (0x3540 + n) 5 (putField (ctl &&& 0xC4) 5 4 late)
    (if bit ctl 1 then cmpDisarmNow d1 n else if bit ctl 0 then cmpArmNow e d1 n else d1).ended m stOK

/-- A field of the unit was written while it was armed (R42, R66). -/
def cmpFieldWritten (d : Dev) (n sub : Nat) : Dev :=
  let w := d.cmp n
  if w.armed then
    d.setCmp n { w with shTarget := w.shTarget || sub == 2, shPeriod := w.shPeriod || sub == 3,
                        shRepeat := w.shRepeat || sub == 4 }
  else d

/-! ### Line triggers (R71 to R74) -/

/-- The TRIGGER block of an ID (R120). -/
def triggerBlock (id : Nat) : List Byte :=
  let b := [0x90, 0] ++ toBE 2 id ++ [0, 0]
  b ++ toBE 2 (crc16 b)

/-- The lanes of a port's active mask. -/
def activeLanes (d : Dev) (p : Nat) : List Nat := (bitsOf 8 (d.port p).mask).map (fun i => 8 * p + i)

/-- The level of TRGn: TRG_POLARITY turns the pulse (R74). -/
def trgLevel (d : Dev) (p : Nat) (active : Bool) : Bool := active != d.gb (0x3580 + p) 5

/-- A trigger ID put into runs of IDs, newest first. -/
def idPut (l : List (Nat × Nat)) (id : Nat) : List (Nat × Nat) :=
  match l with
  | (a, b) :: r => if (b + 1) % 65536 = id then (a, id) :: r else (id, id) :: (a, b) :: r
  | [] => [(id, id)]

/-! ### Calibration jobs (R167, R168) -/

/-- A port's job. -/
def Dev.job (d : Dev) (p : Nat) : Job := tabGet d.jobs {} p
/-- A port's job written. -/
def Dev.setJob (d : Dev) (p : Nat) (x : Job) : Dev := { d with jobs := tabSet d.jobs p x }

/-- Index of a port's calibration objects at offset `o`. -/
def jIdx (p o : Nat) : Nat := 0x2080 + 0x100 * p + o

/-- The lulls a job is allowed (R168). -/
def jobLulls (d : Dev) (p : Nat) : Nat :=
  let m := d.gn (jIdx p 0) 2
  if m ≠ 0 then m else match (d.job p).kind with | 1 => 0x0C | 2 => 0x0D | _ => 0x01

/-- Whether a job still acquires. -/
def jobAcquires (j : Job) : Bool := j.state == .waiting || j.state == .acquiring

/-- Whether a port's acquiring job is allowed STOP: in a STOP lull its triggers are the calibration trigger's (R167). -/
def stopJob (d : Dev) (p : Nat) : Bool := jobAcquires (d.job p) && bit (jobLulls d p) 2

/-- DELAY_TRIM moved (R178, R188): triggers whose stamp lies later than the present instant take the new value. -/
def trimMoved (e : Env) (d : Dev) (p : Nat) : Dev :=
  let g := d.trig p
  let later (x : Trig) : Bool := 0 < wrapI 64 ((x.stamp : Int) - nowA e d)
  if g.sent.any later then
    d.setTrig p { g with sent := g.sent.map (fun x => if later x then { x with trim := d.gi (jIdx p 4) 1 } else x) }
  else d

/-! ### Line triggers (R71 to R74) -/

/-- A port's source unit fired at a raw fire clock (R71 to R73): the next ID is taken, and the trigger is sent, skipped
or not sent. `cal` marks a calibration trigger (R167). -/
def triggerSend (e : Env) (d : Dev) (p : Nat) (clk : Nat) (cal : Bool) : Dev :=
  let i := 0x3580 + p
  let g := d.trig p
  let id := (g.id + 1) % 65536
  let g1 := { g with id := id, calIds := if cal then idPut g.calIds id else g.calIds }
  let en := d.gn i 2
  let d1 := (d.setTrig p g1).put i 6 id
  let early := match g.lastSent with | none => false | some s => clk - s < d.gn i 3
  if en = 0 || !(d.inSvc (uPort p)) then d1
  else if early then ((d1.inc i 7).put i 9 1).raise e (0x0C0 + 8 * p + 4) 0
  else
    let at_ := clk + 960
    let stamp := stampA e d at_
    let edge := (at_ : Int) - d.gi 0x1302 3
    let blk := triggerBlock id
    let d2 := if bit en 0 then
      (activeLanes d p).foldl (fun d l => d.emit (.laneBlock l blk at_))
        (txPut e d1 p { prio := 0, lanes := activeLanes d p, bytes := blk, due := clk, ball := some at_ })
      else d1
    let d3 := if bit en 1 then d2.emit (.pin "TRG" p (trgLevel d p true) edge.toNat) else d2
    let tr : Trig := { id := id, raw := at_, stamp := stamp, used := false, trim := d.gi (0x2084 + 0x100 * p) 1, cal := cal }
    let pe := if bit en 1 then some (edge.toNat + d.gn i 4) else g1.pulseEnd
    (d3.put i 8 stamp).setTrig p { g1 with lastSent := some clk, sent := (tr :: g1.sent).take 64, pulseEnd := pe }

/-- A fire (R66): LAST_FIRE, its event, the line triggers of its ports, and the next target. A port whose job acquires in a STOP
lull takes none (R167). `onFire` says what the marking engine and the overlays do with it. -/
def cmpFireNow (onFire : Env → Dev → Nat → Dev) (e : Env) (d : Dev) (n : Nat) : Dev :=
  let i := 0x3540 + n
  let w := d.cmp n
  let clk := clk200 e.raw
  let d1 := (((d.put i 9 (cmpTarget w)).put i 0x0A (clkA e d)).inc i 7).setFlag i 6 0
  let d2 := if w.late then d1.setFlag i 6 1 else d1
  let d3 := if bit (d.gn i 5) 2 then d2.raise e (0x040 + 2 * n) 0 else d2
  let d4 := d3.setCmp n { cmpAdvance d n w with lastClk := some clk }
  let ports := (portsOfSource d n).filter (fun p => !(d.lulls.stop && stopJob d p))
  let d5 := if cmpOwner d n = 1 then ports.foldl (fun d p => triggerSend e d p clk false) d4 else d4
  cmpLateHandle e (onFire e d5 n) n

/-- Whether a unit fires on this clock: armed, reached, and not yet fired on it (R66). -/
def cmpDue (e : Env) (d : Dev) (n : Nat) : Bool :=
  (d.cmp n).armed && cmpReached e d n && (d.cmp n).lastClk != some (clk200 e.raw)

/-- A port whose camera leaves IN_SERVICE holds TRGn idle: a pulse under way ends at once (R74). -/
def trgIdle (e : Env) (d : Dev) (p : Nat) : Dev :=
  let g := d.trig p
  match g.pulseEnd with
  | none => d
  | some x =>
    let at_ := min x (max e.raw (x - d.gn (0x3580 + p) 4))
    (d.setTrig p { g with pulseEnd := none }).emit (.pin "TRG" p (trgLevel d p false) at_)

/-- The end of a TRGn pulse (R74). -/
def trgPulseEnd (e : Env) (d : Dev) (p : Nat) : Dev :=
  let g := d.trig p
  match g.pulseEnd with
  | none => d
  | some x =>
    if x ≤ e.raw then (d.setTrig p { g with pulseEnd := none }).emit (.pin "TRG" p (trgLevel d p false) x) else d

/-! ### Commands -/

/-- ENC_PIN_CHANGE (R48). -/
def execEncPinChange (t n : Nat) (pin : EncPin) (level : Bool) (s : State) : Host.Outcome State Fault Refusal :=
  mainStep (okEnc n) t s fun e d => encPinChange e d n pin level

/-- STANDSTILL (R60). -/
def execStandstill (t n : Nat) (s : State) : Host.Outcome State Fault Refusal :=
  mainStep (okEnc n) t s fun e d => standstillDue e d n

/-- ENC_MODE_WRITE (R47). -/
def execEncModeWrite (t : Nat) (m : Master) (n : Nat) (v : Int) (s : State) : Host.Outcome State Fault Refusal :=
  mainStep (masterOk m && okEnc n) t s fun e d => encModeWrite e d m n v

/-- INDEX_ARM (R55). -/
def execIndexArm (t : Nat) (m : Master) (n : Nat) (v : Int) (s : State) : Host.Outcome State Fault Refusal :=
  mainStep (masterOk m && okEnc n) t s fun _ d => indexArmWrite d m n v

/-- SET_VALUE_WRITE (R62). -/
def execSetValueWrite (t : Nat) (m : Master) (n : Nat) (v : Int) (s : State) : Host.Outcome State Fault Refusal :=
  mainStep (masterOk m && okEnc n) t s fun _ d => setValueWrite d m n v

/-- SET_AT_NEXT_COUNT (R62): SET_CMD = 1. -/
def execSetAtNextCount (t : Nat) (m : Master) (n : Nat) (s : State) : Host.Outcome State Fault Refusal :=
  mainStep (masterOk m && okEnc n) t s fun _ d => setCmdWrite d m n 1

/-- SET_AT_POS_SET_GRANT (R62): SET_CMD = 2. -/
def execSetAtPosSetGrant (t : Nat) (m : Master) (n : Nat) (s : State) : Host.Outcome State Fault Refusal :=
  mainStep (masterOk m && okEnc n) t s fun _ d => setCmdWrite d m n 2

/-- CMP_ARM (R66, R69): a write of CONTROL with ARM set. -/
def execCmpArm (t : Nat) (m : Master) (n ctl : Nat) (s : State) : Host.Outcome State Fault Refusal :=
  mainStep (masterOk m && okCmp n) t s fun e d =>
    d.asWrite m (0x3540 + n) 5 ctl fun d => cmpControl e d m n (clrBit (setBit ctl 0) 1)

/-- CMP_DISARM (R70): a write of CONTROL with DISARM set. -/
def execCmpDisarm (t : Nat) (m : Master) (n ctl : Nat) (s : State) : Host.Outcome State Fault Refusal :=
  mainStep (masterOk m && okCmp n) t s fun e d =>
    d.asWrite m (0x3540 + n) 5 ctl fun d => cmpControl e d m n (setBit ctl 1)

/-- TRG_PULSE_END (R74). -/
def execTrgPulseEnd (t p : Nat) (s : State) : Host.Outcome State Fault Refusal :=
  mainStep (okPort p) t s fun e d => trgPulseEnd e d p

end Sys2Proof.Machine
end

