-- ==== Sys2Proof/Machine/Lanes.lean ====
section
/-! DEFINITION. Camera and cascade lanes (chapter 4; R220 for the cascade): block lock, alignment, training, map changes,
test loops. -/

namespace Sys2Proof.Machine

/-- What other chapters do when a group's stream is released after it was not up, when it stops, and when a lane that a
command takes out of TEST meets its condition (R104). -/
structure LaneHooks where
  onUp : Env → Dev → Nat → Bool → Dev
  onStop : Env → Dev → Nat → Dev

/-! ### Lanes and groups -/

/-- PAYLOAD_CAPACITY in Mbit/s (R76, R106). -/
def payloadCapacity (d : Dev) (g : Nat) : Nat :=
  let lane := match groupRate d g with | 0 => 10000 | 1 => 12500 | _ => 25000
  popCount 8 (d.port g).mask * lane * 16383 / 16384

/-- TRAIN_TARGET and EYE_MIN of a lane; a cascade side has no such objects and takes the defaults (DESIGN CHOICE, log 28). -/
def trainTarget (d : Dev) (l : Nat) : Nat := if l < 128 then d.gn (0x2000 + 0x100 * (l / 8)) 4 else 0x40
/-- EYE_MIN of a lane. -/
def eyeMin (d : Dev) (l : Nat) : Nat := if l < 128 then d.gn (0x2000 + 0x100 * (l / 8)) 5 else 0x20

/-- A lane's result group publishes. -/
def lanePub (d : Dev) (l : Nat) : Dev := d.publish (laneRes l)

/-- A group's result group publishes; the cascade groups have none. -/
def groupPub (d : Dev) (g : Nat) : Dev := if g < 16 then d.publish (0x2001 + 0x100 * g) else d

/-- LINK_STATE moved. -/
def laneTo (d : Dev) (l : Nat) (st : LinkState) : Dev :=
  if (d.lane l).link = st then d else lanePub (d.setLane l { d.lane l with link := st }) l

/-- A lane counter incremented and published. -/
def laneInc (d : Dev) (l sub : Nat) : Dev := d.incP (laneRes l) sub

/-- A bit of a lane's FLAGS set. -/
def laneFlag (d : Dev) (l b : Nat) : Dev := lanePub (d.setFlag (laneRes l) 2 b) l

/-- PORT_LINK moved. -/
def portTo (d : Dev) (g : Nat) (st : PortLink) : Dev :=
  if (d.port g).link = st then d else groupPub (d.setPort g { d.port g with link := st }) g

/-- Whether a group's link is up. -/
def linkUp (d : Dev) (g : Nat) : Bool := (d.port g).link == .up || (d.port g).link == .upDegraded

/-- Whether a group's stream runs. -/
def streamRuns (d : Dev) (g : Nat) : Bool := linkUp d g && (d.port g).stoppedAt.isNone

/-- A lane-layer block with its CRC (R81). -/
def laneBlk (b : List Byte) : List Byte := let x := padTo b 6 0; x ++ toBE 2 (crc16 x)

/-- Whether a lane-layer block's CRC is right (R81). -/
def blkOk (b : List Byte) : Bool := b.length == 8 && crc16 (b.take 6) == beAt b 6 2

/-- A byte of a block. -/
def blkAt (b : List Byte) (i : Nat) : Nat := (nth b i 0).toNat

/-! ### Power (R93, R94) -/

/-- The bits that a locked checker has checked by now are counted (R102). Where it reads the ball, the errors among them are the
environment's: an open number, at most the 64 in 1,024 above which lock drops. In loops 1 and 2 only an injection makes one. -/
def chkSettle (e : Env) (d : Dev) (l : Nat) : Dev :=
  let x := d.lane l
  if x.chk = 2 then
    let n := bitsIn d (laneGroup d l) (e.raw - x.chkFrom)
    let d1 := (d.setLane l { x with chkFrom := e.raw }).add (laneRes l) 0x0C n
    if hearsBall d l then
      let (err, d2) := d1.fresh 64
      d2.add (laneRes l) 0x0D (err % (n / 16 + 1) : Nat)
    else d1
  else d

/-- LOOP, GEN_EN, CHK_EN and INJECT cleared when a lane leaves TEST (R104). -/
def laneLeaveTest (e : Env) (d : Dev) (l : Nat) : Dev :=
  let d1 := (chkSettle e d l).clearSubs (laneTst l) [1, 4, 5]
  lanePub (d1.setLane l { d1.lane l with chk := 0, inject := none }) l

/-- A lane's PHY powered down: electrical idle; where it was in TEST, it has left it (R104). -/
def laneOff (e : Env) (d : Dev) (l : Nat) : Dev :=
  let d1 := laneLeaveTest e d l
  d1.setLane l { reqSeq := (d1.lane l).reqSeq }

/-- A lane powered: its receiver hunts, and its transmitter starts. -/
def laneOn (e : Env) (d : Dev) (l : Nat) : Dev :=
  if (d.lane l).powered then d
  else
    let x : Lane := { reqSeq := (d.lane l).reqSeq, powered := true, link := .hunt,
                      scr := Config.scrambleStart l % 2 ^ 58, lastSlot := slotFrom d (laneGroup d l) e.raw - 1 }
    lanePub (d.setLane l x) l

/-- MAP_STATUS written (R105); the cascade groups have none. -/
def mapStatus (d : Dev) (g v : Nat) : Dev := if g < 16 then d.put (0x2002 + 0x100 * g) 2 v else d

/-- A map change ended with a status: its request is sent no more. -/
def mapEnd (d : Dev) (g v : Nat) : Dev :=
  let pt := d.port g
  mapStatus (d.setPort g { pt with change := none, txq := pt.txq.filter (fun x => nth x.bytes 0 0 != 0xAC#8) }) g v

/-- A group brought up from OFF (R94): its configured lanes are powered and hunt. -/
def groupOn (e : Env) (d : Dev) (g : Nat) : Dev :=
  portTo ((groupLaneList d g).foldl (laneOn e) d) g .training

/-- A lane goes OFF with its group; a command of its own that still waits ends CANCELLED (R94, R486). -/
def laneDown (e : Env) (d : Dev) (l : Nat) : Dev :=
  let d1 := unitMove e (laneOff e d l) (uLane l) .off
  let u := d1.unit (uLane l)
  if u.cmd.isSome then d1.setUnit (uLane l) { u with cmd := none, status := .cancelled } else d1

/-- Every lane of a group to OFF, in reverse order (R487): the active mask becomes empty and a pending map change ends REFUSED
(R94). -/
def groupOff (e : Env) (d : Dev) (g : Nat) : Dev :=
  let ls := if g < 16 then (List.range 8).map (fun i => groupBase g + i) else groupLaneList d g
  let d1 := ls.reverse.foldl (laneDown e) d
  let d2 := if (d1.port g).change.isSome then mapEnd d1 g 3 else d1
  groupPub (d2.setPort g { txSeq := (d2.port g).txSeq, alignSeq := (d2.port g).alignSeq }) g

/-- A lane's command out of TEST takes effect (R104). -/
def laneOutOfTest (e : Env) (d : Dev) (l target : Nat) : Dev :=
  let d1 := laneLeaveTest e d l
  let d2 := d1.setLane l { d1.lane l with leaveTest := none }
  let d3 := unitMove e d2 (uLane l) (if target = 2 then .shadow else .bypass)
  d3.setUnit (uLane l) { d3.unit (uLane l) with cmd := none, status := .done }

/-! ### Map changes (R95 to R99) -/

/-- Whether this device takes the BLX16's part in R95 and R96 (R220): the one with the lower device number. -/
def weRequest (d : Dev) (g : Nat) : Bool := g < 16 || decide (d.gn 0x1000 4 < d.gn (0x1B12 + g % 2) 2)

/-- The lanes of a group that are ALIGNED and IN_SERVICE or SHADOW, as a list of indexes. -/
def alignedIn (d : Dev) (g : Nat) : List Nat :=
  (bitsOf 8 (groupLanes d g)).filter (fun i =>
    let l := groupBase g + i
    (d.lane l).link == .aligned && (d.ustate (uLane l) == .inService || d.ustate (uLane l) == .shadow))

/-- Whether a mask is accepted (R95). -/
def maskOk (d : Dev) (g mask : Nat) : Bool :=
  let n := popCount 8 mask
  (n == 1 || n == 2 || n == 4 || n == popCount 8 (groupLanes d g)) &&
  mask &&& groupLanes d g == mask && (bitsOf 8 mask).all (fun i => (alignedIn d g).contains i)

/-- A lane map block (R96). -/
def mapBlock (ack : Bool) (target mask : Nat) : List Byte :=
  laneBlk [0xAC, if ack then 0x80 else 0, BitVec.ofNat 8 target, BitVec.ofNat 8 mask]

/-- The lanes of a group's active mask, by number. -/
def maskLanes (d : Dev) (g : Nat) : List Nat := (bitsOf 8 (d.port g).mask).map (fun i => groupBase g + i)

/-- A lane-layer block sent on every lane of a group's active mask in one slot (R84), repeated up to a raw instant. -/
def sendOnMask (e : Env) (d : Dev) (g : Nat) (blk : List Byte) (until_ : Nat) : Dev :=
  (maskLanes d g).foldl (fun d l => d.emit (.laneBlock l blk e.raw))
    (txPut e d g { prio := 1, lanes := maskLanes d g, bytes := blk, due := e.raw, until_ := until_ })

/-- A lane map request sent (R95): the earliest target is the last alignment sequence number received plus 2. It takes the place
of an earlier one (R99) and is repeated 8 times, every 64 blocks (R96). -/
def mapSend (e : Env) (d : Dev) (g mask : Nat) : Dev :=
  let target := ((d.port g).alignSeq + 2) % 256
  let d1 := mapStatus (d.setPort g { d.port g with change := some { mask := mask, target := target, sentAt := e.raw } }) g 1
  sendOnMask e (txStop e d1 g 0xAC none) g (mapBlock false target mask) (e.raw + blocksTt d g 513)

/-- The largest valid mask of the ALIGNED lanes: 4, 2 or 1, the lowest indexes first (R98). -/
def degradeMask (d : Dev) (g : Nat) : Option Nat :=
  let l := alignedIn d g
  let n := if 4 ≤ l.length then 4 else if 2 ≤ l.length then 2 else l.length
  if n = 0 then none else some (sumN ((l.take n).map (fun i => 2 ^ i)))

/-- Whether AUTO_DEGRADE is in force (R98, R220). -/
def autoDegrade (d : Dev) (g : Nat) : Bool := 16 ≤ g || d.gb (0x2000 + 0x100 * g) 3

/-- A lane of the active mask has failed: the stream stops (R86), a pending change is given up (R99), and the degrade
mask is requested or the port waits BROKEN (R98). -/
def streamStop (h : LaneHooks) (e : Env) (d : Dev) (g : Nat) : Dev :=
  let pt := d.port g
  let first := pt.stoppedAt.isNone
  let d1 := if first then d.setPort g { pt with stoppedAt := some e.raw } else d
  let d2 := if first && g < 16 then d1.incP (0x2001 + 0x100 * g) 5 else d1
  let d3 := if (d2.port g).change.isSome then mapEnd d2 g 3 else d2
  let d4 := if first then h.onStop e d3 g else d3
  match autoDegrade d4 g, degradeMask d4 g with
  | true, some mask => if weRequest d4 g then mapSend e d4 g mask else d4
  | _, _ => portTo d4 g .broken

/-- A lane fell out of lock or alignment: if it is in the active mask of a released group, the stream stops. A lane that only
the degrade mask names has that mask refused afresh, and the next valid one is requested (R99). -/
def laneFell (h : LaneHooks) (e : Env) (d : Dev) (l : Nat) : Dev :=
  let g := laneGroup d l
  let pt := d.port g
  if linkUp d g && bit pt.mask (laneIx l) then streamStop h e d g
  else if pt.stoppedAt.isSome && autoDegrade d g && pt.change.any (fun c => bit c.mask (laneIx l)) then streamStop h e d g
  else d

/-- The skew between the earliest and the latest of lanes, in blocks. -/
def skewOf (d : Dev) (g : Nat) (ls : List Nat) : Nat :=
  let a := ls.map (fun l => (d.lane l).arrived)
  (maxN a - a.foldl min (maxN a)) * 25 / block25 (groupRate d g)

/-- A lane's receiver hunts for lock again (R83). -/
def laneHunts (d : Dev) (l : Nat) : Dev := d.setLane l { d.lane l with locked := false, run := 0, missed := 0, seq := none }

/-- Lanes enter and leave the active mask (R93, R95, R98): those that join go IN_SERVICE, those that leave go to SHADOW,
or to TEST with link state FAILED and the receiver hunting where they are not ALIGNED. -/
def maskMoves (e : Env) (d : Dev) (g mask : Nat) : Dev :=
  (List.range 8).foldl (fun d i =>
    let l := groupBase g + i
    if bit mask i then unitMove e d (uLane l) .inService
    else if bit (d.port g).mask i then
      if (d.lane l).link = .aligned then unitMove e d (uLane l) .shadow
      else unitMove e (laneHunts (laneTo d l .failed) l) (uLane l) .test
    else d) d

/-- The stream is released, or switches to a mask, in the slot of one sequence number (R85, R94, R95). The receiver follows
byte 4 in every case (R99), at bring-up too: a camera that shows another mask than the initial one starts with its own (DESIGN
CHOICE, assumption log 111). -/
def release (h : LaneHooks) (e : Env) (d : Dev) (g seq mask : Nat) : Dev :=
  let pt := d.port g
  let wasUp := linkUp d g
  let d1 := maskMoves e d g mask
  let d2 := d1.setPort g { d1.port g with mask := mask, stoppedAt := none }
  let d3 := if pt.change.any (fun c => c.mask == mask) then mapEnd d2 g 2 else d2
  let switched := wasUp && mask != pt.mask || pt.change.any (fun c => c.mask == mask)
  let d4 := if switched && g < 16 then
    ((d3.put (0x2002 + 0x100 * g) 3 seq).put (0x2002 + 0x100 * g) 4 (nowA e d)).inc (0x2001 + 0x100 * g) 6 else d3
  let full := popCount 8 mask = popCount 8 (groupLanes d g)
  let d5 := groupPub (portTo d4 g (if full then .up else .upDegraded)) g
  if wasUp && pt.stoppedAt.isNone then d5 else h.onUp e d5 g wasUp

/-- Alignment blocks of one sequence number may have arrived on every lane of the mask they carry: the slot at which the
receiver releases the stream or follows byte 4 (R85, R95). -/
def slotDone (h : LaneHooks) (e : Env) (d : Dev) (g seq mask : Nat) : Dev :=
  let ls := (bitsOf 8 mask).map (fun i => groupBase g + i)
  let all := mask != 0 && mask &&& groupLanes d g == mask &&
    ls.all (fun l => (d.lane l).link == .aligned && (d.lane l).seq == some seq && (d.lane l).mask == mask)
  if !all then d
  else
    let skew := skewOf d g ls
    let d1 := if (d.port g).skew = skew then d else groupPub (d.setPort g { d.port g with skew := skew }) g
    if 48 < skew then ls.foldl (fun d l => laneFlag d l 3) d1
    else
      let pt := d1.port g
      let due := !linkUp d1 g || pt.stoppedAt.isSome || mask != pt.mask ||
        pt.change.any (fun c => c.mask == mask && c.acked.getD c.target == seq)
      if due then release h e d1 g seq mask else d1

/-! ### Block lock and alignment (R82 to R86) -/

/-- A lane-layer block on one lane, repeated up to a raw instant. -/
def laneSend (e : Env) (d : Dev) (l : Nat) (blk : List Byte) (until_ : Nat) : Dev :=
  (txPut e d (laneGroup d l) { prio := 1, lanes := [l], bytes := blk, due := e.raw, until_ := until_ }).emit
    (.laneBlock l blk e.raw)

/-- A training request sent again or anew on a lane (R87), in place of the one before it: repeated every 64 blocks for the 2 µs
in which its status may come (R89). -/
def trainSend (e : Env) (d : Dev) (l : Nat) (t : Training) : Dev :=
  let blk := laneBlk [0xA8, BitVec.ofNat 8 t.seq, BitVec.ofNat 8 t.req]
  let d1 := d.setLane l { d.lane l with training := some { t with sentAt := e.raw } }
  laneSend e (txStop e d1 (laneGroup d l) 0xA8 (some l)) l blk (e.raw + 32000)

/-- A new request of a training: a new sequence number (R89). -/
def trainAsk (e : Env) (d : Dev) (l : Nat) (t : Training) (req : Nat) (ph : TrainPhase) : Dev :=
  let x := d.lane l
  let sq := (x.reqSeq + 1) % 256
  trainSend e (d.setLane l { x with reqSeq := sq }) l { t with seq := sq, req := req, phase := ph, timeouts := 0 }

/-- Training starts with PRESET (R90). LOW_MARGIN, CAM_NO_RESPONSE and TAP_LIMIT, which speak of a training, begin anew;
DESKEW_MISMATCH and SKEW_LIMIT stay until a reset or a RESET of the port (DESIGN CHOICE, assumption log 111). -/
def trainBegin (e : Env) (d : Dev) (l : Nat) : Dev :=
  let d1 := d.put (laneRes l) 2 (clrBit (clrBit (clrBit (d.gn (laneRes l) 2) 7) 6) 5)
  trainAsk e (laneTo d1 l .train) l { start := e.raw, seq := 0, req := 0, sentAt := e.raw } 0x80 .asked

/-- Whether a group is in its bring-up (R94). -/
def bringingUp (d : Dev) (g : Nat) : Bool := (d.port g).link == .training || (d.port g).link == .deskewing

/-- 64 valid headers (R83). In the bring-up the lane's training follows; later the lane is LOCKED, or keeps FAILED until
it is retrained (R98). -/
def blockLock (e : Env) (d : Dev) (l : Nat) : Dev :=
  let x := d.lane l
  if !x.powered || x.locked then d
  else
    let d1 := lanePub (d.setLane l { x with locked := true, run := 0, missed := 0, seq := none }) l
    if x.link = .hunt then
      if bringingUp d1 (laneGroup d1 l) && bit (groupLanes d1 (laneGroup d1 l)) (laneIx l)
      then trainBegin e d1 l else laneTo d1 l .locked
    else d1

/-- 16 invalid headers in one window (R83). -/
def lockLoss (h : LaneHooks) (e : Env) (d : Dev) (l : Nat) : Dev :=
  let x := d.lane l
  if !x.locked then d
  else
    let d1 := laneFlag (laneInc (d.setLane l { x with locked := false, run := 0, seq := none }) l 3) l 2
    let d2 := if x.link = .aligned || x.link = .locked then laneTo d1 l .hunt else d1
    laneFell h e d2 l

/-- A missing, corrupt or inconsistent alignment block (R86): the position goes on from the block count; the third in a
row takes an ALIGNED lane out. The sequence number expected next goes on by one from the one expected before, in a lane that is
not ALIGNED too: a wrong number never seeds it anew (DESIGN CHOICE, assumption log 111). -/
def alignMiss (h : LaneHooks) (e : Env) (d : Dev) (l : Nat) : Dev :=
  let x := d.lane l
  let x1 := { x with missed := x.missed + 1, seq := x.seq.map (fun s => (s + 1) % 256),
                     run := if x.link = .aligned then x.run else 0 }
  if x.link = .aligned && 3 ≤ x.missed + 1 then
    laneFell h e (laneFlag (laneTo (d.setLane l { x1 with missed := 0, run := 0, seq := none }) l .locked) l 4) l
  else d.setLane l x1

/-- The mask that another lane of the group showed under a sequence number. -/
def otherMask (d : Dev) (g l seq : Nat) : Option Nat :=
  ((groupLaneList d g).find? (fun k => k != l && (d.lane k).seq == some seq && (d.lane k).locked)).map
    (fun k => (d.lane k).mask)

/-- Whether lanes are far enough to see alignment: in lock and not in training. -/
def alignsIn (st : LinkState) : Bool := st == .locked || st == .aligned

/-- In loop 3 what a lane receives leaves its own transmitter after FAR_END_LAT, 96 bits on (R100). -/
def farEnd (e : Env) (d : Dev) (l : Nat) (blk : List Byte) : Dev :=
  if laneLoop d l = 3 then d.emit (.laneBlock l blk (e.raw + blocksTt d (laneGroup d l) 96 / 66)) else d

/-- An alignment block at a lane's receiver (R82, R85): `bip` is the BIP-8 that the receiver formed over the period. -/
def alignTake (h : LaneHooks) (e : Env) (d : Dev) (l : Nat) (blk : List Byte) (bip : Nat) : Dev :=
  let x := d.lane l
  let g := laneGroup d l
  if !x.locked then d
  else if !blkOk blk || blkAt blk 0 != 0xA5 then alignMiss h e (laneInc d l 5) l
  else
    let d0 := if blkAt blk 3 != bip % 256 then laneInc d l 4 else d
    if !alignsIn x.link then d0
    else
      let seq := blkAt blk 2
      let mask := blkAt blk 4
      let good := field (blkAt blk 1) 3 0 == laneIx l && (otherMask d0 g l seq).all (· == mask) &&
        x.seq.all (fun s => (s + 1) % 256 == seq)
      if !good then alignMiss h e d0 l
      else
        let run := match x.seq with | none => 0 | some _ => x.run + 1
        let d1 := d0.setLane l { x with seq := some seq, mask := mask, arrived := e.raw, run := min run 2, missed := 0 }
        let d2 := if (d1.port g).alignSeq = seq then d1
          else groupPub (d1.setPort g { d1.port g with alignSeq := seq }) g
        let d3 := if 2 ≤ run then laneTo d2 l .aligned else d2
        let d4 := match x.leaveTest with
          | some (target, _) => if 2 ≤ run then laneOutOfTest e d3 l target else d3
          | none => d3
        slotDone h e d4 g seq mask

/-- An alignment block at a lane's ball (R85): in loops 1 and 2 the receiver does not see it (R100). -/
def alignRx (h : LaneHooks) (e : Env) (d : Dev) (l : Nat) (blk : List Byte) (bip : Nat) : Dev :=
  if hearsBall d l then farEnd e (alignTake h e d l blk bip) l blk else d

/-- An alignment slot passed without a block (R86). -/
def alignMissing (h : LaneHooks) (e : Env) (d : Dev) (l : Nat) : Dev :=
  let x := d.lane l
  if x.locked && alignsIn x.link then alignMiss h e (laneInc d l 5) l else d

/-- A lane-layer block that fails its CRC or has an undefined type (R80, R81). A corrupt alignment block is a miss as
well (R86), counted once. -/
def laneBad (h : LaneHooks) (e : Env) (d : Dev) (l : Nat) (blk : List Byte) : Dev :=
  let x := d.lane l
  let ty := blkAt blk 0
  let known := ty == 0xA5 || ty == 0xA8 || ty == 0xA9 || ty == 0xAC
  if !x.locked || !hearsBall d l || (known && blkOk blk) || field ty 7 4 != 0xA then d
  else
    let d1 := laneInc d l 5
    if ty == 0xA5 && alignsIn x.link then alignMiss h e d1 l else d1

/-- The alignment block of a lane in its slot (R82): its BIP-8 is that of what the lane has sent since the one before; of a
cascade lane, whose stream's blocks are not followed, it is a free value. In loops 1 and 2 the lane's own receiver takes it
(R100). -/
def alignLane (h : LaneHooks) (e : Env) (slot sq mask : Nat) (d : Dev) (l : Nat) : Dev :=
  let g := laneGroup d l
  let (b, d1) := if g < 16 then (laneBip (d.lane l) slot, d) else d.fresh 8
  let blk := laneBlk [0xA5, BitVec.ofNat 8 (laneIx l), BitVec.ofNat 8 sq, BitVec.ofNat 8 b, BitVec.ofNat 8 mask,
    BitVec.ofNat 8 (groupRate d g)]
  let d2 := d1.emit (.laneBlock l blk e.raw)
  let d3 := if laneCarries d2 l true then laneWire d2 l slot (blocksTt d g slot) blk else d2
  let d4 := d3.setLane l { d3.lane l with bip := 0, lastSlot := slot }
  if hearsBall d4 l then d4 else alignTake h e d4 l blk b

/-- Alignment blocks sent on every lane of a group that is powered, in one slot, the fixed one of 16,384 (R82, R113). While the
active mask is empty, byte 4 names the configured lanes (DESIGN CHOICE, assumption log 111). The device of a cascade link that
requests lane maps sends on the mask that it receives on, as a BLX16 does on a camera port (R93, R220). -/
def alignSend (h : LaneHooks) (e : Env) (d : Dev) (g : Nat) : Dev :=
  let pt0 := d.port g
  let ls := ((List.range 8).map (fun i => groupBase g + i)).filter (fun l => laneGroup d l == g && (d.lane l).powered)
  let due := match pt0.txAt with | none => true | some a => a + alignPeriod d g ≤ e.raw
  if ls.isEmpty || !due then d
  else
    let slot := if pt0.txAt.isSome then pt0.alignSlot + 16384 else max pt0.txSlot (slotFrom d g e.raw)
    let d0 := txUpTo d g (blocksTt d g slot)
    let pt := d0.port g
    let own := if weRequest d g then pt.mask else pt.txMask
    let mask0 := if own = 0 then groupLanes d g else own
    let mask := match pt.txChange with | some (m, tgt) => if tgt = pt.txSeq then m else mask0 | none => mask0
    let d1 := d0.setPort g { pt with
      txSeq := (pt.txSeq + 1) % 256, txAt := some e.raw, alignSlot := slot, txSlot := max pt.txSlot (slot + 1),
      txMask := if g < 16 then 0 else mask, txChange := pt.txChange.filter (fun c => c.2 != pt.txSeq) }
    ls.foldl (alignLane h e slot pt.txSeq mask) d1

/-! ### Training (R87 to R92) -/

/-- One tap of this transmitter under a request code: its new value and its status (R87, R88). -/
def tapMove (v hi code : Nat) : Nat × Nat :=
  match code with
  | 1 => if hi ≤ v then (v, 3) else (v + 1, 1)
  | 2 => if v = 0 then (v, 2) else (v - 1, 1)
  | _ => (v, 0)

/-- The camera's taps as bytes 4 and 5 of a status carry them (R88). -/
def tapsWord (pre main post : Nat) : Nat := post * 1024 + main * 16 + pre

/-- A training request for this transmitter (R92): applied once for each sequence number, answered each time. -/
def trainReqRx (e : Env) (d0 : Dev) (l : Nat) (blk : List Byte) : Dev :=
  let d := farEnd e d0 l blk
  let x := d.lane l
  if !x.powered || !hearsBall d l then d
  else if !blkOk blk || blkAt blk 0 != 0xA8 then laneInc d l 5
  else
    let sq := blkAt blk 1
    let rq := blkAt blk 2
    let c := laneCfg l
    let taken := x.remoteSeq == some sq
    let (pre, main, post) := (d.gn c 1, d.gn c 2, d.gn c 3)
    let ((pre2, sp), (main2, sm), (post2, so)) :=
      if 128 ≤ l || d.gb c 4 then
        if bit rq 7 then ((0, 1), (48, 1), (0, 1))
        else if bit rq 6 then ((pre, 0), (main, 0), (post, 0))
        else (tapMove pre 15 (field rq 5 4), tapMove main 63 (field rq 3 2), tapMove post 31 (field rq 1 0))
      else ((pre, 0), (main, 0), (post, 0))
    let d1 := if taken then d else ((d.put c 1 pre2).put c 2 main2).put c 3 post2
    let ans := if taken then x.remoteAns else so + 4 * sm + 16 * sp
    let w := tapsWord (d1.gn c 1) (d1.gn c 2) (d1.gn c 3)
    laneSend e (d1.setLane l { x with remoteSeq := some sq, remoteAns := ans }) l
      (laneBlk ([0xA9, BitVec.ofNat 8 sq, BitVec.ofNat 8 ans, 0] ++ toBE 2 w)) 0

/-- The request that moves taps one step towards a setting, none where they are there. -/
def stepTowards (taps best : Nat) : Option Nat :=
  let dir (a b : Nat) : Nat := if a < b then 1 else if b < a then 2 else 0
  let r := 16 * dir (field taps 3 0) (field best 3 0) + 4 * dir (field taps 9 4) (field best 9 4) +
    dir (field taps 14 10) (field best 14 10)
  if r = 0 then none else some r

/-- A training ends (R90): its margin decides between LOCKED and FAILED; in the bring-up the last lane starts the
deskew. -/
def trainEnd (e : Env) (d : Dev) (l : Nat) (t : Training) : Dev :=
  let us := (e.raw - t.start) / 16000
  let low := t.margin < eyeMin d l
  let d1 := (d.setLane l { d.lane l with training := none, run := 0, seq := none, trainedAt := e.raw }).pub (laneRes l) [(8, t.steps), (9, us)]
  let d2 := if low then laneTo (laneFlag d1 l 7) l .failed
    else laneTo d1 l (if (d1.lane l).locked then .locked else .hunt)
  let g := laneGroup d2 l
  if (d2.port g).link = .training &&
     (groupLaneList d2 g).all (fun k => (d2.lane k).link == .locked || (d2.lane k).link == .aligned)
  then portTo d2 g .deskewing else d2

/-- The taps go back to the best setting seen, and RX_READY follows (R90). -/
def trainReturn (e : Env) (d : Dev) (l : Nat) (t : Training) : Dev :=
  let (taps, margin) := t.best.getD (t.taps, t.margin)
  match stepTowards t.taps taps with
  | some r => trainAsk e d l { t with margin := margin } r .returning
  | none => trainAsk e d l { t with margin := margin } 0x40 .ready

/-- A training status block (R88, R89). -/
def trainStatusRx (e : Env) (d0 : Dev) (l : Nat) (blk : List Byte) : Dev :=
  let d := farEnd e d0 l blk
  let x := d.lane l
  if !x.powered || !hearsBall d l then d
  else if !blkOk blk || blkAt blk 0 != 0xA9 then laneInc d l 5
  else match x.training with
    | none => d
    | some t =>
      if blkAt blk 1 != t.seq || t.phase = .measuring then d
      else
        let st := blkAt blk 2
        let lim := 2 ≤ field st 5 4 || 2 ≤ field st 3 2 || 2 ≤ field st 1 0
        let taps := beAt blk 4 2 % 32768
        let d1 := (txStop e d (laneGroup d l) 0xA8 (some l)).pub (laneRes l) [(7, taps)]
        let d2 := if lim then laneFlag d1 l 5 else d1
        let t1 := { t with taps := taps, limit := lim, timeouts := 0 }
        match t.phase with
        | .asked => d2.setLane l { d2.lane l with training := some { t1 with phase := .measuring, sentAt := e.raw } }
        | .returning => trainReturn e d2 l t1
        | _ => trainEnd e d2 l t1

/-- No matching status within 2 µs (R89). -/
def trainTimeout (e : Env) (d : Dev) (l : Nat) : Dev :=
  match (d.lane l).training with
  | none => d
  | some t =>
    if t.phase = .measuring || e.raw < t.sentAt + 32000 then d
    else
      let d1 := laneInc d l 0x0A
      if 8 ≤ t.timeouts + 1 then
        laneTo (laneFlag (d1.setLane l { d1.lane l with training := none }) l 6) l .failed
      else trainSend e d1 l { t with timeouts := t.timeouts + 1 }

/-- A step measured (R90): 4 µs and 30 µs after the answer. Which tap the next step moves, and which way, the spec leaves
open: a free choice among post and pre by one, and main where the camera reported a limit. -/
def trainStep (e : Env) (d : Dev) (l margin vert : Nat) : Dev :=
  match (d.lane l).training with
  | none => d
  | some t =>
    if t.phase ≠ .measuring || e.raw < t.sentAt + 544000 then d
    else
      let d1 := d.pub (laneRes l) [(6, (min margin 255 * 256 + min vert 255 : Nat))]
      let best := match t.best with
        | none => (t.taps, margin)
        | some (tb, mb) => if mb < margin then (t.taps, margin) else (tb, mb)
      let t1 := { t with margin := margin, best := some best }
      if trainTarget d l ≤ margin then trainAsk e d1 l t1 0x40 .ready
      else if 512 ≤ t.steps then trainReturn e d1 l t1
      else
        let (r, d2) := d1.fresh 3
        let req := match r with
          | 0 => 1 | 1 => 2 | 2 => 16 | 3 => 32
          | n => if t.limit then (if n % 2 = 0 then 4 else 8) else (if n % 2 = 0 then 1 else 16)
        trainAsk e d2 l { t1 with steps := t.steps + 1 } req .asked

/-- TRAIN_CMD = 1 (R91): a lane in TEST or SHADOW, never one of the active mask. -/
def trainStartWrite (e : Env) (d : Dev) (m : Master) (l : Nat) : Dev :=
  d.asWrite m (laneCfg l) 5 1 fun d =>
    let u := d.ustate (uLane l)
    if (u = .test || u = .shadow) && !(bit (d.port (laneGroup d l)).mask (laneIx l)) then
      (trainBegin e d l).ended m stOK
    else d.reject m (laneCfg l)

/-- TRAIN_CMD = 2 (R107): abort, keeping the best taps. -/
def trainAbortWrite (e : Env) (d : Dev) (m : Master) (l : Nat) : Dev :=
  d.asWrite m (laneCfg l) 5 2 fun d =>
    (match (d.lane l).training with
     | none => d
     | some t => trainReturn e d l t).ended m stOK

/-! ### Map requests -/

/-- A write of MAP_REQUEST (R95, R99). -/
def mapRequestWrite (e : Env) (d : Dev) (m : Master) (p : Nat) (mask : Int) : Dev :=
  d.asWrite m (0x2002 + 0x100 * p) 1 mask fun d =>
    if (d.port p).change.isSome then d.reject m (0x2002 + 0x100 * p)
    else if maskOk d p mask.toNat then (mapSend e d p mask.toNat).ended m stOK
    else (mapStatus d p 3).ended m stOK

/-- A lane map acknowledgement (R95, R96): the request is repeated no more. -/
def mapAckRx (e : Env) (d0 : Dev) (l : Nat) (blk : List Byte) : Dev :=
  let d := farEnd e d0 l blk
  let g := laneGroup d l
  if !(d.lane l).locked || !hearsBall d l then d
  else if !blkOk blk || blkAt blk 0 != 0xAC then laneInc d l 5
  else match (d.port g).change with
    | none => d
    | some c =>
      let tgt := blkAt blk 2
      if bit (blkAt blk 1) 7 && blkAt blk 3 == c.mask && (tgt == c.target || tgt == (c.target + 1) % 256) then
        let d1 := txStop e d g 0xAC none
        d1.setPort g { d1.port g with change := some { c with acked := some tgt } }
      else d

/-- No acknowledgement within 2 µs after 8 repeats, each 64 blocks after the one before (R96). -/
def mapNoAck (e : Env) (d : Dev) (g : Nat) : Dev :=
  match (d.port g).change with
  | none => d
  | some c =>
    if c.acked.isNone && c.sentAt + blocksTt d g 512 + 32000 ≤ e.raw then mapEnd d g 4 else d

/-- A lane map request from the neighbour (R95, R99, R220): this device takes the camera's part, names the earliest
target or, where it has sent that block already, the one after it, and answers. -/
def mapReqRx (e : Env) (d0 : Dev) (l : Nat) (blk : List Byte) : Dev :=
  let d := farEnd e d0 l blk
  let g := laneGroup d l
  if l < 128 || !(d.lane l).locked || !hearsBall d l then d
  else if !blkOk blk || blkAt blk 0 != 0xAC then laneInc d l 5
  else if bit (blkAt blk 1) 7 || weRequest d g then d
  else
    let pt := d.port g
    let t0 := blkAt blk 2
    let sent := (pt.txSeq + 256 - t0 - 1) % 256 < 128
    let tgt := if sent then (t0 + 1) % 256 else t0
    let d1 := d.setPort g { pt with txChange := some (blkAt blk 3, tgt) }
    sendOnMask e d1 g (mapBlock true tgt (blkAt blk 3)) 0

/-- The stream has stopped for three alignment periods (R98). -/
def streamDead (e : Env) (d : Dev) (p : Nat) : Bool :=
  match (d.port p).stoppedAt with
  | none => false
  | some s => s + 3 * alignPeriod d p ≤ e.raw

/-- The 20 ms of R104 have passed: the lane stays in TEST and the command ends with PRECONDITION. -/
def laneShadowTimeout (e : Env) (d : Dev) (l : Nat) : Dev :=
  match (d.lane l).leaveTest with
  | none => d
  | some (_, dl) =>
    if dl ≤ e.raw then
      let d1 := d.setLane l { d.lane l with leaveTest := none }
      d1.setUnit (uLane l) { d1.unit (uLane l) with cmd := none, status := .refused, cause := 2 }
    else d

/-! ### Injection and checker (R101 to R103) -/

/-- An injection carried out: 1 and 2 invert bits of the generator's next word from its first on (R103); the loops feed the
checker, which counts each inverted bit once. -/
def injectDo (e : Env) (d : Dev) (l kind len : Nat) : Dev :=
  let word := if kind < 3 then genWord d l e.raw ^^^ ((2 ^ len - 1) * 2 ^ (64 - len)) else 0
  let d1 := d.emit (.inject l kind len word)
  let lp := laneLoop d l
  if kind < 3 && (lp = 1 || lp = 2) && (d.lane l).chk = 2 then
    (d1.add (laneRes l) 0x0D len).publish (laneRes l) else d1

/-- A write of INJECT (R103): only in TEST. The generator carries out 1 and 2, so without it they wait; 3 acts with the
generator off. -/
def injectWrite (e : Env) (d : Dev) (m : Master) (l kind : Nat) : Dev :=
  d.asWrite m (laneTst l) 6 kind fun d =>
    if d.ustate (uLane l) ≠ .test then d.reject m (laneTst l)
    else
      let len := if kind = 1 then 1 else d.gn (laneTst l) 7
      let gen := genRuns d l
      (if (kind < 3) = gen then injectDo e d l kind len
       else d.setLane l { d.lane l with inject := some (kind, len) }).ended m stOK

/-- CHK_LOCK (R102): a seeking checker has seen 256 correct bits. -/
def chkLock (e : Env) (d : Dev) (l : Nat) : Dev :=
  if (d.lane l).chk = 1 then lanePub (d.setLane l { d.lane l with chk := 2, chkFrom := e.raw }) l else d

/-- CHK_RELOCK (R102): more than 64 errors in a window; `errors` are those that were not counted yet. -/
def chkRelock (e : Env) (d : Dev) (l errors : Nat) : Dev :=
  let x := d.lane l
  if x.chk = 2 then
    let bits := d.add (laneRes l) 0x0C (bitsIn d (laneGroup d l) (e.raw - x.chkFrom))
    let d1 := (bits.add (laneRes l) 0x0D errors).inc (laneRes l) 0x0E
    lanePub (d1.setLane l { d1.lane l with chk := 1 }) l
  else d

/-- A write of CHK_EN: the checker seeks, or is off. -/
def chkEnable (e : Env) (d : Dev) (l : Nat) (on : Bool) : Dev :=
  let d1 := chkSettle e d l
  let x := d1.lane l
  lanePub (d1.setLane l { x with chk := if on then (if x.chk = 0 then 1 else x.chk) else 0 }) l

/-- The generator starts: R101 gives its polynomials and no start, which is a free value other than zero. -/
def genStart (e : Env) (d : Dev) (l : Nat) : Dev :=
  let n := (prbsPoly (d.gn (laneTst l) 2)).1
  let (v, d1) := d.fresh n
  d1.setLane l { d1.lane l with gen := 1 + v % (2 ^ n - 1), genFrom := e.raw }

/-- What follows a write of LOOP, PATTERN or GEN_EN against the device before it: a generator that now runs, or whose pattern
is another, starts, and an injection that waited for it, or for its end, is carried out (R101, R103). -/
def genFollow (e : Env) (old d : Dev) (l : Nat) : Dev :=
  let on := genRuns d l
  let d1 := if on && (!genRuns old l || old.gi (laneTst l) 2 != d.gi (laneTst l) 2) then genStart e d l else d
  match (d1.lane l).inject with
  | some (k, n) => if (k < 3) = on then injectDo e (d1.setLane l { d1.lane l with inject := none }) l k n else d1
  | none => d1

/-- A write of LOOP, GEN_EN or CHK_EN (R93, R100 to R102): only while the lane is in TEST. What a checker has checked under the
loop before is settled first. -/
def laneTestWrite (e : Env) (d : Dev) (m : Master) (l sub : Nat) (v : Int) : Dev :=
  if d.ustate (uLane l) ≠ .test then d.reject m (laneTst l)
  else
    let d1 := (chkSettle e d l).put (laneTst l) sub v
    (if sub = 5 then chkEnable e d1 l (v == 1) else genFollow e d d1 l).ended m stOK

/-- CLEAR_COUNTS of a lane (R107): its counters and LOCK_LOST. -/
def laneClear (e : Env) (d : Dev) (l : Nat) : Dev :=
  let r := laneRes l
  ((chkSettle e d l).clearSubs r [3, 4, 5, 0x0A, 0x0C, 0x0D, 0x0E]).clrFlag r 2 2 |>.publish r

/-- A write of CLEAR_COUNTS. -/
def laneClearWrite (e : Env) (d : Dev) (m : Master) (l : Nat) (v : Int) : Dev :=
  d.asWrite m (laneCfg l) 8 v fun d => (if v = 1 then laneClear e d l else d).ended m stOK

/-! ### Commands that need no other chapter -/

/-- BLOCK_LOCK_ACQUIRED (R83). -/
def execBlockLockAcquired (t l : Nat) (s : State) : Host.Outcome State Fault Refusal :=
  mainStep (okLane l) t s fun e d => blockLock e d l

/-- TRAINING_REQUEST_RX (R87, R92). -/
def execTrainingRequestRx (t l : Nat) (blk : List Byte) (s : State) : Host.Outcome State Fault Refusal :=
  mainStep (okLane l) t s fun e d => trainReqRx e d l blk

/-- TRAIN_STEP_DONE (R90). -/
def execTrainStepDone (t l margin vert : Nat) (s : State) : Host.Outcome State Fault Refusal :=
  mainStep (okLane l) t s fun e d => trainStep e d l margin vert

/-- TRAIN_START (R91). -/
def execTrainStart (t : Nat) (m : Master) (l : Nat) (s : State) : Host.Outcome State Fault Refusal :=
  mainStep (masterOk m && okLane l) t s fun e d => trainStartWrite e d m l

/-- TRAIN_ABORT (R107). -/
def execTrainAbort (t : Nat) (m : Master) (l : Nat) (s : State) : Host.Outcome State Fault Refusal :=
  mainStep (masterOk m && okLane l) t s fun e d => trainAbortWrite e d m l

/-- MAP_REQUEST (R95). -/
def execMapRequest (t : Nat) (m : Master) (p : Nat) (mask : Int) (s : State) : Host.Outcome State Fault Refusal :=
  mainStep (masterOk m && okPort p) t s fun e d => mapRequestWrite e d m p mask

/-- LANE_MAP_ACK_RX (R95, R96). -/
def execLaneMapAckRx (t l : Nat) (blk : List Byte) (s : State) : Host.Outcome State Fault Refusal :=
  mainStep (okLane l) t s fun e d => mapAckRx e d l blk

/-- MAP_NO_ACK (R96). -/
def execMapNoAck (t p : Nat) (s : State) : Host.Outcome State Fault Refusal :=
  mainStep (okGroup p) t s fun e d => mapNoAck e d p

/-- LANE_SHADOW_TIMEOUT (R104). -/
def execLaneShadowTimeout (t l : Nat) (s : State) : Host.Outcome State Fault Refusal :=
  mainStep (okLane l) t s fun e d => laneShadowTimeout e d l

/-- INJECT_SINGLE (R103). -/
def execInjectSingle (t : Nat) (m : Master) (l : Nat) (s : State) : Host.Outcome State Fault Refusal :=
  mainStep (masterOk m && okLane l) t s fun e d => injectWrite e d m l 1

/-- INJECT_BURST (R103). -/
def execInjectBurst (t : Nat) (m : Master) (l : Nat) (s : State) : Host.Outcome State Fault Refusal :=
  mainStep (masterOk m && okLane l) t s fun e d => injectWrite e d m l 2

/-- INJECT_HEADER (R103). -/
def execInjectHeader (t : Nat) (m : Master) (l : Nat) (s : State) : Host.Outcome State Fault Refusal :=
  mainStep (masterOk m && okLane l) t s fun e d => injectWrite e d m l 3

/-- CHK_LOCK (R102). -/
def execChkLock (t l : Nat) (s : State) : Host.Outcome State Fault Refusal :=
  mainStep (okLane l) t s fun e d => chkLock e d l

/-- CHK_RELOCK (R102). -/
def execChkRelock (t l errors : Nat) (s : State) : Host.Outcome State Fault Refusal :=
  mainStep (okLane l) t s fun e d => chkRelock e d l errors

/-- LANE_CLEAR_COUNTS (R107). -/
def execLaneClearCounts (t : Nat) (m : Master) (l : Nat) (v : Int) (s : State) : Host.Outcome State Fault Refusal :=
  mainStep (masterOk m && okLane l) t s fun e d => laneClearWrite e d m l v

/-- LANE_MAP_REQUEST_RX (R95, R96, R220). -/
def execLaneMapRequestRx (t l : Nat) (blk : List Byte) (s : State) : Host.Outcome State Fault Refusal :=
  mainStep (okLane l) t s fun e d => mapReqRx e d l blk


end Sys2Proof.Machine
end

