-- ==== Sys2Proof/Machine/Queues.lean ====
section
/-! DEFINITION. The queues (chapter 17): their counters, the ingress banks, which pipeline serves a port, and the flow
budget. -/

namespace Sys2Proof.Machine

/-- The result group of queue `q` (R424). -/
def qIdx (q : Nat) : Nat := 0x1880 + q

/-- A packet committed to a queue. -/
def qCommit (d : Dev) (q : Nat) : Dev := d.incP (qIdx q) 4

/-- A packet rewound (R411). -/
def qRewind (d : Dev) (q : Nat) : Dev := d.incP (qIdx q) 5

/-- QUEUE_DROP, at most once per 1 ms per queue (R425). -/
def qDropEvent (e : Env) (d : Dev) (q : Nat) : Dev :=
  let late := match tabFind d.qDropAt q with | none => true | some a => a + 16000000 ≤ e.raw
  if late then { (d.raise e 0x260 q) with qDropAt := tabSet d.qDropAt q e.raw } else d

/-- `n` packets dropped: the counter `sub`, and QUEUE_DROP. -/
def qDrop (e : Env) (d : Dev) (q sub n : Nat) : Dev := qDropEvent e ((d.add (qIdx q) sub n).publish (qIdx q)) q

/-- FILL of a queue, with its peak. -/
def qFill (d : Dev) (q n : Nat) : Dev :=
  if d.gn (qIdx q) 2 = n then d else ((d.put (qIdx q) 2 n).peak (qIdx q) 3 n).publish (qIdx q)

/-! ### Ingress banks (R412) -/

/-- The first ingress bank that was empty before a header's raw instant; one emptied on the same edge counts as full
(R413). -/
def freeBank (banks : List (Option Nat)) (head : Nat) : Option Nat :=
  (List.range banks.length).find? (fun k =>
    match nth banks k none with | none => false | some f => f < head || f == 0)

/-- How many banks are in use. -/
def banksUsed (banks : List (Option Nat)) : Nat := (banks.filter Option.isNone).length

/-- A bank of a port reserved. -/
def takeBank (d : Dev) (p k : Nat) : Dev :=
  let b := (d.pt p).banks.set k none
  qFill (d.setPt p { d.pt p with banks := b }) p (banksUsed b)

/-- A bank of a port emptied at a raw instant. -/
def giveBank (d : Dev) (p k at_ : Nat) : Dev :=
  let b := (d.pt p).banks.set k (some at_)
  qFill (d.setPt p { d.pt p with banks := b }) p (banksUsed b)

/-! ### Who serves a port (R22, R132, R557, R559) -/

/-- The pipeline that serves a port: the spare where it has taken the port over, else the port's own. -/
def servedBy (d : Dev) (p : Nat) : Nat := if d.rot.serves = some p then 16 else p

/-- Whether a port was served at a raw instant: its serving pipeline was IN_SERVICE, or its own in BYPASS. The handover between a
pipeline and the spare falls on a commit, before the next header comes. -/
def portServed (d : Dev) (p raw : Nat) : Bool :=
  let u := d.stateAt (uPipe (servedBy d p)) raw
  u == .inService || (u == .bypass && servedBy d p == p)

/-! ### Speeds and demand (R419) -/

/-- A speed sample of an input kept while it may be the peak of the last 10 ms. -/
def peakSample (e : Env) (d : Dev) (n : Nat) : Dev :=
  let v := (encSpeed e d n).natAbs
  let l := (tabGet d.peaks [] n).filter (fun q => e.raw < q.1 + 160000000 && v < q.2)
  { d with peaks := tabSet d.peaks n (l ++ [(e.raw, v)]) }

/-- The peak speed of an input over the last 10 ms, in 2^-16 wp/µs. -/
def peakSpeed (e : Env) (d : Dev) (n : Nat) : Nat :=
  maxN ((encSpeed e d n).natAbs ::
    ((tabGet d.peaks [] n).filter (fun q => e.raw < q.1 + 160000000)).map (·.2))

/-- How many planes PIPE_PLANES names. -/
def planeCount (d : Dev) (p : Nat) : Nat := popCount 4 (d.gn (0x2020 + 0x100 * p) 4)

/-- The planes of PIPE_PLANES in ascending order. -/
def planeList (d : Dev) (p : Nat) : List Nat := bitsOf 4 (d.gn (0x2020 + 0x100 * p) 4)

/-- The commanded line rate of a port in lines per second times 2^16 (R419): SPEED of its unit's input over PERIOD. -/
def lineRate16 (e : Env) (d : Dev) (p : Nat) : Nat :=
  let n := d.gn (0x3580 + p) 1
  if 63 < n then 0
  else
    let per := d.gn (0x3540 + n) 3
    if per = 0 then 0 else peakSpeed e d (d.gn (0x3540 + n) 1) * 4294967296 * 1000000 / per

/-- DEMAND of a port in Msample/s (R419, R423). -/
def demandOf (e : Env) (d : Dev) (p : Nat) : Nat :=
  if d.inSvc (uPort p) then
    d.gn (0x2020 + 0x100 * p) 1 * planeCount d p * lineRate16 e d p / 65536000000 else 0

/-! ### The budget (R417, R420) -/

/-- Bits of a sample in a format (R116). -/
def fmtBits : Nat → Nat | 0 => 8 | 1 => 10 | 2 => 12 | 3 => 14 | _ => 16

/-- T_WIRE in tt (R417). -/
def tWire (d : Dev) (p : Nat) : Nat :=
  let t := 0x2020 + 0x100 * p
  let words := ceilDiv (d.gn t 1 * fmtBits (d.gn t 2)) 32 + (if d.gn t 5 = 1 then 2 else 0)
  let blocks := (20 + 4 * words) / 8 + 2
  let n := max 1 (popCount 8 (d.port p).mask)
  blocksTt d p (ceilDiv blocks n + 1)

/-- T_DRAIN in tt: the longer of the pixels at 8.0 Gsample/s and MIN_PERIOD less the margin. -/
def tDrain (d : Dev) (p : Nat) : Nat :=
  max (d.gn (0x2020 + 0x100 * p) 1 * planeCount d p * 2) (d.gn (0x3580 + p) 3 * 100 / (100 + d.gn 0x1800 1))

/-- SLACK in tt. -/
def slackOf (d : Dev) (p : Nat) : Int := 2 * (d.gn (0x3580 + p) 3 : Int) - (tWire d p + 3200 + tDrain d p : Nat)

/-- The measured trigger spacing of a port in tt: between its two latest triggers sent, else MIN_PERIOD. -/
def trigSpacing (d : Dev) (p : Nat) : Nat :=
  match (d.trig p).sent with
  | a :: b :: _ => wrapU 64 ((a.stamp : Int) - b.stamp)
  | _ => d.gn (0x3580 + p) 3

/-- STALL_TOL in ns (R420), with a pace in Msample/s. -/
def stallTol (d : Dev) (p pace : Nat) : Nat :=
  if pace = 0 then 0
  else
    let t := 0x2040 + 0x100 * p
    let fillNs := 49152 * 8 * 1000 / (pace * d.gn t 1)
    let drainTt := d.gn (0x2020 + 0x100 * p) 1 * planeCount d p * 16000 / pace
    let sl : Int := 2 * (trigSpacing d p : Int) - (tWire d p + 3200 + drainTt : Nat)
    ((fillNs : Int) + sl / 16).toNat

/-- The measured pace of the pipeline that serves a port, as its monitor last read it, in Msample/s (R423, R548). -/
def paceOf (d : Dev) (p : Nat) : Nat := tabGet d.paces 0 (servedBy d p)

/-- A port's budget computed and published (R417, R423); a negative SLACK offers BUDGET_WARN. -/
def budget (e : Env) (d : Dev) (p : Nat) : Dev :=
  let slack := slackOf d p
  let pace := paceOf d p
  let d1 := d.pub (0x1820 + p) [(1, ((tWire d p) / 16 : Nat)), (2, ((tDrain d p) / 16 : Nat)), (3, slack / 16),
    (4, b2i (0 ≤ slack)), (5, (demandOf e d p : Nat)), (6, (pace : Nat)), (7, (stallTol d p pace : Nat))]
  if slack < 0 then d1.raise e 0x261 p else d1

/-- PACE_SHORT (R419): the measured pace of the pipeline that serves a port has stayed below its demand for 1 ms. -/
def paceShort (e : Env) (d : Dev) (p : Nat) : Dev :=
  let k := servedBy d p
  let short := demandOf e d p ≠ 0 && paceOf d p < demandOf e d p
  match tabFind d.paceLow k with
  | some (s, false) =>
    if short && s + 16000000 ≤ e.raw then
      { (d.raise e 0x262 k) with paceLow := tabSet d.paceLow k (s, true) } else d
  | _ => d

/-- A pace sample of a pipeline: since when it lies below the port's demand, and whether that was offered. -/
def paceSample (e : Env) (d : Dev) (k pace : Nat) : Dev :=
  let p := if k < 16 then k else d.rot.serves.getD 16
  let low := p < 16 && servedBy d p == k && demandOf e d p ≠ 0 && pace < demandOf e d p
  let d1 := { d with paces := tabSet d.paces k pace }
  if low then
    match tabFind d1.paceLow k with
    | some _ => d1
    | none => { d1 with paceLow := tabSet d1.paceLow k (e.raw, false) }
  else { d1 with paceLow := tabErase d1.paceLow k }

/-- A write of CLEAR_COUNTS (R422): the counters of 0x1880 to 0x18CB. -/
def queueClearWrite (d : Dev) (m : Master) (v : Int) : Dev :=
  d.asWrite m 0x1800 3 v fun d =>
    (if v = 1 then
      (List.range 76).foldl (fun d q =>
        let c := d.clearSubs (qIdx q) [4, 5, 6, 7, 8, 9]
        if d.gn (qIdx q) 0 = 0 then c else c.publish (qIdx q)) d
     else d).ended m stOK

/-- BUDGET_RECOMPUTE (R417, R423). -/
def execBudgetRecompute (t p : Nat) (s : State) : Host.Outcome State Fault Refusal :=
  mainStep (okPort p) t s fun e d => budget e d p

/-- PACE_SHORT (R419). -/
def execPaceShort (t p : Nat) (s : State) : Host.Outcome State Fault Refusal :=
  mainStep (okPort p) t s fun e d => paceShort e d p

/-- QUEUE_CLEAR_COUNTS (R422). -/
def execQueueClearCounts (t : Nat) (m : Master) (v : Int) (s : State) : Host.Outcome State Fault Refusal :=
  mainStep (masterOk m) t s fun _ d => queueClearWrite d m v

end Sys2Proof.Machine
end

