-- ==== Sys2Proof/Machine/Transport.lean ====
section
/-! DEFINITION. Line transport (chapter 5): packets and their checks, strips, beacons, link delay, camera commands and
bring-up. -/

namespace Sys2Proof.Machine

/-- What other chapters do with a line: at its commit (lulls, bank swaps, overlays), when a strip closes, and with a line
of a VC or plane that the pipeline does not take with its PIXEL_COUNT (tap T0). -/
structure TransHooks where
  onCommit : Env → Dev → Nat → CamLine → CamLine × Dev
  onSos : Env → Dev → Nat → Nat → Dev
  onStripEnd : Env → Dev → Nat → Strip → Nat → Dev
  onUnselected : Env → Dev → Nat → CamLine → Nat → Dev

/-- Index of a port's transport objects at offset `o`. -/
def tIdx (p o : Nat) : Nat := 0x2020 + 0x100 * p + o

/-- A transport counter incremented and published (R140). -/
def tInc (d : Dev) (p sub : Nat) : Dev := d.incP (tIdx p 2) sub

/-- An event of a port (R141). -/
def portEvent (e : Env) (d : Dev) (p k data : Nat) : Dev := d.raise e (0x0C0 + 8 * p + k) data

/-! ### Packets (R114 to R119) -/

/-- A packet read into its header fields and payload. -/
structure Packet where
  vcType : Nat
  flags : Nat
  words : Nat
  line : Nat
  settings : Nat
  trig : Nat
  pixels : Nat
  payload : List Byte

/-- Virtual channel. -/
def Packet.vc (k : Packet) : Nat := field k.vcType 7 6
/-- Plane of an image packet. -/
def Packet.plane (k : Packet) : Nat := field k.vcType 5 4
/-- Format of an image packet. -/
def Packet.format (k : Packet) : Nat := field k.vcType 3 0
/-- SOS of an image packet. -/
def Packet.sos (k : Packet) : Bool := bit k.flags 7
/-- TIME_EXT of an image packet. -/
def Packet.timeExt (k : Packet) : Bool := bit k.flags 5

/-- The header of a packet, where 16 bytes came (R114). -/
def readHeader (b : List Byte) : Packet :=
  let w := beAt b 2 2
  { vcType := beAt b 0 1, flags := beAt b 1 1, words := w, line := beAt b 4 4, settings := beAt b 8 2,
    trig := beAt b 10 2, pixels := beAt b 12 2, payload := slice b 16 (4 * w) }

/-- Whether the header's CRC is right. -/
def headerOk (b : List Byte) : Bool := 16 ≤ b.length && crc16 (b.take 14) == beAt b 14 2

/-- The limit of PAYLOAD_WORDS (R118). -/
def wordLimit (vc : Nat) : Nat := match vc with | 2 => 256 | 3 => 4096 | _ => 16386

/-- Reserved codes and flags (check 2 of R132; R115, R116). -/
def reservedUsed (k : Packet) : Bool :=
  if k.vc < 2 then 5 ≤ k.format || field k.flags 3 0 != 0 else k.flags != 0

/-- The first of checks 1 to 4 of R132 that a packet fails. -/
def packetFault (b : List Byte) : Option Nat :=
  let k := readHeader b
  if !headerOk b then some 1
  else if reservedUsed k then some 2
  else if b.length != 20 + 4 * k.words || wordLimit k.vc < k.words then some 3
  else if crc32c k.payload != beAt b (16 + 4 * k.words) 4 then some 4
  else none

/-- A packet from the BLX16 (R114): VC2 with a message code. -/
def downPacket (code : Nat) (payload : List Byte) : List Byte :=
  let h := [BitVec.ofNat 8 (0x80 + code), 0] ++ toBE 2 (payload.length / 4) ++ List.replicate 10 0
  h ++ toBE 2 (crc16 h) ++ payload ++ toBE 4 (crc32c payload)

/-- A packet sent to a camera (R112): its carriers wait for their slots, each on every lane of the active mask. -/
def sendDown (e : Env) (d : Dev) (p code : Nat) (payload : List Byte) : Dev :=
  let b := downPacket code payload
  ((carriers b).foldl (fun d c => txPut e d p { prio := 2, lanes := maskLanes d p, bytes := c, due := e.raw }) d).emit
    (.carrier p b e.raw)

/-! ### Line numbers and drops (R132, R133, R138) -/

/-- Whether a line number is ahead of another, mod 2^32 (R133). -/
def lineAhead (n p : Nat) : Bool := 0 < wrapI 32 ((n : Int) - p)

/-- Whether a packet belongs to the stream that the port's pipeline takes (check 7). -/
def selected (d : Dev) (p : Nat) (k : Packet) : Bool :=
  k.vc == d.gn (tIdx p 0) 3 && bit (d.gn (tIdx p 0) 4) k.plane

/-- The line-number sequence moves on to a number that lies ahead (R132, R133). -/
def advanceLine (d : Dev) (p n : Nat) : Dev :=
  let pt := d.pt p
  match pt.lastLine with
  | none => d.setPt p { pt with lastLine := some n }
  | some l =>
    if lineAhead n l then
      let gap := (wrapI 32 ((n : Int) - l)).toNat - 1
      let d1 := d.setPt p { pt with lastLine := some n }
      if gap = 0 then d1 else (d1.add (tIdx p 2) 2 gap).publish (tIdx p 2)
    else d

/-- The counter of a failing check (R132, R140). -/
def checkCounter : Nat → Nat
  | 1 => 3 | 2 => 6 | 3 => 5 | 4 => 4 | 6 => 0x0B | 8 => 7 | 9 => 8 | 10 => 0x0A | 11 => 9 | 12 => 0x0C | _ => 0x10

/-- A line dropped under a check: its counter, its drop log entry, LINE_DROP, and the line number it still advances. -/
def dropLine (e : Env) (d : Dev) (p check : Nat) (k : Packet) (known : Bool) : Dev :=
  let d1 := tInc d p (checkCounter check)
  let ent : DropEntry := { stamp := stampA e d e.raw, line := if known then k.line else 0, check := check, vcType := k.vcType,
                           trig := k.trig }
  let d2 := d1.setPt p { d1.pt p with dropLog := (ent :: (d1.pt p).dropLog).take 16 }
  let d3 := portEvent e d2 p 0 0
  let d4 := if check = 3 || check = 4 then qRewind d3 p else if check = 12 then qDrop e d3 p 6 1 else d3
  if known && selected d4 p k then advanceLine d4 p k.line else d4

/-- A packet that is no line's, rewound (R110, R118). -/
def rewound (d : Dev) (p sub : Nat) : Dev := qRewind (tInc d p sub) p

/-- The drop log as bytes (R138). -/
def dropLogBytes (l : List DropEntry) : List Byte :=
  padTo (l.flatMap (fun x => toLE 8 x.stamp ++ toLE 4 x.line ++ toLE 1 x.check ++ toLE 1 x.vcType ++ toLE 2 x.trig)) 256 0

/-! ### Strips (R136, R137) -/

/-- A strip closes with its flags (R136, R137). -/
def stripClose (h : TransHooks) (e : Env) (d : Dev) (p : Nat) (st : Strip) (fl : Nat) : Dev :=
  let flags := fl ||| (if st.noSos then 8 else 0) ||| (if st.target then 4 else 0)
  let d1 := d.pub (tIdx p 6) [(1, (st.first : Nat)), (2, ((min st.spanned 65535) : Nat)), (3, (st.committed : Nat)),
    (4, (st.settings : Nat)), (5, (flags : Nat)), (6, (st.firstArr : Nat)), (7, (st.lastArr : Nat))]
  let d2 := if fl % 4 = 0 then d1 else tInc d1 p 0x0F
  portEvent e (h.onStripEnd e (d2.setPt p { d2.pt p with strip := none }) p st flags) p 1 0

/-- A strip opened at a line number. -/
def stripOpen (d : Dev) (p n settings : Nat) (noSos : Bool) : Dev :=
  let st : Strip := ⟨n, 0, 0, settings, false, noSos, 0, 0⟩
  d.setPt p { d.pt p with strip := some st }

/-- STRIP_LEN of a port. -/
def stripLen (d : Dev) (p : Nat) : Nat := d.gn (tIdx p 0) 6

/-- The open strip closed where it has spanned 2 × STRIP_LEN numbers before `n`, as often as that takes. -/
def stripOverlong (h : TransHooks) (e : Env) : Nat → Dev → Nat → Nat → Dev
  | 0, d, _, _ => d
  | f + 1, d, p, n =>
    match (d.pt p).strip with
    | none => d
    | some st =>
      let max2 := 2 * stripLen d p
      if max2 ≤ wrapU 32 ((n : Int) - st.first) then
        let d1 := stripClose h e d p { st with spanned := max2, noSos := true } 2
        stripOverlong h e f (stripOpen d1 p ((st.first + max2) % 4294967296) st.settings true) p n
      else d

/-- A settings ID change without SOS (R136, R137): it closes the strip before its line, PARTIAL and closed without an SOS line,
and opens the next at its own number. A strip in which no number has come yet has nothing to close, and the change alone counts
(R130). -/
def stripChange (h : TransHooks) (e : Env) (d : Dev) (p : Nat) (k : Packet) : Dev :=
  match (d.pt p).strip with
  | none => d
  | some st =>
    let s := wrapI 32 ((k.line : Int) - st.first)
    let sp := if 0 ≤ s then s.toNat else st.spanned
    stripOpen (if sp = 0 then tInc d p 0x0F else stripClose h e d p { st with spanned := sp, noSos := true } 1) p k.line
      k.settings true

/-- A line behind the last number, whose header passed check 1 (R136): a settings ID change without SOS is seen on it too. Its
number and its SOS move nothing else (DESIGN CHOICE, assumption log 112). -/
def stripBehind (h : TransHooks) (e : Env) (d : Dev) (p : Nat) (k : Packet) : Dev :=
  if !k.sos && (d.pt p).lastSettings.any (· != k.settings) then
    stripChange h e (d.setPt p { d.pt p with lastSettings := some k.settings }) p k
  else d

/-- A line number with its header seen (R136): overlong strips, SOS and a settings change close a strip and open the
next; `n` then belongs to the open strip. -/
def stripSee (h : TransHooks) (e : Env) (d : Dev) (p : Nat) (k : Packet) : Dev :=
  let n := k.line
  let pt0 := d.pt p
  let changed := pt0.lastSettings.any (· != k.settings)
  let dist := match pt0.strip with | none => 0 | some st => wrapU 32 ((n : Int) - st.first)
  let d0 := stripOverlong h e (dist / (max 1 (2 * stripLen d p)) + 1) d p n
  let d1 := d0.setPt p { d0.pt p with lastSettings := some k.settings }
  let d2 :=
    if k.sos then
      let early := (d1.pt p).sosAt.any (fun s => wrapU 32 ((n : Int) - s) != stripLen d1 p)
      let c := match (d1.pt p).strip with
        | none => d1
        | some st =>
          let sp := wrapU 32 ((n : Int) - st.first)
          if sp = 0 then d1 else stripClose h e d1 p { st with spanned := sp } (if early then 2 else 0)
      let o := stripOpen c p n k.settings false
      h.onSos e (o.setPt p { o.pt p with sosAt := some n }) p n
    else if changed then stripChange h e d1 p k
    else d1
  match (d2.pt p).strip with
  | none => d2
  | some st => d2.setPt p { d2.pt p with strip := some { st with spanned := wrapU 32 ((n : Int) - st.first) + 1 } }

/-- A strip that has spanned its 2 × STRIP_LEN numbers closes after its last line. -/
def stripFull (h : TransHooks) (e : Env) (d : Dev) (p : Nat) : Dev :=
  match (d.pt p).strip with
  | none => d
  | some st =>
    if 2 * stripLen d p ≤ st.spanned then
      stripOpen (stripClose h e d p { st with noSos := true } 2) p ((st.first + st.spanned) % 4294967296) st.settings true
    else d

/-! ### Accepting a line (R132 to R135, R141) -/

/-- The LINK_DELAY for a trigger stamp (R125): the newest whose response stamp lies before it. -/
def linkDelayAt (pt : PortT) (stamp : Nat) : Nat :=
  match pt.linkDelays.find? (fun q => 0 < wrapI 64 ((stamp : Int) - q.1)) with
  | some q => q.2
  | none => match pt.linkDelays.getLast? with | some q => q.2 | none => 0

/-- The trigger or beacon that a line answers (R134): its stamp, DELAY_TRIM in force for it, whether the calibration
trigger sent it, and the offset of a free-run line. -/
def lineMatch (d : Dev) (p : Nat) (k : Packet) : Option (Nat × Int × Bool × Option Nat) :=
  if d.gn (tIdx p 0) 5 = 1 then
    if !k.timeExt then none
    else
      ((d.pt p).beacons.find? (fun b => b.1 == beAt k.payload 0 2)).map
        (fun b => (b.2, d.gi (0x2084 + 0x100 * p) 1, false, some (beAt k.payload 2 4)))
  else
    ((d.trig p).sent.find? (fun g => g.id == k.trig && !g.used)).map (fun g => (g.stamp, g.trim, g.cal, none))

/-- The ID of the answered trigger is used. -/
def useTrig (d : Dev) (p id : Nat) : Dev :=
  let g := d.trig p
  d.setTrig p { g with sent := g.sent.map (fun x => if x.id = id then { x with used := true } else x) }

/-- The word formula of R118. -/
def wordsOf (k : Packet) : Nat := ceilDiv (k.pixels * fmtBits k.format) 32 + (if k.timeExt then 2 else 0)

/-- The first of checks 6 and 8 to 13 that a selected packet fails; a later plane of a line is not checked again for its
number and its credit. Checks 12 and 13 are judged at the header's raw instant. -/
def lineFault (d : Dev) (p : Nat) (k : Packet) (head : Nat) (later : Bool) : Option Nat :=
  let t := tIdx p 0
  let pt := d.pt p
  if bit k.flags 4 then some 6
  else if k.format != d.gn t 2 || k.pixels != d.gn t 1 || k.words != wordsOf k then some 8
  else if !later && pt.lastLine.any (fun l => !lineAhead k.line l) then some 9
  else if pt.settings.all (fun x => x.id != k.settings) then some 10
  else if (lineMatch d p k).isNone then some 11
  else if !later && (freeBank pt.banks head).isNone then some 12
  else if !portServed d p head then some 13
  else none

/-- A line commits (R132, R141): its own metadata are fixed, its strip takes it, and it waits in its bank. -/
def commitLine (h : TransHooks) (e : Env) (d : Dev) (p : Nat) (k : Packet) (set : PlaneSet) : Dev :=
  match lineMatch d p k with
  | none => d
  | some (stamp, trim, cal, free) =>
    let pt := d.pt p
    let ent := (pt.settings.find? (fun x => x.id == k.settings)).getD { id := 0, expDelay := 0, exposure := 0 }
    let ln : CamLine :=
      { line := k.line, vcType := k.vcType, flags := k.flags, settings := k.settings, trig := k.trig, trigStamp := stamp,
        trim := trim, freeNs := free, arrival := stampA e d set.arrival, linkDelay := linkDelayAt pt stamp,
        expDelay := ent.expDelay, exposure := ent.exposure, planes := set.planes, bank := set.bank, cal := cal,
        strip := pt.strip.map (·.first) }
    let d1 := if free.isNone then useTrig d p k.trig else d
    let d2 := advanceLine (qCommit (tInc d1 p 1) p) p k.line
    let d3 := match (d2.pt p).strip with
      | none => d2
      | some st =>
        let fa := if st.committed = 0 then ln.arrival else st.firstArr
        let st2 := { st with committed := st.committed + 1, target := st.target || bit k.flags 6, lastArr := ln.arrival, firstArr := fa }
        d2.setPt p { d2.pt p with strip := some st2 }
    let newSet := pt.lastCommitted != some k.settings
    let d4 := if newSet then
      let c := d3.pub (tIdx p 1) [(7, (k.settings : Nat))]
      let c1 := portEvent e (c.setPt p { c.pt p with lastCommitted := some k.settings }) p 2 k.settings
      if !k.sos && pt.strip.isNone && pt.lastCommitted.isSome then tInc c1 p 0x0F else c1
    else d3
    let (ln2, d5) := h.onCommit e d4 p ln
    d5.setPt p { d5.pt p with ingress := (d5.pt p).ingress ++ [ln2], planes := none, lastDone := some k.line }

/-- The open planes of a line given up: their bank is emptied, and the line's number has been seen. -/
def closeSet (e : Env) (d : Dev) (p : Nat) (set : PlaneSet) : Dev :=
  let d1 := advanceLine (giveBank d p set.bank e.raw) p set.line
  d1.setPt p { d1.pt p with planes := some { set with dropped := true } }

/-- A line whose planes came in part is dropped as a whole, once (R135), under the first failing check, with the VC_TYPE and
TRIGGER_ID of the plane that failed it (R138). Where a packet with a bad header came among its planes, that was the first to
fail, and HDR_CRC has counted it. -/
def dropSet (e : Env) (d : Dev) (p : Nat) (set : PlaneSet) (check vcType trig : Nat) : Dev :=
  if set.dropped then d
  else if set.broken then closeSet e d p set
  else
    let k : Packet :=
      { vcType := vcType, flags := 0, words := 0, line := set.line, settings := 0, trig := trig, pixels := 0, payload := [] }
    closeSet e (dropLine e d p check k true) p set

/-- The open planes of a line given up because a packet of another line came: check 9, under the line's own VC_TYPE and
TRIGGER_ID. -/
def dropOpen (e : Env) (d : Dev) (p : Nat) : Dev :=
  match (d.pt p).planes with
  | none => d
  | some set =>
    let d1 := dropSet e d p set 9 set.vcType set.trig
    d1.setPt p { d1.pt p with planes := none }

/-- A selected packet that fails a check: it drops its line once, be it alone, the first of the line's planes or a later one
(R135). -/
def dropPlane (e : Env) (d0 : Dev) (p head check : Nat) (k : Packet) : Dev :=
  match (d0.pt p).planes.filter (fun s => s.line == k.line) with
  | some set => dropSet e d0 p set check k.vcType k.trig
  | none =>
    let d := dropLine e (dropOpen e d0 p) p check k true
    if (planeList d p).length = 1 then d
    else
      let set : PlaneSet :=
        { line := k.line, vcType := k.vcType, trig := k.trig, bank := 0, arrival := head, planes := [], dropped := true }
      d.setPt p { d.pt p with planes := some set }

/-- A selected image packet that passed checks 1 to 7 (R132, R135): the next plane of the open line, or the first of another.
A plane out of its order falls under check 9. -/
def planeRx (h : TransHooks) (e : Env) (d0 : Dev) (p head : Nat) (k : Packet) : Dev :=
  let want := planeList d0 p
  let here := (d0.pt p).planes.filter (fun s => s.line == k.line)
  if here.any (·.dropped) then d0
  else
    let d := if here.isSome then d0 else dropOpen e d0 p
    let sofar := match here with | some s => s.planes | none => []
    let bad := (lineFault d p k head here.isSome).or (if want[sofar.length]? != some k.plane then some 9 else none)
    match bad with
    | some c => dropPlane e d p head c k
    | none =>
      let bank := match here with | some s => s.bank | none => (freeBank (d.pt p).banks head).getD 0
      let set : PlaneSet :=
        { line := k.line, vcType := k.vcType, trig := k.trig, bank := bank, dropped := false,
          arrival := match here with | some s => s.arrival | none => head, planes := sofar ++ [(k.plane, k.payload)] }
      let d1 := if here.isSome then d else takeBank d p bank
      if set.planes.length = want.length then commitLine h e d1 p k set else d1.setPt p { d1.pt p with planes := some set }

/-- A VC0 or VC1 packet with a good header (R132, R136). -/
def imageRx (h : TransHooks) (e : Env) (d : Dev) (p head : Nat) (k : Packet) (fault : Option Nat) : Dev :=
  let sel := selected d p k
  let ahead := (d.pt p).lastLine.all (fun l => lineAhead k.line l)
  let here := (d.pt p).planes.any (fun s => s.line == k.line)
  let fresh := sel && ahead && !here
  let d0 := if fresh then stripSee h e d p k else if sel && !here then stripBehind h e d p k else d
  let drop (c : Nat) : Dev := if sel then dropPlane e d0 p head c k else dropLine e d0 p c k true
  let d1 := match fault with
    | some c => drop c
    | none =>
      if bit k.flags 4 then drop 6
      else if !sel then
        let ln : CamLine :=
          { line := k.line, vcType := k.vcType, flags := k.flags, settings := k.settings, trig := k.trig,
            trigStamp := 0, trim := 0, freeNs := none, arrival := stampA e d0 head, linkDelay := 0, expDelay := 0,
            exposure := 0, planes := [(k.plane, k.payload)], bank := 0, cal := false }
        tInc (h.onUnselected e d0 p ln k.pixels) p 0x0D
      else planeRx h e d0 p head k
  if fresh then stripFull h e d1 p else d1

/-- The stream of a port has stopped (R86): the line whose planes came in part is rewound. No check has failed, so no counter and
no drop log entry names it (DESIGN CHOICE, assumption log 112). -/
def rewindOpen (e : Env) (d : Dev) (p : Nat) : Dev :=
  match (d.pt p).planes with
  | none => d
  | some set =>
    let d1 := if set.dropped then d else qRewind (closeSet e d p set) p
    d1.setPt p { d1.pt p with planes := none }

/-! ### Camera bring-up and commands (R126 to R131) -/

/-- CAMERA_STATE moved. -/
def camTo (e : Env) (d : Dev) (p : Nat) (st : CameraState) : Dev :=
  if (d.pt p).cam = st then d
  else
    let d1 := (d.setPt p { d.pt p with cam := st }).publish (tIdx p 1)
    if st = .fault then portEvent e d1 p 3 0 else d1

/-- The camera moves to FAULT (R131): its bring-up ends. -/
def camFault (e : Env) (d : Dev) (p : Nat) : Dev :=
  let d1 := camTo e d p .fault
  d1.setPt p { d1.pt p with retry := none }

/-- A command sent to the camera under a new sequence number (R126, R128). -/
def camSend (e : Env) (d : Dev) (p opcode settings : Nat) (entries : List Byte) (n step : Nat) : Dev :=
  let pt := d.pt p
  let sq := (pt.cmdSeq + 1) % 65536
  let pay := toBE 2 sq ++ [BitVec.ofNat 8 opcode, BitVec.ofNat 8 n] ++ toBE 2 settings ++ [0, 0] ++ entries
  let c : CamCmd := { seq := sq, opcode := opcode, settings := settings, payload := pay, sends := 1, first := e.raw,
                      last := e.raw, step := step }
  let pt1 := { pt with cmd := some c, cmdSeq := sq, retry := if step = 0 then pt.retry else none }
  sendDown e ((d.setPt p pt1).put (tIdx p 4) 2 1) p 2 pay

/-- One entry of a command. -/
def camEntry (addr val : Nat) : List Byte := toBE 4 addr ++ toBE 4 val

/-- Step 2, 3 or 4 of R131. -/
def camStep (e : Env) (d : Dev) (p step : Nat) : Dev :=
  let t := tIdx p 0
  match step with
  | 2 => camSend e d p 1 0 ((List.range 9).flatMap (fun i => camEntry (4 * i) 0)) 9 2
  | 3 => camSend e (camTo e d p .configuring) p 2 0
      (camEntry 0x20 (d.gn t 2) ++ camEntry 0x18 (d.gn t 6) ++ camEntry 0x1C (d.gn t 5)) 3 3
  | _ => camSend e d p 3 1 (camEntry 0x14 (nth (d.pt p).readBack 5 0)) 1 4

/-- Step 5 of R131: settings made and 8 delay samples accepted. -/
def camReady (e : Env) (d : Dev) (p : Nat) : Dev :=
  let pt := d.pt p
  if pt.cam = .configuring && pt.settingsDone && !pt.filling then camTo e d p .ready else d

/-- A step of bring-up that waits is taken once its time has come and no command is outstanding (R128, R131). -/
def camNext (e : Env) (d : Dev) (p : Nat) : Dev :=
  match (d.pt p).retry with
  | some (at_, step) => if at_ ≤ e.raw && (d.pt p).cmd.isNone then camStep e d p step else d
  | none => d

/-- Bring-up begins: PORT_LINK has become UP (R131, step 1). A command that is still outstanding goes on (R128), and step 2 waits
for its end. -/
def camStart (e : Env) (d0 : Dev) (p : Nat) : Dev :=
  let d := rewindOpen e d0 p
  let pt := d.pt p
  let pt1 := { pt with busy := 0, retry := some (e.raw, 2), settingsDone := false, history := [], filling := true }
  let pt2 := { pt1 with rejects := 0, lastLine := none, lastDone := none, lastSettings := none, strip := none, sosAt := none }
  camNext e (camTo e (d.setPt p pt2) p .identifying) p

/-- The camera's link went down with the port's move to OFF (R131). An outstanding command stays PENDING until its time is up
(R128), and no longer serves a bring-up. -/
def camDown (e : Env) (d0 : Dev) (p : Nat) : Dev :=
  let d := rewindOpen e d0 p
  let pt := d.pt p
  let d1 := d.setPt p { pt with cmd := pt.cmd.map (fun c => { c with step := 0 }), retry := none }
  if pt.cam = .absent || pt.cam = .fault then d1 else camFault e d1 p

/-- Whether the registers read in step 2 pass (R131). -/
def camIdentOk (d : Dev) (p : Nat) (v : List Nat) : Bool :=
  let t := tIdx p 0
  nth v 0 0 / 65536 == 1 && nth v 1 0 == d.gn t 1 && bit (nth v 2 0) (d.gn t 2) &&
    (planeList d p).all (fun j => bit (nth v 2 0) (16 + j))

/-- A settings table entry made or updated in place (R130): a full table loses its oldest entry that the current strip
does not use. -/
def settingsPut (l : List Settings) (inUse : Option Nat) (s : Settings) : List Settings :=
  if l.any (fun x => x.id == s.id) then l.map (fun x => if x.id = s.id then s else x)
  else if l.length < 16 then l ++ [s]
  else
    match (List.range l.length).find? (fun i => (l[i]?).any (fun x => inUse != some x.id)) with
    | some i => l.eraseIdx i ++ [s]
    | none => l

/-- A RESPONSE (R127, R128, R130, R131). -/
def responseRx (e : Env) (d : Dev) (p : Nat) (pay : List Byte) : Dev :=
  let pt := d.pt p
  match pt.cmd with
  | none => tInc d p 6
  | some c =>
    if beAt pay 0 2 != c.seq then tInc d p 6
    else
      let st := beAt pay 2 1
      let n := beAt pay 3 1
      let vals := (List.range n).map (fun i => beAt pay (8 + 4 * i) 4)
      let d1 := ((d.setPt p { pt with cmd := none }).put (tIdx p 4) 2 2).putB (tIdx p 4) 3 pay
      let d2 := if c.opcode = 3 && st = 0 then
        let ent : Settings := ⟨c.settings, nth vals 0 0, nth vals 1 0⟩
        d1.setPt p { d1.pt p with settings := settingsPut pt.settings (pt.strip.map (·.settings)) ent } else d1
      if c.step = 0 then camNext e d2 p
      else if st = 3 then
        let b := pt.busy + 1
        if 8 ≤ b then camFault e d2 p
        else d2.setPt p { d2.pt p with busy := b, retry := some (e.raw + 1600000, c.step) }
      else if st ≠ 0 then camFault e d2 p
      else
        let d3 := d2.setPt p { d2.pt p with busy := 0 }
        match c.step with
        | 2 =>
          let d4 := (d3.setPt p { d3.pt p with readBack := vals }).pub (tIdx p 1) [(6, (nth vals 0 0 : Nat))]
          if camIdentOk d4 p vals then camStep e d4 p 3 else camFault e d4 p
        | 3 => camStep e d3 p 4
        | _ => camReady e (d3.setPt p { d3.pt p with settingsDone := true }) p

/-! ### Link delay (R124, R125) -/


/-- The mean of 8 samples, rounded down. -/
def mean8 (l : List Int) : Int := sumI l / 8

/-- A delay sample (R125) whose response has a stamp. -/
def delaySample (e : Env) (d : Dev) (p : Nat) (sample : Int) (stamp : Nat) : Dev :=
  let pt := d.pt p
  let setDelay (d : Dev) (l : List Int) : Dev :=
    let v := wrapU 32 (mean8 l)
    (d.setPt p { d.pt p with linkDelays := ((stamp, v) :: (d.pt p).linkDelays).take 16 }).pub (tIdx p 1) [(2, (v : Nat))]
  if pt.filling then
    let l := sample :: pt.history
    if l.length < 8 then d.setPt p { pt with history := l }
    else camReady e (setDelay (d.setPt p { pt with history := l, filling := false, rejects := 0 }) l) p
  else
    let cur : Int := d.gn (tIdx p 1) 2
    if (sample - cur).natAbs ≤ d.gn (tIdx p 0) 9 then
      let l := (sample :: pt.history).take 8
      setDelay (d.setPt p { pt with history := l, rejects := 0 }) l
    else
      let r := pt.rejects + 1
      let d1 := d.incP (tIdx p 1) 4
      if 8 ≤ r then d1.setPt p { d1.pt p with rejects := 0, history := [], filling := true }
      else d1.setPt p { d1.pt p with rejects := r }

/-- A DELAY_RESP (R124). -/
def delayRespRx (e : Env) (d : Dev) (p head : Nat) (pay : List Byte) : Dev :=
  let pt := d.pt p
  match pt.delayReqs.find? (fun r => r.1 == beAt pay 0 2) with
  | none => d
  | some (id, tx, _) =>
    let turn := beAt pay 4 4
    let rx := stampA e d head
    let d1 := (d.setPt p { pt with delayReqs := pt.delayReqs.filter (fun r => r.1 != id) }).pub (tIdx p 1)
      [(3, (turn : Nat))]
    let dt := wrapI 64 ((rx : Int) - tx)
    delaySample e d1 p ((dt - rxLat d p - 16 * turn) / 2) rx

/-- A VC2 or VC3 packet that passed checks 1 to 4 (R116, R121). -/
def messageRx (e : Env) (d : Dev) (p head : Nat) (k : Packet) (packet : List Byte) : Dev :=
  let ring (r : Nat) : Dev := { d with vcRings := tabSet d.vcRings (2 * p + r) (tabGet d.vcRings [] (2 * p + r) ++ [packet]) }
  if k.vc = 3 then ring 1
  else match field k.vcType 5 0 with
    | 3 => if 2 ≤ k.words && k.words = 2 + beAt k.payload 3 1 then responseRx e d p k.payload else tInc d p 6
    | 4 => if 1 ≤ k.words then ring 0 else tInc d p 6
    | 6 => if k.words = 2 then delayRespRx e d p head k.payload else tInc d p 6
    | _ => tInc d p 6

/-- A packet taken whole off a port's stream (R132): `head` is the raw instant of its first header block. Nothing comes
through while the stream is stopped. -/
def packetRx (h : TransHooks) (e : Env) (d : Dev) (p head : Nat) (b : List Byte) : Dev :=
  if !streamRuns d p then d
  else
    let k := readHeader b
    match packetFault b with
    | some 1 =>
      let d1 := dropLine e d p 1 k false
      d1.setPt p { d1.pt p with planes := (d1.pt p).planes.map (fun s => { s with broken := true }) }
    | f =>
      if k.vc < 2 then imageRx h e d p head k f
      else match f with
        | some 2 => tInc d p 6
        | some c => rewound d p (checkCounter c)
        | none => messageRx e d p head k b

/-- An open packet rewound by a block that may not stand in it, counted in LENGTH_ERR (R110, R111): a line where its header had
come whole. -/
def openRewind (h : TransHooks) (e : Env) (d : Dev) (p : Nat) (b : List Byte) : Dev :=
  let k := readHeader b
  if headerOk b && k.vc < 2 then imageRx h e d p e.raw k (some 3) else rewound d p 5

/-- What a block off a camera's stream is where it does not carry a packet on (R110, R111). A camera sends IDLE, START and
TERMINATE; TRIGGER and CARRIER go the other way, and count as other types here (DEDUCED, assumption log 112). -/
def badKind (blk : Option (List Byte)) (opened : Bool) : Bool × Bool :=
  match blk with
  | none => (!opened, false)
  | some b =>
    let ty := blkAt b 0
    if ty = 0x84 then (false, opened)
    else if ty = 0x80 || (0x88 ≤ ty && ty ≤ 0x8F) || field ty 7 4 = 0xA then (false, false)
    else (true, opened)

/-- A block at the BLT receiver (R110, R111): a control block, or a data block (none), with the bytes of the packet that is open.
BAD_BLOCK counts a type outside the table and a data block outside a packet; a type outside the table and a START rewind the
open packet. -/
def badBlock (h : TransHooks) (e : Env) (d : Dev) (p : Nat) (blk opened : Option (List Byte)) : Dev :=
  if !streamRuns d p then d
  else
    let (bad, ends) := badKind blk opened.isSome
    let d1 := if bad then tInc d p 0x0E else d
    match opened with
    | some b => if ends then openRewind h e d1 p b else d1
    | none => d1

/-! ### Beacons, delay requests and commands that fall due -/

/-- BEACON_SEND (R122). Beacons begin with step 1 of R131, once the port has an active mask to send them on. The stamp is that of
the slot which the first carrier takes. -/
def beaconSend (e : Env) (d : Dev) (p : Nat) : Dev :=
  let pt := d.pt p
  let due := match pt.beaconAt with | none => true | some a => a + 16000000 ≤ e.raw
  if d.ustate (uPort p) = .off || (d.port p).mask = 0 || !d.gb (tIdx p 0) 7 || !due then d
  else
    let id := (pt.beaconId + 1) % 65536
    let now := stampA e d (carrierAt e d p)
    let ts := match (tuOf e d).state with | .free => 0 | .held => 1 | .tracking => 2 | .holdover => 3
    let pay := toBE 2 id ++ toBE 8 now ++ [BitVec.ofNat 8 ts, 0] ++ toBE 4 1000
    let d1 := d.setPt p { pt with beaconId := id, beaconAt := some e.raw, beacons := ((id, now) :: pt.beacons).take 16 }
    sendDown e (d1.pub (tIdx p 1) [(8, (id : Nat)), (9, (now : Nat))]) p 1 pay

/-- DELAY_REQ_SEND (R125). -/
def delayReqSend (e : Env) (d : Dev) (p : Nat) : Dev :=
  let pt := d.pt p
  let every := if pt.filling then 1600000 else d.gn (tIdx p 0) 8 * 16000
  let due := match pt.delayAt with | none => true | some a => a + every ≤ e.raw
  if (d.port p).mask = 0 || !due then d
  else
    let id := (pt.delayId + 1) % 65536
    let reqs := (id, stampA e d (carrierAt e d p), e.raw) :: pt.delayReqs
    let d1 := d.setPt p { pt with delayId := id, delayAt := some e.raw, delayReqs := reqs }
    sendDown e d1 p 5 (toBE 2 id ++ [0, 0])

/-- DELAY_LOST (R125): every request without a response for 1 ms. -/
def delayLost (e : Env) (d : Dev) (p : Nat) : Dev :=
  let pt := d.pt p
  let lost := pt.delayReqs.filter (fun r => r.2.2 + 16000000 ≤ e.raw)
  if lost.isEmpty then d
  else ((d.setPt p { pt with delayReqs := pt.delayReqs.filter (fun r => e.raw < r.2.2 + 16000000) }).add
    (tIdx p 1) 5 lost.length).publish (tIdx p 1)

/-- Whether a CMD_REQUEST is refused under R128. -/
def cmdBad (d : Dev) (p : Nat) (b : List Byte) : Bool :=
  let n := beAt b 1 1
  n < 1 || 32 < n || b.length != 6 + 8 * n || !linkUp d p

/-- A write of CMD_REQUEST (R126, R128). -/
def cmdRequestWrite (e : Env) (d : Dev) (m : Master) (p : Nat) (b : List Byte) : Dev :=
  d.asWriter m (tIdx p 4) 1 fun d =>
    if (d.pt p).cmd.isSome then d.reject m (tIdx p 4)
    else if cmdBad d p b then (d.put (tIdx p 4) 2 4).reject m (tIdx p 4)
    else (camSend e d p (beAt b 0 1) (beAt b 2 2) (b.drop 6) (beAt b 1 1) 0).ended m stOK

/-- Whether a command's time is up (R128): a ninth send would fall due, or CMD_TIMEOUT has passed. -/
def cmdDead (e : Env) (d : Dev) (p : Nat) (c : CamCmd) : Bool :=
  (8 ≤ c.sends && c.last + 1600000 ≤ e.raw) || c.first + d.gn (tIdx p 4) 4 * 16000 ≤ e.raw

/-- CMD_RESEND (R128). -/
def cmdResend (e : Env) (d : Dev) (p : Nat) : Dev :=
  match (d.pt p).cmd with
  | none => d
  | some c =>
    if cmdDead e d p c || e.raw < c.last + 1600000 then d
    else sendDown e (d.setPt p { d.pt p with cmd := some { c with sends := c.sends + 1, last := e.raw } }) p 2 c.payload

/-- CMD_TIMEOUT (R128, R131). -/
def cmdTimeout (e : Env) (d : Dev) (p : Nat) : Dev :=
  match (d.pt p).cmd with
  | none => d
  | some c =>
    if cmdDead e d p c then camFault e ((d.setPt p { d.pt p with cmd := none }).put (tIdx p 4) 2 3) p else d


/-- A write of CLEAR_COUNTS (R139). -/
def transClearWrite (d : Dev) (m : Master) (p : Nat) (v : Int) : Dev :=
  d.asWrite m (tIdx p 0) 0x0B v fun d =>
    (if v = 1 then (d.clearSubs (tIdx p 2) ((List.range 16).map (· + 1))).publish (tIdx p 2) else d).ended m stOK

/-- BEACON_SEND (R122). -/
def execBeaconSend (t p : Nat) (s : State) : Host.Outcome State Fault Refusal :=
  mainStep (okPort p) t s fun e d => beaconSend e d p

/-- DELAY_REQ_SEND (R125). -/
def execDelayReqSend (t p : Nat) (s : State) : Host.Outcome State Fault Refusal :=
  mainStep (okPort p) t s fun e d => delayReqSend e d p

/-- DELAY_LOST (R125). -/
def execDelayLost (t p : Nat) (s : State) : Host.Outcome State Fault Refusal :=
  mainStep (okPort p) t s fun e d => delayLost e d p

/-- CMD_REQUEST (R126, R128). -/
def execCmdRequest (t : Nat) (m : Master) (p : Nat) (b : List Byte) (s : State) : Host.Outcome State Fault Refusal :=
  mainStep (masterOk m && okPort p) t s fun e d => cmdRequestWrite e d m p b

/-- CMD_RESEND (R128). -/
def execCmdResend (t p : Nat) (s : State) : Host.Outcome State Fault Refusal :=
  mainStep (okPort p) t s fun e d => cmdResend e d p

/-- CMD_TIMEOUT (R128). -/
def execCmdTimeout (t p : Nat) (s : State) : Host.Outcome State Fault Refusal :=
  mainStep (okPort p) t s fun e d => cmdTimeout e d p

/-- CAMERA_BUSY_RETRY (R131). -/
def execCameraBusyRetry (t p : Nat) (s : State) : Host.Outcome State Fault Refusal :=
  mainStep (okPort p) t s fun e d => camNext e d p

/-- TRANSPORT_CLEAR_COUNTS (R139). -/
def execTransportClearCounts (t : Nat) (m : Master) (p : Nat) (v : Int) (s : State) :
    Host.Outcome State Fault Refusal :=
  mainStep (masterOk m && okPort p) t s fun _ d => transClearWrite d m p v

end Sys2Proof.Machine
end

