-- ==== Sys2Proof/Machine/Dram.lean ====
section
/-! DEFINITION. External memory (chapter 16): its bytes and poison, the host map, ports, refresh, spares, migration and
patrol scrub. -/

namespace Sys2Proof.Machine

/-! ### The bytes -/

/-- What an address that memory does not list reads as: start-up writes every group with zero data (R391). -/
def memBlank : Byte := 0

/-- The canonical form of memory: addresses strictly rising, no entry that an unlisted address would read as. -/
def Memory.wf : List Host.Cell → Bool
  | [] => true
  | [(_, v)] => v != memBlank
  | (a, v) :: (b, w) :: r => decide (a < b) && v != memBlank && Memory.wf ((b, w) :: r)

/-- One byte. -/
def memByte (m : List Host.Cell) (a : Nat) : Byte := (tabFind m a).getD memBlank

/-- `n` bytes from `a`, from cells at or above `a`. -/
def memTake : Nat → Nat → List Host.Cell → List Byte
  | 0, _, _ => []
  | n + 1, a, m =>
    match m with
    | (k, v) :: r => if k = a then v :: memTake n (a + 1) r else memBlank :: memTake n (a + 1) ((k, v) :: r)
    | [] => memBlank :: memTake n (a + 1) []

/-- `n` bytes from `a`. -/
def memBytes (m : List Host.Cell) (a n : Nat) : List Byte := memTake n a (m.dropWhile (fun c => c.1 < a))

/-- The cells of bytes from `a`, in canonical form. -/
def memCells : Nat → List Byte → List Host.Cell
  | _, [] => []
  | a, v :: r => if v = memBlank then memCells (a + 1) r else (a, v) :: memCells (a + 1) r

/-- Memory with bytes written from `a`. -/
def memPut (m : List Host.Cell) (a : Nat) (bs : List Byte) : List Host.Cell :=
  m.filter (fun c => decide (c.1 < a)) ++ memCells a bs ++ m.filter (fun c => decide (a + bs.length ≤ c.1))

/-! ### The host map (R380, R382) -/

/-- ECC groups of a rank-channel: its raw bytes over 640. -/
def eccGroups (d : Dev) : Nat := d.gn 0x1700 2 * 134217728 / 640

/-- HOST_BYTES. -/
def hostBytes (d : Dev) : Nat := d.gn 0x1700 3

/-- The bank and the row of a raw slot (R382). -/
def slotBank (s : Nat) : Nat × Nat := (s / 32 % 16, s / 32 / 16)

/-- Where a host address lies: rank-channel, raw slot of its block, block in its ECC group. -/
def hostDecode (d : Dev) (a : Nat) : Nat × Nat × Nat :=
  let u := a / 576
  let b := a % 576 / 64
  let l := u % 84
  let w := u / 84
  (nth (tabGet d.slots [] (l % 12)) (l / 12) 0xFF, 10 * w + b, b)

/-- The slot that a rank-channel holds. -/
def slotOf (d : Dev) (r : Nat) : Option Nat :=
  (List.range 7).find? (fun k => (tabGet d.slots [] (r / 8))[k]? == some r)

/-- The host address of a block of a rank-channel: none for a spare (R403). -/
def hostAddr (d : Dev) (r slot : Nat) : Option Nat :=
  (slotOf d r).map (fun k => ((slot / 10) * 84 + k * 12 + r / 8) * 576 + (slot % 10) * 64)

/-- Whether the controller serves (R401). -/
def memReady (d : Dev) : Bool := d.inSvc 0x032

/-- A rank-channel's record. -/
def Dev.rank (d : Dev) (r : Nat) : RankSt := tabGet d.ranks {} r

/-- A rank-channel's record written. -/
def Dev.setRank (d : Dev) (r : Nat) (x : RankSt) : Dev := { d with ranks := tabSet d.ranks r x }

/-! ### Poison -/

/-- A list of naturals in ascending order with one put in. -/
def ascPut : List Nat → Nat → List Nat
  | [], n => [n]
  | k :: r, n => if k = n then k :: r else if n < k then n :: k :: r else k :: ascPut r n

/-- A block poisoned. -/
def poisonPut (d : Dev) (a : Nat) : Dev := { d with poison := ascPut d.poison (a / 64) }

/-- Whether any block of a range is poisoned. -/
def poisoned (d : Dev) (a n : Nat) : Bool := d.poison.any (fun b => a / 64 ≤ b && b ≤ (a + n - 1) / 64)

/-- Bytes written to memory (R386, R394, R395): whole blocks lose their poison, blocks written in part keep it. -/
def memWriteRaw (d : Dev) (a : Nat) (bs : List Byte) : Dev :=
  let whole (b : Nat) : Bool := a ≤ b * 64 && b * 64 + 64 ≤ a + bs.length
  { d with mem := memPut d.mem a bs, poison := d.poison.filter (fun b => !whole b) }

/-- A write as a part of the device makes it: refused without service, discarded and counted out of range (R382). -/
def memWrite (d : Dev) (a : Nat) (bs : List Byte) : Dev :=
  if bs.isEmpty || !memReady d then d
  else if hostBytes d < a + bs.length then d.incP 0x1701 4
  else memWriteRaw d a bs

/-- A read as a part of the device makes it: the bytes, and whether a block is poisoned or out of range. -/
def memRead (d : Dev) (a n : Nat) : List Byte × Bool :=
  if !memReady d || hostBytes d < a + n then (List.replicate n 0, true)
  else (memBytes d.mem a n, poisoned d a n)

/-- A read of the device's own as the controller counts it: one at or above HOST_BYTES is out of range (R382). -/
def memSeen (d : Dev) (a n : Nat) : Dev := if memReady d && hostBytes d < a + n then d.incP 0x1701 4 else d

/-- A core's load or fetch of a poisoned block (R505): the poison abort and interrupt 161. -/
def corePoison (d : Dev) (a : Nat) : Dev :=
  let d1 := (d.put 0x1600 2 a).inc 0x1600 3
  { d1 with irqFlags := setBit d1.irqFlags 1 }

/-! ### Migration (R397 to R399) -/

/-- Whether a rank-channel is the source of a migration queued or running. -/
def migBusy (d : Dev) (r : Nat) : Bool := d.migs.contains r || d.mig.any (fun m => m.src == r)

/-- SPARE_STATE of a group (R404): 0 ready, 1 migrating, 2 none. -/
def spareState (d : Dev) (g : Nat) : Nat :=
  match tabFind d.spares g with
  | none => 2
  | some s => if d.mig.any (fun m => m.dst == s) then 1 else 0

/-- A migration requested (R397). -/
def migRequest (e : Env) (d : Dev) (r : Nat) : Dev :=
  if (slotOf d r).isNone || migBusy d r then d
  else if (tabFind d.spares (r / 8)).isNone then d.raise e 0x244 (r / 8)
  else
    let d1 := { d with migs := d.migs ++ [r] }
    d1.pub 0x1701 [(9, (d1.migs.length : Nat))]

/-- A group left without a spare. -/
def spareLost (e : Env) (d : Dev) (g : Nat) : Dev := { d with spares := tabErase d.spares g }.raise e 0x244 g

/-- A migration starts (R398): the spare is its group's. -/
def migStart (e : Env) (d : Dev) : Dev :=
  match d.mig, d.migs with
  | none, r :: q =>
    let d0 := { d with migs := q }
    match tabFind d0.spares (r / 8) with
    | none => (d0.raise e 0x244 (r / 8)).pub 0x1701 [(9, (q.length : Nat))]
    | some s =>
      let d1 := { d0 with mig := some { src := r, dst := s, at_ := e.raw }, memLost := [] }
      let d2 := d1.pub 0x1701 [(5, 1), (6, (r : Nat)), (7, (s : Nat)), (8, 0), (9, (q.length : Nat)), (10, 0)]
      (unitMove e d2 (0x290 + s) .shadow).raise e 0x242 r
  | _, _ => d

/-- The least time a copy takes at MIG_RATE, in tt. -/
def migTime (d : Dev) : Nat := eccGroups d * 576 * 160 / max 1 (d.gn 0x1700 0x0B)

/-- MIGRATION_DONE (R398): the slot map switches to the spare; the group is left without one. -/
def migDone (e : Env) (d : Dev) : Dev :=
  match d.mig with
  | none => d
  | some m =>
    if e.raw < m.at_ + migTime d then d
    else
      let g := m.src / 8
      let map := (tabGet d.slots [] g).map (fun r => if r = m.src then m.dst else r)
      let d1 := { d with slots := tabSet d.slots g map, mig := none }
      let d2 := unitMove e (unitMove e d1 (0x290 + m.dst) .inService) (0x290 + m.src) .off
      let d3 := d2.pub 0x1701 [(5, 0), (6, 0xFF), (7, 0xFF), (8, (eccGroups d : Nat))]
      spareLost e (((d3.publish (0x1780 + m.src)).publish (0x1780 + m.dst)).raise e 0x243 m.src) g

/-- The migration ends on an uncorrectable read of the spare (R399). -/
def migFail (e : Env) (d : Dev) (m : Mig) : Dev :=
  let d1 := unitMove e { d with mig := none } (0x290 + m.dst) .off
  spareLost e (d1.pub 0x1701 [(5, 0), (6, 0xFF), (7, 0xFF)]) (m.dst / 8)

/-- A write of MIGRATE_CMD (R397): a number of no rank-channel is out of the object's range. -/
def migrateCmdWrite (e : Env) (d : Dev) (m : Master) (v : Int) : Dev :=
  d.asWrite m 0x1700 0x0E v fun d =>
    if 96 ≤ v then d.reject m 0x1700 else (migRequest e d v.toNat).ended m stOK

/-! ### The ECC check (R395) -/

/-- An error log entry. -/
def memLog (e : Env) (d : Dev) (r kind source slot symbol : Nat) : Dev :=
  let x : MemErr :=
    { stamp := nowA e d, addr := (hostAddr d r slot).getD (2 ^ 64 - 1), rank := r, kind := kind, source := source,
      block := slot % 10, slot := slot, symbol := symbol }
  { d with memErrs := (x :: d.memErrs).take 16 }

/-- The error log as bytes (R403). -/
def memLogBytes (l : List MemErr) : List Byte :=
  padTo (l.flatMap (fun x => toLE 8 x.stamp ++ toLE 8 x.addr ++ toLE 1 x.rank ++ toLE 1 x.kind ++ toLE 1 x.source ++
    toLE 1 x.block ++ toLE 4 x.slot ++ toLE 2 x.symbol ++ toLE 6 0)) 512 0

/-- A corrected read: counted, and with MIG_CE_LIMIT in an hour a migration is requested. -/
def memCe (e : Env) (d : Dev) (r source slot symbol : Nat) : Dev :=
  let x := d.rank r
  let ces := e.raw :: x.ces.filter (fun a => e.raw < a + 57600000000000)
  let offer := match x.ceAt with | none => true | some a => a + 16000000 ≤ e.raw
  let d1 := ((d.incP 0x1701 1).incP (0x1780 + r) 2).setRank r { x with ces := ces, ceAt := if offer then some e.raw else x.ceAt }
  let d2 := if offer then d1.raise e 0x240 r else d1
  let d3 := memLog e d2 r 0 source slot symbol
  if d.gn 0x1700 0x0C ≠ 0 && d.gn 0x1700 0x0C ≤ ces.length then migRequest e d3 r else d3

/-- An uncorrectable read: poisoned, counted, a migration requested; on the spare of a running migration the migration
ends, on its source the block only joins MIG_LOST (R398, R399). -/
def memUe (e : Env) (d : Dev) (r source slot : Nat) : Dev :=
  let d1 := ((d.incP 0x1701 2).incP (0x1780 + r) 3).raise e 0x241 r
  let d2 := memLog e d1 r 1 source slot 0xFFFF
  let d3 := match hostAddr d2 r slot with | some a => poisonPut d2 a | none => d2
  match d3.mig with
  | some m =>
    if m.dst = r then migFail e d3 m
    else if m.src = r then
      let lost := match hostAddr d3 r slot with
        | some a => if d3.memLost.length < 64 then d3.memLost ++ [a] else d3.memLost
        | none => d3.memLost
      ({ d3 with memLost := lost }.inc 0x1701 0x0A).publish 0x1701
    else migRequest e d3 r
  | none => migRequest e d3 r

/-- A block read through the check: `kind` 0 no error, 1 one symbol wrong, 2 uncorrectable. A block that holds the
poison pattern reads as poison. -/
def memCheck (e : Env) (d : Dev) (r source slot kind symbol : Nat) : Dev :=
  let pois := match hostAddr d r slot with | some a => d.poison.contains (a / 64) | none => false
  if pois then memLog e (d.incP 0x1701 3) r 2 source slot 0xFFFF
  else match kind with
    | 0 => d
    | 1 => memCe e d r source slot symbol
    | _ => memUe e d r source slot

/-! ### Ports (R383 to R386) -/

/-- Whether a port is real-time. -/
def portRt (p : Nat) : Bool := p < 18

/-- Bytes with their ECC blocks that a request moves: a 64-byte block for each data block, and one for each ECC group. -/
def eccBytes (a n : Nat) : Nat := 64 * (((a + n - 1) / 64 - a / 64 + 1) + ((a + n - 1) / 576 - a / 576 + 1))

/-- Until when traffic, newest first, keeps a port over a budget of bytes in 10 µs: the instant at which the oldest part that
it takes to exceed the budget is 10 µs old. -/
def overEnd (budget : Nat) : Nat → List (Nat × Nat) → Nat
  | _, [] => 0
  | sum, (a, n) :: r => if budget < sum + n then a + 160000 else overEnd budget (sum + n) r

/-- Until when a port is over its budget (R384): 0 where it is not, as a real-time port never is. -/
def overUntil (d : Dev) (p : Nat) : Nat :=
  if portRt p then 0 else overEnd (d.gn (0x1720 + p) 3 * 1000) 0 (tabGet d.memPorts {} p).traffic

/-- Whether a port's traffic of the last 10 µs exceeds its budget (R384). -/
def overBudget (e : Env) (d : Dev) (p : Nat) : Bool := decide (e.raw < overUntil d p)

/-- A port's traffic noted, with the time it has spent over its budget (R405). -/
def portTraffic (e : Env) (d : Dev) (p n : Nat) : Dev :=
  let x := tabGet d.memPorts {} p
  let capped := x.capped + (min e.raw (overUntil d p) - x.seenAt)
  let l := (e.raw, n) :: x.traffic.filter (fun q => e.raw < q.1 + 160000)
  let d1 := { d with memPorts := tabSet d.memPorts p { x with traffic := l, seenAt := e.raw, capped := capped % 16000 } }
  if capped < 16000 then d1 else (d1.add (0x1740 + p) 7 (capped / 16000)).publish (0x1740 + p)

/-- A rank-channel served for a port: it wakes, and a real-time port's service keeps the gust (R388, R390). -/
def rankServed (e : Env) (d : Dev) (r p : Nat) : Dev :=
  let x := d.rank r
  d.setRank r { x with calm := false, lastServed := e.raw, lastRt := if portRt p then some e.raw else x.lastRt }

/-! ### A channel's queues and rows (R384, R385, R387)

JEDEC timings and the time that a command takes are left out (assumption log 121): every waiting request could be served,
and a write is served as soon as its channel turns to writes. A request is placed by its first block. -/

/-- A channel. -/
def Dev.memChan (d : Dev) (c : Nat) : MemChan := tabGet d.memChans {} c

/-- A channel written. -/
def Dev.setMemChan (d : Dev) (c : Nat) (x : MemChan) : Dev := { d with memChans := tabSet d.memChans c x }

/-- Where a request goes: channel, bank (16 to a rank), row. -/
def reqPlace (d : Dev) (q : MemReq) : Nat × Nat × Nat :=
  let (r, s, _) := hostDecode d q.addr
  let (bank, row) := slotBank s
  (r / 2, r % 2 * 16 + bank, row)

/-- The reads that wait in a channel, oldest first. -/
def chanReads (d : Dev) (c : Nat) : List MemReq := d.memReads.filter (fun q => (reqPlace d q).1 == c)

/-- Urgency of a request (R384). -/
def urgency (e : Env) (d : Dev) (q : MemReq) : Nat :=
  let i := 0x1720 + q.port
  let t := (e.raw - q.at_) / 16
  let lat := d.gn i 1
  let u := if 2 * t < lat then 0 else if 4 * t < 3 * lat then 1 else if t < lat then 2 else 3
  let capped := if overBudget e d q.port then min u (d.gn 0x1700 0x0A) else u
  if d.gn i 2 ≤ t then max capped 2 else capped

/-- Whether a request's row is open in its bank. -/
def rowHit (d : Dev) (q : MemReq) : Bool :=
  let (c, bank, row) := reqPlace d q
  (tabFind (d.memChan c).rows bank).any (fun x => x.1 == row)

/-- The rank of a request in the order of R385, its age apart: urgency, a real-time port, a row hit. -/
def serviceRank (e : Env) (d : Dev) (q : MemReq) : Nat :=
  4 * urgency e d q + 2 * b2n (portRt q.port) + b2n (rowHit d q)

/-- The request that a channel serves first of a list, oldest first (R385). -/
def firstServed (e : Env) (d : Dev) (l : List MemReq) : Option MemReq :=
  l.foldl (fun best q => match best with
    | none => some q
    | some b => if serviceRank e d b < serviceRank e d q then some q else some b) none

/-- The column command of a request that has left its queue (R387): it carries auto-precharge unless another request waits
for the same row, the run has not reached ROW_RUN_MAX and no request to another row of the bank is more urgent. -/
def columnCommand (e : Env) (d : Dev) (q : MemReq) : Dev :=
  let (c, bank, row) := reqPlace d q
  let x := d.memChan c
  let inBank := (chanReads d c ++ x.writes).filter (fun y => (reqPlace d y).2.1 == bank)
  let same := inBank.filter (fun y => (reqPlace d y).2.2 == row)
  let run := match tabFind x.rows bank with | some (r, n) => if r = row then n + 1 else 1 | none => 1
  let outbid := inBank.any (fun y => (reqPlace d y).2.2 != row && same.all (fun z => urgency e d z < urgency e d y))
  let keep := !same.isEmpty && decide (run < d.gn 0x1700 7) && !outbid
  d.setMemChan c { x with rows := if keep then tabSet x.rows bank (row, run) else tabErase x.rows bank }

/-- A channel serves its writes (R385): down to WR_LOW while a read waits, and not while one has urgency 3. -/
def writesServe (e : Env) (c : Nat) : Nat → Dev → Dev
  | 0, d => d
  | n + 1, d =>
    let x := d.memChan c
    let reads := chanReads d c
    if (!reads.isEmpty && x.writes.length ≤ d.gn 0x1700 9) || reads.any (fun q => urgency e d q == 3) then d
    else match firstServed e d x.writes with
      | none => d
      | some q =>
        let d1 := d.setMemChan c { x with writes := x.writes.erase q }
        writesServe e c n (columnCommand e (rankServed e d1 (hostDecode d1 q.addr).1 q.port) q)

/-- A channel turns to its writes where WR_HIGH wait or no read does (R385). -/
def writesTurn (e : Env) (d : Dev) (c : Nat) : Dev :=
  let n := (d.memChan c).writes.length
  if d.gn 0x1700 8 ≤ n || (chanReads d c).isEmpty then writesServe e c n d else d

/-- A request accepted (R382, R385, R386): a write is complete and takes effect, a read waits in the controller; one whose
channel holds 32 of its kind is not accepted yet. Out of range a write is discarded and a read returns poison; both count. -/
def memAccept (e : Env) (d : Dev) (p a len : Nat) (wr : Option (List Byte)) : Dev :=
  let n := match wr with | some b => b.length | none => len
  let q : MemReq := { port := p, addr := a, len := n, at_ := e.raw }
  let c := (reqPlace d q).1
  if !memReady d || n = 0 then d
  else if hostBytes d < a + n then
    let d1 := d.incP 0x1701 4
    if wr.isSome then d1
    else { (if p = 20 then corePoison d1 a else d1).emit (.memData p a true) with
           resp := { status := stOK, val := .blob (List.replicate n 0) } }
  else match wr with
    | some b =>
      let x := d.memChan c
      if 32 ≤ x.writes.length then d
      else
        let d1 := (portTraffic e d p (eccBytes a n)).setMemChan c { x with writes := x.writes ++ [q] }
        let d2 := ((d1.inc (0x1740 + p) 2).add (0x1740 + p) 3 n).publish (0x1740 + p)
        writesTurn e (memWriteRaw d2 a b) c
    | none =>
      if 32 ≤ (chanReads d c).length then d
      else { portTraffic e d p (eccBytes a n) with memReads := d.memReads ++ [q] }

/-- The secure regions that are on, as the first and the one after the last address (R502). -/
def secureRegions (d : Dev) : List (Nat × Nat) :=
  ((List.range 8).map (fun i => d.gn 0x1602 (i + 1))).filterMap (fun v =>
    let first := field v 31 12
    let last := field v 63 44
    if last < first || v = 0 then none else some (first * 1048576, (last + 1) * 1048576))

/-- What the cores' physical map places at an address (R501). -/
inductive PhysArea where
  | dram | bootRom | bootSram | bootFlash | coreLocal (c : Nat) | aperture
  deriving DecidableEq, Repr

/-- The physical map (R501): none outside it. -/
def physArea (a : Nat) : Option PhysArea :=
  let within (base size : Nat) : Bool := base ≤ a && a < base + size
  if a < 0x10000000000 then some .dram
  else if within 0xC0000000000 0x20000 then some .bootRom
  else if within 0xC0010000000 0x100000 then some .bootSram
  else if within 0xD0000000000 0x20000000 then some .bootFlash
  else if within 0xE0000000000 0x80000 then some (.coreLocal ((a - 0xE0000000000) / 0x10000))
  else if within 0xF0000000000 0x10000000 then some .aperture
  else none

/-- The areas that are secure as a whole (R501). -/
def PhysArea.secure : PhysArea → Bool
  | .bootRom | .bootSram | .bootFlash => true
  | .dram | .coreLocal _ | .aperture => false

/-- The areas that the cores may cache (R501). -/
def PhysArea.cacheable : PhysArea → Bool
  | .dram | .bootRom | .bootSram | .bootFlash => true
  | .coreLocal _ | .aperture => false

/-- Whether a core's access of `n` bytes ends in a bus error (R501, R502): outside the map, a write of the boot ROM, which
is read and execute only, or a non-secure access that touches what is secure. -/
def coreBusError (d : Dev) (a n : Nat) (wr ns : Bool) : Bool :=
  match physArea a with
  | none => true
  | some r => (ns && (r.secure || (r == .dram && (secureRegions d).any (fun q => a < q.2 && q.1 < a + n)))) || (wr && r == .bootRom)

/-- A core's access (R501, R502): DRAM goes through memory port 20, a bus error reaches nothing, and what lies elsewhere in
the map is not memory of the controller. -/
def coreAccess (e : Env) (d : Dev) (a len : Nat) (wr : Option (List Byte)) (ns : Bool) : Dev :=
  let n := match wr with | some b => b.length | none => len
  if coreBusError d a n wr.isSome ns then d.emit (.busError a)
  else if physArea a = some .dram then memAccept e d 20 a len wr
  else d

/-- The read of a port that its channel serves next (R385); with several channels the oldest. -/
def nextRead (e : Env) (d : Dev) (p : Nat) : Option MemReq :=
  d.memReads.find? (fun q => q.port == p && firstServed e d (chanReads d (reqPlace d q).1) == some q)

/-- A read of a port counted with its latency in ns: late beyond LAT_TARGET, offered at most once per 1 ms, and AGED where
AGE_LIMIT raised its urgency (R384, R405). -/
def portRead (e : Env) (d : Dev) (p len lat : Nat) : Dev :=
  let i := 0x1740 + p
  let late := decide (d.gn (0x1720 + p) 1 < lat)
  let limit := d.gn (0x1720 + p) 2
  let raised := limit ≤ lat && (decide (4 * limit < 3 * d.gn (0x1720 + p) 1) ||
    (overBudget e d p && decide (d.gn 0x1700 0x0A < 2)))
  let d2 := ((d.inc i 1).add i 3 len).peak i 4 lat
  let d3 := if late then d2.inc i 5 else d2
  let d4 := (if raised then d3.inc i 6 else d3).publish i
  let x := tabGet d4.memPorts {} p
  let offer := late && (match x.lateAt with | none => true | some a => a + 16000000 ≤ e.raw)
  if offer then { (d4.raise e 0x246 p) with memPorts := tabSet d4.memPorts p { x with lateAt := some e.raw } } else d4

/-- A read completes (R384, R385, R395): its block goes through the check, and the data is delivered; a port none of whose
reads is next in its channel gets nothing. `port` 0xFD is a read of the copy, of the raw slot `slot` of rank-channel
`rank`. -/
def memReadDone (e : Env) (d : Dev) (p kind symbol rank slot : Nat) : Dev :=
  if p = 0xFD then
    match d.mig with
    | none => d
    | some m =>
      if rank = m.src || rank = m.dst then
        let d1 := if rank = m.src then d.pub 0x1701 [(8, (slot / 10 + 1 : Nat))] else d
        memCheck e d1 rank 0xFD slot kind symbol
      else d
  else match nextRead e d p with
    | none => d
    | some q =>
      let (r, s, _) := hostDecode d q.addr
      let d1 := columnCommand e (rankServed e { d with memReads := d.memReads.erase q } r p) q
      let d2 := memCheck e (writesTurn e d1 (r / 2)) r p s kind symbol
      let d3 := portRead e d2 p q.len ((e.raw - q.at_) / 16)
      let (b, bad) := memRead d3 q.addr q.len
      let d4 := if p = 20 && bad then corePoison d3 q.addr else d3
      { d4.emit (.memData p q.addr bad) with resp := { status := stOK, val := .blob b } }

/-! ### Refresh, gusts and calm (R388 to R390) -/

/-- Whether a rank-channel has a request queued, from a real-time port or from any. -/
def rankQueued (d : Dev) (r : Nat) (rtOnly : Bool) : Bool :=
  (d.memReads ++ (d.memChan (r / 2)).writes).any (fun q => (hostDecode d q.addr).1 == r && (!rtOnly || portRt q.port))

/-- Whether a rank is in a gust (R388). -/
def inGust (e : Env) (d : Dev) (r : Nat) : Bool :=
  rankQueued d r true || (d.rank r).lastRt.any (fun a => e.raw < a + d.gn 0x1700 5 * 16)

/-- A refresh falls due (R388, R389). -/
def refreshDue (e : Env) (d : Dev) (r : Nat) (limit : Bool) : Dev :=
  let x := d.rank r
  let i := 0x1780 + r
  if !memReady d then d
  else
    let d1 :=
      if 0 < x.pulled then d.setRank r { x with pulled := x.pulled - 1, calm := false }
      else if inGust e d r then
        if x.postponed < 8 then
          ((d.setRank r { x with postponed := x.postponed + 1 }).peak i 4 (x.postponed + 1)).publish i
        else (d.incP i 5).raise e 0x245 r
      else d.setRank r { x with calm := false }
    if limit && !bit (d1.gn i 8) 0 then ((d1.setFlag i 8 0).publish i).raise e 0x248 r else d1

/-- A gust ends (R388): the postponed refreshes are issued, and up to PULL_IN pulled in. -/
def gustEnd (e : Env) (d : Dev) (r : Nat) : Dev :=
  if !memReady d || inGust e d r || (d.rank r).lastRt.isNone then d
  else
    d.setRank r { d.rank r with postponed := 0, lastRt := none,
                                pulled := if rankQueued d r false then 0 else d.gn 0x1700 6 }

/-- MR4 read (R389). -/
def mr4Read (d : Dev) (r v : Nat) : Dev := if memReady d then d.pub (0x1780 + r) [(7, (v % 256 : Nat))] else d

/-- Power-down (R390). -/
def calmEntry (e : Env) (d : Dev) (r : Nat) : Dev :=
  let x := d.rank r
  let ok := memReady d && d.gn 0x1700 4 ≠ 0 && !x.calm && !rankQueued d r false && !inGust e d r && x.postponed = 0 &&
    x.lastServed + d.gn 0x1700 4 * 16 ≤ e.raw
  if ok then (d.setRank r { x with calm := true }).incP (0x1780 + r) 6 else d

/-! ### Patrol scrub (R400) -/

/-- Whether the scrubber reads a rank-channel: it holds a slot or is a spare. -/
def scrubbed (d : Dev) (r : Nat) : Bool := (slotOf d r).isSome || tabFind d.spares (r / 8) == some r

/-- The next rank-channel from `r` on that is scrubbed. -/
def scrubFirst (d : Dev) (r : Nat) : Option Nat := ((List.range 96).filter (fun k => r ≤ k)).find? (scrubbed d)

/-- The scrubber's next read through the check; a pass ends after the last rank-channel. -/
def scrubRead (e : Env) (d : Dev) (kind blk symbol : Nat) : Dev :=
  if !memReady d then d
  else match scrubFirst d d.scrubAt.1 with
    | none => d
    | some r =>
      let w := if r = d.scrubAt.1 then d.scrubAt.2 else 0
      let d1 := memCheck e d r 0xFE (10 * w + min blk 8) kind symbol
      if w + 1 < eccGroups d then { d1 with scrubAt := (r, w + 1) }
      else match scrubFirst d1 (r + 1) with
        | some k => { d1 with scrubAt := (k, 0) }
        | none =>
          let secs := (e.raw - d1.scrubFrom) / 16000000000
          let behind := 2 * d1.gn 0x1700 0x0D < secs
          let d2 := (d1.inc 0x1701 0x0B).pub 0x1701 [(0x0C, (secs : Nat)), (0x0D, b2i behind)]
          { d2 with scrubAt := (0, 0), scrubFrom := e.raw }.raise e 0x247 0

/-! ### Start-up and resets (R391, R392) -/

/-- The slot map of a group under R380: rank 0 of its channels, then rank 1, the spare skipped. -/
def slotMap (g spare : Nat) : List Nat :=
  ([0, 2, 4, 6, 1, 3, 5, 7].filter (fun k => k != spare)).map (fun k => 8 * g + k)

/-- The slot map and the spare of a group once training has run: a failed rank-channel that holds a slot is replaced by
the spare; none where two failed. -/
def groupUp (g spare : Nat) (failed : List Nat) : Option (List Nat × Option Nat) :=
  let bad := (List.range 8).filter (fun k => failed.contains (8 * g + k))
  match bad with
  | [] => some (slotMap g spare, some (8 * g + spare))
  | [k] =>
    if k = spare then some (slotMap g spare, none)
    else some ((slotMap g spare).map (fun r => if r = 8 * g + k then 8 * g + spare else r), none)
  | _ => none

/-- Memory start-up (R391): training results by failed rank-channel. Answers whether the controller entered
IN_SERVICE. -/
def memStartup (e : Env) (d : Dev) (density : Nat) (failed : List Nat) : Bool × Dev :=
  let gs := (List.range 12).map (fun g => groupUp g (d.gn (0x1708 + g) 1) failed)
  if gs.any Option.isNone then (false, d)
  else
    let maps := (List.range 12).map (fun g => (g, ((nth gs g none).getD ([], none))))
    let grp := density * 134217728 / 640
    let d1 : Dev := { d with
      mem := [], poison := [], memReads := [], memPorts := [], memChans := [], ranks := [], migs := [], mig := none, memErrs := []
      memLost := [], scrubAt := (0, 0), scrubFrom := e.raw
      slots := maps.map (fun q => (q.1, q.2.1))
      spares := maps.filterMap (fun q => q.2.2.map (fun s => (q.1, s))) }
    let d2 := (d1.clearRange 0x1701 0x1701).clearRange 0x1780 0x17DF
    let d3 := ((d2.put 0x1700 2 density).put 0x1700 3 (84 * grp * 576 : Nat))
    let d4 := (List.range 96).foldl (fun d r =>
      unitMove e d (0x290 + r)
        (if (slotOf d r).isSome then .inService else if tabFind d.spares (r / 8) = some r then .shadow else .off)) d3
    let d5 := (List.range 12).foldl (fun d g => unitMove e d (0x0F0 + g) .inService) d4
    let d6 := (List.range 12).foldl (fun d g => if (tabFind d.spares g).isNone then d.raise e 0x244 g else d) d5
    (true, unitMove e d6 0x032 .inService)

/-- A warm reset or a unit reset of 0x032 (R392): queued reads and a migration in progress are abandoned; an abandoned
migration starts again from unit 0. -/
def memWarm (e : Env) (d : Dev) : Dev :=
  { d with memReads := [], memPorts := [], memChans := [], mig := d.mig.map (fun m => { m with at_ := e.raw }) }

/-! ### Commands -/

/-- MEM_REQUEST_ACCEPT (R386, R501, R502). -/
def execMemRequestAccept (t p a len : Nat) (ask : MemAsk) (s : State) : Host.Outcome State Fault Refusal :=
  mainStep (okMemPort p) t s fun e d =>
    if p = 20 then coreAccess e d a len ask.write ask.nonSecure else memAccept e d p a len ask.write

/-- MEM_READ_DONE (R395). -/
def execMemReadDone (t p kind symbol rank slot : Nat) (s : State) : Host.Outcome State Fault Refusal :=
  mainStep ((okMemPort p || p == 0xFD) && okRank rank) t s fun e d => memReadDone e d p kind symbol rank slot

/-- REFRESH_DUE (R388). -/
def execRefreshDue (t r : Nat) (limit : Bool) (s : State) : Host.Outcome State Fault Refusal :=
  mainStep (okRank r) t s fun e d => refreshDue e d r limit

/-- GUST_END (R388). -/
def execGustEnd (t r : Nat) (s : State) : Host.Outcome State Fault Refusal :=
  mainStep (okRank r) t s fun e d => gustEnd e d r

/-- MR4_READ (R389). -/
def execMr4Read (t r v : Nat) (s : State) : Host.Outcome State Fault Refusal :=
  mainStep (okRank r) t s fun _ d => mr4Read d r v

/-- CALM_ENTRY (R390). -/
def execCalmEntry (t r : Nat) (s : State) : Host.Outcome State Fault Refusal :=
  mainStep (okRank r) t s fun e d => calmEntry e d r

/-- MIGRATE_CMD (R397). -/
def execMigrateCmd (t : Nat) (m : Master) (v : Int) (s : State) : Host.Outcome State Fault Refusal :=
  mainStep (masterOk m) t s fun e d => migrateCmdWrite e d m v

/-- MIGRATION_START (R398). -/
def execMigrationStart (t : Nat) (s : State) : Host.Outcome State Fault Refusal :=
  mainStep true t s fun e d => migStart e d

/-- MIGRATION_DONE (R398). -/
def execMigrationDone (t : Nat) (s : State) : Host.Outcome State Fault Refusal :=
  mainStep true t s fun e d => migDone e d

/-- SCRUB_READ (R400). -/
def execScrubRead (t kind blk symbol : Nat) (s : State) : Host.Outcome State Fault Refusal :=
  mainStep true t s fun e d => scrubRead e d kind blk symbol

end Sys2Proof.Machine
end

