-- ==== Sys2Proof/Machine/Rings.lean ====
section
/-! DEFINITION. Records in rings of memory, the transmit side of the cascade link (R221, R222), and the taps
(R156 to R158, R219). -/

namespace Sys2Proof.Machine

/-! ### Rings -/

/-- The bytes from a write pointer to the ring's end. -/
def ringRoom (base size wp : Nat) : Nat := base + size - wp

/-- The bytes of a ring that its reader has not read. -/
def ringUnread (base size wp rp : Nat) : Nat :=
  let r := if base ≤ rp && rp < base + size then rp else base
  (wp + size - r) % size

/-- A record written at a ring's write pointer (R157): one that does not fit before the end is preceded by a pad record.
The new write pointer, and the device. -/
def ringWrite (d : Dev) (base size wp : Nat) (pad : Nat → List Byte) (rec : List Byte) : Nat × Dev :=
  let room := ringRoom base size wp
  let (at_, d1) := if room < rec.length then (base, memWrite d wp (pad room)) else (wp, d)
  let next := at_ + rec.length
  (if next = base + size then base else next, memWrite d1 at_ rec)

/-- Whether a record can be written without passing the read pointer: the pointers never meet on a full ring. -/
def ringFits (base size wp rp len : Nat) : Bool :=
  let pad := if ringRoom base size wp < len then ringRoom base size wp else 0
  decide (ringUnread base size wp rp + pad + len < size)

/-! ### Cascade packets sent (R221, R222) -/

/-- The exchange group of a side, and its spare group. -/
def exGroup (side : Nat) : Nat := 16 + side % 2
/-- The spare group of a side. -/
def spGroup (side : Nat) : Nat := 18 + side % 2

/-- The device number (R11, R578). -/
def devNo (d : Dev) : Nat := d.gn 0x1000 4

/-- A cascade packet (R221): header, payload, CRC. -/
def cascPacket (kind seq sender : Nat) (payload : List Byte) : List Byte :=
  let h := [BitVec.ofNat 8 kind, 0] ++ toBE 2 (payload.length / 4) ++ toBE 4 seq ++ toBE 2 sender ++ [0, 0, 0, 0]
  h ++ toBE 2 (crc16 h) ++ payload ++ toBE 4 (crc32c payload)

/-- A cascade packet sent on a side, where its group is up. -/
def cascSend (e : Env) (d : Dev) (side kind : Nat) (payload : List Byte) : Dev :=
  let k := side % 2 * 8 + kind
  let seq := tabGet d.cascTx 0 k
  let q := if kind = 5 then 0x47 + side % 2 else 0x45 + side % 2
  if linkUp d (if kind = 5 then spGroup side else exGroup side) then
    (qCommit { d with cascTx := tabSet d.cascTx k ((seq + 1) % 4294967296) } q).emit
      (.cascade side kind (cascPacket kind seq (devNo d) payload))
  else qDrop e d q 6 1

/-! ### Taps (R156 to R158, R163, R219) -/

/-- What a tap record says of its line (R157, R219). -/
structure TapInfo where
  tap : Nat
  port : Nat
  vcType : Nat
  flags : Nat
  line : Nat
  settings : Nat
  trig : Nat
  arrival : Nat
  firstCol : Nat
  colCount : Nat
  bits : Nat
  bank : Nat
  high : Nat

/-- Samples packed least significant bit first (R149). -/
def packLsb (bits : Nat) (l : List Nat) : List Byte :=
  let n := (l.reverse.foldl (fun a v => a * 2 ^ bits + v % 2 ^ bits) 0)
  toLE (ceilDiv (bits * l.length) 8) n

/-- A list of bytes padded to a multiple of 16. -/
def pad16 (b : List Byte) : List Byte := padTo b (ceilDiv b.length 16 * 16) 0

/-- A tap record (R157): each plane starts on a whole byte (DEDUCED, assumption log 40). -/
def tapRecord (x : TapInfo) (planes : List (Nat × List Nat)) (runs : List (Nat × Nat)) : List Byte :=
  let mask := planes.foldl (fun m q => m ||| 2 ^ q.1) 0
  let body := planes.flatMap (fun q => packLsb x.bits q.2)
  let tail := if bit x.flags 3 then toLE 2 runs.length ++ runs.flatMap (fun r => toLE 2 r.1 ++ toLE 2 r.2) else []
  let n := ceilDiv (32 + body.length + tail.length) 16 * 16
  let h := toLE 4 n ++ toLE 1 x.tap ++ toLE 1 x.port ++ toLE 1 x.vcType ++ toLE 1 x.flags ++ toLE 4 x.line
    ++ toLE 2 x.settings ++ toLE 2 x.trig ++ toLE 8 x.arrival ++ toLE 2 x.firstCol ++ toLE 2 x.colCount
    ++ toLE 1 x.bits ++ toLE 1 mask ++ toLE 1 x.bank ++ toLE 1 x.high
  pad16 (h ++ body ++ tail)

/-- A pad record (R157). -/
def tapPad (n : Nat) : List Byte := toLE 4 n ++ [0xFF] ++ List.replicate (n - 5) 0

/-- Whether a tap's ring is one (R157). -/
def tapRingOk (d : Dev) (i : Nat) : Bool :=
  let base := d.gn i 3
  let size := d.gn i 4
  base % 4096 == 0 && size % 4096 == 0 && decide (1048576 ≤ size)

/-- A record that a tap could not write (R158). -/
def tapDrop (d : Dev) (i : Nat) : Dev := d.inc i 0x0D

/-- Whether a record finds credit on its memory port: the controller's queues and their timing are not followed, so the answer
is a free value (R158, R245; assumption log 113). -/
def portCredit (d : Dev) : Bool × Dev := let (v, d1) := d.fresh 1; (v == 0, d1)

/-- A record of the tap at an index written to its destination, or dropped (R158). -/
def tapPut (e : Env) (d : Dev) (i : Nat) (rec : List Byte) : Dev :=
  let done (d : Dev) : Dev := d.inc i 0x0C
  if d.gn i 2 = 1 then
    let side := d.gn 0x1B10 7
    if linkUp d (spGroup side) && rec.length + 20 ≤ 262160 then done (cascSend e d side 5 rec) else tapDrop d i
  else
    let base := d.gn i 3
    let size := d.gn i 4
    let wp := d.gn i 0x0A
    if !tapRingOk d i || size ≤ rec.length then tapDrop d i
    else if d.gn i 5 = 1 && !ringFits base size wp (d.gn i 0x0B) rec.length then tapDrop d i
    else
      let (credit, d0) := portCredit d
      if credit then
        let (wp2, d1) := ringWrite d0 base size wp tapPad rec
        done (d1.put i 0x0A wp2)
      else tapDrop d0 i

/-- The columns a tap writes of a line of `n` columns: first and count. -/
def tapCols (d : Dev) (i n : Nat) : Nat × Nat :=
  let f := d.gn i 7
  let c := d.gn i 8
  let c2 := if c = 0 then n - f else min c (n - f)
  (f, c2)

/-- A line at a tap (R156): counted from arming, and every LINE_DECIM-th one written. -/
def tapLine (e : Env) (d : Dev) (i : Nat) (rec : Unit → List Byte) : Dev :=
  let st := tabGet d.taps {} i
  if !d.gb i 1 || !st.armed then d
  else
    let n := st.lines + 1
    let d1 := { d with taps := tabSet d.taps i { st with lines := n } }
    if n % max 1 (d.gn i 6) = 0 then tapPut e d1 i (rec ()) else d1

/-- ARM of a tap (R158): the ring restarts at RING_BASE, and the decimation count at 0. -/
def tapArm (d : Dev) (m : Master) (i : Nat) (v : Int) : Dev :=
  d.asWrite m i 0x0E v fun d =>
    (if v = 1 then { (d.put i 0x0A (d.gn i 3)) with taps := tabSet d.taps i { armed := true, lines := 0 } }
     else d).ended m stOK

/-- The objects of a tap that a command names: 0 and 1 of a port's camera line, 2 of its grid line, 3 of the raster line, 4
of the class line. -/
def tapIx (p k : Nat) : Nat :=
  match k with
  | 0 => 0x2050 + 0x100 * p | 1 => 0x2051 + 0x100 * p | 2 => 0x20A8 + 0x100 * p | 3 => 0x1B08 | _ => 0x3208

/-- TAP_ARM (R158, R219). -/
def execTapArm (t : Nat) (m : Master) (p k : Nat) (v : Int) (s : State) : Host.Outcome State Fault Refusal :=
  mainStep (masterOk m && okPort p && okTap k) t s fun _ d => tapArm d m (tapIx p k) v

end Sys2Proof.Machine
end

