-- ==== Sys2Proof/Machine/Pixel.lean ====
section
/-! DEFINITION. Pixel correction (chapter 6): coefficient banks and their swaps, stages 1 to 6, statistics, taps T0
and T1. -/

namespace Sys2Proof.Machine

/-- A port's pixel state. -/
def Dev.px (d : Dev) (p : Nat) : PixPort := tabGet d.pix {} p
/-- A port's pixel state written. -/
def Dev.setPx (d : Dev) (p : Nat) (x : PixPort) : Dev := { d with pix := tabSet d.pix p x }

/-- Index of a port's correction objects at offset `o`. -/
def cIdx (p o : Nat) : Nat := 0x2040 + 0x100 * p + o
/-- Index of bank `b` of a port. -/
def bankIdx (p b : Nat) : Nat := cIdx p (4 + b)

/-- The number of planes that PIPE_PLANES names, and LINE_PIXELS. -/
def linePixels (d : Dev) (p : Nat) : Nat := d.gn (tIdx p 0) 1

/-! ### Numbers in bytes -/

/-- The U16 values that bytes hold, least significant byte first. -/
def u16s : List Byte → List Nat
  | a :: b :: r => (a.toNat + 256 * b.toNat) :: u16s r
  | _ => []

/-- U16 values as bytes. -/
def ofU16s (l : List Nat) : List Byte := l.flatMap (toLE 2)

/-- A U16 as an I16. -/
def i16 (n : Nat) : Int := wrapI 16 n

/-! ### Banks (R151, R153, R161) -/

/-- A bank's DOMAIN object in the identity state (R153). -/
def bankIdent (d : Dev) (p sub : Nat) : List Byte :=
  let n := linePixels d p
  let k := planeCount d p
  match sub with
  | 3 => ofU16s ((List.range 16).map (fun i => if i % 5 = 0 then 4096 else 0)) ++ List.replicate 8 0
  | 4 => List.replicate (k * ceilDiv n 4) 0
  | 5 => List.replicate (2 * k * n) 0
  | 6 => (List.replicate (k * n) [(0 : Byte), 0x40]).flatten
  | 7 => (List.replicate k ((List.range 4097).flatMap (fun i => toLE 2 (min (16 * i) 65535)))).flatten
  | _ => []

/-- A DOMAIN object of a bank: what was written, else the identity at the port's present size. -/
def bankBytes (d : Dev) (p b sub : Nat) : List Byte :=
  match tabFind d.o (okey (bankIdx p b) sub) with
  | some v => v.bytes
  | none => bankIdent d p sub

/-- The CRC of a bank as it stands (R151): its DOMAIN objects in subindex order. -/
def bankCrcNow (d : Dev) (p b : Nat) : Nat := crc32c ([3, 4, 5, 6, 7].flatMap (bankBytes d p b))

/-- BANK_CRC of a bank as it reads (R151). -/
def bankCrc (d : Dev) (p b : Nat) : Nat :=
  match tabFind d.o (okey (cIdx p 2) (8 + b)) with
  | some v => v.int.toNat
  | none => bankCrcNow d p b

/-- A bank about to change: its CRC keeps reading as it stood before (R151). -/
def bankTouch (d : Dev) (p b : Nat) : Dev := d.put (cIdx p 2) (8 + b) (bankCrc d p b : Nat)

/-- BANK_CRC_UPDATE of a pixel bank (R151). -/
def bankCrcUpdate (d : Dev) (p b : Nat) : Dev := d.put (cIdx p 2) (8 + b) (bankCrcNow d p b : Nat)

/-- ACTIVE_BANK. -/
def activeBank (d : Dev) (p : Nat) : Nat := d.gn (cIdx p 2) 1

/-- Both banks of a port returned to identity (R153). -/
def bankReset (d : Dev) (p : Nat) : Dev :=
  let d1 := d.clearSubs (bankIdx p 0) [1, 2, 3, 4, 5, 6, 7]
  let d2 := d1.clearSubs (bankIdx p 1) [1, 2, 3, 4, 5, 6, 7]
  d2.clearSubs (cIdx p 2) [8, 9]

/-- Whether a write into a bank is refused (R151, R177). -/
def bankLocked (d : Dev) (p b : Nat) : Bool :=
  let x := d.px p
  activeBank d p == b || x.swap.isSome || x.copy.isSome || x.held

/-- The active bank copied into the other (R151). -/
def bankCopyDo (d : Dev) (p src dst : Nat) : Dev :=
  let d1 := bankTouch d p dst
  let one (d : Dev) (sub : Nat) : Dev :=
    match tabFind d.o (okey (bankIdx p src) sub) with
    | some v => d.putV (bankIdx p dst) sub v
    | none => d.clearSubs (bankIdx p dst) [sub]
  [1, 2, 3, 4, 5, 6, 7].foldl one d1

/-- A write of BANK_COPY (R151). -/
def bankCopyWrite (d : Dev) (m : Master) (p : Nat) (v : Int) : Dev :=
  d.asWrite m (cIdx p 2) 7 v fun d =>
    let x := d.px p
    if v = 0 then d.ended m stOK
    else if x.swap.isSome || x.copy.isSome || x.held then d.reject m (cIdx p 2)
    else (d.setPx p { x with copy := some (activeBank d p, 1 - activeBank d p) }).ended m stOK

/-- BANK_COPY_DONE (R151). -/
def bankCopyDone (d : Dev) (p : Nat) : Dev :=
  match (d.px p).copy with
  | some (a, b) => (bankCopyDo d p a b).setPx p { d.px p with copy := none }
  | none => d

/-! ### Bank swaps (R152, R153) -/

/-- Whether a line number is at or ahead of another (R133). -/
def lineAtOrAhead (n p : Nat) : Bool := n % 4294967296 == p % 4294967296 || lineAhead n p

/-- A swap request (R152, R153): it replaces one that has not taken effect. Value 4 cancels. -/
def swapRequest (d : Dev) (p value : Nat) : Dev :=
  let pt := d.pt p
  let d1 := d.setPt p { pt with ingress := pt.ingress.map (fun l => { l with bankSwap := false }) }
  if value = 4 then
    if (d.px p).swap.isSome then (d1.setPx p { d.px p with swap := none }).put (cIdx p 2) 4 0 else d1
  else
    let line := d.gn (cIdx p 2) 3
    let late := value == 3 && pt.lastDone.any (fun l => lineAhead l line)
    let rq : SwapReq := { value := if late then 1 else value, line := line, late := late, fixed := false }
    (d1.setPx p { d.px p with swap := some rq }).put (cIdx p 2) 4 1

/-- A write of SWAP_REQUEST (R152). -/
def swapWrite (d : Dev) (m : Master) (p : Nat) (v : Int) : Dev :=
  d.asWrite m (cIdx p 2) 2 v fun d => (swapRequest d p v.toNat).ended m stOK

/-- A committed line under a pending swap (R152, R153): the line that is the boundary carries it. -/
def swapCommit (d : Dev) (p : Nat) (ln : CamLine) : CamLine × Dev :=
  match (d.px p).swap with
  | some rq =>
    let here := match rq.value with
      | 1 => true
      | 2 => bit ln.flags 7
      | _ => lineAtOrAhead ln.line rq.line
    if here && !rq.fixed then
      ({ ln with bankSwap := true }, d.setPx p { d.px p with swap := some { rq with fixed := true } })
    else (ln, d)
  | none => (ln, d)

/-- An SOS line was dropped (R153): a swap that waits for it takes the first committed line past it. -/
def swapSosDropped (d : Dev) (p : Nat) : Dev :=
  match (d.px p).swap with
  | some rq => if rq.value = 2 && !rq.fixed then d.setPx p { d.px p with swap := some { rq with value := 1 } } else d
  | none => d

/-- The swap takes effect at its boundary line (R152, R164). -/
def swapNow (e : Env) (d : Dev) (p : Nat) (ln : CamLine) : Dev :=
  let x := d.px p
  let late := x.swap.any (fun r => r.late)
  let d1 := d.setPx p { x with swap := none, held := false }
  let d2 := (d1.put (cIdx p 2) 1 (1 - activeBank d p : Nat)).put (cIdx p 2) 4 (if late then 3 else 2)
  let d3 := ((d2.put (cIdx p 2) 5 ln.line).put (cIdx p 2) 6 ln.arrival).inc (cIdx p 2) 0x0A
  portEvent e d3 p 5 0

/-! ### Stage 1: unpack (R117, R144) -/

/-- `n` samples of `b` bits from a number of `total` bits, the first in its highest bits. -/
def takeBits (b total v : Nat) : Nat → List Nat
  | 0 => []
  | n + 1 => (v >>> (total - b)) % 2 ^ b :: takeBits b (total - b) v n

/-- The samples of a payload (R117): eight samples fill `b` whole bytes. -/
def unpackGo (b : Nat) : Nat → List Byte → List Nat
  | 0, _ => []
  | f + 1, bs => takeBits b (8 * b) (ofBE (padTo (bs.take b) b 0)) 8 ++ unpackGo b f (bs.drop b)

/-- The native samples of one plane's payload (R117, R144). -/
def unpack (b n : Nat) (timeExt : Bool) (payload : List Byte) : List Nat :=
  (unpackGo b (ceilDiv n 8) (if timeExt then payload.drop 8 else payload)).take n

/-- SAT_LEVEL as a native code (R144). -/
def satLevel (d : Dev) (p b : Nat) : Nat :=
  let s := d.gn (cIdx p 0) 5
  if s = 0xFFFF then 2 ^ b - 1 else s

/-! ### Stages 2 to 4 -/

/-- A sample with its bits as it goes through the stages: value, dead-mask, saturation, clip-low, clip-high. -/
structure Px where
  v : Int
  dead : Bool := false
  sat : Bool := false
  low : Bool := false
  high : Bool := false

/-- A value brought into U16, with the clip bits (R146). -/
def Px.clip (x : Px) (v : Int) : Px :=
  if v < 0 then { x with v := 0, low := true } else if 65535 < v then { x with v := 65535, high := true }
  else { x with v := v }

/-- The distance to the nearest GOOD code among the next four, and its sample (R145). -/
def goodWithin : Nat → Nat → List Nat → List Px → Option (Nat × Int)
  | 0, _, _, _ => none
  | f + 1, k, c :: cs, x :: xs => if c = 0 then some (k, x.v) else goodWithin f (k + 1) cs xs
  | _ + 1, _, _, _ => none

/-- A dead pixel's replacement (R145): code, the pixel, its neighbours to the left (nearest first) and to the right. -/
def deadOne (code : Nat) (x : Px) (l r : Option (Nat × Int)) : Px :=
  let nearest : Px :=
    match l, r with
    | some (a, va), some (c, vc) => { x with v := if c < a then vc else va }
    | some (_, va), none => { x with v := va }
    | none, some (_, vc) => { x with v := vc }
    | none, none => { x with dead := true }
  match code with
  | 0 => x
  | 1 =>
    match l, r with
    | some (a, va), some (c, vc) =>
      { x with v := va + ((vc - va) * a + ((a + c) / 2 : Nat)).tdiv ((a + c : Nat) : Int) }
    | _, _ => nearest
  | 2 => nearest
  | _ => { x with dead := true }

/-- Stage 2 over a plane: `lc`, `lx` are the codes and samples to the left, nearest first. -/
def deadGo : List Nat → List Px → List Nat → List Px → List Px
  | lc, lx, c :: cs, x :: xs =>
    deadOne c x (goodWithin 4 1 lc lx) (goodWithin 4 1 cs xs) :: deadGo (c :: lc.take 3) (x :: lx.take 3) cs xs
  | _, _, _, _ => []

/-- The four codes in a byte of a dead map. -/
def deadCodes (b : Byte) : List Nat := [b.toNat % 4, b.toNat / 4 % 4, b.toNat / 16 % 4, b.toNat / 64]

/-- The codes of plane `j` of a dead map (R161). -/
def deadPlane (n j : Nat) (b : List Byte) : List Nat :=
  let k := ceilDiv n 4
  ((slice b (j * k) k).flatMap deadCodes).take n

/-- Stage 3 for one pixel (R146). -/
def flatOne (gg ped : Nat) (x : Px) (dark gain : Nat) : Px :=
  let df := x.v - dark
  let g := (df * gain + 8192) / 16384
  let h := (g * gg + 2048) / 4096
  x.clip (h + ped)

/-- Three lists walked together. -/
def zip3 {α β γ δ : Type} (f : α → β → γ → δ) : List α → List β → List γ → List δ
  | a :: as, b :: bs, c :: cs => f a b c :: zip3 f as bs cs
  | _, _, _ => []

/-- Stage 4 for one pixel (R147). -/
def lutOne (lut : Array Nat) (x : Px) : Px :=
  let y := x.v.toNat
  let i := y / 16
  let a : Int := lut.getD i 0
  let b : Int := lut.getD (i + 1) 0
  x.clip (a + ((b - a) * (y % 16 : Nat) + 8) / 16)

/-! ### Stage 5: colour matrix (R148) -/

/-- The inputs of a pixel over the planes: each plane's sample, in ascending order. -/
def columns : List (List Px) → Nat → List (List Px)
  | _, 0 => []
  | ls, n + 1 => ls.filterMap List.head? :: columns (ls.map List.tail) n

/-- One output of the matrix: its row, its offset, the inputs. The pixel keeps the bits of all its inputs. -/
def matrixOne (row : List Int) (offset : Int) (base : Px) (zs : List Px) : Px :=
  let acc := sumI (List.zipWith (fun m (z : Px) => m * z.v) row zs)
  base.clip ((acc + 2048) / 4096 + offset)

/-- The bits of a pixel's inputs together. -/
def pxOr (zs : List Px) : Px :=
  zs.foldl (fun a z => { v := 0, dead := a.dead || z.dead, sat := a.sat || z.sat, low := a.low || z.low,
                         high := a.high || z.high }) { v := 0 }

/-! ### Stage 6 and validity (R149, R150) -/

/-- An output sample (R149). -/
def outSample (bits : Nat) (v : Int) : Nat := if bits = 16 then v.toNat else min ((v.toNat + 8) / 16) 4095

/-- Whether a column lies in one of the column masks (R159). -/
def colMasked (masks : List (Nat × Nat)) (i : Nat) : Bool := masks.any (fun m => m.1 ≤ i && i ≤ m.2)

/-- The column masks in force. -/
def colMasks (d : Dev) (p : Nat) : List (Nat × Nat) :=
  ((List.range 8).map (fun k => d.gn (cIdx p 1) (k + 1))).filterMap (fun v =>
    if v / 65536 ≤ v % 65536 then some (v / 65536, v % 65536) else none)

/-- Maximal runs of true from a column on. -/
def runsOf : Nat → Option Nat → List Bool → List (Nat × Nat)
  | _, none, [] => []
  | i, some a, [] => [(a, i - 1)]
  | i, none, b :: r => runsOf (i + 1) (if b then some i else none) r
  | i, some a, b :: r => if b then runsOf (i + 1) (some a) r else (a, i - 1) :: runsOf (i + 1) none r

/-- Runs separated by fewer than `gap` columns merged (R150), the run before them in hand. -/
def mergeGo (gap : Nat) (a : Nat × Nat) : List (Nat × Nat) → List (Nat × Nat)
  | [] => [a]
  | b :: r => if b.1 - a.2 - 1 < gap then mergeGo gap (a.1, b.2) r else a :: mergeGo gap b r

/-- Runs separated by fewer than `gap` columns merged (R150). -/
def mergeRuns (gap : Nat) : List (Nat × Nat) → List (Nat × Nat)
  | [] => []
  | a :: r => mergeGo gap a r

/-- The run list a line carries, and MASK_OVERFLOW (R150). -/
def lineRuns (gap n : Nat) (bad : List Bool) : List (Nat × Nat) × Bool :=
  let rs := mergeRuns gap (runsOf 0 none bad)
  if 256 < rs.length then
    match rs[255]? with
    | some a => (rs.take 255 ++ [(a.1, n - 1)], true)
    | none => (rs, false)
  else (rs, false)

/-! ### A line through the stages (R142) -/

/-- What the stages make of a line: native samples, the planes after stages 1, 3 and 4, and the corrected line. -/
structure LineWork where
  cam : CamLine
  native : List (Nat × List Nat)
  s1 : List (Nat × List Px)
  s3 : List (Nat × List Px)
  s4 : List (Nat × List Px)
  s5 : List (Nat × List Px)
  px : List Px
  ok : List Bool
  out : CorrLine

/-- Whether the pipeline that serves a port is in BYPASS (R559). -/
def inBypass (d : Dev) (p : Nat) : Bool := d.ustate (uPipe (servedBy d p)) == .bypass

/-- The outputs of stage 5 from its inputs (R148), those that OUT_PLANES selects, by output number. -/
def stage5 (d : Dev) (p b : Nat) (bypass : Bool) (zs : List (List Px)) (n : Nat) : List (Nat × List Px) :=
  let outs := bitsOf 4 (d.gn (cIdx p 0) 2)
  let zero : List Px := List.replicate n { v := 0 }
  if d.gb (bankIdx p b) 2 && !bypass then
    let m := (u16s (bankBytes d p b 3)).map i16
    let cols := columns zs n
    outs.map (fun k => (k, cols.map (fun c =>
      matrixOne ((m.drop (4 * k)).take 4) (nth m (16 + k) 0) { v := 0 } c)))
  else outs.map (fun k => (k, (nth zs k zero).map (fun z => { v := z.v })))

/-- A mean of U16 values rounded half up (R154). -/
def meanU (sum cnt : Nat) : Nat := if cnt = 0 then 0 else (2 * sum + cnt) / (2 * cnt)

/-- Sum and count of the values whose pixel is valid. -/
def sumValid : List Px → List Bool → Nat × Nat
  | x :: xs, v :: vs => let (s, c) := sumValid xs vs; if v then (s + x.v.toNat, c + 1) else (s, c)
  | _, _ => (0, 0)

/-- The sums and counts of the zones of a plane (R154): each `w` wide, the last with the remainder. -/
def zoneSums (w : Nat) : Nat → List Px → List Bool → List (Nat × Nat)
  | 0, _, _ => []
  | 1, xs, vs => [sumValid xs vs]
  | z + 1, xs, vs => sumValid (xs.take w) (vs.take w) :: zoneSums w z (xs.drop w) (vs.drop w)

/-- The planes at STAT_POINT (R155). -/
def statPlanes (d : Dev) (p : Nat) (w : LineWork) : List (Nat × List Px) :=
  match d.gn (cIdx p 8) 1 with | 0 => w.s1 | 1 => w.s3 | _ => w.s5

/-- The zones of a plane of a line. -/
def lineZones (d : Dev) (p : Nat) (w : LineWork) (xs : List Px) : List (Nat × Nat) :=
  let z := d.gn (cIdx p 8) 2
  zoneSums (linePixels d p / max 1 z) z xs w.ok

/-- Stages 1 to 6 over a line (R142 to R150). -/
def correctLine (d : Dev) (p : Nat) (ln : CamLine) : LineWork :=
  let n := linePixels d p
  let b := fmtBits (d.gn (tIdx p 0) 2)
  let bank := activeBank d p
  let byp := inBypass d p
  let sat := satLevel d p b
  let native := ln.planes.map (fun q => (q.1, unpack b n (bit ln.flags 5) q.2))
  let s1 := native.map (fun q => (q.1, q.2.map (fun x => ({ v := (x * 2 ^ (16 - b) : Nat), sat := sat ≤ x } : Px))))
  let dead := bankBytes d p bank 4
  let darks := u16s (bankBytes d p bank 5)
  let gains := u16s (bankBytes d p bank 6)
  let luts := u16s (bankBytes d p bank 7)
  let gg := d.gn (cIdx p 0) 3
  let ped := d.gn (cIdx p 0) 4
  let ix := (List.range s1.length).zip s1
  let s3 := if byp then s1 else ix.map (fun (j, q) =>
    (q.1, zip3 (flatOne gg ped) (deadGo [] [] (deadPlane n j dead) q.2) ((darks.drop (j * n)).take n)
      ((gains.drop (j * n)).take n)))
  let s4 := if byp || !d.gb (bankIdx p bank) 1 then s3 else
    ((List.range s3.length).zip s3).map (fun (j, q) =>
      let lut := ((luts.drop (4097 * j)).take 4097).toArray
      (q.1, q.2.map (lutOne lut)))
  let s5 := stage5 d p bank byp (s4.map (·.2)) n
  let px := (columns (s4.map (·.2) ++ s5.map (·.2)) n).map pxOr
  let src := d.gn (cIdx p 0) 6
  let masks := if bit src 3 then colMasks d p else []
  let bad := zip3 (fun i (x : Px) (_ : Unit) =>
    (bit src 0 && x.dead) || (bit src 1 && x.sat) || (bit src 2 && x.high) || colMasked masks i)
    (List.range n) px (List.replicate n ())
  let (runs, ovf) := lineRuns (d.gn (cIdx p 0) 7) n bad
  let bits := d.gn (cIdx p 0) 1
  let out : CorrLine :=
    { cam := { ln with planes := [] }, planes := s5.map (fun q => (q.1, q.2.map (fun x => outSample bits x.v))),
      bits := bits, runs := runs, overflow := ovf, clip := px.any (fun x => x.low || x.high), bank := bank, means := [] }
  let w : LineWork :=
    { cam := ln, native := native, s1 := s1, s3 := s3, s4 := s4, s5 := s5, px := px, ok := bad.map (! ·), out := out }
  let means := (statPlanes d p w).map (fun q =>
    let zs := lineZones d p w q.2
    let all := sumValid q.2 w.ok
    (q.1, meanU all.1 all.2, zs.map (fun z => if z.2 = 0 then none else some (meanU z.1 z.2))))
  { w with out := { out with means := if d.gb (cIdx p 8) 4 then means else [] } }

/-! ### Statistics (R155, R162) -/

/-- One added to the entry of a list. -/
def bump : List Nat → Nat → List Nat
  | [], _ => []
  | a :: r, 0 => (a + 1) :: r
  | a :: r, i + 1 => a :: bump r i

/-- A plane's valid samples added to a histogram. -/
def histAdd : List Nat → List Px → List Bool → List Nat
  | h, x :: xs, v :: vs => histAdd (if v then bump h (x.v.toNat / 256) else h) xs vs
  | h, _, _ => h

/-- Sums and counts added zone by zone. -/
def zonesAdd : List (Nat × Nat) → List (Nat × Nat) → List (Nat × Nat)
  | a :: as, b :: bs => ((a.1 + b.1) % 2 ^ 64, (a.2 + b.2) % 2 ^ 32) :: zonesAdd as bs
  | [], bs => bs
  | as, [] => as

/-- How many valid pixels have a bit. -/
def countPx (f : Px → Bool) : List Px → List Bool → Nat
  | x :: xs, v :: vs => b2n (v && f x) + countPx f xs vs
  | _, _ => 0

/-- A line added to its strip's statistics (R155). -/
def statLine (d : Dev) (p : Nat) (w : LineWork) : Dev :=
  match w.cam.strip with
  | none => d
  | some first =>
    let x := d.px p
    let bank := w.out.bank
    let a := (x.stats.find? (fun a => a.strip == first)).getD { strip := first, settings := w.cam.settings, bank := bank }
    let a1 := { a with mixed := a.mixed || a.bank != bank }
    let skip := bit w.cam.flags 6 && d.gb (cIdx p 8) 3
    let pls := statPlanes d p w
    let a2 := if skip then a1 else
      { a1 with
        used := a1.used + 1, valid := a1.valid + (w.ok.filter id).length,
        sat := a1.sat + countPx (·.sat) w.px w.ok, low := a1.low + countPx (·.low) w.px w.ok,
        high := a1.high + countPx (·.high) w.px w.ok,
        hist := pls.foldl (fun t q => tabSet t q.1 (histAdd (tabGet t (List.replicate 256 0) q.1) q.2 w.ok)) a1.hist,
        sums := pls.foldl (fun t q => tabSet t q.1 (zonesAdd (tabGet t [] q.1) (lineZones d p w q.2))) a1.sums }
    let rest := x.stats.filter (fun a => a.strip != first)
    d.setPx p { x with stats := rest ++ [a2] }

/-- The statistics of a strip published (R155, R162). -/
def statPublish (e : Env) (d : Dev) (p : Nat) (a : StatAcc) : Dev :=
  let i := cIdx p 9
  let zs (f : Nat × Nat → List Byte) (z : List Byte) : List Byte :=
    (List.range 4).flatMap (fun k =>
      let l := tabGet a.sums [] k
      (List.range 64).flatMap (fun j => match l[j]? with | some q => f q | none => z))
  let d1 := d.putB i 0x0A ((List.range 4).flatMap (fun k => (tabGet a.hist (List.replicate 256 0) k).flatMap (toLE 4)))
  let d2 := d1.putB i 0x0B (zs (fun q => toLE 8 q.1) (toLE 8 0))
  let d3 := d2.putB i 0x0C (zs (fun q => toLE 4 q.2) (toLE 4 0))
  let d4 := d3.pub i [(1, (a.strip : Nat)), (2, (a.settings : Nat)), (3, ((a.bank + if a.mixed then 2 else 0) : Nat)),
    (4, ((a.closed.getD 0) : Nat)), (5, ((min a.used 65535) : Nat)), (6, (a.valid : Nat)), (7, (a.sat : Nat)),
    (8, (a.low : Nat)), (9, (a.high : Nat))]
  portEvent e d4 p 6 0

/-- The closed strips of which no line is left to correct published, oldest first (R155). -/
def statSettle (e : Env) (d : Dev) (p : Nat) : Dev :=
  let x := d.px p
  let open_ (a : StatAcc) : Bool := a.closed.isNone || (d.pt p).ingress.any (fun l => l.strip == some a.strip)
  let d1 := d.setPx p { x with stats := x.stats.filter open_ }
  (x.stats.filter (fun a => !open_ a)).foldl (fun d a => statPublish e d p a) d1

/-- A strip closed (R136, R155): one without a line publishes all the same. -/
def statStripEnd (e : Env) (d : Dev) (p : Nat) (st : Strip) (flags : Nat) : Dev :=
  let x := d.px p
  let a := (x.stats.find? (fun a => a.strip == st.first)).getD
    { strip := st.first, settings := st.settings, bank := activeBank d p }
  let rest := x.stats.filter (fun a => a.strip != st.first)
  statSettle e (d.setPx p { x with stats := rest ++ [{ a with closed := some flags }] }) p

/-! ### Taps T0 and T1 (R156, R157) -/

/-- The FLAGS of a tap record (R157). -/
def tapFlags (camFlags : Nat) (clip : Bool) (runs ovf : Bool) : Nat :=
  b2n (bit camFlags 6) + 2 * b2n (bit camFlags 7) + 4 * b2n clip + 8 * b2n runs + 16 * b2n ovf

/-- A camera line at a tap of its port. -/
def camTap (e : Env) (d : Dev) (p k : Nat) (ln : CamLine) (planes : List (Nat × List Nat)) (bits n : Nat)
    (clip ovf : Bool) (runs : List (Nat × Nat)) : Dev :=
  let i := tapIx p k
  let (f, c) := tapCols d i n
  tapLine e d i fun _ =>
    tapRecord
      { tap := k, port := p, vcType := ln.vcType, flags := tapFlags ln.flags clip (!runs.isEmpty) ovf, line := ln.line,
        settings := ln.settings, trig := ln.trig, arrival := ln.arrival, firstCol := f, colCount := c, bits := bits,
        bank := activeBank d p, high := 0 }
      (planes.map (fun q => (q.1, (q.2.drop f).take c))) runs

/-- Tap T0 (R156): native samples of the VCs that VC_SELECT selects. -/
def tap0 (e : Env) (d : Dev) (p : Nat) (ln : CamLine) (native : List (Nat × List Nat)) (bits n : Nat) : Dev :=
  if bit (d.gn (tapIx p 0) 9) (field ln.vcType 7 6) then camTap e d p 0 ln native bits n false false [] else d

/-- A line of `n` pixels that the pipeline does not take, passed to T0 (R132 check 7, R156). -/
def tap0Unselected (e : Env) (d : Dev) (p : Nat) (ln : CamLine) (n : Nat) : Dev :=
  let b := fmtBits (field ln.vcType 3 0)
  tap0 e d p ln (ln.planes.map (fun q => (q.1, unpack b n (bit ln.flags 5) q.2))) b n

/-! ### LINE_CORRECT -/

/-- What other chapters do with a corrected line: calibration and the chains take it, the in-service test compares it. -/
structure PixHooks where
  onLine : Env → Dev → Nat → LineWork → Dev
  onCompare : Env → Dev → Nat → CamLine → Bool → Option Nat → Dev

/-- The serving pipeline takes a port's oldest committed line (R142). `skip` says that a shadowing pipeline missed it,
`diff` the first differing column where the two pipelines' outputs differ. -/
def lineCorrect (h : PixHooks) (e : Env) (d : Dev) (p : Nat) (skip : Bool) (diff : Option Nat) : Dev :=
  match (d.pt p).ingress with
  | [] => d
  | ln :: rest =>
    let d0 := d.setPt p { d.pt p with ingress := rest }
    let d1 := (d0.takeShadow (cIdx p 0) (cIdx p 1))
    let d2 := if ln.bankSwap then swapNow e d1 p ln else d1
    let w := correctLine d2 p ln
    let d3 := giveBank d2 p ln.bank e.raw
    let d4 := tap0 e d3 p ln w.native (fmtBits (d3.gn (tIdx p 0) 2)) (linePixels d3 p)
    let d5 := camTap e d4 p 1 ln w.out.planes w.out.bits (linePixels d4 p) w.out.clip w.out.overflow w.out.runs
    let d6 := if w.out.overflow then portEvent e d5 p 7 0 else d5
    let d7 := statLine d6 p w
    let d8 := if ln.cal then d7 else { d7 with corr := tabSet d7.corr p (tabGet d7.corr [] p ++ [w.out]) }
    let d9 := h.onCompare e (h.onLine e (qCommit d8 (0x10 + p)) p w) p ln skip diff
    statSettle e d9 p

/-- SWAP_NEXT_LINE (R152). -/
def execSwapNextLine (t : Nat) (m : Master) (p : Nat) (s : State) : Host.Outcome State Fault Refusal :=
  mainStep (masterOk m && okPort p) t s fun _ d => swapWrite d m p 1

/-- SWAP_NEXT_SOS (R152). -/
def execSwapNextSos (t : Nat) (m : Master) (p : Nat) (s : State) : Host.Outcome State Fault Refusal :=
  mainStep (masterOk m && okPort p) t s fun _ d => swapWrite d m p 2

/-- SWAP_AT_LINE (R152, R153). -/
def execSwapAtLine (t : Nat) (m : Master) (p : Nat) (s : State) : Host.Outcome State Fault Refusal :=
  mainStep (masterOk m && okPort p) t s fun _ d => swapWrite d m p 3

/-- SWAP_CANCEL (R152). -/
def execSwapCancel (t : Nat) (m : Master) (p : Nat) (s : State) : Host.Outcome State Fault Refusal :=
  mainStep (masterOk m && okPort p) t s fun _ d => swapWrite d m p 4

/-- BANK_COPY (R151). -/
def execBankCopy (t : Nat) (m : Master) (p : Nat) (v : Int) (s : State) : Host.Outcome State Fault Refusal :=
  mainStep (masterOk m && okPort p) t s fun _ d => bankCopyWrite d m p v

/-- BANK_COPY_DONE (R151). -/
def execBankCopyDone (t p : Nat) (s : State) : Host.Outcome State Fault Refusal :=
  mainStep (okPort p) t s fun _ d => bankCopyDone d p

end Sys2Proof.Machine
end

