-- ==== Sys2Proof/Machine/Placer.lean ====
section
/-! DEFINITION. Placing lines by position and the MD resampler (chapter 8): R188 to R206. -/

namespace Sys2Proof.Machine

/-- What other chapters do with a placed line: its midpoint, web position and flags. -/
structure PlaceHooks where
  onPlaced : Env → Dev → Nat → CamLine → Nat → Int → Nat → Dev

/-- The placer side of a port. -/
def Dev.pl (d : Dev) (p : Nat) : PlacePort := tabGet d.place {} p
/-- The placer side of a port written. -/
def Dev.setPl (d : Dev) (p : Nat) (x : PlacePort) : Dev := { d with place := tabSet d.place p x }

/-- PLACE_INPUT. -/
def placeInput (d : Dev) : Nat := d.gn 0x3000 1

/-- Whether unit 0x00A works on lines: in every state but OFF. -/
def placerOn (d : Dev) : Bool := d.ustate 0x00A != .off

/-- How far stamp `a` lies after stamp `b`, modulo 2^64. -/
def stampDiff (a b : Nat) : Int := wrapI 64 ((a : Int) - b)

/-- The exposure midpoint (R188). -/
def midTime (ln : CamLine) : Nat :=
  let base : Int := (ln.trigStamp : Int) + ln.linkDelay + ln.trim
  match ln.freeNs with
  | none => wrapU 64 (base + 16 * ln.expDelay + 8 * ln.exposure)
  | some o => wrapU 64 (base + 16 * o)

/-- The edge after a midpoint, if it was counted, and the edge at or before it (R191): edges newest first. -/
def edgesAround (mid : Nat) : Option Edge → List Edge → Option Edge × Option Edge
  | nx, [] => (nx, none)
  | nx, g :: r => if 0 ≤ stampDiff mid g.stamp then (nx, some g) else edgesAround mid (some g) r

/-- The fraction of R191 and R192. -/
def placeFrac (mid tk dt : Nat) : Int :=
  if dt = 0 then 0xFFFF else min ((stampDiff mid tk * 65536) / dt) 0xFFFF

/-- Whether STANDSTILL was set before a midpoint (R192). -/
def stoodStill (d : Dev) (n mid : Nat) : Bool := (d.enc n).standstill && 0 < stampDiff mid (d.enc n).stillStamp

/-- Whether a midpoint lies in a reversal interval, or after the setting stamp while REVERSE is set (R58). -/
def inReversal (d : Dev) (n mid : Nat) : Bool :=
  (d.enc n).revs.any (fun r => 0 ≤ stampDiff mid r.1 &&
    (match r.2 with | none => (d.enc n).reverse | some b => decide (stampDiff mid b ≤ 0)))

/-- Where a line's midpoint lies on the web, and whether the hold rule was used (R191, R192): none while the placer still
waits, or where the line is stale (R189). -/
inductive Placed where
  | waits
  | stale
  | at_ (wp : Int) (held suspect : Bool)

/-- The hold rule while the web may move (R192): never beyond one count past the edge. An edge without an interval before it holds
the line at its own position, as R61 holds the estimate (DESIGN CHOICE, assumption log 115). -/
def holdAt (a : Edge) (mid : Nat) : Int :=
  if a.dt = 0 then a.pos else min (a.pos + placeFrac mid a.stamp a.dt * a.step / 65536) (a.pos + 65535)

/-- The placement of a midpoint as the edges stand (R189, R191, R192). A midpoint with no edge kept at all waits as long as the hold
rule lets one, and is stale then (DEDUCED, assumption log 49). -/
def placeAt (e : Env) (d : Dev) (mid : Nat) : Placed :=
  let n := placeInput d
  let x := d.enc n
  match edgesAround mid none x.edges with
  | (_, none) => if x.edges.isEmpty && !stoodStill d n mid && stampDiff (nowA e d) mid < d.gn 0x3000 4 * 16000 then .waits
                 else .stale
  | (some b, some a) =>
    let f := placeFrac mid a.stamp (wrapU 64 ((b.stamp : Int) - a.stamp))
    .at_ (a.pos + f * (b.pos - a.pos) / 65536) false b.suspect
  | (none, some a) =>
    if stoodStill d n mid then .at_ a.pos true x.suspect
    else if stampDiff (nowA e d) mid < (d.gn 0x3000 4 * 16000 : Nat) then .waits
    else .at_ (holdAt a mid) true x.suspect

/-! ### The grid (R195) -/

/-- The web position of a grid index: accumulated in Q48.32, used truncated to Q48.16. -/
def gridWp (d : Dev) (m : Int) : Int := (d.gi 0x3000 2 * 65536 + m * d.gn 0x3000 3) / 65536

/-- The first grid index at or above a web position. -/
def gridCeil (d : Dev) (wp : Int) : Int :=
  let pitch : Int := d.gn 0x3000 3
  if pitch = 0 then 0 else -((-((wp - d.gi 0x3000 2) * 65536)) / pitch)

/-! ### Accepting lines and holes (R194) -/

/-- The result group of a port. -/
def gIdx (p : Nat) : Nat := 0x3010 + p

/-- A hole counted and offered. -/
def holeCount (e : Env) (d : Dev) (p : Nat) : Dev := (d.incP (gIdx p) 0x0D).raise e 0x215 p

/-- A hole known above the last accepted line. -/
def holeAbove (e : Env) (d : Dev) (p : Nat) : Dev :=
  let x := d.pl p
  if x.acc.isEmpty || x.hole then d else holeCount e (d.setPl p { x with hole := true }) p

/-- Whether a trigger ID is left out of the ID test: echoed by a line set aside, or taken by the calibration trigger. -/
def idLeftOut (d : Dev) (p id : Nat) : Bool :=
  (d.pl p).leftOut.contains id || (d.trig p).calIds.any (fun r =>
    wrapU 16 ((id : Int) - r.1) ≤ wrapU 16 ((r.2 : Int) - r.1))

/-- The next trigger ID after one that is not left out. -/
def nextId (d : Dev) (p : Nat) : Nat → Nat → Nat
  | 0, id => id
  | f + 1, id => let n := (id + 1) % 65536; if idLeftOut d p n then nextId d p f n else n

/-- Whether a port's lines answer triggers, and carry no time extension (R123). -/
def triggered (d : Dev) (p : Nat) : Bool := d.gn (tIdx p 0) 5 = 0

/-- How many line numbers lie between those of two lines and belong to no line set aside or diverted. -/
def numbersMissing (x : PlacePort) (a b : AccLine) : Nat :=
  let k := wrapU 32 ((b.line : Int) - a.line)
  k - 1 - (x.aside.filter (fun n => let j := wrapU 32 ((n : Int) - a.line); 0 < j && j < k)).length

/-- Whether the source unit skipped a target between two lines (R68): by the IDs they echo, or in free-run mode by midpoints. -/
def skipBetween (d : Dev) (p : Nat) (a b : AccLine) : Bool :=
  (d.trig p).skipAfter.any (fun s =>
    if triggered d p then wrapU 16 ((s.1 : Int) - a.trig) < wrapU 16 ((b.trig : Int) - a.trig)
    else 0 ≤ stampDiff s.2 a.mid && stampDiff s.2 b.mid < 0)

/-- Whether two accepted lines in a row enclose a hole. -/
def holeBetween (d : Dev) (p : Nat) (a b : AccLine) : Bool :=
  numbersMissing (d.pl p) a b != 0
  || (triggered d p && nextId d p 65536 a.trig != b.trig)
  || skipBetween d p a b
  || decide ((d.gn 0x3000 6 : Int) * d.gn 0x3000 3 < (b.wp - a.wp) * 268435456)

/-- The notes of skips and of calibration triggers up to an accepted line, which no later hole needs. -/
def notesPast (d : Dev) (p : Nat) (b : AccLine) : Dev :=
  let g := d.trig p
  let skips := g.skipAfter.filter (fun s =>
    if triggered d p then decide (0 ≤ wrapI 16 ((s.1 : Int) - b.trig)) else decide (0 ≤ stampDiff s.2 b.mid))
  d.setTrig p { g with skipAfter := skips, calIds := g.calIds.filter (fun r => decide (0 < wrapI 16 ((r.2 : Int) - b.trig))) }

/-- A placed line set aside (R194). -/
def setAside (d : Dev) (p sub : Nat) (b : AccLine) : Dev :=
  let x := d.pl p
  (d.setPl p { x with aside := b.line :: x.aside, leftOut := b.trig :: x.leftOut }).incP (gIdx p) sub

/-- LINE_ACCEPT_OR_ASIDE (R194, R196). -/
def acceptLine (e : Env) (d : Dev) (p : Nat) (b : AccLine) : Dev :=
  let x := d.pl p
  let last := x.acc.getLast?
  if bit b.flags 1 then setAside d p 0x0B b
  else if last.any (fun a => b.wp ≤ a.wp) then setAside d p 0x0A b
  else
    let hole := last.any (fun a => x.hole || holeBetween d p a b)
    let d1 := if hole && !x.hole then holeCount e d p else d
    let n := x.count + 1
    let start := if n = 4 && x.next.isNone then some (gridCeil d b.wp) else x.next
    let x1 := { x with acc := x.acc ++ [{ b with hole := hole }], aside := x.aside.filter (fun k => lineAhead k b.line),
                       leftOut := [] }
    let d2 := (notesPast d1 p b).setPl p { x1 with hole := false, count := n, next := start }
    match x.next, start with
    | none, some m => d2.pub (gIdx p) [(5, gridWp d2 m)]
    | _, _ => d2

/-- A line that is not placed (R189, R415) or counts as lost (R165): a hole above the last accepted line. -/
def notPlaced (e : Env) (d : Dev) (p : Nat) : Dev := holeAbove e d p

/-- The flags of a placed line (R193). -/
def placedFlags (d : Dev) (ln : CamLine) (mid : Nat) (held suspect : Bool) : Nat :=
  b2n held + 2 * b2n (inReversal d (placeInput d) mid) + 4 * b2n suspect + 8 * b2n ln.freeNs.isSome
    + 16 * b2n (bit ln.flags 6) + 32 * b2n (bit ln.flags 7)

/-- The placement of a port's next line (R188 to R194). `full` says that the placement queue had no credit (R415);
`hold` says that the hold rule applies. -/
def placeNext (h : PlaceHooks) (e : Env) (d : Dev) (p : Nat) (full hold : Bool) : Dev :=
  let x := d.pl p
  match x.queue with
  | [] => d
  | q :: rest =>
    let ln := q.cam
    let mid := midTime ln
    match placeAt e d mid with
    | .waits => d
    | .stale =>
      if hold then d else notPlaced e ((d.setPl p { x with queue := rest }).incP (gIdx p) 0x0C) p
    | .at_ wp held suspect =>
      if held != hold then d
      else
        let fl := placedFlags d ln mid held suspect
        let d1 := if held then (d.setPl p { x with queue := rest }).inc (gIdx p) 9 else d.setPl p { x with queue := rest }
        let d2 := (d1.inc (gIdx p) 8).pub (gIdx p) [(1, (ln.line : Nat)), (2, (mid : Nat)), (3, wp), (4, (fl : Nat))]
        let d3 := h.onPlaced e d2 p ln mid wp fl
        if full then notPlaced e (qDrop e d3 (0x30 + p) 8 1) p
        else
          let d4 := qCommit d3 (0x30 + p)
          if q.lost then notPlaced e d4 p
          else acceptLine e d4 p
            { line := ln.line, trig := ln.trig, tTrig := ln.trigStamp, mid := mid, wp := wp, flags := fl,
              settings := ln.settings, arrival := ln.arrival, hole := false }

/-- A committed line handed to the placer (R188): of a diverted line of the calibration trigger it notes the number alone. -/
def placeCommit (d : Dev) (p : Nat) (ln : CamLine) (lost : Bool) : Dev :=
  let x := d.pl p
  if !placerOn d then d
  else if ln.cal then d.setPl p { x with aside := ln.line :: x.aside }
  else d.setPl p { x with queue := x.queue ++ [{ cam := { ln with planes := [] }, lost := lost }] }

/-- A committed line that its pipeline lost (R15, R413): while it waits to be placed it is marked, and once accepted it leaves a
hole in its place. -/
def placeLost (e : Env) (d : Dev) (p line arrival : Nat) : Dev :=
  let x := d.pl p
  let here (a : AccLine) : Bool := a.line == line && a.arrival == arrival
  let queue := x.queue.map (fun q => if q.cam.line == line && q.cam.arrival == arrival then { q with lost := true } else q)
  let d1 := d.setPl p { x with queue := queue }
  match x.acc.find? here, x.acc.dropWhile (fun a => !here a) with
  | some a, _ :: rest =>
    let before := x.acc.takeWhile (fun a => !here a)
    let d2 := if a.hole || (match rest with | b :: _ => b.hole | [] => x.hole) then d1 else holeCount e d1 p
    match rest with
    | b :: r => d2.setPl p { x with queue := queue, acc := before ++ { b with hole := true } :: r }
    | [] => d2.setPl p { x with queue := queue, acc := before, hole := true }
  | _, _ => d1

/-- A position set of the placement input (R197): held lines and the grid move with it. -/
def placeSet (d : Dev) (n : Nat) (dist : Int) : Dev :=
  if n ≠ placeInput d then d
  else
    let d1 := d.put 0x3000 2 (d.gi 0x3000 2 + dist)
    (List.range 16).foldl (fun d p =>
      let x := d.pl p
      let d2 := d.setPl p { x with acc := x.acc.map (fun a => { a with wp := a.wp + dist }) }
      match x.next with | some m => d2.pub (gIdx p) [(5, gridWp d2 m)] | none => d2) d1

/-! ### Coefficients (R198, R199, R202) -/

/-- The eight taps of a class and phase in a table of `phases` phases a class. -/
def tapsOf (table : List Byte) (phases cls phase : Nat) : List Int :=
  (u16s (slice table ((cls * phases + phase) * 16) 16)).map i16

/-- The first phase whose taps do not sum to 16,384 (R202). -/
def badPhase : Nat → Nat → List Byte → Option Nat
  | 0, _, _ => none
  | f + 1, k, b => if sumI ((u16s (b.take 16)).map i16) = 16384 then badPhase f (k + 1) (b.drop 16) else some k

/-- A coefficient table that swaps (R202, R218): the indices of its control, loading and active objects, its phases
over all classes, and its event. -/
structure CoefObj where
  ctl : Nat
  load : Nat
  active : Nat
  total : Nat
  event : Nat

/-- The MD table (R204). -/
def mdObj : CoefObj := { ctl := 0x3001, load := 0x3002, active := 0x3003, total := 1024, event := 0x217 }

/-- COEF_CRC_LOAD as it reads. -/
def coefCrcLoad (d : Dev) (o : CoefObj) (crcSub : Nat) : Nat :=
  match tabFind d.o (okey o.ctl crcSub) with
  | some v => v.int.toNat
  | none => crc32c (d.gB o.load 1)

/-- The loading copy about to change: its CRC keeps reading as it stood (R202). -/
def coefTouch (d : Dev) (o : CoefObj) (crcSub : Nat) : Dev := d.put o.ctl crcSub (coefCrcLoad d o crcSub : Nat)

/-- A swap requested at an index, none where no line has been begun (R202): a failing sum refuses it. -/
def coefRequest (d : Dev) (o : CoefObj) (s : CoefSwap) (w : Option Int) : CoefSwap × Dev :=
  match badPhase o.total 0 (d.gB o.load 1) with
  | some k => (s, (d.put o.ctl 2 3).put o.ctl 3 k)
  | none => ({ s with pending := true, w := w }, d.put o.ctl 2 1)

/-- The swap at a line of index `m`, where it is due: the copies change places, and lines below W keep the old one. -/
def coefTake (e : Env) (d : Dev) (o : CoefObj) (s : CoefSwap) (m : Int) (crcSub : Nat) : CoefSwap × Dev :=
  let w := s.w.getD m
  if s.pending && w ≤ m then
    let old := d.gB o.active 1
    let d1 := (d.putB o.active 1 (d.gB o.load 1)).putB o.load 1 old
    let d2 := (d1.put o.ctl 2 2).put o.ctl crcSub (crc32c old : Nat)
    ({ pending := false, w := some w, prevs := (w, old) :: s.prevs, count := s.count + 1 }, d2.raise e o.event 0)
  else (s, d)

/-- The table in force at an index below the boundaries of swaps, newest first. -/
def coefBelow (m : Int) (cur : List Byte) : List (Int × List Byte) → List Byte
  | [] => cur
  | (w, old) :: r => if m < w then coefBelow m old r else cur

/-- The table a line of index `m` uses: the loading copy already where a pending swap's boundary is at or below it. -/
def coefFor (d : Dev) (o : CoefObj) (s : CoefSwap) (m : Int) : List Byte :=
  if s.pending && s.w.all (· ≤ m) then d.gB o.load 1 else coefBelow m (d.gB o.active 1) s.prevs

/-- How many swaps a line of index `m` follows. -/
def CoefSwap.passed (s : CoefSwap) (m : Int) : Nat := s.count - (s.prevs.takeWhile (fun q => m < q.1)).length

/-- The first grid index above the highest that any port has begun. -/
def gridTop (d : Dev) : Option Int :=
  (List.range 16).foldl (fun a p =>
    match (d.pl p).lastM, a with
    | some m, some b => some (max (m + 1) b)
    | some m, none => some (m + 1)
    | none, _ => a) none

/-- A write of COEF_SWAP (R202). -/
def mdSwapRequest (d : Dev) (v : Nat) : Dev :=
  if v = 2 then
    if d.mdCoef.pending then { (d.put 0x3001 2 0) with mdCoef := { d.mdCoef with pending := false } } else d
  else let (s, d1) := coefRequest d mdObj d.mdCoef (gridTop d); { d1 with mdCoef := s }

/-- A write of COEF_SWAP by a master. -/
def mdSwapWrite (d : Dev) (m : Master) (v : Int) : Dev :=
  d.asWrite m 0x3001 1 v fun d =>
    let d1 := mdSwapRequest d v.toNat
    d1.swapAsked m 0x3001 (v == 2 || d1.gn 0x3001 2 != 3)

/-- A write of COEF_COPY (R202). -/
def mdCopyWrite (d : Dev) (m : Master) (v : Int) : Dev :=
  d.asWrite m 0x3001 5 v fun d =>
    if v = 0 then d.ended m stOK
    else if d.mdCoef.pending then d.reject m 0x3001
    else ((coefTouch d mdObj 7).putB 0x3002 1 (d.gB 0x3003 1)).ended m stOK

/-- The class of a spacing ratio by plain range (R199). -/
def plainClass (d : Dev) (rho : Nat) : Nat :=
  if d.gn 0x3000 7 ≤ rho then 0 else if d.gn 0x3000 8 ≤ rho then 1 else if d.gn 0x3000 9 ≤ rho then 2 else 3

/-- The class a port takes (R199): its own while the ratio lies in that class's widened range. -/
def keepClass (d : Dev) (n rho : Nat) : Nat :=
  let h := d.gn 0x3000 0x0A
  let lo := match n with | 0 => d.gn 0x3000 7 | 1 => d.gn 0x3000 8 | 2 => d.gn 0x3000 9 | _ => 0
  let inHi := match n with
    | 0 => true | 1 => decide (rho < d.gn 0x3000 7 + h) | 2 => decide (rho < d.gn 0x3000 8 + h)
    | _ => decide (rho < d.gn 0x3000 9 + h)
  if lo ≤ rho + h && inHi then n else plainClass d rho

/-! ### Grid lines (R196, R198, R200, R201) -/

/-- The samples of one column through the filter (R198). -/
def filt8 (bits : Nat) (c : List Int) (s : List Nat) : Nat :=
  let v := (sumI (List.zipWith (fun a (b : Nat) => a * b) c s) + 8192) / 16384
  if v < 0 then 0 else min v.toNat (2 ^ bits - 1)

/-- Columns of several lists of samples. -/
def colsN : List (List Nat) → Nat → List (List Nat)
  | _, 0 => []
  | ls, n + 1 => ls.map (fun l => l.headD 0) :: colsN (ls.map List.tail) n

/-- The corrected line of an accepted line. -/
def corrOf (d : Dev) (p : Nat) (a : AccLine) : Option CorrLine :=
  (tabGet d.corr [] p).find? (fun c => c.cam.line == a.line && c.cam.arrival == a.arrival)

/-- Invalid runs of several lines together, merged as R150 says, and whether they overflowed. -/
def unionRuns (gap n : Nat) (rs : List (Nat × Nat)) : List (Nat × Nat) × Bool :=
  lineRuns gap n ((List.range n).map (fun i => rs.any (fun r => r.1 ≤ i && i ≤ r.2)))

/-- The window of a grid line in the accepted lines (R198): index of line a, the taps, and the holes between them. -/
structure Window where
  taps : List (Option AccLine)
  holes : List Nat

/-- The window around index `i` of the accepted lines (R198, R201): a hole known above the last one counts. -/
def windowOf (x : PlacePort) (i : Nat) : Window :=
  let tap (t : Nat) : Option AccLine := if i + t < 3 then none else x.acc[i + t - 3]?
  let holes := (List.range 7).filter (fun t =>
    match tap t, tap (t + 1) with
    | _, some b => b.hole || (tap t).isNone
    | some _, none => x.hole
    | none, none => false)
  { taps := (List.range 8).map tap, holes := holes }

/-- Line a of a grid position: the index of the last accepted line at or below it. -/
def lineA (x : PlacePort) (g : Int) : Option Nat :=
  let n := (x.acc.filter (fun a => a.wp ≤ g)).length
  if n = 0 then none else some (n - 1)

/-- Whether the window's lines were triggered before and after one reversal interval (R200). -/
def reversalSpan (d : Dev) (ls : List AccLine) : Bool :=
  (d.enc (placeInput d)).revs.any (fun r =>
    match r.2 with
    | some b => ls.any (fun a => stampDiff a.tTrig r.1 < 0) && ls.any (fun a => 0 < stampDiff a.tTrig b)
    | none => false)

/-- What is kept of a port's accepted lines and corrected lines for its next grid position. -/
def trimLines (d : Dev) (p : Nat) : Dev :=
  let x := d.pl p
  match x.next with
  | none => d
  | some m =>
    let acc := match lineA x (gridWp d m) with | some i => x.acc.drop (i - 3) | none => x.acc
    let d1 := d.setPl p { x with acc := acc }
    let live (c : CorrLine) : Bool :=
      acc.any (fun a => a.line == c.cam.line && a.arrival == c.cam.arrival)
        || x.queue.any (fun q => q.cam.line == c.cam.line && q.cam.arrival == c.cam.arrival)
    { d1 with corr := tabSet d1.corr p ((tabGet d1.corr [] p).filter live) }

/-- The flags that a grid line merges from the lines of its window (R193, R200). -/
def windowFlags (d : Dev) (ls : List AccLine) : Nat :=
  let flOf (src dst : Nat) : Nat := if ls.any (fun a => bit a.flags src) then 2 ^ dst else 0
  flOf 4 5 + flOf 2 4 + flOf 0 3 + (if reversalSpan d ls then 4 else 0)

/-- A grid line handed on (R200, R205), its window's lines read through the port's resampler queue (R17). -/
def gridOut (e : Env) (d0 : Dev) (p : Nat) (g0 : GridLine) : Dev :=
  let d := qCommit d0 (0x20 + p)
  let g := { g0 with at_ := e.raw }
  let x := d.pl p
  let d1 := d.setPl p { x with next := some (g.m + 1), lastM := some g.m, swaps := d.mdCoef.passed g.m }
  let d2 := { d1 with grid := tabSet d1.grid p (tabGet d1.grid [] p ++ [g]) }
  let d3 := (d2.inc (gIdx p) 0x0E).pub (gIdx p) [(5, gridWp d2 (g.m + 1))]
  trimLines d3 p

/-- A made grid line (R198 to R200). `ls` are the eight taps as bridged, `poison` the poisoned columns of lines. -/
def gridMake (e : Env) (d : Dev) (p : Nat) (m g : Int) (ls : List AccLine) (cs : List CorrLine) (bridged : Bool)
    (fl0 : Nat) (poison : List (Nat × Nat × Nat)) : Dev :=
  let x := d.pl p
  let n := linePixels d p
  let wpOf (i : Nat) : Int := match ls[i]? with | some a => a.wp | none => 0
  let xa := wpOf 3
  let xb := wpOf 4
  let x0 := wpOf 0
  let x7 := wpOf 7
  let phase := (((g - xa) * 65536) / (xb - xa) / 256).toNat
  let rho := min (((x7 - x0) * 268435456) / (7 * (d.gn 0x3000 3 : Int))).toNat 65535
  let cls := keepClass d x.cls rho
  let changed := x.cls != cls
  let c := tapsOf (coefFor d mdObj d.mdCoef m) 256 cls phase
  let fl := fl0 + windowFlags d ls + (if bridged then 2 else 0) + (if changed then 64 else 0)
  let live := ((c.zip cs).filter (fun q => q.1 != 0)).map (·.2)
  let runs := live.flatMap (fun q => q.runs ++ (poison.filter (fun z => z.1 == q.cam.line)).map (·.2))
  let bits := d.gn (cIdx p 0) 1
  let outs := bitsOf 4 (d.gn (cIdx p 0) 2)
  let rows (k : Nat) : List (List Nat) :=
    cs.map (fun q => ((q.planes.find? (fun z => z.1 == k)).map (·.2)).getD [])
  let planes := outs.map (fun k => (k, (colsN (rows k) n).map (filt8 bits c)))
  let setOf (i : Nat) : Nat := (ls[i]?).map (·.settings) |>.getD 0
  let (inv, ovf) := unionRuns (d.gn (cIdx p 0) 7) n runs
  let line : GridLine :=
    { m := m, wp := g, gap := false, flags := fl, setA := setOf 3, setB := setOf 4, planes := planes,
      runs := inv, ovf := ovf, arrival := (ls[7]?).map (·.arrival) |>.getD 0 }
  let d1 := d.setPl p { x with cls := cls }
  let d2 := if changed then (d1.inc (gIdx p) 0x11).raise e 0x216 0 else d1
  let d3 := if bridged then d2.inc (gIdx p) 0x10 else d2
  gridOut e ((d3.put (gIdx p) 6 rho).put (gIdx p) 7 cls) p line

/-- Whether a port's next grid line is due (R196): four accepted lines lie above its position, or some lie above and a hole is known
above the last of them. -/
def gridDue (d : Dev) (p : Nat) : Bool :=
  let x := d.pl p
  match x.next.bind (fun m => lineA x (gridWp d m)) with
  | none => false
  | some i => let above := x.acc.length - 1 - i; placerOn d && (decide (4 ≤ above) || (x.hole && decide (0 < above)))

/-- GRID_LINE_EMIT (R196, R198, R200, R201, R202). -/
def gridEmit (e : Env) (d : Dev) (p : Nat) (poison : List (Nat × Nat × Nat)) : Dev :=
  let x := d.pl p
  match x.next with
  | none => d
  | some m =>
    let g := gridWp d m
    match lineA x g with
    | none => d
    | some i =>
      if !gridDue d p then d
      else
        let w := windowOf x i
        let gap := if d.gn 0x3000 5 = 2 then w.holes.any (fun t => 1 ≤ t && t ≤ 5) else !w.holes.isEmpty
        let tap (t : Nat) : Option AccLine := (w.taps[t]?).getD none
        let t0 := if w.holes.contains 0 then tap 1 else tap 0
        let t7 := if w.holes.contains 6 then tap 6 else tap 7
        let used := (t0 :: (List.range 6).map (fun t => tap (t + 1)) ++ [t7]).filterMap id
        let cs := used.filterMap (corrOf d p)
        if !gap && cs.length < 8 then d
        else
          let (s, d1) := coefTake e d mdObj d.mdCoef m 7
          let d2 := { d1 with mdCoef := s }
          let d3 := if d.mdCoef.pending && !s.pending then d2.put 0x3001 4 (gridWp d2 (s.w.getD m)) else d2
          let fl0 := if x.swaps < s.passed m then 128 else 0
          if gap then
            let a := x.acc[i]?
            let b := x.acc[i + 1]?
            let fl := fl0 + windowFlags d3 (w.taps.filterMap id) + 1
            gridOut e (d3.inc (gIdx p) 0x0F) p
              { m := m, wp := g, gap := true, flags := fl, setA := (a.map (·.settings)).getD 0,
                setB := (b.map (·.settings)).getD 0, planes := [], runs := [(0, linePixels d p - 1)],
                arrival := (b.map (·.arrival)).getD 0 }
          else gridMake e d3 p m g used cs (!w.holes.isEmpty) fl0 poison

/-- A port's placement starts over (R196): it needs four accepted lines again, and no note of an earlier trigger. Grid lines that it
has emitted stay for the raster (R14). -/
def placeStart (d : Dev) (p : Nat) : Dev :=
  let d1 := (d.setPl p { swaps := d.mdCoef.count }).setTrig p { d.trig p with skipAfter := [], calIds := [] }
  { d1 with corr := tabErase d1.corr p, placed := tabErase d1.placed p }

/-- A port enters service (R190, R196, R205): its placement starts over and its counters are cleared. -/
def placeEnter (d : Dev) (p : Nat) : Dev :=
  ((placeStart d p).clearSubs (gIdx p) ((List.range 17).map (· + 1))).publish (gIdx p)

/-- Unit 0x00A leaves OFF: every port in service starts over, and no grid line of before asks for an older table. -/
def placerEnter (d : Dev) : Dev :=
  let d1 := { d with mdCoef := { d.mdCoef with prevs := [] } }
  (List.range 16).foldl (fun d p => if d.inSvc (uPort p) then (placeStart d p).put (gIdx p) 7 0 else d) d1

/-- COEF_SWAP (R202). -/
def execCoefSwap (t : Nat) (m : Master) (s : State) : Host.Outcome State Fault Refusal :=
  mainStep (masterOk m) t s fun _ d => mdSwapWrite d m 1

/-- COEF_SWAP_CANCEL (R202). -/
def execCoefSwapCancel (t : Nat) (m : Master) (s : State) : Host.Outcome State Fault Refusal :=
  mainStep (masterOk m) t s fun _ d => mdSwapWrite d m 2

/-- COEF_COPY (R202). -/
def execCoefCopy (t : Nat) (m : Master) (v : Int) (s : State) : Host.Outcome State Fault Refusal :=
  mainStep (masterOk m) t s fun _ d => mdCopyWrite d m v

end Sys2Proof.Machine
end

