-- ==== Sys2Proof/Machine/Stitch.lean ====
section
/-! DEFINITION. Stitching across cameras and devices (chapter 9): R207 to R232. -/

namespace Sys2Proof.Machine

/-- What other chapters do around the raster: with a grid line emitted, a raster line made, a neighbour lost, and with
CONTINUE and SETTLE packets. -/
structure StitchHooks where
  onRaster : Env → Dev → RasterLine → Dev
  onSideLost : Env → Dev → Nat → Dev
  onContinue : Env → Dev → Nat → List Byte → Dev
  onSettle : Env → Dev → Nat → List Byte → Dev

/-! ### Geometry (R209 to R212) -/

/-- Index of a port's stitching objects at offset `o`. -/
def sIdx (p o : Nat) : Nat := 0x20A0 + 0x100 * p + o

/-- GEO_ACTIVE_BANK. -/
def geoBank (d : Dev) (p : Nat) : Nat := d.gn (sIdx p 0) 1

/-- A geometry bank (R229). -/
structure Geo where
  c : List Nat
  first : Nat
  last : Nat
  seam : Nat

/-- Bank `b` of a port. -/
def geoOf (d : Dev) (p b : Nat) : Geo :=
  let i := sIdx p (2 + b)
  { c := [d.gn i 1, d.gn i 2, d.gn i 3, d.gn i 4], first := d.gn i 5, last := d.gn i 6, seam := d.gn i 7 }

/-- How many columns a span has. -/
def Geo.width (g : Geo) : Nat := g.last + 1 - g.first

/-- The polynomial of R209 at column `t` of the span, exactly. -/
def polyAt (c : List Nat) (t : Nat) : Frac :=
  c.reverse.foldl (fun a k => (a.mul (Frac.ofInt t)).add (f64Val k)) { n := 0 }

/-- Its slope. -/
def slopeAt (c : List Nat) (t : Nat) : Frac :=
  let k (i m : Nat) : Frac := (f64Val (nth c i 0)).mul (Frac.ofInt m)
  (k 1 1).add ((k 2 (2 * t)).add (k 3 (3 * t * t)))

/-- The camera coordinate that the hardware evaluates at a column, in 2^-24 pixel: within 2^-12 pixel of the polynomial
(R209), and inside the range that R211 has checked. -/
def evalAt (c : List Nat) (n t : Nat) : Int :=
  let u := ((polyAt c t).mul (Frac.ofInt 16777216)).floor
  let err := clampI (-4095) 4095 (Config.geoError (nth c 0 0) (nth c 1 0) (nth c 2 0) (nth c 3 0) t)
  clampI (3 * 16777216) (((n : Int) - 5) * 16777216) (u + err)

/-- The span and SEAM_RIGHT of a port as they will be after its pending swap. -/
def geoPlanned (d : Dev) (p : Nat) : Geo :=
  geoOf d p (if (tabFind d.geo p).isSome then 1 - geoBank d p else geoBank d p)

/-- The geometry of a port at a grid index: that of its pending swap at and above the swap's boundary (R14, R217). -/
def geoAt (d : Dev) (p : Nat) (m : Int) : Geo :=
  geoOf d p (match tabFind d.geo p with
    | some rq => if rq.at_.all (· ≤ m) then 1 - geoBank d p else geoBank d p
    | none => geoBank d p)

/-- The highest grid index that the stitcher has begun: its latest raster line, or the columns it computed for an EXPORT
(DEDUCED, assumption log 116). -/
def stitchBegun (d : Dev) : Option Int :=
  match d.stitch.last, d.stitch.sent with
  | some a, some b => some (max a b)
  | a, b => a.or b

/-- The seam of two ports (R213): the left one first. -/
def seamOf (a b : Geo) : Nat := if a.seam = 0xFFFFFFFF then (a.last + b.first) / 2 else a.seam

/-- The left and the right of two spans; of equal SPAN_FIRST the lower port is the left (DEDUCED, log 51). -/
def leftRight (p q : Nat × Geo) : (Nat × Geo) × (Nat × Geo) :=
  if q.2.first < p.2.first || (q.2.first == p.2.first && q.1 < p.1) then (q, p) else (p, q)

/-- Whether two spans share a column. -/
def spansMeet (a b : Geo) : Bool := decide (a.first ≤ a.last) && decide (b.first ≤ b.last) && decide (a.first ≤ b.last) && decide (b.first ≤ a.last)

/-- The first check of R211 that a bank fails, 0 for none. -/
def geoFault (d : Dev) (p b : Nat) : Nat :=
  let g := geoOf d p b
  let n := linePixels d p
  let w := d.gn 0x1B00 1
  if !(g.first ≤ g.last && g.last < w) then 2
  else
    let ts := List.range g.width
    let lo : Frac := ⟨1, 4⟩
    let others := ((List.range 16).filter (· != p)).map (fun q => (q, geoPlanned d q))
    if ts.any (fun t => !(lo.le (slopeAt g.c t) && (slopeAt g.c t).le ⟨4, 1⟩)) then 1
    else if ts.any (fun t =>
        !((Frac.ofInt 3).le (polyAt g.c t) && (polyAt g.c t).le (Frac.ofInt ((n : Int) - 5)))) then 3
    else if ts.any (fun t =>
        2 ≤ (others.filter (fun q => q.2.first ≤ g.first + t && g.first + t ≤ q.2.last)).length) then 4
    else if d.gn 0x1B00 5 = 1 && others.any (fun q =>
        spansMeet g q.2 &&
          (let (l, r) := leftRight (p, g) q
           let s := seamOf l.2 r.2
           let h := d.gn 0x1B00 6 / 2
           !(r.2.first + h ≤ s + 1 && s + h ≤ min l.2.last r.2.last))) then 5
    else 0

/-- The CD class of a bank (R212). -/
def cdClass (d : Dev) (g : Geo) : Nat :=
  let dm := (List.range g.width).foldl (fun a t => a.max (slopeAt g.c t)) { n := 0 }
  plainClass d (min ((Frac.ofInt 4096).div dm).floor.toNat 65535)

/-! ### Geometry swaps (R217) -/

/-- Whether a write into a geometry bank is refused. -/
def geoLocked (d : Dev) (p b : Nat) : Bool := geoBank d p == b || (tabFind d.geo p).isSome

/-- A request of GEO_SWAP (R217). -/
def geoRequest (d : Dev) (p v : Nat) : Dev :=
  let i := sIdx p 0
  if v = 3 then
    if (tabFind d.geo p).isSome then { (d.put i 4 0) with geo := tabErase d.geo p } else d
  else
    match geoFault d p (1 - geoBank d p) with
    | 0 =>
      let placed := d.gn (gIdx p) 8 ≠ 0
      let want := if v = 1 then (if placed then some (gridCeil d (d.gi (gIdx p) 3)) else none)
                  else some (gridCeil d (d.gi i 3))
      let past := match want, stitchBegun d with | some w, some l => decide (w ≤ l) | _, _ => false
      let at_ := if past then (stitchBegun d).map (· + 1) else want
      { (d.put i 4 1) with geo := tabSet d.geo p { at_ := at_, late := past && v == 2 } }
    | c => (d.put i 4 4).put i 5 c

/-- A write of GEO_SWAP. -/
def geoSwapWrite (d : Dev) (m : Master) (p : Nat) (v : Int) : Dev :=
  d.asWrite m (sIdx p 0) 2 v fun d =>
    let d1 := geoRequest d p v.toNat
    d1.swapAsked m (sIdx p 0) (v == 3 || d1.gn (sIdx p 0) 4 != 4)

/-- A write of GEO_COPY (R217). -/
def geoCopyWrite (d : Dev) (m : Master) (p : Nat) (v : Int) : Dev :=
  d.asWrite m (sIdx p 0) 6 v fun d =>
    if v = 0 then d.ended m stOK
    else if (tabFind d.geo p).isSome then d.reject m (sIdx p 0)
    else
      let a := sIdx p (2 + geoBank d p)
      let b := sIdx p (3 - geoBank d p)
      ([1, 2, 3, 4, 5, 6, 7, 8].foldl (fun d s => d.put b s (d.gi a s)) d).ended m stOK

/-- The geometry swaps due at raster index `m`, and whether one took place. -/
def geoTake (e : Env) (d : Dev) (m : Int) : Bool × Dev :=
  d.geo.foldl (fun (r : Bool × Dev) q =>
    let (p, rq) := q
    if rq.at_.all (· ≤ m) then
      let d1 := r.2
      let i := sIdx p 0
      let b := 1 - geoBank d1 p
      let d2 := ((d1.put i 1 b).put i 4 (if rq.late then 3 else 2)).put i 7 (gridWp d1 m)
      let d3 := d2.put (sIdx p (2 + b)) 8 (cdClass d2 (geoOf d2 p b))
      (true, { d3 with geo := tabErase d3.geo p }.raise e 0x218 p)
    else r) (false, d)

/-! ### CD coefficients (R218) -/

/-- The CD table. -/
def cdObj : CoefObj := { ctl := 0x1B02, load := 0x1B03, active := 0x1B04, total := 512, event := 0x219 }

/-- A request of CD_COEF_SWAP (R218). -/
def cdSwapRequest (d : Dev) (v : Nat) : Dev :=
  if v = 2 then
    if d.cdCoef.pending then { (d.put 0x1B02 2 0) with cdCoef := { d.cdCoef with pending := false } } else d
  else let (s, d1) := coefRequest d cdObj d.cdCoef ((stitchBegun d).map (· + 1)); { d1 with cdCoef := s }

/-- A write of CD_COEF_SWAP. -/
def cdSwapWrite (d : Dev) (m : Master) (v : Int) : Dev :=
  d.asWrite m 0x1B02 1 v fun d =>
    let d1 := cdSwapRequest d v.toNat
    d1.swapAsked m 0x1B02 (v == 2 || d1.gn 0x1B02 2 != 3)

/-- A write of CD_COEF_COPY (R218). -/
def cdCopyWrite (d : Dev) (m : Master) (v : Int) : Dev :=
  d.asWrite m 0x1B02 4 v fun d =>
    if v = 0 then d.ended m stOK
    else if d.cdCoef.pending then d.reject m 0x1B02
    else ((coefTouch d cdObj 6).putB 0x1B03 1 (d.gB 0x1B04 1)).ended m stOK

/-! ### One port's columns (R210) -/

/-- A port's value at a column: its planes' samples, an invalid value with the samples that R210 computes all the same, or
one from a gap line, which carries no samples (R201). -/
inductive ColVal where
  | ok (v : List Nat)
  | bad (v : List Nat)
  | gap

/-- The samples of a column value: 0 from a gap line, as R431 stores them. -/
def ColVal.samples : ColVal → List Nat
  | .ok v => v
  | .bad v => v
  | .gap => []

/-- An invalid column for which no rule gives samples: one free value for each plane. -/
def openCol (d : Dev) (bits x : Nat) : ColVal :=
  .bad ((List.range 4).map (fun k => Config.free (d.freeN + 4 * x + k) bits % 2 ^ bits))

/-- Whether a column value is valid. -/
def ColVal.isOk : ColVal → Bool
  | .ok _ => true
  | _ => false

/-- Whether it came from a gap line. -/
def ColVal.isGap : ColVal → Bool
  | .gap => true
  | _ => false

/-- The raster planes in ascending order. -/
def rasterPlanes (d : Dev) : List Nat := bitsOf 4 (d.gn 0x1B00 3)

/-- A port's resampled values over its span under a geometry and a CD class (R210, R212). -/
def portColumns (d : Dev) (p : Nat) (g : Geo) (cls : Nat) (coef : List Byte) (gl : Option GridLine) : List ColVal :=
  match gl with
  | none => List.replicate g.width .gap
  | some l =>
    if l.gap then List.replicate g.width .gap
    else
      let n := linePixels d p
      let bits := d.gn (cIdx p 0) 1
      let rows := (rasterPlanes d).map (fun k => (((l.planes.find? (fun z => z.1 == k)).map (·.2)).getD []).toArray)
      (List.range g.width).map (fun t =>
        let u := evalAt g.c n t
        let i := (u / 16777216).toNat
        let c := tapsOf coef 128 cls ((u % 16777216) / 131072).toNat
        let hit (k : Nat) (a : Int) : Bool := a != 0 && l.runs.any (fun r => r.1 ≤ i + k - 3 && i + k - 3 ≤ r.2)
        let y := rows.map (fun s => filt8 bits c ((List.range 8).map (fun k => s.getD (i + k - 3) 0)))
        if ((List.range 8).zip c).any (fun q => hit q.1 q.2) then .bad y else .ok y)

/-- A port's value at a device column: none outside its span. -/
def valAt (first : Nat) (vs : Array ColVal) (x : Nat) : Option ColVal := if x < first then none else vs[x - first]?

/-- A blend of two values in a ramp (R213). -/
def rampMix (wr : Nat) (l r : List Nat) : List Nat := List.zipWith (fun a b => ((256 - wr) * a + wr * b + 128) / 256) l r

/-- What a seam makes of a column (R213, R214): the value, and whether one side was replaced. `s` is the seam in the
columns of `x`. -/
def seamCol (mode w : Nat) (s x : Int) (l r : ColVal) : ColVal × Bool :=
  let h : Int := (w / 2 : Nat)
  let inRamp := mode = 1 && s - h + 1 ≤ x && x ≤ s + h
  let pick (near far : ColVal) : ColVal × Bool :=
    match near, far with
    | .ok v, _ => (.ok v, false)
    | _, .ok v => (.ok v, true)
    | a, b => (if a.isGap || b.isGap then .gap else .bad a.samples, false)
  if inRamp then
    let mix (a b : List Nat) : List Nat := rampMix (((x - (s - h)) * 256 + h) / ((w : Int) + 1)).toNat a b
    match l, r with
    | .ok a, .ok b => (.ok (mix a b), false)
    | .ok a, _ => (.ok a, true)
    | _, .ok b => (.ok b, true)
    | a, b => (if a.isGap || b.isGap then .gap else .bad (mix a.samples b.samples), false)
  else if x ≤ (if mode = 1 then s - h else s) then pick l r else pick r l

/-! ### The exchange window (R224, R225) -/

/-- Whether a side is enabled. -/
def sideOn (d : Dev) (side : Nat) : Bool := bit (d.gn 0x1B10 1) side

/-- X of R224. -/
def winX (d : Dev) : Nat := max (d.gn 0x1B00 7) (d.gn 0x1B00 6 / 2)

/-- The boundary of a side in device columns: the last column that the left device of the pair owns (R207, R224). -/
def boundaryCol (d : Dev) (side : Nat) : Int :=
  if side = 0 then (d.gn 0x1B00 7 : Int) - 1 else (d.gn 0x1B00 1 : Int) - 1 - d.gn 0x1B00 7

/-- The ports that contribute to the raster from now on: those in service (R215; DEDUCED, log 51). -/
def rasterPorts (d : Dev) : List Nat := (List.range 16).filter (fun p => d.inSvc (uPort p))

/-- OUT_BITS of the raster: that of every configured port (R207). -/
def rasterBits (d : Dev) : Nat := match configuredPorts d with | p :: _ => d.gn (cIdx p 0) 1 | [] => 12

/-- A port's grid line of an index. -/
def gridAt (d : Dev) (p : Nat) (m : Int) : Option GridLine := (tabGet d.grid [] p).find? (fun g => g.m == m)

/-- Whether a port's lines of before it left service may still make its grid line of an index (R14). -/
def portDrains (d : Dev) (p : Nat) (m : Int) : Bool :=
  (d.pl p).next.any (· ≤ m) && (!(d.pt p).ingress.isEmpty || !(d.pl p).queue.isEmpty || gridDue d p)

/-- Whether a port contributes to the raster line of an index (R14, R215): in service, from its START_WP on; out of service, as far as
its lines of before reach. -/
def contributes (d : Dev) (m : Int) (p : Nat) : Bool :=
  (gridAt d p m).isSome || (if d.inSvc (uPort p) then (d.pl p).next.all (· ≤ m) else portDrains d p m)

/-- The ports that contribute to the raster line of an index. -/
def linePorts (d : Dev) (m : Int) : List Nat := (List.range 16).filter (contributes d m)

/-- The edge port of a side among ports with their geometry: the one whose span reaches furthest (R224). -/
def edgePort (side : Nat) (ports : List (Nat × Geo)) : Option (Nat × Geo) :=
  (ports.filter (fun q => q.2.first ≤ q.2.last)).foldl (fun a q =>
    match a with
    | none => some q
    | some k => if (if side = 0 then q.2.first < k.2.first else k.2.last < q.2.last) then some q else a) none

/-- The edge port of a side at a grid index. -/
def edgeAtLine (d : Dev) (side : Nat) (m : Int) : Option (Nat × Geo) :=
  edgePort side ((linePorts d m).map (fun p => (p, geoAt d p m)))

/-- Whether the edge port of a side covers what R224 asks: the device's own columns of the window up to the boundary, and in RAMP mode
the ramp beyond it. -/
def edgeCovers (d : Dev) (side : Nat) : Bool :=
  match edgePort side ((rasterPorts d).map (fun p => (p, geoOf d p (geoBank d p)))) with
  | none => false
  | some (_, g) =>
    let reach : Int := if d.gn 0x1B00 5 = 1 then (d.gn 0x1B00 6 / 2 : Nat) else 0
    let b := boundaryCol d side
    let x : Int := winX d
    let (lo, hi) : Int × Int := if side = 0 then (b + 1 - reach, b + x) else (b - x + 1, b + reach)
    decide ((g.first : Int) ≤ lo) && decide (hi ≤ (g.last : Int))

/-- Samples packed most significant bit first (R117), padded to whole bytes. -/
def packMsb (bits : Nat) (l : List Nat) : List Byte :=
  let n := bits * l.length
  let k := ceilDiv n 8
  toBE k (l.foldl (fun a v => a * 2 ^ bits + v % 2 ^ bits) 0 * 2 ^ (8 * k - n))

/-- The CD class of a port at a grid index (R212): the active bank's own, or what a pending swap's bank will take. -/
def geoClassAt (d : Dev) (p : Nat) (m : Int) : Nat :=
  match tabFind d.geo p with
  | some rq => if rq.at_.all (· ≤ m) then cdClass d (geoAt d p m) else d.gn (sIdx p (2 + geoBank d p)) 8
  | none => d.gn (sIdx p (2 + geoBank d p)) 8

/-- The EXPORT payload of a grid line (R225), with the geometry and the coefficients that its raster line will have. -/
def exportBytes (d : Dev) (p side : Nat) (gl : GridLine) : List Byte :=
  let x := winX d
  let n := 2 * x
  let bits := d.gn (cIdx p 0) 1
  let f := boundaryCol d side - x + 1
  let geo := geoAt d p gl.m
  let vs := (portColumns d p geo (geoClassAt d p gl.m) (coefFor d cdObj d.cdCoef gl.m) (some gl)).toArray
  let cols := (List.range n).map (fun (i : Nat) =>
    let c := f + i
    if c < 0 then openCol d bits i else (valAt geo.first vs c.toNat).getD (openCol d bits i))
  let runs := runsOf 0 none (cols.map (fun c => !c.isOk))
  let vals := cols.map ColVal.samples
  let planes := (List.range (rasterPlanes d).length).flatMap (fun k => packMsb bits (vals.map (fun v => nth v k 0)))
  let body := toBE 8 (wrapU 64 gl.wp) ++ toBE 4 (wrapU 32 (f + d.gn 0x1B00 2)) ++ toBE 2 n ++ toBE 1 (d.gn 0x1B00 3)
    ++ toBE 1 (b2n gl.gap + 2 * b2n (!runs.isEmpty)) ++ toBE 2 gl.setA ++ toBE 2 runs.length ++ toBE 4 0
    ++ (if gl.gap then [] else planes) ++ runs.flatMap (fun r => toBE 2 r.1 ++ toBE 2 r.2)
  padTo body (ceilDiv body.length 4 * 4) 0

/-- A side. -/
def Dev.side (d : Dev) (s : Nat) : CascSide := tabGet d.sides {} s
/-- A side written. -/
def Dev.setSide (d : Dev) (s : Nat) (x : CascSide) : Dev := { d with sides := tabSet d.sides s x }

/-- NB_STATE's code. -/
def nbCode : NbState → Nat
  | .none => 0 | .linkDown => 1 | .hello => 2 | .present => 3 | .late => 4 | .absent => 5 | .mismatch => 6

/-- A side's result group. -/
def nbIdx (s : Nat) : Nat := 0x1B12 + s

/-- A side moves to a state, with its events (R226, R227, R232). -/
def nbTo (h : StitchHooks) (e : Env) (d : Dev) (s : Nat) (st : NbState) : Dev :=
  let x := d.side s
  if x.state = st then d
  else
    let gone := st != .present && st != .late && (x.state == .present || x.state == .late)
    let d1 := (d.setSide s { x with state := st }).pub (nbIdx s) [(1, (nbCode st : Nat))]
    let d2 := match st with
      | .present => if x.state = .late then d1 else d1.raise e 0x21A s
      | .late => d1.raise e 0x21B s
      | .absent => d1.raise e 0x21C s
      | .linkDown => if gone then d1.raise e 0x21C s else d1
      | .mismatch => d1.raise e 0x21D s
      | _ => d1
    if gone then h.onSideLost e d2 s else d2

/-- The exchange group of a side came up (R226, R227). -/
def nbLinkUp (h : StitchHooks) (e : Env) (d : Dev) (s : Nat) : Dev :=
  if !sideOn d s || d.ustate 0x008 = .off then d
  else nbTo h e (d.setSide s { d.side s with helloOk := false, exports := [], missed := 0 }) s .hello

/-- The exchange group of a side lost lock or alignment (R227). -/
def nbLinkDown (h : StitchHooks) (e : Env) (d : Dev) (s : Nat) : Dev :=
  if (d.side s).state = .none then d
  else nbTo h e (d.setSide s { d.side s with helloOk := false, exports := [] }) s .linkDown

/-! ### HELLO (R223, R227) -/

/-- Position of input `n` at an applied time (R191, with the hold rule where the edge after it is missing). -/
def posOn (d : Dev) (n t : Nat) : Int :=
  let x := d.enc n
  match edgesAround t none x.edges with
  | (some b, some a) => a.pos + placeFrac t a.stamp (wrapU 64 ((b.stamp : Int) - a.stamp)) * (b.pos - a.pos) / 65536
  | (none, some a) => if stoodStill d n t then a.pos else holdAt a t
  | (_, none) => x.pos

/-- The revolution counter of input `n` at an applied time with the revolutions before it, in Q16 counts, interpolated between its
counted edges as its position is (R299). -/
def revOn (d : Dev) (n t : Nat) : Int :=
  match edgesAround t none (d.enc n).edges with
  | (some b, some a) => a.rev * 65536 + placeFrac t a.stamp (wrapU 64 ((b.stamp : Int) - a.stamp)) * (b.rev - a.rev)
  | (none, some a) => a.rev * 65536 + (posOn d n t - a.pos)
  | (_, none) => revCount d n * 65536

/-- Position of the placement input at an applied time. -/
def posAt (d : Dev) (t : Nat) : Int := posOn d (placeInput d) t

/-- Bytes 3 to 27 of a HELLO (R223). -/
def helloConfig (d : Dev) (s : Nat) : List Byte :=
  toBE 1 (d.gn 0x1B00 3) ++ toBE 1 (rasterBits d) ++ toBE 1 (d.gn 0x1B00 7) ++ toBE 2 (d.gn 0x1B00 6)
    ++ toBE 8 (wrapU 64 (d.gi 0x3000 2)) ++ toBE 8 (d.gn 0x3000 3)
    ++ toBE 4 (wrapU 32 (boundaryCol d s + d.gn 0x1B00 2))

/-- TIME_STATE's code (R27). -/
def tsCode : TimeState → Nat
  | .free => 0 | .held => 1 | .tracking => 2 | .holdover => 3

/-- A HELLO (R223). The check time is the stamp of the latest counted edge (DEDUCED, assumption log 52). -/
def helloBytes (e : Env) (d : Dev) (s : Nat) : List Byte :=
  let ck := match (d.enc (placeInput d)).edges with | g :: _ => g.stamp | [] => nowA e d
  toBE 2 (devNo d) ++ toBE 1 s ++ helloConfig d s ++ toBE 1 (tsCode (tuOf e d).state) ++ [0, 0, 0] ++ toBE 8 ck
    ++ toBE 8 (wrapU 64 (posAt d ck)) ++ toBE 8 (d.gn 0x1B00 4) ++ List.replicate 8 0

/-- HELLO_SEND (R222, R227): every 1 ms on each side that has a link. -/
def helloSend (e : Env) (d : Dev) : Dev :=
  [0, 1].foldl (fun d s =>
    let x := d.side s
    let up := match x.state with | .none => false | .linkDown => false | _ => true
    let due := match x.helloAt with | none => true | some a => a + 16000000 ≤ e.raw
    if up && due then cascSend e (d.setSide s { x with helloAt := some e.raw }) s 4 (helloBytes e d s) else d) d

/-- The first byte at which two lists differ, counted from `k`. -/
def firstDiff : Nat → List Byte → List Byte → Option Nat
  | k, a :: as, b :: bs => if a = b then firstDiff (k + 1) as bs else some k
  | _, _, _ => none

/-- A received HELLO (R223, R226, R227). -/
def helloRx (h : StitchHooks) (e : Env) (d : Dev) (s : Nat) (b : List Byte) : Dev :=
  let x := d.side s
  let diff := posAt d (beAt b 32 8) - wrapI 64 (beAt b 40 8)
  let d1 := d.pub (nbIdx s) [(2, (beAt b 0 2 : Nat)), (4, diff)]
  let own := helloConfig d s
  let cause :=
    ((firstDiff 3 own (slice b 3 25)).or (firstDiff 48 (toBE 8 (d.gn 0x1B00 4)) (slice b 48 8))).or
      (if beAt b 28 1 = 0 || (tuOf e d).state = .free then some 0xFE
       else if d.gi 0x1B10 6 < diff.natAbs then some 0xFF
       else if !edgeCovers d s then some 0xFD else none)
  match x.state with
  | .none => d
  | .linkDown => d
  | _ =>
    match cause with
    | some c => nbTo h e ((d1.setSide s { x with helloOk := false, exports := [] }).pub (nbIdx s) [(3, (c : Nat))]) s .mismatch
    | none =>
      let d2 := d1.setSide s { x with helloOk := true }
      if x.state = .mismatch then nbTo h e d2 s .hello else d2

/-! ### EXPORT (R225, R226, R228) -/

/-- An EXPORT payload read. -/
def readExport (d : Dev) (m : Int) (b : List Byte) : Export :=
  let n := beAt b 12 2
  let bits := rasterBits d
  let gap := bit (beAt b 15 1) 0
  let pl := bitsOf 4 (beAt b 14 1)
  let k := ceilDiv (bits * n) 8
  let planes := if gap then [] else
    ((List.range pl.length).zip pl).map (fun q => (q.2, unpack bits n false (slice b (24 + q.1 * k) k)))
  let o := 24 + (if gap then 0 else pl.length * k)
  { m := m, first := beAt b 8 4, cols := n, gap := gap, planes := planes,
    runs := (List.range (beAt b 18 2)).map (fun i => (beAt b (o + 4 * i) 2, beAt b (o + 4 * i + 2) 2)) }

/-- A received EXPORT (R226, R228). -/
def exportRx (h : StitchHooks) (e : Env) (d : Dev) (s : Nat) (b : List Byte) : Dev :=
  let x := d.side s
  let wp := wrapI 64 (beAt b 0 8)
  let m := gridCeil d wp
  match x.state with
  | .none => d
  | .linkDown => d
  | _ =>
    if gridWp d m ≠ wp then
      nbTo h e ((d.setSide s { x with helloOk := false }).pub (nbIdx s) [(3, 0xFC)]) s .mismatch
    else if d.stitch.next.any (m < ·) then d.incP (nbIdx s) 7
    else if d.stitch.next.any (· + 64 ≤ m) || (64 ≤ x.exports.length) then d.incP (nbIdx s) 8
    else d.setSide s { x with exports := x.exports.filter (fun q => q.m != m) ++ [readExport d m b] }

/-- Whether a side's raster lines wait for its EXPORT. -/
def nbWaits (st : NbState) : Bool := st == .present || st == .late

/-- The EXPORT that a side gives to raster line `m`: one held, in a state that may use it. -/
def exportFor (d : Dev) (s : Nat) (m : Int) : Option Export :=
  let x := d.side s
  match x.state with
  | .present | .late | .absent => x.exports.find? (fun q => q.m == m)
  | .hello => if x.helloOk then x.exports.find? (fun q => q.m == m) else none
  | _ => none

/-- A side after a raster line that did or did not use its EXPORT (R226, R228). -/
def nbAfter (h : StitchHooks) (e : Env) (d : Dev) (s : Nat) (m : Int) (used : Bool) : Dev :=
  let x := d.side s
  let left := x.exports.filter (fun q => decide (m < q.m))
  if used then nbTo h e ((d.setSide s { x with exports := left, missed := 0 }).incP (nbIdx s) 5) s .present
  else
    let d1 := (d.setSide s { x with exports := left, missed := x.missed + 1 }).incP (nbIdx s) 6
    match x.state with
    | .present => nbTo h e d1 s (if d.gn 0x1B10 5 ≤ 1 then .absent else .late)
    | .late => if d.gn 0x1B10 5 ≤ x.missed + 1 then nbTo h e d1 s .absent else d1
    | _ => d1

/-! ### Raster lines (R213 to R216) -/

/-- The first index that any port has emitted, none where none has. -/
def gridFirst (d : Dev) : Option Int :=
  (List.range 16).foldl (fun a p =>
    (tabGet d.grid [] p).foldl (fun a g => match a with | none => some g.m | some m => some (min m g.m)) a) none

/-- The index of the next raster line: the next in order, or the first that any port has emitted; a position to which no port
contributes has no raster line (R215; DEDUCED, assumption log 116). -/
def rasterNext (d : Dev) : Option Int :=
  match d.stitch.next with
  | some m => if (linePorts d m).isEmpty then (gridFirst d).or (some m) else some m
  | none => gridFirst d

/-- The raw instant at which every own contribution to a raster line was complete. -/
def ownComplete (d : Dev) (m : Int) : Nat := maxN ((linePorts d m).map (fun p => ((gridAt d p m).map (·.at_)).getD 0))

/-- An EXPORT's value at a system column: none outside its window. -/
def exportAt (d : Dev) (x : Export) (sys : Int) : Option ColVal :=
  let i := sys - x.first
  if i < 0 || (x.cols : Int) ≤ i then none
  else if x.gap then some .gap
  else
    let v := (rasterPlanes d).map (fun k => (((x.planes.find? (fun z => z.1 == k)).map (·.2)).getD []).getD i.toNat 0)
    some (if x.runs.any (fun r => (r.1 : Int) ≤ i && i ≤ r.2) then .bad v else .ok v)

/-- A raster line's columns from the device's own ports (R213, R214). -/
def ownColumn (d : Dev) (bits : Nat) (vs : List (Nat × Geo × Array ColVal)) (x : Nat) : ColVal × Bool :=
  match vs.filterMap (fun q => (valAt q.2.1.first q.2.2 x).map (fun v => (q.1, q.2.1, v))) with
  | [] => (openCol d bits x, false)
  | [a] => (a.2.2, false)
  | a :: b :: _ =>
    let (l, r) := leftRight (a.1, a.2.1) (b.1, b.2.1)
    let lv := if l.1 = a.1 then a.2.2 else b.2.2
    let rv := if r.1 = a.1 then a.2.2 else b.2.2
    seamCol (d.gn 0x1B00 5) (d.gn 0x1B00 6) (seamOf l.2 r.2) x lv rv

/-- A column of a device boundary's exchange window, from the edge port's value and the EXPORT (R224). -/
def windowColumn (d : Dev) (side : Nat) (own : ColVal) (x : Nat) (ex : Option Export) : ColVal × Bool :=
  match ex with
  | none => (own, false)
  | some q =>
    let b := boundaryCol d side
    let other := (exportAt d q (x + d.gn 0x1B00 2)).getD (.bad own.samples)
    if side = 0 then seamCol (d.gn 0x1B00 5) (d.gn 0x1B00 6) b x other own
    else seamCol (d.gn 0x1B00 5) (d.gn 0x1B00 6) b x own other

/-- The gap runs of a raster line: at most 16, the last extended to the last column (R215). -/
def gapRuns (n : Nat) (l : List (Nat × Nat)) : List (Nat × Nat) :=
  if 16 < l.length then
    match l[15]? with | some a => l.take 15 ++ [(a.1, n - 1)] | none => l
  else l

/-- FLAGS of a T2 or T3 record (R157, R219): TARGET from the raster line, whether runs follow, MASK_OVERFLOW; a raster line carries
neither SOS nor a clip bit (DEDUCED, assumption log 116). -/
def rasterTapFlags (flags : Nat) (runs : List (Nat × Nat)) (ovf : Bool) : Nat :=
  b2n (bit flags 5) + 8 * b2n (!runs.isEmpty) + 16 * b2n ovf

/-- Tap T2 of a port's columns (R219), with its invalid runs under R150. -/
def tap2 (e : Env) (d : Dev) (p : Nat) (m wp : Int) (flags : Nat) (gl : Option GridLine) (vs : List ColVal) : Dev :=
  let i := tapIx p 2
  let g := geoOf d p (geoBank d p)
  let (f, c) := tapCols d i vs.length
  let part := (vs.drop f).take c
  let (runs, ovf) := lineRuns (d.gn (cIdx p 0) 7) vs.length (vs.map (fun v => !v.isOk))
  let first := g.first + f
  tapLine e d i fun _ =>
    tapRecord
      { tap := 2, port := p, vcType := 0, flags := rasterTapFlags flags runs ovf, line := wrapU 32 m,
        settings := (gl.map (·.setA)).getD 0, trig := flags, arrival := wrapU 64 wp, firstCol := first % 65536,
        colCount := c % 65536, bits := d.gn (cIdx p 0) 1, bank := geoBank d p, high := c / 65536 * 16 + first / 65536 % 16 }
      (((List.range (rasterPlanes d).length).zip (rasterPlanes d)).map (fun q =>
        (q.2, part.map (fun v => nth v.samples q.1 0)))) runs

/-- Tap T3 of a raster line (R219). -/
def tap3 (e : Env) (d : Dev) (r : RasterLine) (bits : Nat) : Dev :=
  let n := d.gn 0x1B00 1
  let (f, c) := tapCols d 0x1B08 n
  tapLine e d 0x1B08 fun _ =>
    tapRecord
      { tap := 3, port := 0xFF, vcType := 0, flags := rasterTapFlags r.flags r.runs r.ovf, line := wrapU 32 r.m, settings := 0,
        trig := r.flags, arrival := wrapU 64 r.wp, firstCol := f % 65536, colCount := c % 65536, bits := bits, bank := 0,
        high := c / 65536 * 16 + f / 65536 % 16 }
      (r.planes.map (fun q => (q.1, (q.2.drop f).take c))) r.runs

/-- A raster line made (R213 to R216, R218, R228). -/
def rasterMake (h : StitchHooks) (e : Env) (d : Dev) (m : Int) : Dev :=
  let (geo, d1) := geoTake e (d.takeShadow 0x1B00 0x1B00) m
  let (cd, d2) := coefTake e d1 cdObj d1.cdCoef m 6
  let d3 := { d2 with cdCoef := cd }
  let swapped := geo || (d1.cdCoef.pending && !cd.pending)
  let ports := linePorts d3 m
  let coef := coefFor d3 cdObj d3.cdCoef m
  let vs := ports.map (fun p =>
    let g := geoOf d3 p (geoBank d3 p)
    (p, g, portColumns d3 p g (d3.gn (sIdx p (2 + geoBank d3 p)) 8) coef (gridAt d3 p m)))
  let arr := vs.map (fun q => (q.1, q.2.1, q.2.2.toArray))
  let sides := [0, 1].filter (fun s => (d3.side s).state != .none)
  let exs := sides.map (fun s => (s, exportFor d3 s m))
  let w := d3.gn 0x1B00 1
  let x2 : Int := winX d3
  let bits := rasterBits d3
  let edge (s x : Nat) : ColVal :=
    match (edgePort s (vs.map (fun q => (q.1, q.2.1)))).bind (fun k => arr.find? (fun q => q.1 == k.1)) with
    | some q => (valAt q.2.1.first q.2.2 x).getD (openCol d3 bits x)
    | none => openCol d3 bits x
  let col (x : Nat) : ColVal × Bool :=
    match exs.find? (fun q => boundaryCol d3 q.1 - x2 + 1 ≤ (x : Int) && (x : Int) ≤ boundaryCol d3 q.1 + x2) with
    | some q => windowColumn d3 q.1 (edge q.1 x) x q.2
    | none => ownColumn d3 bits arr x
  let cols := (List.range w).map col
  let fallback := (cols.filter (·.2)).length
  let lines := ports.filterMap (fun p => (gridAt d3 p m).map (fun g => (p, g)))
  let allGap := ports.all (fun p => (gridAt d3 p m).all (·.gap))
  let gaps := gapRuns w (runsOf 0 none (cols.map (·.1.isGap)))
  let mergeGap := ports.foldl (fun a p => min a (d3.gn (cIdx p 0) 7)) 255
  let (runs, ovf) := lineRuns (if ports.isEmpty then 0 else mergeGap) w (cols.map (fun c => !c.1.isOk))
  let missing := exs.any (fun q => q.2.isNone)
  let fl := lines.foldl (fun a q => a ||| (q.2.flags &&& 0xFE)) 0
    ||| b2n allGap ||| (if !gaps.isEmpty && !allGap then 0x100 else 0) ||| (if fallback ≠ 0 then 0x200 else 0)
    ||| (if missing then 0x400 else 0) ||| (if swapped then 0x800 else 0)
  let planes := ((List.range (rasterPlanes d3).length).zip (rasterPlanes d3)).map (fun q =>
    (q.2, cols.map (fun c => nth c.1.samples q.1 0)))
  let r : RasterLine :=
    { m := m, wp := gridWp d3 m, flags := fl, planes := planes, runs := runs, ovf := ovf, gaps := gaps,
      settings := lines.map (fun q => let g := geoAt d3 q.1 m; { port := q.1, first := g.first, last := g.last, settings := q.2.setA }),
      arrival := maxN (lines.map (fun q => q.2.arrival)) }
  let d4 := vs.foldl (fun d q => tap2 e d q.1 m r.wp fl (gridAt d3 q.1 m) q.2.2) d3
  let d5 := tap3 e d4 r bits
  let d6 := { d5 with freeN := d5.freeN + 4 * w, grid := d5.grid.map (fun (q : Nat × List GridLine) => (q.1, q.2.filter (fun g => decide (m < g.m)))),
                      stitch := { d5.stitch with next := some (m + 1), last := some m } }
  let d7 := if !gaps.isEmpty && !allGap then d6.inc 0x1B06 3 else d6
  let d8 := ((d7.inc 0x1B06 2).add 0x1B06 4 fallback).pub 0x1B06 [(1, r.wp)]
  let d9 := exs.foldl (fun d q => nbAfter h e d q.1 m q.2.isSome) d8
  h.onRaster e (qCommit { d9 with raster := d9.raster ++ [r] } 0x40) r

/-- Whether the next raster line can be made: every contributing port has its grid line (R215). -/
def rasterReady (d : Dev) (m : Int) : Bool :=
  d.ustate 0x00B != .off && !(linePorts d m).isEmpty && (linePorts d m).all (fun p => (gridAt d p m).isSome)

/-- RASTER_LINE_MAKE (R215): once the ports and the neighbours that it waits for are in. -/
def rasterLine (h : StitchHooks) (e : Env) (d : Dev) : Dev :=
  match rasterNext d with
  | none => d
  | some m =>
    let waits := [0, 1].any (fun s => nbWaits (d.side s).state && (exportFor d s m).isNone)
    if rasterReady d m && !waits then rasterMake h e d m else d

/-- NB_WAIT_EXPIRED (R228): NB_WAIT after the own contributions were complete, the line is made without. -/
def nbWaitExpired (h : StitchHooks) (e : Env) (d : Dev) : Dev :=
  match rasterNext d with
  | none => d
  | some m =>
    let waits := [0, 1].any (fun s => nbWaits (d.side s).state && (exportFor d s m).isNone)
    if rasterReady d m && waits && ownComplete d m + d.gn 0x1B10 4 ≤ e.raw then rasterMake h e d m else d

/-- A grid line emitted (R224): the edge ports send their EXPORT on every side that is enabled. -/
def exportSend (e : Env) (d : Dev) (p : Nat) (gl : GridLine) : Dev :=
  [0, 1].foldl (fun d s =>
    if (d.side s).state != .none && (edgeAtLine d s gl.m).any (fun q => q.1 == p) then
      let sent := d.stitch.sent.elim gl.m (fun k => max k gl.m)
      cascSend e { d with freeN := d.freeN + 8 * winX d, stitch := { d.stitch with sent := some sent } } s 1
        (exportBytes d p s gl)
    else d) d

/-- GRID_LINE_EMIT with its EXPORT; with the stitcher OFF the line goes no further. -/
def gridEmitSend (e : Env) (d : Dev) (p : Nat) (poison : List (Nat × Nat × Nat)) : Dev :=
  let d1 := gridEmit e d p poison
  if (d1.pl p).lastM = (d.pl p).lastM then d1
  else
    match (tabGet d1.grid [] p).getLast? with
    | some gl =>
      let d2 := exportSend e d1 p gl
      if d2.ustate 0x00B = .off || d2.stitch.next.any (gl.m < ·) then
        { d2 with grid := tabSet d2.grid p ((tabGet d2.grid [] p).filter (fun g => g.m != gl.m)) }
      else d2
    | none => d1

/-! ### Packets received (R221, R222) -/

/-- The longest payload of a cascade packet in words (R118, R414): an exchange bank holds 20 KiB, a spare bank 65,535 words. -/
def cascWords (kind : Nat) : Nat := if kind = 5 then 65535 else 5115

/-- A cascade packet received whole on a side: checks 1 to 4 of R132, its sequence, and its kind (R221, R222). -/
def cascRx (h : StitchHooks) (e : Env) (d : Dev) (s : Nat) (b : List Byte) : Dev :=
  let kind := field (beAt b 0 1) 5 0
  let w := beAt b 2 2
  let bad := !headerOk b || field (beAt b 0 1) 7 6 != 0 || beAt b 1 1 != 0 || b.length != 20 + 4 * w
    || cascWords kind < w || crc32c (slice b 16 (4 * w)) != beAt b (16 + 4 * w) 4
  if bad || d.ustate 0x008 = .off || !linkUp d (if kind = 5 then spGroup s else exGroup s) then d
  else if kind = 0 || 5 < kind then d.incP (nbIdx s) 0x0A
  else
    let x := d.side s
    let sq := beAt b 4 4
    let gap := match tabFind x.seqs kind with
      | some n => let k := wrapU 32 ((sq : Int) - n); if k < 2147483648 then k else 0
      | none => 0
    let lost := padTo (d.gB (nbIdx s) 9) 20 0
    let d1 := if gap = 0 then d else
      (d.putB (nbIdx s) 9 (patch lost (4 * (kind - 1)) (toLE 4 ((leAt lost (4 * (kind - 1)) 4 + gap) % 4294967296)))).publish (nbIdx s)
    let d2 := qCommit (d1.setSide s { x with seqs := tabSet x.seqs kind ((sq + 1) % 4294967296) })
      (if kind = 5 then 0x43 + s else 0x41 + s)
    let pay := slice b 16 (4 * w)
    match kind with
    | 1 => exportRx h e d2 s pay
    | 2 => h.onContinue e d2 s pay
    | 3 => h.onSettle e d2 s pay
    | 4 => helloRx h e d2 s pay
    | _ => d2.emit (.cascade (2 + s) 5 pay)

/-- Unit 0x008 enters service (R226): every enabled side starts from its link. -/
def cascEnter (h : StitchHooks) (e : Env) (d : Dev) : Dev :=
  [0, 1].foldl (fun d s =>
    if sideOn d s then
      nbTo h e (d.setSide s {}) s (if linkUp d (exGroup s) then .hello else .linkDown)
    else d) d

/-- Unit 0x008 goes OFF: every side is disabled. -/
def cascLeave (h : StitchHooks) (e : Env) (d : Dev) : Dev :=
  [0, 1].foldl (fun d s => nbTo h e (d.setSide s { d.side s with helloOk := false, exports := [] }) s .none) d

/-- Unit 0x00B leaves OFF: the raster starts over. -/
def stitchEnter (d : Dev) : Dev :=
  { d with stitch := {}, grid := [], raster := [], cdCoef := { d.cdCoef with prevs := [] } }

/-- HELLO_SEND (R222). -/
def execHelloSend (t : Nat) (s : State) : Host.Outcome State Fault Refusal :=
  mainStep true t s fun e d => helloSend e d

/-- GEO_SWAP_AT_PLACED (R217). -/
def execGeoSwapAtPlaced (t : Nat) (m : Master) (p : Nat) (s : State) : Host.Outcome State Fault Refusal :=
  mainStep (masterOk m && okPort p) t s fun _ d => geoSwapWrite d m p 1

/-- GEO_SWAP_AT_WP (R217). -/
def execGeoSwapAtWp (t : Nat) (m : Master) (p : Nat) (s : State) : Host.Outcome State Fault Refusal :=
  mainStep (masterOk m && okPort p) t s fun _ d => geoSwapWrite d m p 2

/-- GEO_SWAP_CANCEL (R217). -/
def execGeoSwapCancel (t : Nat) (m : Master) (p : Nat) (s : State) : Host.Outcome State Fault Refusal :=
  mainStep (masterOk m && okPort p) t s fun _ d => geoSwapWrite d m p 3

/-- GEO_COPY (R217). -/
def execGeoCopy (t : Nat) (m : Master) (p : Nat) (v : Int) (s : State) : Host.Outcome State Fault Refusal :=
  mainStep (masterOk m && okPort p) t s fun _ d => geoCopyWrite d m p v

/-- CD_COEF_SWAP (R218). -/
def execCdCoefSwap (t : Nat) (m : Master) (s : State) : Host.Outcome State Fault Refusal :=
  mainStep (masterOk m) t s fun _ d => cdSwapWrite d m 1

/-- CD_COEF_SWAP_CANCEL (R218). -/
def execCdCoefSwapCancel (t : Nat) (m : Master) (s : State) : Host.Outcome State Fault Refusal :=
  mainStep (masterOk m) t s fun _ d => cdSwapWrite d m 2

/-- CD_COEF_COPY (R218). -/
def execCdCoefCopy (t : Nat) (m : Master) (v : Int) (s : State) : Host.Outcome State Fault Refusal :=
  mainStep (masterOk m) t s fun _ d => cdCopyWrite d m v

end Sys2Proof.Machine
end

