-- ==== Sys2Proof/Machine/Calib.lean ====
section
/-! DEFINITION. Calibration in lulls (chapter 7): R165 to R187. -/

namespace Sys2Proof.Machine

/-- LULL_INPUT. -/
def lullInput (d : Dev) : Nat := d.gn 0x3800 2

/-- Whether a kind of lull is enabled. -/
def lullEn (d : Dev) (k : Nat) : Bool := bit (d.gn 0x3800 1) k

/-- The kinds of lull that are open (R165). -/
def openLulls (d : Dev) : Nat :=
  let l := d.lulls
  b2n (!l.target.isEmpty) + 2 * b2n l.splice.isSome + 4 * b2n l.stop + 8 * b2n l.sacr.isSome

/-! ### Retraining (R181, R182) -/

/-- The upper and the lower half of a mask. -/
def maskHalves (mask : Nat) : List Nat :=
  let l := bitsOf 8 mask
  let h := l.length / 2
  [sumN ((l.drop h).map (fun i => 2 ^ i)), sumN ((l.take h).map (fun i => 2 ^ i))]

/-- The load of a port in Mbit/s (R97): a line's bytes, header and trailer, times its rate. -/
def portLoad (e : Env) (d : Dev) (p : Nat) : Nat :=
  let words := ceilDiv (linePixels d p * fmtBits (d.gn (tIdx p 0) 2)) 32 + (if d.gn (tIdx p 0) 5 = 1 then 2 else 0)
  (20 + 4 * words) * 8 * planeCount d p * lineRate16 e d p / 65536000000

/-- The lulls that are open for a port: a TARGET lull is its own (R165). -/
def portLulls (d : Dev) (p : Nat) : Nat := putBit (openLulls d) 0 (d.lulls.target.contains p)

/-- The open lulls in which a port may be retrained (R181). -/
def retrainLulls (d : Dev) (p : Nat) : Nat := portLulls d p &&& d.gn 0x3803 3

/-- Whether a port may be retrained now: more than one lane, its whole mask carrying the stream, a lull, and a load that
fits half the mask; a STOP lull always qualifies. -/
def retrainFits (e : Env) (d : Dev) (p : Nat) : Bool :=
  let mask := (d.port p).mask
  1 < popCount 8 mask && streamRuns d p && (d.port p).change.isNone && (tabFind d.retrains p).isNone &&
    retrainLulls d p != 0 && ((bit (d.gn 0x3803 3) 2 && d.lulls.stop) || portLoad e d p * 100 ≤ payloadCapacity d p / 2 * 96)

/-- Whether a lane asks to be retrained (R181). -/
def retrainAsks (e : Env) (d : Dev) (l : Nat) : Bool :=
  field (d.gn (laneRes l) 6) 15 8 < d.gn 0x3803 2
    || (d.gn 0x3803 1 ≠ 0 && (d.lane l).trainedAt + d.gn 0x3803 1 * 16000000000 ≤ e.raw)

/-- RETRAIN_START (R181): the map changes to the lower half, so that the upper half can train. -/
def retrainStart (e : Env) (d : Dev) (l : Nat) : Dev :=
  let p := l / 8
  let mask := (d.port p).mask
  if p < 16 && bit mask (l % 8) && retrainAsks e d l && retrainFits e d p then
    let r : Retrain := { full := mask, half := 0, step := 0, lulls := retrainLulls d p }
    mapSend e { d with retrains := tabSet d.retrains p r } p (nth (maskHalves mask) 1 0)
  else d

/-- The lanes of a mask of a port. -/
def halfLanes (p mask : Nat) : List Nat := (bitsOf 8 mask).map (fun i => 8 * p + i)

/-- A retraining moves on as far as its lanes and its map allow. -/
def retrainAdvance (e : Env) (d : Dev) (p : Nat) : Dev :=
  match tabFind d.retrains p with
  | none => d
  | some r =>
    let hs := maskHalves r.full
    let half := nth hs r.half 0
    let other := nth hs (1 - r.half) 0
    let set (d : Dev) (x : Retrain) : Dev := { d with retrains := tabSet d.retrains p x }
    match r.step with
    | 0 =>
      if (d.port p).mask = other && (d.port p).change.isNone then
        (halfLanes p half).foldl (fun d l => trainBegin e (unitMove e d (uLane l) .test) l) (set d { r with step := 1 })
      else d
    | 1 =>
      if (halfLanes p half).all (fun l => (d.lane l).training.isNone) then
        (halfLanes p half).foldl (fun d l => unitMove e (laneLeaveTest e d l) (uLane l) .shadow) (set d { r with step := 2 })
      else d
    | 2 =>
      if (halfLanes p half).all (fun l => (d.lane l).link == .aligned) then
        mapSend e (set d { r with step := 3 }) p r.full
      else d
    | _ =>
      if (d.port p).mask = r.full && (d.port p).change.isNone then
        if r.half = 0 then mapSend e (set d { r with half := 1, step := 0 }) p half
        else { (d.inc 0x3803 4) with retrains := tabErase d.retrains p }
      else d

/-- A retraining aborted by the end of its lull (R182): training ends with the best taps, the lanes go to SHADOW, and
the full mask is requested. -/
def retrainAbort (e : Env) (d : Dev) (p : Nat) : Dev :=
  match tabFind d.retrains p with
  | none => d
  | some r =>
    let d1 := (halfLanes p r.full).foldl (fun d l =>
      let d2 := match (d.lane l).training with | some t => trainReturn e d l t | none => d
      if d2.ustate (uLane l) = .test then unitMove e (laneLeaveTest e d2 l) (uLane l) .shadow else d2) d
    mapSend e { (d1.inc 0x3803 5) with retrains := tabErase d1.retrains p } p r.full

/-- Every retraining loses the lulls that have closed, and one that has none left of those in which it began is aborted
(R182). -/
def retrainCheck (e : Env) (d : Dev) : Dev :=
  let held := d.retrains.map (fun (q : Nat × Retrain) => (q.1, { q.2 with lulls := q.2.lulls &&& portLulls d q.1 }))
  (held.filter (fun q => q.2.lulls == 0)).foldl (fun d q => retrainAbort e d q.1) { d with retrains := held }

/-! ### Lulls (R165, R166) -/

/-- A lull opened: LULL_STATE and its event. -/
def lullOpened (e : Env) (d : Dev) (k : Nat) : Dev := (d.put 0x3800 8 (openLulls d : Nat)).raise e 0x210 k

/-- A lull closed: LULL_STATE, its event, and retraining that has lost its lull. -/
def lullClosed (e : Env) (d : Dev) (k : Nat) : Dev :=
  retrainCheck e ((d.put 0x3800 8 (openLulls d : Nat)).raise e 0x211 k)

/-- The TARGET lull of a port at a committed line (R165). -/
def lullTarget (e : Env) (d : Dev) (p : Nat) (target : Bool) : Dev :=
  let l := d.lulls
  if target then
    if l.target.contains p || !lullEn d 0 then d
    else lullOpened e { d with lulls := { l with target := l.target ++ [p] } } 0
  else if l.target.contains p then lullClosed e { d with lulls := { l with target := l.target.filter (· != p) } } 0
  else d

/-- A grant on LULL_SPLICE (R165, R166). -/
def lullSplice (e : Env) (d : Dev) (stamp : Nat) : Dev :=
  if !lullEn d 1 then d
  else
    let l := d.lulls
    let f := (d.enc (lullInput d)).frontier
    match l.splice with
    | some _ =>
      let ws := match l.windows with | (_, none) :: r => (stamp, none) :: r | ws => ws
      { d with lulls := { l with splice := some f, windows := ws } }
    | none =>
      lullOpened e { d with lulls := { l with splice := some f, windows := ((stamp, none) :: l.windows).take 4 } } 1

/-- The SPLICE lull closed at an applied time. -/
def spliceClose (e : Env) (d : Dev) (stamp : Nat) : Dev :=
  let l := d.lulls
  match l.splice with
  | none => d
  | some _ =>
    let ws := match l.windows with | (a, none) :: r => (a, some stamp) :: r | ws => ws
    lullClosed e { d with lulls := { l with splice := none, windows := ws } } 1

/-- The STOP lull closed (R165, R167): the calibration trigger stops with it. -/
def stopClose (e : Env) (d : Dev) : Dev :=
  if d.lulls.stop then lullClosed e { d with lulls := { d.lulls with stop := false, trigAt := none } } 2 else d

/-- A count on an input (R165): STOP ends, and SPLICE once the frontier has passed its span. -/
def lullCount (e : Env) (d : Dev) (n stamp : Nat) : Dev :=
  if n ≠ lullInput d then d
  else
    let d1 := stopClose e d
    match d1.lulls.splice with
    | some s =>
      if d1.gi 0x3800 4 ≠ 0 && s + d1.gi 0x3800 4 < (d1.enc n).frontier then spliceClose e d1 stamp else d1
    | none => d1

/-- A position set moves the splice start with the input (R62). -/
def lullSet (d : Dev) (n : Nat) (dist : Int) : Dev :=
  if n ≠ lullInput d then d else { d with lulls := { d.lulls with splice := d.lulls.splice.map (· + dist) } }

/-- STOP_LULL_OPEN (R165): STANDSTILL has held for STOP_HOLDOFF. -/
def stopOpen (e : Env) (d : Dev) : Dev :=
  let n := lullInput d
  let x := d.enc n
  if lullEn d 2 && x.standstill && !d.lulls.stop && x.stillAt + d.gn 0x3800 3 * 16000 ≤ e.raw then
    lullOpened e { d with lulls := { d.lulls with stop := true, trigAt := none } } 2
  else d

/-- The port whose strips SACRIFICIAL_EVERY counts (R166): P0, or the lowest-numbered configured port. -/
def sacrPort (d : Dev) : Nat := if portConfigured d 0 then 0 else (configuredPorts d).headD 0

/-- An SOS line of the counted port, committed or not (R136, R165, R166): every strip that has closed is counted, and the one that
it opens is the next. -/
def sacrSos (e : Env) (d : Dev) (p line : Nat) : Dev :=
  if p ≠ sacrPort d then d
  else
    let l := d.lulls
    let every := d.gn 0x3800 5
    let due := l.sacrNext || (every ≠ 0 && (l.strips + 1) % every = 0)
    if due && lullEn d 3 then
      lullOpened e { d with lulls := { l with sacrNext := false, sacr := some line, sacrLine := some line } } 3
    else d

/-- A strip of a port closed (R165, R166). -/
def sacrStripEnd (e : Env) (d : Dev) (p : Nat) : Dev :=
  if p ≠ sacrPort d then d
  else
    let d1 := { d with lulls := { d.lulls with strips := d.lulls.strips + 1 } }
    if d.lulls.sacr.isSome then lullClosed e { d1 with lulls := { d1.lulls with sacr := none } } 3 else d1

/-- Whether a line's strip holds the line number of the sacrificed strip's SOS (R166). A line that comes before that number in an
open strip is judged by STRIP_LEN, since its strip's end is still to come (DESIGN CHOICE, assumption log 114). -/
def sacrificed (d : Dev) (p : Nat) (ln : CamLine) : Bool :=
  match d.lulls.sacrLine, ln.strip with
  | some l, some f =>
    let k := wrapI 32 ((l : Int) - f)
    0 ≤ k && (!lineAhead l ln.line || k < stripLen d p)
  | _, _ => false

/-- A committed line's lulls (R165): those that offer it to calibration, SPLICE aside. -/
def lineLulls (d : Dev) (p : Nat) (ln : CamLine) : Nat :=
  b2n (bit ln.flags 6 && d.lulls.target.contains p) + 4 * b2n ln.cal + 8 * b2n (sacrificed d p ln)

/-- What a committed line does to the lulls, and the line with its own. -/
def lullCommit (e : Env) (d : Dev) (p : Nat) (ln : CamLine) : CamLine × Dev :=
  let d1 := lullTarget e d p (bit ln.flags 6)
  ({ ln with lulls := lineLulls d1 p ln }, d1)

/-- Whether a midpoint lies in a SPLICE window. -/
def inSplice (d : Dev) (mid : Nat) : Bool :=
  d.lulls.windows.any (fun w => 0 ≤ stampDiff mid w.1 && (match w.2 with | none => true | some b => decide (stampDiff mid b < 0)))

/-- A write of SACRIFICE_NEXT (R166). -/
def sacrNextWrite (d : Dev) (m : Master) (v : Int) : Dev :=
  d.asWrite m 0x3800 6 v fun d =>
    (if v = 1 then { d with lulls := { d.lulls with sacrNext := true } } else d).ended m stOK

/-! ### Jobs (R168, R169) -/


/-- JOB_STATE's code (R185). -/
def jobCode : JobState → Nat
  | .idle => 0 | .waiting => 1 | .acquiring => 2 | .computing => 3 | .candidate => 4 | .committing => 5

/-- A job's state, kind and count published (R185). -/
def jobPub (d : Dev) (p : Nat) : Dev :=
  let j := d.job p
  d.pub (jIdx p 3) [(1, (jobCode j.state : Nat)), (2, (j.kind : Nat)), (3, (j.lines : Nat))]

/-- A job moved to a state. -/
def jobTo (d : Dev) (p : Nat) (st : JobState) : Dev := jobPub (d.setJob p { d.job p with state := st }) p

/-- A job written, and published where what R185 shows of it has moved. -/
def jobPut (d : Dev) (p : Nat) (x : Job) : Dev :=
  let j := d.job p
  let d1 := d.setJob p x
  if j.state = x.state && j.kind = x.kind && j.lines = x.lines then d1 else jobPub d1 p

/-- A job's end (R179): its log entry, LAST_OUTCOME and CAL_DONE. `first` is the first line under new values. -/
def jobEnd (e : Env) (d : Dev) (p outcome check metric first : Nat) : Dev :=
  let j := d.job p
  let ent := toLE 8 (nowA e d) ++ toLE 1 p ++ toLE 1 j.kind ++ toLE 1 outcome ++ toLE 1 check ++ toLE 4 metric
    ++ toLE 4 j.lines ++ toLE 2 (j.settings.getD 0) ++ toLE 2 j.cand.added ++ toLE 4 first ++ toLE 4 0
  let log := (ent ++ d.gB 0x3801 1).take 1024
  let d1 := (d.putB 0x3801 1 log).inc 0x3801 2
  let dark := j.kind = 1 && (outcome = 2 || outcome = 3) && jobAcquires j
  let d2 := if dark then d1.raise e 0x213 p else d1
  let reset := j.deadReset || (outcome ≠ 0 && j.cand.allGood)
  let d3 := d2.setJob p { deadReset := reset, kind := j.kind, lines := j.lines }
  (jobPub ((d3.put (jIdx p 3) 4 outcome).put (jIdx p 3) 5 check) p).raise e 0x214 outcome

/-- A job begins (R168, R170). -/
def jobBegin (e : Env) (d : Dev) (p kind : Nat) : Dev :=
  let j : Job := { state := .waiting, kind := kind, start := e.raw, settled := kind != 1,
                   settleAt := e.raw + d.gn 0x3800 9 * 16000, deadReset := (d.job p).deadReset }
  let d1 := jobPub (d.setJob p j) p
  if kind = 1 then d1.raise e 0x212 p else d1

/-- A start of a job (R168, R176); none where the state refuses it. -/
def jobStart (e : Env) (d : Dev) (p kind : Nat) : Option Dev :=
  match (d.job p).state with
  | .idle => some (jobBegin e d p kind)
  | .candidate => some (jobBegin e (jobEnd e d p 4 0 (d.job p).cand.metric 0) p kind)
  | _ => none

/-- A write of JOB_START. -/
def jobStartWrite (e : Env) (d : Dev) (m : Master) (p : Nat) (v : Int) : Dev :=
  d.asWrite m (jIdx p 0) 1 v fun d =>
    match jobStart e d p v.toNat with
    | some d1 => d1.ended m stOK
    | none => d.reject m (cIdx p 0)

/-- A grant on CAL_START (R168). -/
def calStartGrant (e : Env) (d : Dev) (p : Nat) : Dev :=
  match jobStart e d p (d.gn (jIdx p 0) 9) with
  | some d1 => d1
  | none => d.inc (cIdx p 0) 8

/-- ILLUM_SETTLE_EXPIRED (R170). -/
def illumSettled (e : Env) (d : Dev) (p : Nat) : Dev :=
  let j := d.job p
  if j.state = .waiting && !j.settled && j.settleAt ≤ e.raw then d.setJob p { j with settled := true } else d

/-- A commit withdrawn: its swap is cancelled, and the inactive bank is free again (DEDUCED, assumption log 47). -/
def jobWithdraw (d : Dev) (p : Nat) : Dev :=
  let j := d.job p
  if j.state = .committing then
    let d1 := if j.step = 2 then swapRequest d p 4 else d
    d1.setPx p { d1.px p with held := false }
  else d

/-- ACQ_TIMEOUT (R169): a job that has not completed, in whatever state, ends as ABANDONED. -/
def acqTimeout (e : Env) (d : Dev) (p : Nat) : Dev :=
  let j := d.job p
  if j.state ≠ .idle && j.start + d.gn (jIdx p 0) 4 * 16000000000 ≤ e.raw then
    jobEnd e (jobWithdraw d p) p 2 0 j.cand.metric 0 else d

/-- A job's accumulation restarted from a line of other settings (R169). -/
def jobRestart (j : Job) (settings : Nat) : Job :=
  { state := j.state, kind := j.kind, start := j.start, settled := j.settled, settleAt := j.settleAt,
    settings := some settings, deadReset := j.deadReset }

/-! ### What a line adds (R170, R172, R173) -/

/-- Each pixel's sum and sum of squares with one more sample. -/
def addSquares : List (Nat × Nat) → List Px → List (Nat × Nat)
  | a :: as, x :: xs => (a.1 + x.v.toNat, a.2 + x.v.toNat * x.v.toNat) :: addSquares as xs
  | [], x :: xs => (x.v.toNat, x.v.toNat * x.v.toNat) :: addSquares [] xs
  | _, [] => []

/-- A sorted insertion. -/
def insSorted (a : Nat) : List Nat → List Nat
  | [] => [a]
  | b :: r => if a ≤ b then a :: b :: r else b :: insSorted a r

/-- A list in ascending order. -/
def sortN (l : List Nat) : List Nat := l.foldl (fun s a => insSorted a s) []

/-- The median: of an even number of values the upper one of the middle (DEDUCED, assumption log 45). -/
def medianN (l : List Nat) : Nat := nth (sortN l) (l.length / 2) 0

/-- Columns at which samples cross a level, as the column before the crossing and whether it rises. -/
def crossings (lvl2 : Nat) : Nat → List Nat → List Nat
  | i, a :: b :: r =>
    if (2 * a < lvl2) != (2 * b < lvl2) then i :: crossings lvl2 (i + 1) (b :: r) else crossings lvl2 (i + 1) (b :: r)
  | _, _ => []

/-- The mean of samples `lo` to `hi` times 256. -/
def mean256 (s : List Nat) (lo hi : Nat) : Nat :=
  let l := (s.drop lo).take (hi + 1 - lo)
  if l.isEmpty then 0 else sumN l * 256 / l.length

/-- The column before which samples from `lo` to `hi` pass a level in 1/256, the nearest to `c`. -/
def passNear (s : List Nat) (lvl lo hi c : Nat) : Nat :=
  let dist (i : Nat) : Nat := ((i : Int) - c).natAbs
  let is := ((List.range (hi - lo)).map (lo + ·)).filter (fun i =>
    decide (256 * nth s i 0 < lvl) != decide (256 * nth s (i + 1) 0 < lvl))
  is.foldl (fun b i => if dist i < dist b then i else b) (is.headD c)

/-- The edges of a striped target in samples (R172), in 1/256 pixel from the first sample: stripes are told apart at the
middle of the brightest and darkest sample (DEDUCED, log 45), and each edge is placed by linear interpolation at the
level halfway between the means of the stripes next to it, where the samples between the middles of those stripes pass it. -/
def stripeEdges (s : List Nat) : List Int :=
  let hi := maxN s
  let lo := s.foldl min hi
  let cs := crossings (hi + lo) 0 s
  let ends := cs ++ [s.length - 1]
  let starts := 0 :: cs.map (· + 1)
  (List.range cs.length).map (fun k =>
    let c := nth cs k 0
    let a0 := nth starts k 0
    let b1 := nth ends (k + 1) c
    let lvl := (mean256 s a0 c + mean256 s (c + 1) b1) / 2
    let i := passNear s lvl ((a0 + c) / 2) ((c + 1 + b1) / 2) c
    let a : Int := 256 * nth s i 0
    let b : Int := 256 * nth s (i + 1) 0
    (256 * i : Int) + (if a = b then 0 else clampI 0 256 (Int.fdiv (((lvl : Int) - a) * 256) (b - a))))

/-- Edge sums with one more line: a line without an edge, or with another number of them, is left out (DEDUCED, log 45). -/
def addEdges (sum l : List Int) : Option (List Int) :=
  if l.isEmpty then none
  else if sum.isEmpty then some l else if sum.length = l.length then some (List.zipWith (· + ·) sum l) else none

/-- The patches of COLOUR_REF (R184): first and last column and the required outputs. -/
def colourPatches (d : Dev) (p : Nat) : List (Nat × Nat × List Nat) :=
  let b := d.gB (jIdx p 6) 1
  (List.range (min 24 (b.length / 16))).map (fun k =>
    let o := 16 * k
    (leAt b o 2, leAt b (o + 2) 2, (List.range 4).map (fun i => leAt b (o + 4 + 2 * i) 2)))

/-- How many lines a job needs. -/
def jobNeed (d : Dev) (p : Nat) : Nat := 2 ^ d.gn (jIdx p 0) 3

/-- The acquisition of a job complete: it computes. -/
def jobCompute (e : Env) (d : Dev) (p : Nat) : Dev :=
  let d1 := jobTo d p .computing
  if (d1.job p).kind = 1 then d1.raise e 0x213 p else d1

/-- A job with one more line accumulated: none where the line gives it nothing. -/
def jobAdd (d : Dev) (p : Nat) (j : Job) (w : LineWork) : Option Job :=
  match j.kind with
  | 1 | 2 =>
    some { j with lines := j.lines + 1, sums := ((List.range w.s1.length).zip w.s1).foldl (fun t q =>
      tabSet t q.1 (addSquares (tabGet t [] q.1) q.2.2)) j.sums }
  | 3 | 4 =>
    let f := d.gn (jIdx p 5) 2
    let c := d.gn (jIdx p 5) 3
    let row := match w.out.planes with | q :: _ => q.2 | [] => []
    let part := if c = 0 then row.drop f else (row.drop f).take c
    let es := (stripeEdges part).map (· + 256 * (f : Int))
    (addEdges j.edges es).map (fun s => { j with lines := j.lines + 1, edges := s })
  | 5 =>
    let ps := colourPatches d p
    some { j with lines := j.lines + 1, patches := ((List.range w.s4.length).zip w.s4).foldl (fun t q =>
      let one (k : Nat × Nat × List Nat) : Nat × Nat :=
        let l := (q.2.2.drop k.1).take (k.2.1 + 1 - k.1)
        (sumN (l.map (fun x => x.v.toNat)), l.length)
      let add := ps.map one
      let old := tabGet t [] q.1
      tabSet t q.1 (if old.isEmpty then add else List.zipWith (fun a b => (a.1 + b.1, a.2 + b.2)) old add)) j.patches }
  | _ => none

/-- Whether a line lies in a lull that a job is allowed (R169), and shows what the job needs: a GAIN job's reference is a target,
or the web itself where GAIN_FROM_WEB is 1 (R170; that the target's lines are those with FLAGS.TARGET is DEDUCED, assumption
log 114). -/
def jobTakes (d : Dev) (p : Nat) (ln : CamLine) : Bool :=
  let kinds := ln.lulls ||| (if inSplice d (midTime ln) then 2 else 0)
  kinds &&& jobLulls d p != 0 && ((d.job p).kind != 2 || d.gb (jIdx p 0) 0x0B || bit ln.flags 6)

/-- CAL_LINE_ACCEPT (R169): a corrected line offered to the port's job. -/
def jobLine (e : Env) (d : Dev) (p : Nat) (w : LineWork) : Dev :=
  let j := d.job p
  if !jobAcquires j || !j.settled || j.kind = 6 || !jobTakes d p w.cam then d
  else
    let j1 := if j.settings.any (· != w.cam.settings) then jobRestart j w.cam.settings
              else { j with settings := some w.cam.settings }
    match jobAdd d p { j1 with state := .acquiring } w with
    | none => if j.settings.isSome && j1.settings != j.settings then jobPut d p j1 else d
    | some j2 =>
      let d1 := jobPub (d.setJob p j2) p
      if jobNeed d p ≤ j2.lines then jobCompute e d1 p else d1

/-! ### The delay job (R174) -/

/-- DELAY_REF_GRANT (R174, R180): an edge of a reference pin, stamped as an ASYNC grant. -/
def refGrant (e : Env) (d : Dev) (k : Nat) : Dev :=
  let stamp := stampA e d (ceilTo 16 e.raw)
  let one (d : Dev) (p : Nat) : Dev :=
    let j := d.job p
    if d.gn (jIdx p 4) 2 = k && j.kind = 6 && jobAcquires j then
      let t := wrapU 64 ((stamp : Int) - d.gi (jIdx p 4) 3)
      let g := (posOn d (lullInput d) t, encSpeed e d (lullInput d))
      d.setJob p { j with grants := j.grants ++ [g] }
    else d
  let d1 := (List.range 16).foldl one d
  let watched := (List.range 16).any (fun p => d.gn (jIdx p 4) 2 = k)
  if watched && d1.gn 0x3802 7 = 1 && d1.gn 0x3802 2 = 1 then
    let x := posOn d1 (d1.gn 0x3802 1) stamp
    let len := match d1.scale.last with | none => 0 | some (l, _) => l + d1.gn 0x3802 3
    { d1 with scale := { first := d1.scale.first.or (some (0, x)), last := some (len, x) } }
  else d1

/-- A pair kept, unless it lies too far from the running D (R174). -/
def delayPair (e : Env) (d : Dev) (p : Nat) (j : Job) (xcam : Int) : Dev :=
  match j.grants with
  | [] => jobPut d p j
  | (xref, v) :: rest =>
    let dd := xcam - xref
    let n := j.pairs.length
    let run := if n = 0 then dd else sumI (j.pairs.map (·.1)) / n
    if d.gi (jIdx p 4) 7 < (dd - run).natAbs then jobPut d p { j with grants := rest }
    else
      let prs := j.pairs ++ [(dd, v)]
      let d1 := jobPub (d.setJob p { j with grants := rest, pairs := prs, lines := prs.length }) p
      let vs := prs.map (fun q => q.2.natAbs)
      let vmin := vs.foldl min (maxN vs)
      if d.gn (jIdx p 4) 6 ≤ prs.length && 2 * vmin ≤ maxN vs then jobCompute e d1 p else d1

/-- A placed and corrected line offered to a DELAY job (R174): a bar is a run of lines below the middle of the brightest
and darkest line mean (DEDUCED, log 45), its place the centroid. -/
def delayLine (e : Env) (d : Dev) (p : Nat) (c : CorrLine) (wp : Int) : Dev :=
  let j := d.job p
  if j.kind ≠ 6 || !jobAcquires j || !jobTakes d p c.cam then d
  else
    let f := d.gn (jIdx p 4) 4
    let row := match c.planes with | q :: _ => (q.2.drop f).take (d.gn (jIdx p 4) 5) | [] => []
    let mean := if row.isEmpty then 0 else sumN row * 16 / row.length
    let j0 := if j.settings.any (· != c.cam.settings) then jobRestart j c.cam.settings
              else { j with settings := some c.cam.settings }
    let b := j0.bar
    let hi := max b.hi mean
    let lo := min b.lo mean
    let w : Int := (hi + lo : Nat) - 2 * (mean : Int)
    let j1 := { j0 with state := .acquiring }
    if 0 < w && lo < hi then
      jobPut d p { j1 with bar := { hi := hi, lo := lo, inside := true, w := b.w + w, wx := b.wx + w * wp } }
    else
      let j2 := { j1 with bar := { hi := hi, lo := lo } }
      if b.inside && b.w ≠ 0 then delayPair e d p j2 (b.wx / b.w) else jobPut d p j2

/-! ### Least squares, exactly -/

/-- Rows `i` and `k` of a list changed places. -/
def swapRows {α : Type} (l : List α) (i k : Nat) : List α :=
  match l[i]?, l[k]? with
  | some a, some b => (l.set i b).set k a
  | _, _ => l

/-- One column eliminated. -/
def elimCol (m : List (List Frac)) (c : Nat) : Option (List (List Frac)) :=
  let zero : Frac := { n := 0 }
  match ((List.range m.length).filter (fun r => c ≤ r)).find? (fun r => (nth (nth m r []) c zero).n != 0) with
  | none => none
  | some r =>
    let m1 := swapRows m c r
    let pr := nth m1 c []
    let pv := nth pr c zero
    let unit := pr.map (fun x => x.div pv)
    some (((List.range m1.length).zip m1).map (fun q =>
      if q.1 = c then unit
      else
        let k := nth q.2 c zero
        List.zipWith (fun a b => a.sub (k.mul b)) q.2 unit))

/-- The solution of a square system given as augmented rows. -/
def solveRows (n : Nat) (m : List (List Frac)) : Option (List Frac) :=
  ((List.range n).foldl (fun a c => a.bind (fun m => elimCol m c)) (some m)).map
    (fun m => m.map (fun r => nth r n { n := 0 }))

/-- The least-squares solution of rows of `n` coefficients with their right sides. -/
def leastSquares (n : Nat) (rows : List (List Frac × Frac)) : Option (List Frac) :=
  let zero : Frac := { n := 0 }
  let at_ (r : List Frac × Frac) (i : Nat) : Frac := if i = n then r.2 else nth r.1 i zero
  solveRows n ((List.range n).map (fun i => (List.range (n + 1)).map (fun k =>
    rows.foldl (fun a r => a.add ((at_ r i).mul (at_ r k))) zero)))

/-! ### Computing (R170 to R175) -/

/-- The result of a job's computation: a candidate, or the check that failed with its metric. -/
inductive JobResult where
  | pass (c : Candidate)
  | fail (check metric added : Nat)

/-- A natural as F32. -/
def f32Nat (n : Nat) : Nat := f32.write (Frac.ofInt n)

/-- The window of 33 values centred on each, cut at the ends of the line (R171). -/
def windowMedians (l : List Nat) : List Nat :=
  (List.range l.length).map (fun i => medianN ((l.drop (i - 16)).take (min (i + 17) l.length - (i - 16))))

/-- The mean of a pixel's source pixels under R145, rounded half up; its own value where it has none (R171). -/
def sourceOne (code x : Nat) (l r : Option (Nat × Int)) : Nat :=
  let nearest : Nat :=
    match l, r with
    | some (a, va), some (c, vc) => (if c < a then vc else va).toNat
    | some (_, va), none => va.toNat
    | none, some (_, vc) => vc.toNat
    | none, none => x
  match code, l, r with
  | 1, some (_, va), some (_, vc) => ((va + vc + 1) / 2).toNat
  | 1, _, _ => nearest
  | 2, _, _ => nearest
  | _, _, _ => x

/-- The values of a plane with those of replaced pixels from their sources. -/
def sourceGo : List Nat → List Px → List Nat → List Nat → List Nat
  | lc, lx, c :: cs, x :: xs =>
    let right := xs.take 4 |>.map (fun v => ({ v := (v : Nat) } : Px))
    sourceOne c x (goodWithin 4 1 lc lx) (goodWithin 4 1 cs right)
      :: sourceGo (c :: lc.take 3) ({ v := (x : Nat) } :: lx.take 3) cs xs
  | _, _, _, _ => []

/-- The new codes of a plane (R171): old codes, and those of the pixels found dead (0: not found). -/
def newCodes (sticky : Bool) (old marks : List Nat) : List Nat :=
  List.zipWith (fun c x => if c = 0 then x else if sticky || x = 0 then c else x) old marks

/-- A plane under a candidate (R171, R177): its codes, darks and gains, on top of those of a bank. -/
def candPlane (dark sticky allGood : Bool) (vals marks : List Nat) (base : List Nat × List Nat × List Nat) :
    List Nat × List Nat × List Nat :=
  let (codes, darks, gains) := base
  let new := newCodes sticky (if allGood then codes.map (fun _ => 0) else codes) marks
  (new, sourceGo [] [] new (if dark then vals else darks), sourceGo [] [] new (if dark then gains else vals))

/-- The magnitudes of the differences over GOOD pixels. -/
def changesGood : List Nat → List Nat → List Nat → List Nat
  | c :: cs, a :: as, b :: bs =>
    if c = 0 then ((a : Int) - b).natAbs :: changesGood cs as bs else changesGood cs as bs
  | _, _, _ => []

/-- The planes of the active bank: dead codes, darks, gains. -/
def bankPlane (d : Dev) (p b j : Nat) : List Nat × List Nat × List Nat :=
  let n := linePixels d p
  (deadPlane n j (bankBytes d p b 4), ((u16s (bankBytes d p b 5)).drop (j * n)).take n,
   ((u16s (bankBytes d p b 6)).drop (j * n)).take n)

/-- A DARK or GAIN job computed (R170, R171, R175). -/
def computeDark (d : Dev) (p : Nat) (j : Job) : JobResult :=
  let i0 := jIdx p 0
  let lim := jIdx p 2
  let acc := d.gn i0 3
  let bank := activeBank d p
  let planes := List.range (planeCount d p)
  let dark := j.kind == 1
  let sticky := d.gb i0 0x0D
  let one (k : Nat) : (List Nat × List Nat) × (List Nat × List Nat × List Nat) × Nat × List Nat :=
    let (codes, darks, gains) := bankPlane d p bank k
    let old := if j.deadReset then codes.map (fun _ => 0) else codes
    let mean := (tabGet j.sums [] k).map (fun (q : Nat × Nat) => (q.1 + 2 ^ (acc - 1)) / 2 ^ acc)
    let vals := if dark then mean else zip3 (fun m dk g =>
      let dd : Int := (m : Int) - dk
      if dd ≤ 0 then g else min (max ((d.gn i0 0x0A * 16384 + dd.toNat / 2) / dd.toNat) 1) 65535) mean darks gains
    let none_ := if dark then vals.map (fun _ => false) else List.zipWith (fun m dk => decide (m ≤ dk)) mean darks
    let med := windowMedians vals
    let off := List.zipWith (fun v m =>
      if dark then decide (d.gn lim 8 < ((v : Int) - m).natAbs)
      else decide (d.gn lim 9 * m < 100 * ((v : Int) - m).natAbs)) vals med
    let found := List.zipWith (· || ·) none_ off
    let marks := found.map (fun x => if x then d.gn i0 0x0C else 0)
    let added := (List.zipWith (fun c x => c == 0 && x) old found).filter id
    let r := candPlane dark sticky j.deadReset vals marks (codes, darks, gains)
    ((vals, marks), r, added.length, changesGood r.1 vals (if dark then darks else gains))
  let rs := planes.map one
  let added := sumN (rs.map (fun r => r.2.2.1))
  let meds := rs.map (fun r => medianN r.2.1.2.1)
  let change := medianN (rs.flatMap (fun r => r.2.2.2))
  let badMed := meds.find? (fun m => m < d.gn lim 1 || d.gn lim 2 < m)
  let good := rs.flatMap (fun r => (r.2.1.1.zip r.2.1.2.2).filterMap (fun (q : Nat × Nat) => if q.1 = 0 then some q.2 else none))
  let badGain := good.find? (fun g => g < d.gn lim 3 || d.gn lim 4 < g)
  let most := maxN (rs.map (fun r => r.2.2.1))
  if dark && badMed.isSome then .fail 2 (f32Nat (badMed.getD 0)) added
  else if !dark && badGain.isSome then .fail 3 (f32Nat (badGain.getD 0)) added
  else if d.gn lim 7 < most then .fail 4 (f32Nat most) added
  else if (if dark then d.gn lim 5 else d.gn lim 6) < change then .fail 5 (f32Nat change) added
  else .pass { vals := rs.map (·.1.1), marks := rs.map (·.1.2), sticky := sticky, allGood := j.deadReset,
               metric := f32Nat change, added := added }

/-- The value of a polynomial of fractions. -/
def polyFrac (c : List Frac) (t : Frac) : Frac := c.reverse.foldl (fun a k => (a.mul t).add k) { n := 0 }

/-- The square root of a fraction to 2^-40, as F32. -/
def f32Sqrt (a : Frac) : Nat := f32.write { n := isqrt (a.n.natAbs * 2 ^ 80 / a.d), d := 2 ^ 40 }

/-- What a geometry job's fit leaves (R172): the new polynomial, the mean square and the largest of the residuals, and
the largest shift over the port's pixels. -/
structure GeoFit where
  bits : List Nat
  meanSquare : Frac
  largest : Frac
  shift : Frac

/-- The fit of a geometry job (R172): stripes and gaps are equally wide, so that edges lie half a pitch apart
(DEDUCED, log 45). -/
def geoSolve (d : Dev) (p : Nat) (j : Job) : Option GeoFit :=
  let g := geoOf d p (geoBank d p)
  let old := g.c.map f64Val
  let pitch := (f64Val (d.gn 0x1B00 4)).mul (Frac.ofInt 2)
  let step := (Frac.ofInt (d.gn (jIdx p 5) 1)).div pitch
  let first := Frac.ofInt ((d.gn (jIdx p 5) 4 : Int) - d.gn 0x1B00 2 - g.first)
  let pts := ((List.range j.edges.length).zip j.edges).map (fun (q : Nat × Int) =>
    (first.add (step.mul (Frac.ofInt q.1)), Frac.norm { n := q.2, d := 256 * max j.lines 1 }))
  let full := j.kind == 4
  let rows := pts.map (fun (q : Frac × Frac) =>
    let t2 := q.1.mul q.1
    let t3 := t2.mul q.1
    if full then ([Frac.ofInt 1, q.1, t2, t3], q.2)
    else
      let keep := ((nth old 2 { n := 0 }).mul t2).add ((nth old 3 { n := 0 }).mul t3)
      ([Frac.ofInt 1, q.1], q.2.sub keep))
  (leastSquares (if full then 4 else 2) rows).map (fun s =>
    let bits := (if full then s.map f64.write else s.map f64.write ++ [nth g.c 2 0, nth g.c 3 0])
    let new := bits.map f64Val
    let res := pts.map (fun (q : Frac × Frac) => (q.2.sub (polyFrac new q.1)).abs)
    { bits := bits,
      meanSquare := (res.foldl (fun (a r : Frac) => a.add (r.mul r)) { n := 0 }).div (Frac.ofInt (max res.length 1)),
      largest := res.foldl Frac.max { n := 0 },
      shift := (List.range g.width).foldl (fun (a : Frac) t =>
        a.max ((polyFrac new (Frac.ofInt t)).sub (polyFrac old (Frac.ofInt t))).abs) { n := 0 } })

/-- A geometry job computed (R172, R175). -/
def computeGeo (d : Dev) (p : Nat) (j : Job) : JobResult :=
  let lim := jIdx p 2
  match geoSolve d p j with
  | none => .fail 1 (f32Nat j.lines) 0
  | some f =>
    let tooBig (a : Frac) (k : Nat) : Bool := Frac.lt { n := d.gn lim k, d := 1000 } a
    let rmsMax : Frac := { n := d.gn lim 0x0A, d := 1000 }
    if (rmsMax.mul rmsMax).lt f.meanSquare then .fail 6 (f32Sqrt f.meanSquare) 0
    else if tooBig f.largest 0x0B then .fail 6 (f32.write f.largest) 0
    else if tooBig f.shift 0x0C then .fail 7 (f32.write f.shift) 0
    else .pass { poly := f.bits, metric := f32Sqrt f.meanSquare }

/-- GEO_RMS and GEO_MAX as a geometry job leaves them (R172, R185): the root mean square and the largest residual. -/
def geoFit (d : Dev) (p : Nat) (j : Job) : Option (Nat × Nat) :=
  (geoSolve d p j).map (fun f => (f32Sqrt f.meanSquare, f32.write f.largest))

/-- A COLOUR job computed (R173, R175): the matrix and offsets rounded, and the largest difference they leave. -/
def computeColour (d : Dev) (p : Nat) (j : Job) : JobResult :=
  let n := planeCount d p
  let ps := colourPatches d p
  let z (k i : Nat) : Frac :=
    let q := nth (tabGet j.patches [] i) k (0, 0)
    if q.2 = 0 then { n := 0 } else Frac.norm { n := q.1, d := q.2 }
  let rowOf (k : Nat) : List Frac := (List.range n).map (z k) ++ [Frac.ofInt 1]
  let ks := List.range ps.length
  let req (k o : Nat) : Int := nth (nth ps k (0, 0, [])).2.2 o 0
  let fit (o : Nat) : Option (List Frac) := leastSquares (n + 1) (ks.map (fun k => (rowOf k, Frac.ofInt (req k o))))
  match (List.range 4).mapM fit with
  | none => .fail 1 (f32Nat j.lines) 0
  | some fs =>
    let m := fs.map (fun f => (List.range 4).map (fun i =>
      if i < n then clampI (-32768) 32767 ((nth f i { n := 0 }).mul (Frac.ofInt 4096)).round else 0))
    let offs := fs.map (fun f => clampI (-32768) 32767 (nth f n { n := 0 }).round)
    let pred (k o : Nat) : Frac :=
      ((List.range n).foldl (fun (a : Frac) i =>
        a.add ((z k i).mul (Frac.norm { n := nth (nth m o []) i 0, d := 4096 }))) { n := 0 }).add (Frac.ofInt (nth offs o 0))
    let res := ks.foldl (fun (a : Frac) k => (List.range 4).foldl (fun (a : Frac) o =>
      a.max ((Frac.ofInt (req k o)).sub (pred k o)).abs) a) { n := 0 }
    if Frac.lt (Frac.ofInt (d.gn (jIdx p 2) 0x0D)) res then .fail 8 (f32.write res) 0
    else .pass { matrix := m.flatten ++ offs, metric := f32.write res }

/-- The fit of a DELAY job (R174): e in tt and D. -/
def delayFit (j : Job) : Option (Int × Int) :=
  (leastSquares 2 (j.pairs.map (fun q => ([Frac.ofInt 1, Frac.ofInt (-q.2)], Frac.ofInt q.1)))).map (fun s =>
    (((nth s 1 { n := 0 }).mul (Frac.ofInt 16000)).round, (nth s 0 { n := 0 }).round))

/-- A DELAY job computed (R174, R175). -/
def computeDelay (d : Dev) (p : Nat) (j : Job) : JobResult :=
  match delayFit j with
  | none => .fail 1 (f32Nat j.lines) 0
  | some (ee, _) =>
    if d.gn (jIdx p 2) 0x0E < ee.natAbs then .fail 9 (f32Nat ee.natAbs) 0
    else .pass { trim := clampI (-2147483648) 2147483647 (d.gi (jIdx p 4) 1 + ee), metric := f32Nat ee.natAbs }

/-- JOB_COMPUTE_DONE (R175, R176). -/
def jobComputed (e : Env) (d : Dev) (p : Nat) : Dev :=
  let j := d.job p
  if j.state ≠ .computing then d
  else
    let r := match j.kind with
      | 1 | 2 => computeDark d p j
      | 3 | 4 => computeGeo d p j
      | 5 => computeColour d p j
      | _ => computeDelay d p j
    let d1 := match j.kind with
      | 3 | 4 => match geoFit d p j with
        | some f => (d.put (jIdx p 3) 6 f.1).put (jIdx p 3) 7 f.2
        | none => d
      | 5 => match r with
        | .pass c => d.put (jIdx p 3) 8 c.metric
        | .fail 8 m _ => d.put (jIdx p 3) 8 m
        | .fail _ _ _ => d
      | 6 => match delayFit j with
        | some (ee, dd) => (d.put (jIdx p 3) 9 (wrapI 32 ee)).put (jIdx p 3) 0x0A dd
        | none => d
      | _ => d
    match r with
    | .fail check m added =>
      jobEnd e (d1.setJob p { j with cand := { j.cand with added := added } }) p 1 check m 0
    | .pass c =>
      let d2 := d1.setJob p { j with cand := c, step := 0, deadReset := j.deadReset && !c.allGood }
      jobTo d2 p (if d.gb (jIdx p 0) 6 then .committing else .candidate)

/-! ### Commit (R176 to R178) -/

/-- A write of COMMIT (R176). -/
def commitWrite (d : Dev) (m : Master) (p : Nat) (v : Int) : Dev :=
  d.asWrite m (jIdx p 0) 7 v fun d =>
    if v = 0 then d.ended m stOK
    else if (d.job p).state = .candidate then (jobTo d p .committing).ended m stOK
    else d.reject m (cIdx p 0)

/-- A write of JOB_ABORT (R176, R184). In COMMITTING it also withdraws the job's swap and gives the inactive bank free
(DEDUCED, assumption log 47). -/
def jobAbortWrite (e : Env) (d : Dev) (m : Master) (p : Nat) (v : Int) : Dev :=
  d.asWrite m (jIdx p 0) 8 v fun d =>
    if v = 0 then d.ended m stOK
    else match (d.job p).state with
      | .idle => d.ended m stOK
      | .candidate => (jobEnd e d p 4 0 (d.job p).cand.metric 0).ended m stOK
      | _ => (jobEnd e (jobWithdraw d p) p 3 0 (d.job p).cand.metric 0).ended m stOK

/-- A write of DEAD_RESET (R171). -/
def deadResetWrite (d : Dev) (m : Master) (p : Nat) (v : Int) : Dev :=
  d.asWrite m (jIdx p 0) 0x0E v fun d =>
    (if v = 1 then d.setJob p { d.job p with deadReset := true } else d).ended m stOK

/-- Four dead codes in a byte. -/
def packCodes : List Nat → List Byte
  | a :: b :: c :: e :: r => BitVec.ofNat 8 (a + 4 * b + 16 * c + 64 * e) :: packCodes r
  | [] => []
  | l => [BitVec.ofNat 8 (nth l 0 0 + 4 * nth l 1 0 + 16 * nth l 2 0)]

/-- A candidate written into a bank, on top of what the bank holds (R177). -/
def candWrite (d : Dev) (p b : Nat) (j : Job) : Dev :=
  let i := bankIdx p b
  let d1 := bankTouch d p b
  let c := j.cand
  let d2 := match j.kind with
    | 5 => d1.putB i 3 (ofU16s (c.matrix.map (wrapU 16)))
    | _ =>
      let rs := (List.range (planeCount d p)).map (fun k =>
        candPlane (j.kind == 1) c.sticky c.allGood (nth c.vals k []) (nth c.marks k []) (bankPlane d p b k))
      ((d1.putB i 4 (rs.flatMap (fun r => packCodes r.1))).putB i 5 (rs.flatMap (fun r => ofU16s r.2.1))).putB i 6
        (rs.flatMap (fun r => ofU16s r.2.2))
  bankCrcUpdate d2 p b

/-- The first line under the values of a commit that waits for no swap of a bank (R178, R179; DEDUCED, assumption log 114): the
number that follows the port's latest line and the lines that its triggers of before still owe. -/
def firstUnder (d : Dev) (p : Nat) (before : Trig → Bool) : Nat :=
  let owed := ((d.trig p).sent.takeWhile (fun x => !x.used)).filter before
  (((d.pt p).lastLine.getD 0) + 1 + owed.length) % 4294967296

/-- JOB_COMMIT_PROCEED (R177, R178). `crcOk` says that BANK_CRC of the bank matched the job's own. -/
def commitProceed (e : Env) (d : Dev) (p : Nat) (crcOk : Bool) : Dev :=
  let j := d.job p
  let x := d.px p
  if j.state ≠ .committing then d
  else match j.kind with
    | 3 | 4 =>
      if (tabFind d.geo p).isSome then d
      else
        let a := sIdx p (2 + geoBank d p)
        let b := sIdx p (3 - geoBank d p)
        let d1 := [5, 6, 7].foldl (fun d s => d.put b s (d.gi a s)) d
        let d2 := ((List.range 4).zip j.cand.poly).foldl (fun d q => d.put b (q.1 + 1) q.2) d1
        let d3 := geoRequest d2 p 1
        let first := (d.pl p).acc.getLast?.elim 0 (fun a => (a.line + 1) % 4294967296)
        if (tabFind d3.geo p).isSome then jobEnd e d3 p 0 0 j.cand.metric first else jobEnd e d3 p 1 0 j.cand.metric 0
    | 6 =>
      let first := firstUnder d p (fun x => stampDiff x.stamp (nowA e d) ≤ 0)
      jobEnd e (trimMoved e (d.put (jIdx p 4) 1 j.cand.trim) p) p 0 0 j.cand.metric first
    | _ =>
      match j.step with
      | 0 =>
        if x.swap.isSome || x.copy.isSome then d
        else
          let d1 := d.setPx p { x with copy := some (activeBank d p, 1 - activeBank d p), held := true }
          d1.setJob p { j with step := 1 }
      | 1 =>
        if x.copy.isSome then d
        else
          let d1 := candWrite d p (1 - activeBank d p) j
          if crcOk then (swapRequest d1 p (d.gn (jIdx p 0) 5)).setJob p { j with step := 2 }
          else jobEnd e (d1.setPx p { d1.px p with held := false }) p 1 10 0 0
      | _ => d

/-- A commit whose swap has taken effect ends ACCEPTED (R177, R179). -/
def commitSettle (e : Env) (d : Dev) (p : Nat) : Dev :=
  let j := d.job p
  if j.state = .committing && j.step = 2 && (d.px p).swap.isNone then
    if (d.px p).held then jobEnd e (d.setPx p { d.px p with held := false }) p 4 0 j.cand.metric 0
    else jobEnd e d p 0 0 j.cand.metric (d.gn (cIdx p 2) 5)
  else d

/-! ### The calibration trigger (R167) -/

/-- CAL_TRIGGER_FIRE (R167): every CAL_TRIG_PERIOD while a STOP lull is open, on each port whose acquiring job allows
STOP. -/
def calTrigger (e : Env) (d : Dev) : Dev :=
  let due := match d.lulls.trigAt with | none => true | some a => a + d.gn 0x3800 7 ≤ e.raw
  if !d.lulls.stop || !due then d
  else
    let ps := (List.range 16).filter (stopJob d)
    if ps.isEmpty then d
    else ps.foldl (fun d p => triggerSend e d p (clk200 e.raw) true)
      { d with lulls := { d.lulls with trigAt := some e.raw } }

/-! ### Encoder scale (R180) -/

/-- A write of SCALE_START. -/
def scaleStartWrite (d : Dev) (m : Master) (v : Int) : Dev :=
  d.asWrite m 0x3802 6 v fun d =>
    (if v = 1 then { (d.put 0x3802 7 1) with scale := {} } else d).ended m stOK

/-- A length that the metrology domain reported in a TOTAL message, an I64 as a number below 2^64, for a measurement of source 2
(R180, R540). -/
def scaleLength (e : Env) (d : Dev) (nm : Nat) : Dev :=
  if d.gn 0x3802 7 = 1 && d.gn 0x3802 2 = 2 then
    let x := posOn d (d.gn 0x3802 1) (nowA e d)
    { d with scale := { first := d.scale.first.or (some (nm, x)), last := some (nm, x) } }
  else d

/-- SCALE_DONE (R180): once the span reaches SCALE_SPAN. -/
def scaleDone (d : Dev) : Dev :=
  match d.gn 0x3802 7, d.scale.first, d.scale.last with
  | 1, some (l0, x0), some (l1, x1) =>
    let wp := (x1 - x0).natAbs
    if wp = 0 || (wp : Int) < d.gi 0x3802 4 then d
    else
      let new := Frac.norm { n := (wrapI 64 ((l1 : Int) - l0)).natAbs * 65536, d := wp }
      let i := 0x3500 + d.gn 0x3802 1
      let old := f64Val (d.gn i 0x13)
      let ppm := ((new.sub old).abs.mul (Frac.ofInt 1000000)).div old
      let d1 := { d with scale := {} }
      if Frac.lt (Frac.ofInt (d.gn 0x3802 5)) ppm || old.n = 0 then d1.put 0x3802 7 3
      else (d1.put i 0x13 (f64.write new)).put 0x3802 7 2
  | _, _, _ => d

/-! ### Wrappers -/

/-- STOP_LULL_OPEN (R165). -/
def execStopLullOpen (t : Nat) (s : State) : Host.Outcome State Fault Refusal :=
  mainStep true t s fun e d => stopOpen e d

/-- SACRIFICE_NEXT (R166). -/
def execSacrificeNext (t : Nat) (m : Master) (v : Int) (s : State) : Host.Outcome State Fault Refusal :=
  mainStep (masterOk m) t s fun _ d => sacrNextWrite d m v

/-- CAL_TRIGGER_FIRE (R167). -/
def execCalTriggerFire (t : Nat) (s : State) : Host.Outcome State Fault Refusal :=
  mainStep true t s fun e d => calTrigger e d

/-- JOB_START_DARK (R168, R170). -/
def execJobStartDark (t : Nat) (m : Master) (p : Nat) (s : State) : Host.Outcome State Fault Refusal :=
  mainStep (masterOk m && okPort p) t s fun e d => jobStartWrite e d m p 1

/-- JOB_START_GAIN (R168, R170). -/
def execJobStartGain (t : Nat) (m : Master) (p : Nat) (s : State) : Host.Outcome State Fault Refusal :=
  mainStep (masterOk m && okPort p) t s fun e d => jobStartWrite e d m p 2

/-- JOB_START_GEOMETRY_EDGE (R168, R172). -/
def execJobStartGeometryEdge (t : Nat) (m : Master) (p : Nat) (s : State) : Host.Outcome State Fault Refusal :=
  mainStep (masterOk m && okPort p) t s fun e d => jobStartWrite e d m p 3

/-- JOB_START_GEOMETRY_FULL (R168, R172). -/
def execJobStartGeometryFull (t : Nat) (m : Master) (p : Nat) (s : State) : Host.Outcome State Fault Refusal :=
  mainStep (masterOk m && okPort p) t s fun e d => jobStartWrite e d m p 4

/-- JOB_START_COLOUR (R168, R173). -/
def execJobStartColour (t : Nat) (m : Master) (p : Nat) (s : State) : Host.Outcome State Fault Refusal :=
  mainStep (masterOk m && okPort p) t s fun e d => jobStartWrite e d m p 5

/-- JOB_START_DELAY (R168, R174). -/
def execJobStartDelay (t : Nat) (m : Master) (p : Nat) (s : State) : Host.Outcome State Fault Refusal :=
  mainStep (masterOk m && okPort p) t s fun e d => jobStartWrite e d m p 6

/-- ILLUM_SETTLE_EXPIRED (R170). -/
def execIllumSettleExpired (t p : Nat) (s : State) : Host.Outcome State Fault Refusal :=
  mainStep (okPort p) t s fun e d => illumSettled e d p

/-- DELAY_REF_GRANT (R174, R180). -/
def execDelayRefGrant (t k : Nat) (s : State) : Host.Outcome State Fault Refusal :=
  mainStep (okEvp k) t s fun e d => refGrant e d k

/-- JOB_COMPUTE_DONE (R175). -/
def execJobComputeDone (t p : Nat) (s : State) : Host.Outcome State Fault Refusal :=
  mainStep (okPort p) t s fun e d => jobComputed e d p

/-- ACQ_TIMEOUT (R169). -/
def execAcqTimeout (t p : Nat) (s : State) : Host.Outcome State Fault Refusal :=
  mainStep (okPort p) t s fun e d => acqTimeout e d p

/-- COMMIT (R176). -/
def execCommit (t : Nat) (m : Master) (p : Nat) (v : Int) (s : State) : Host.Outcome State Fault Refusal :=
  mainStep (masterOk m && okPort p) t s fun _ d => commitWrite d m p v

/-- JOB_ABORT (R176). -/
def execJobAbort (t : Nat) (m : Master) (p : Nat) (v : Int) (s : State) : Host.Outcome State Fault Refusal :=
  mainStep (masterOk m && okPort p) t s fun e d => jobAbortWrite e d m p v

/-- DEAD_RESET (R171). -/
def execDeadReset (t : Nat) (m : Master) (p : Nat) (v : Int) (s : State) : Host.Outcome State Fault Refusal :=
  mainStep (masterOk m && okPort p) t s fun _ d => deadResetWrite d m p v

/-- JOB_COMMIT_PROCEED (R177, R178). -/
def execJobCommitProceed (t p : Nat) (crcOk : Bool) (s : State) : Host.Outcome State Fault Refusal :=
  mainStep (okPort p) t s fun e d => commitProceed e d p crcOk

/-- SCALE_START (R180). -/
def execScaleStart (t : Nat) (m : Master) (v : Int) (s : State) : Host.Outcome State Fault Refusal :=
  mainStep (masterOk m) t s fun _ d => scaleStartWrite d m v

/-- SCALE_DONE (R180). -/
def execScaleDone (t : Nat) (s : State) : Host.Outcome State Fault Refusal :=
  mainStep true t s fun _ d => scaleDone d

/-- RETRAIN_START (R181). -/
def execRetrainStart (t l : Nat) (s : State) : Host.Outcome State Fault Refusal :=
  mainStep (okLane l) t s fun e d => retrainStart e d l

/-- TRAINING_STATUS_RX (R88, R89). -/
def execTrainingStatusRx (t l : Nat) (blk : List Byte) (s : State) : Host.Outcome State Fault Refusal :=
  mainStep (okLane l) t s fun e d => retrainAdvance e (trainStatusRx e d l blk) (l / 8)

/-- TRAIN_TIMEOUT (R89). -/
def execTrainTimeout (t l : Nat) (s : State) : Host.Outcome State Fault Refusal :=
  mainStep (okLane l) t s fun e d => retrainAdvance e (trainTimeout e d l) (l / 8)

end Sys2Proof.Machine
end

