-- ==== Sys2Proof/Machine/Profile.lean ====
section
/-! DEFINITION. The profile filter chains of unit 0x009 (chapter 10): R233 to R254. -/

namespace Sys2Proof.Machine

/-- The configuration index of a chain. -/
def kIdx (c : Nat) : Nat := 0x3110 + c
/-- The result group of a chain. -/
def kRes (c : Nat) : Nat := 0x3150 + c
/-- The index of a chain's bank. -/
def kBank (c b : Nat) : Nat := 0x3180 + 2 * c + b

/-- A chain. -/
def Dev.chain (d : Dev) (c : Nat) : Chain := tabGet d.chains {} c
/-- A chain written. -/
def Dev.setChain (d : Dev) (c : Nat) (x : Chain) : Dev := { d with chains := tabSet d.chains c x }

/-- The active bank of a chain. -/
def kActive (d : Dev) (c : Nat) : Nat := d.gn (kIdx c) 0x1C

/-- The chains that run. -/
def runningChains (d : Dev) : List Nat := (List.range 32).filter (fun c => (d.chain c).running)

/-- Whether INSPECT_OK toggles (R22, R575). -/
def inspecting (d : Dev) : Bool := d.pow.inspecting

/-! ### The stages (R237 to R239) -/

/-- A two's complement value of `w` bits from a natural. -/
def ofBits (w n : Nat) : Int := wrapI w n

/-- The integrators of a CIC after one input (R237), modulo 2^128. -/
def cicAcc : Int → List Nat → List Nat
  | _, [] => []
  | x, a :: r => let y := ((a : Int) + x) % (2 ^ 128 : Int); y.toNat :: cicAcc y r

/-- The combs of a CIC for one output (R237): each keeps the last `m` values that entered it, newest first. -/
def cicComb (m : Nat) : Int → List (List Nat) → Int × List (List Nat)
  | x, [] => (x, [])
  | x, h :: r =>
    let old := if h.length < m then 0 else nth h (m - 1) 0
    let (y, rs) := cicComb m ((x - old) % (2 ^ 128 : Int)) r
    (y, ((x.toNat :: h).take m) :: rs)

/-- Whether a value fits I64, and the value saturated to it. -/
def sat64 (v : Int) : Int × Bool :=
  let w := clampI (-9223372036854775808) 9223372036854775807 v
  (w, w != v)

/-- The exact sum of products of coefficients and samples. -/
def dot : List Int → List Samp → Int
  | c :: cs, x :: xs => c * x.val + dot cs xs
  | _, _ => 0

/-- I32 values from bytes. -/
def i32s : Nat → List Byte → List Int
  | 0, _ => []
  | k + 1, bs => ofBits 32 (leAt bs 0 4) :: i32s k (bs.drop 4)

/-- A FIR stage takes a sample (R238): its output where one is due. -/
def firTake (len decim : Nat) (coef : List Byte) (st : FirSt) (x : Samp) : FirSt × Option Samp :=
  if len = 0 then (st, some x)
  else
    let xs := (x :: st.xs).take len
    let st2 : FirSt := { xs := xs, count := st.count + 1 }
    if st.count % decim = 0 then
      let (v, s) := sat64 (roundHalfUp (dot (i32s len coef) xs) (2 ^ 30))
      (st2, some { val := v, newest := x.newest,
                   oldest := if xs.length < len then -1 else (nth xs (len - 1) x).oldest,
                   sat := s || xs.any (·.sat), held := xs.any (·.held) })
    else (st2, none)

/-- A sample that stands before the first of a stage. -/
def noSamp : Samp := { val := 0, newest := -1, oldest := -1, sat := false, held := false }

/-- The resampler's outputs that its newest input makes possible (R239), with their positions in Q32.32. -/
def resOuts (coef : List Byte) (step : Nat) : Nat → Chain → List (Samp × Nat) × Chain
  | 0, x => ([], x)
  | k + 1, x =>
    let i := x.u / 2 ^ 32
    if i + 4 < x.count then
      let newest := x.count - 1
      let phase := (x.u % 2 ^ 32) * 64 / 2 ^ 32
      let at_ (t : Nat) : Samp := if i + t < 3 then noSamp else nth x.xs (newest + 3 - (i + t)) noSamp
      let ws := (List.range 8).map at_
      let cs := (u16s (slice coef (phase * 16) 16)).map i16
      let (v, s) := sat64 (roundHalfUp (dot cs ws) (2 ^ 14))
      let o : Samp := { val := v, newest := (at_ 7).newest, oldest := if i < 3 then -1 else (at_ 0).oldest,
                        sat := s || ws.any (·.sat), held := ws.any (·.held) }
      let (r, x2) := resOuts coef step k { x with u := x.u + step }
      ((o, x.u) :: r, x2)
    else ([], x)

/-! ### Where an output lies (R240) -/

/-- P of an output, in Q.32 (R240), from its position after stage 3 in Q32.32. -/
def outPos (d : Dev) (c : Nat) (p3 : Nat) : Int :=
  let i := kIdx c
  let bk := kBank c (kActive d c)
  let p2 : Int := if d.gn i 0x0B = 0 then p3 else (p3 * d.gn i 0x0C : Int) - (d.gn bk 4 * 65536 : Nat)
  let p1 : Int := if d.gn i 9 = 0 then p2 else p2 * d.gn i 0x0A - (d.gn bk 2 * 65536 : Nat)
  let r := d.gn i 6
  if r = 1 then p1 else p1 * r - (d.gn i 8 * (r * d.gn i 7 - 1) * 2 ^ 31 : Nat)

/-- The stamp and web position at P in Q48.16 (R240), interpolated in the stamp history; none where no entries enclose
it. -/
def outAt (x : Chain) (r : Nat) (p : Int) : Option (Nat × Int) :=
  let k := p / (r * 65536)
  let f := p % (r * 65536)
  match x.hist.find? (fun h => (h.1 : Int) == k) with
  | none => none
  | some (_, s, w) =>
    if f = 0 then some (s, w)
    else match x.hist.find? (fun h => (h.1 : Int) == k + 1) with
      | none => none
      | some (_, s2, w2) =>
        some (wrapU 64 ((s : Int) + stampDiff s2 s * f / (r * 65536)), w + (w2 - w) * f / (r * 65536))

/-! ### Detectors and thresholds (R246 to R248) -/

/-- A fraction rounded to F64. -/
def rnd64 (a : Frac) : Frac := f64Val (f64.write a)

/-- The square root of a non-negative fraction rounded to F64: a sticky bit below the floor keeps the rounding exact. -/
def f64Sqrt (a : Frac) : Nat :=
  let k := 256
  let v := a.n.natAbs * 2 ^ (2 * k) / a.d
  let s := isqrt v
  f64.write { n := 2 * s + b2n (s * s * a.d != a.n.natAbs * 2 ^ (2 * k)), d := 2 ^ (k + 1) }

/-- The detectors take an output (R248). -/
def detTake (d : Dev) (c : Nat) (v : Int) (stamp : Nat) : Dev :=
  let i := kRes c
  let x := d.chain c
  let xv := rnd64 (Frac.ofInt v)
  if x.detEmpty then
    let d1 := [(7, v), (8, (stamp : Int)), (9, v), (0x0A, (stamp : Int)), (0x0B, (f64.write xv : Int)), (0x0C, 0),
      (0x0D, 0)].foldl (fun (d : Dev) (q : Nat × Int) => d.put i q.1 q.2) d
    d1.setChain c { x with detEmpty := false, ms := 0 }
  else
    let k : Frac := { n := 1, d := 2 ^ d.gn (kIdx c) 0x16 }
    let g : Frac := (Frac.ofInt 1).sub { n := 1, d := 2 ^ d.gn (kIdx c) 0x17 }
    let m0 := f64Val (d.gn i 0x0B)
    let mean := rnd64 (m0.add (rnd64 ((rnd64 (xv.sub m0)).mul k)))
    let dv := rnd64 (xv.sub mean)
    let ms0 := f64Val x.ms
    let ms := rnd64 (ms0.add (rnd64 ((rnd64 ((rnd64 (dv.mul dv)).sub ms0)).mul k)))
    let env := dv.abs.max (rnd64 ((f64Val (d.gn i 0x0D)).mul g))
    let d1 := if d.gi i 7 < v then (d.put i 7 v).put i 8 stamp else d
    let d2 := if v < d1.gi i 9 then (d1.put i 9 v).put i 0x0A stamp else d1
    let d3 := ((d2.put i 0x0B (f64.write mean : Nat)).put i 0x0C (f64Sqrt ms : Nat)).put i 0x0D (f64.write env : Nat)
    d3.setChain c { x with ms := f64.write ms }

/-- The threshold state an output moves to from state `s` (R247): 0 HIGH, 1 NORMAL, 2 LOW. -/
def thrNext (hi lo hy v : Int) (s : Nat) : Nat :=
  if s ≠ 0 && hi < v then 0
  else if s ≠ 2 && v < lo then 2
  else if s = 0 && v ≤ hi - hy && lo ≤ v then 1
  else if s = 2 && lo + hy ≤ v && v ≤ hi then 1
  else s

/-- The thresholds judge an output (R247): the device, and whether an event was offered. -/
def thrTake (e : Env) (d : Dev) (c : Nat) (v : Int) : Dev × Bool :=
  let i := kIdx c
  if !d.gb i 0x15 then (d, false)
  else
    let hi := d.gi i 0x12
    let lo := d.gi i 0x13
    let x := d.chain c
    if x.quiet then
      ((d.setChain c { x with quiet := false }).put (kRes c) 5 (if hi < v then 0 else if v < lo then 2 else 1), false)
    else
      let s := d.gn (kRes c) 5
      let n := thrNext hi lo (d.gi i 0x14) v s
      if n = s then (d, false)
      else ((d.put (kRes c) 5 n).raise e (0x1A0 + 3 * c + (if n = 0 then 0 else if n = 2 then 1 else 2)) c, true)

/-- Whether the next output is judged by the detectors (R246). -/
def detWanted (d : Dev) (c : Nat) : Bool :=
  match d.gn (kIdx c) 0x11 with
  | 0 => false
  | 1 => true
  | _ => !inspecting d || d.ustate 0x009 == .test || 0 < (d.chain c).hold

/-- WRITE_PTR as it reads: the address of the next record, which is RING_BASE where the ring has been moved (R249). -/
def chainNext (d : Dev) : Nat :=
  let base := d.gn 0x3100 3
  let wp := d.gn 0x3100 5
  if base ≤ wp && wp + 32 ≤ base + d.gn 0x3100 4 then wp else base

/-- The record of an output (R245) written to the chain ring, or dropped: there is no ring, or memory port 21 has no credit. -/
def chainRecord (d : Dev) (rec : List Byte) : Dev :=
  let (credit, d0) := portCredit d
  if d0.gn 0x3100 4 = 0 || !memReady d0 || !credit then d0.inc 0x3100 7
  else
    let (w2, d1) := ringWrite d0 (d0.gn 0x3100 3) (d0.gn 0x3100 4) (chainNext d0) (fun n => List.replicate n 0) rec
    d1.put 0x3100 5 w2

/-- An output of a chain (R240, R244 to R248). -/
def chainOut (e : Env) (d0 : Dev) (c : Nat) (o : Samp) (p3 : Nat) : Dev :=
  if o.oldest < 0 then d0
  else
    let d := d0.takeShadow (kIdx c) (kIdx c)
    let p := outPos d c p3 / 65536
    let x := d.chain c
    let (stamp, wp, d1) := match outAt x (d.gn (kIdx c) 6) p with
      | some (s, w) => (s, w, d)
      | none =>
        let (s, da) := d.fresh 64
        let (w, db) := da.fresh 64
        (s, wrapI 64 w, db)
    let det := detWanted d1 c
    let enter := det && !x.det
    let d2 := d1.setChain c { x with det := det, detEmpty := x.detEmpty || enter, hold := x.hold - 1,
                                     quiet := if det then x.quiet else (x.quiet || x.det) }
    let (d3, ev) := if det then (detTake d2 c o.val stamp, false)
                    else thrTake e (if x.detEmpty then d2.clearSubs (kRes c) [7, 8, 9, 0x0A, 0x0B, 0x0C, 0x0D] else d2) c o.val
    let settling := match x.boundary with | some n => decide (o.oldest < n) | none => false
    let swapped := match x.boundary with | some n => decide (n ≤ o.oldest) | none => false
    let wholeFill := match x.boundary with | some n => x.restart && n == 0 | none => false
    let fl := b2n o.held + 2 * b2n x.restart + 4 * b2n (swapped && !wholeFill) + 8 * b2n settling + 16 * b2n o.sat
      + 32 * b2n det + 64 * b2n ev
    let bank := kActive d3 c
    let d4 := if d3.gb (kIdx c) 0x10 then
        chainRecord d3 (toLE 8 stamp ++ toLE 8 (wrapU 64 wp) ++ toLE 8 (wrapU 64 o.val) ++ toLE 4 x.seq ++ toLE 1 c
          ++ toLE 1 fl ++ toLE 1 bank ++ [0])
      else d3
    let d5 := if swapped then d4.raise e 0x21F c else d4
    let d6 := if o.sat then d5.setFlag (kIdx c) 0x1D 1 else d5
    let y := d6.chain c
    let d7 := d6.setChain c { y with seq := (y.seq + 1) % 4294967296, restart := false,
                                     boundary := if swapped then none else y.boundary }
    (d7.inc (kRes c) 0x0F).pub (kRes c)
      [(1, 2), (2, o.val), (3, (stamp : Int)), (4, wp), (6, b2n det), (0x13, (((x.index : Int) - 1) * 65536 - p))]

/-! ### Taking inputs (R234 to R236) -/

/-- The restart of a chain (R236): every stage and the stamp history cleared. -/
def chainClear (d : Dev) (c : Nat) (x : Chain) : Chain :=
  { x with index := 0, lastHeld := none, acc := List.replicate (d.gn (kIdx c) 8) 0,
           combs := List.replicate (d.gn (kIdx c) 8) [], hist := [], a := {}, b := {}, xs := [], count := 0, u := 0 }

/-- A restart of a chain at a real sample (R236). -/
def chainRestart (e : Env) (d : Dev) (c : Nat) : Dev :=
  let x := d.chain c
  let y := chainClear d c x
  let settled : Option Int := match x.boundary with | some _ => some (-1) | none => none
  ((d.setChain c { y with restart := true, boundary := settled, hold := d.gn (kIdx c) 0x18 }).put (kRes c) 1 1
    |>.incP (kRes c) 0x11).raise e 0x21E c

/-- The pending bank swap at the next sample, stamped `stamp` (R243, R244). -/
def chainSwapDue (d : Dev) (c stamp : Nat) : Dev :=
  let x := d.chain c
  match x.swap with
  | none => d
  | some w =>
    let due := match w with | none => true | some t => decide (0 ≤ stampDiff stamp t)
    if due then
      (d.setChain c { x with swap := none, boundary := some x.index }).put (kIdx c) 0x1C (1 - kActive d c)
    else d

/-- A stage-1 output goes through the stages after it (R233). -/
def chainStages (e : Env) (d : Dev) (c : Nat) (o : Samp) : Dev :=
  let i := kIdx c
  let bk := kBank c (kActive d c)
  let x := d.chain c
  let (a, o1) := firTake (d.gn i 9) (d.gn i 0x0A) (d.gB bk 1) x.a o
  match o1 with
  | none => d.setChain c { x with a := a }
  | some s1 =>
    let (b, o2) := firTake (d.gn i 0x0B) (d.gn i 0x0C) (d.gB bk 3) x.b s1
    match o2 with
    | none => d.setChain c { x with a := a, b := b }
    | some s2 =>
      let x1 := { x with a := a, b := b, xs := (s2 :: x.xs).take 8, count := x.count + 1 }
      let step := d.gn i 0x0D
      if step = 0 then chainOut e (d.setChain c x1) c s2 (x.count * 2 ^ 32)
      else
        let (outs, x2) := resOuts (d.gB bk 5) step 300 x1
        outs.foldl (fun (d : Dev) (q : Samp × Nat) => chainOut e d c q.1 q.2) (d.setChain c x2)

/-- A sample enters a chain (R234 to R237). -/
def chainEnter (e : Env) (d0 : Dev) (c stamp : Nat) (wp v : Int) (held : Bool) : Dev :=
  let d := chainSwapDue d0 c stamp
  let i := kIdx c
  let x := d.chain c
  let r := d.gn i 6
  let k := x.index
  let newest : Int := k
  let lastHeld := if held then some k else x.lastHeld
  let (spT, spW) := match x.prev with
    | some (s, w, _) => if held then (x.spaceT, x.spaceW) else (stampDiff stamp s, wp - w)
    | none => (0, 0)
  let x1 := { x with index := k + 1, lastHeld := lastHeld, prev := some (stamp, wp, v), spaceT := spT, spaceW := spW,
                     heldRun := if held then x.heldRun + 1 else 0,
                     acc := if r = 1 then x.acc else cicAcc v x.acc }
  let d1 := ((if held then d.inc (kRes c) 0x10 else d).inc (kRes c) 0x0E).setChain c x1
  if k % r = 0 then
    let n := d.gn i 8
    let m := d.gn i 7
    let x2 := { x1 with hist := ((k / r, stamp, wp) :: x1.hist).take 1024 }
    if r = 1 then
      chainStages e (d1.setChain c x2) c
        { val := v * 2 ^ 32, newest := newest, oldest := newest, sat := false, held := held }
    else
      let (y, combs) := cicComb m (nth x1.acc (n - 1) 0) x1.combs
      let oldest : Int := newest - (n * (r * m - 1) : Nat)
      let val := roundHalfUp (ofBits 128 y.toNat * 2 ^ 32) ((r * m) ^ n : Nat)
      let inWin := match lastHeld with | some h => decide (oldest ≤ (h : Int)) | none => false
      chainStages e (d1.setChain c { x2 with combs := combs }) c
        { val := val, newest := newest, oldest := oldest, sat := false, held := inWin }
  else d1

/-- A held sample enters (R235): the value before it, its stamp and position extrapolated by the last spacing. Before the
first sample there is none to hold. -/
def chainHold (e : Env) (d : Dev) (c : Nat) : Dev :=
  let x := d.chain c
  match x.prev with
  | none => d
  | some (s, w, v) => chainEnter e d c (wrapU 64 ((s : Int) + x.spaceT)) (w + x.spaceW) v true

/-- CHAIN_SAMPLE: a chain takes its next input. -/
def chainSample (e : Env) (d : Dev) (c : Nat) : Dev :=
  let x := d.chain c
  if !x.running then d
  else match x.queue with
    | [] => d
    | q :: r =>
      if 0 < q.held then
        chainHold e (d.setChain c { x with queue := { q with held := if x.prev.isNone then 0 else q.held - 1 } :: r }) c
      else
        let d1 := d.setChain c { x with queue := r }
        match q.val with
        | none => chainHold e d1 c
        | some v =>
          let d2 := if d.gn (kIdx c) 0x0E < x.heldRun then chainRestart e d1 c else d1
          chainEnter e d2 c q.stamp q.wp v false

/-- An input offered to a chain's queue after `held` held samples (R236). -/
def chainPush (e : Env) (d : Dev) (c held stamp : Nat) (wp : Int) (v : Option Int) : Dev :=
  let x := d.chain c
  if !x.running || d.ustate 0x009 == .off then d
  else if 64 ≤ x.queue.length then
    (((d.setChain c { x with lost := x.lost + held + 1 }).incP (kRes c) 0x12)).raise e 0x220 c
  else
    d.setChain c { x with queue := x.queue ++ [{ held := held + x.lost, stamp := stamp, wp := wp, val := v }], lost := 0 }

/-! ### The sources (R234) -/

/-- A field of SOURCE_ARG. -/
def kArg (d : Dev) (c hi lo : Nat) : Nat := field (d.gn (kIdx c) 2) hi lo

/-- The value of source 1 or 2 in a line's signals: none where the plane has none or the zone is invalid. -/
def lineVal (d : Dev) (c : Nat) (sig : List (Nat × Nat × List (Option Nat))) : Option Int :=
  match sig.find? (fun q => q.1 == kArg d c 5 4) with
  | none => none
  | some (_, mean, zones) =>
    if d.gn (kIdx c) 1 = 1 then some (mean : Int) else (nth zones (kArg d c 13 8) none).map (fun z => (z : Int))

/-- A line that is both corrected and placed enters the chains of its port (R234, R235). -/
def chainLine (e : Env) (d : Dev) (p : Nat) (ln mid : Nat) (wp : Int) (sig : List (Nat × Nat × List (Option Nat))) : Dev :=
  (runningChains d).foldl (fun d c =>
    let i := kIdx c
    let src := d.gn i 1
    if (src = 1 || src = 2) && d.gn i 3 = 0 && kArg d c 3 0 = p then
      let x := d.chain c
      let gap := match x.lastLine with | some l => (wrapU 32 ((ln : Int) - l)) - 1 | none => 0
      chainPush e (d.setChain c { x with lastLine := some ln }) c gap mid wp (lineVal d c sig)
    else d) d

/-- A line's signals, its target flag among them (R154), kept as the latest of its port (R234, TIME base). -/
def chainSignal (d : Dev) (p : Nat) (sig : LineSig) : Dev :=
  { d with lineSig := tabSet d.lineSig p sig }

/-- The pair of successive edges, the later one first, between which the web first moved up past a position: edges newest first. -/
def passPair (w : Int) : Option Edge → List Edge → Option (Edge × Edge)
  | some b, g :: r =>
    match passPair w (some g) r with
    | some q => some q
    | none => if g.pos ≤ w && w < b.pos then some (b, g) else none
  | none, g :: r => passPair w (some g) r
  | _, [] => none

/-- The applied time at which the placement input passed a position (R234, R267), interpolated between the two stamped edges of
its first passage upwards. A position that no two kept edges enclose takes the stamp of the newest edge at or below it, and `now`
where there is none (DESIGN CHOICE, assumption log 117). -/
def passTime (edges : List Edge) (w : Int) (now : Nat) : Nat :=
  match passPair w none edges with
  | some (b, g) => wrapU 64 ((g.stamp : Int) + stampDiff b.stamp g.stamp * (w - g.pos) / (b.pos - g.pos))
  | none => match edges.find? (fun g => g.pos ≤ w) with
    | some g => g.stamp
    | none => now

/-- A raster line's edge enters the chains of source 3 (R234, R267): none where the side is not TRACKING or the line is a
gap line. -/
def chainEdge (e : Env) (d : Dev) (wp : Int) (left right : Option Int) : Dev :=
  let t := passTime (d.enc (placeInput d)).edges wp (nowA e d)
  (runningChains d).foldl (fun d c =>
    if d.gn (kIdx c) 1 = 3 && d.gn (kIdx c) 3 = 0 then
      chainPush e d c 0 t wp (if kArg d c 6 6 = 0 then left else right)
    else d) d

/-- The latest value of a chain's source (R234, TIME base). -/
def latestVal (e : Env) (d : Dev) (c : Nat) : Option Int :=
  match d.gn (kIdx c) 1 with
  | 1 | 2 => lineVal d c (tabGet d.lineSig {} (kArg d c 3 0)).means
  | 3 =>
    let s := kArg d c 6 6
    if field (d.gn 0x3204 4) (2 * s + 1) (2 * s) = 2 then some (d.gi 0x3204 (2 + s)) else none
  | 4 => some (encSpeed e d (kArg d c 1 0))
  | _ => none

/-- A fire of a time compare unit is a sample of the chains that name it (R234). -/
def chainTick (e : Env) (d : Dev) (n target : Nat) : Dev :=
  (runningChains d).foldl (fun d c =>
    if d.gn (kIdx c) 3 = 1 && d.gn (kIdx c) 4 = n then chainPush e d c 0 target (posAt d target) (latestVal e d c)
    else d) d

/-- A position set on PLACE_INPUT moves every web position the chains hold (R242). -/
def chainSet (d : Dev) (n : Nat) (dist : Int) : Dev :=
  if n ≠ placeInput d then d
  else (runningChains d).foldl (fun d c =>
    let x := d.chain c
    d.setChain c { x with hist := x.hist.map (fun (h : Nat × Nat × Int) => (h.1, h.2.1, h.2.2 + dist)),
                          prev := x.prev.map (fun (h : Nat × Int × Int) => (h.1, h.2.1 + dist, h.2.2)),
                          queue := x.queue.map (fun q => { q with wp := q.wp + dist }) }) d

/-! ### RUN, banks and FEED (R239 to R243, R253) -/

/-- The rates of a chain: its input, the outputs of stages 1 to 3, and its output (R241). -/
def chainRates (d : Dev) (c : Nat) : List Frac :=
  let i := kIdx c
  let per := d.gn (0x1310 + d.gn i 4) 2
  let r0 : Frac := if d.gn i 3 = 0 then Frac.ofInt (d.gn i 5)
    else if per = 0 then { n := 0 } else Frac.norm { n := 16000000000, d := per }
  let r1 := r0.div (Frac.ofInt (d.gn i 6))
  let r2 := if d.gn i 9 = 0 then r1 else r1.div (Frac.ofInt (d.gn i 0x0A))
  let r3 := if d.gn i 0x0B = 0 then r2 else r2.div (Frac.ofInt (d.gn i 0x0C))
  let r4 := if d.gn i 0x0D = 0 then r3 else r3.div (Frac.norm { n := d.gn i 0x0D, d := 2 ^ 32 })
  [r0, r1, r2, r3, r4]

/-- The engine load of a chain in multiply-accumulates per second (R241). -/
def chainLoad (d : Dev) (c : Nat) : Frac :=
  let i := kIdx c
  let r := chainRates d c
  let g (k : Nat) : Frac := nth r k { n := 0 }
  (((g 1).mul (Frac.ofInt (d.gn i 9))).add ((g 2).mul (Frac.ofInt (d.gn i 0x0B)))).add ((g 4).mul (Frac.ofInt 8))

/-- The engine load of some chains. -/
def loadOf (d : Dev) (cs : List Nat) : Frac := cs.foldl (fun a c => a.add (chainLoad d c)) { n := 0 }

/-- How many history entries P may lie behind the newest (R240), with the delays of a bank. -/
def chainReach (d : Dev) (c b : Nat) : Frac :=
  let i := kIdx c
  let bk := kBank c b
  let q (v : Nat) : Frac := Frac.norm { n := v, d := 65536 }
  let l3 : Frac := if d.gn i 0x0D = 0 then { n := 0 } else Frac.ofInt 4
  let l2 := if d.gn i 0x0B = 0 then l3 else (l3.mul (Frac.ofInt (d.gn i 0x0C))).add (q (d.gn bk 4))
  let l1 := if d.gn i 9 = 0 then l2 else (l2.mul (Frac.ofInt (d.gn i 0x0A))).add (q (d.gn bk 2))
  let r := d.gn i 6
  if r = 1 then l1 else l1.add (Frac.norm { n := d.gn i 8 * (r * d.gn i 7 - 1), d := 2 * r })

/-- Whether a source allows a base (R234). -/
def sourceFits (src base : Nat) : Bool :=
  match src with
  | 1 | 2 | 3 => base == 0 || base == 1
  | 4 => base == 1
  | 5 => base == 0
  | _ => false

/-- Whether every phase of a resampler table sums to 16,384 (R243). -/
def sumsOk (coef : List Byte) : Bool :=
  (List.range 64).all (fun p => sumI ((u16s (slice coef (p * 16) 16)).map i16) == 16384)

/-- The cause for which a RUN is refused (R234, R239 to R241): 0 where it is not. -/
def runCause (d : Dev) (c : Nat) : Nat :=
  let i := kIdx c
  if !sourceFits (d.gn i 1) (d.gn i 3) then 3
  else if Frac.lt (Frac.ofInt 1000000) (nth (chainRates d c) 4 { n := 0 }) || (d.gn i 3 = 0 && 1000000 < d.gn i 5) ||
      Frac.lt (Frac.ofInt 800000000) (loadOf d ((runningChains d).filter (· != c) ++ [c])) then 1
  else if Frac.lt (Frac.ofInt 1023) (chainReach d c 0) || Frac.lt (Frac.ofInt 1023) (chainReach d c 1) then 2
  else if !sumsOk (d.gB (kBank c (kActive d c)) 5) then 4
  else 0

/-- MAC_LOAD as the running chains make it. -/
def macLoad (d : Dev) : Dev := d.put 0x3100 1 (loadOf d (runningChains d)).floor

/-- A chain started (R236, R241, R252): stages clear, counters from zero, FILLING. -/
def chainRun (d : Dev) (m : Master) (c : Nat) : Dev :=
  d.asWrite m (kIdx c) 0x0F 1 fun d =>
    let cause := runCause d c
    if cause ≠ 0 then (d.put 0x3100 9 cause).reject m (kIdx c)
    else
      let x := chainClear d c { running := true, swap := (d.chain c).swap }
      let d1 := (d.clearSubs (kRes c) [2, 3, 4, 5, 6, 7, 8, 9, 0x0A, 0x0B, 0x0C, 0x0D, 0x0E, 0x0F, 0x10, 0x11, 0x12, 0x13])
      (macLoad ((d1.setChain c x).pub (kRes c) [(1, 1)])).ended m stOK

/-- A chain stopped (R250). -/
def chainStop (d : Dev) (m : Master) (c : Nat) : Dev :=
  d.asWrite m (kIdx c) 0x0F 2 fun d =>
    (macLoad ((d.setChain c { swap := (d.chain c).swap }).pub (kRes c) [(1, 0)])).ended m stOK

/-- A swap request (R243): it replaces one that is pending; a table whose phases do not all sum to 16,384 refuses it. -/
def chainSwapRequest (d : Dev) (c v : Nat) : Dev × Bool :=
  let i := kIdx c
  let x := d.chain c
  if v = 3 then ((d.setChain c { x with swap := none }), true)
  else if !sumsOk (d.gB (kBank c (1 - kActive d c)) 5) then (d.setFlag i 0x1D 0, false)
  else (d.setChain c { x with swap := some (if v = 2 then some (d.gn i 0x1B) else none) }, true)

/-- A write of BANK_SWAP. -/
def chainSwapWrite (d : Dev) (m : Master) (c : Nat) (v : Int) : Dev :=
  d.asWrite m (kIdx c) 0x1A v fun d =>
    let (d1, ok) := chainSwapRequest d c v.toNat
    d1.swapAsked m (kIdx c) ok

/-- CHAIN_STATUS as it reads: PENDING is live. -/
def chainStatus (d : Dev) (c : Nat) : Nat := putBit (d.gn (kIdx c) 0x1D) 2 (d.chain c).swap.isSome

/-- A write of DET_CLEAR (R248): the detectors clear at the next output. -/
def detClear (d : Dev) (m : Master) (c : Nat) (v : Int) : Dev :=
  d.asWrite m (kIdx c) 0x19 v fun d =>
    (if v = 0 then d else d.setChain c { d.chain c with detEmpty := true }).ended m stOK

/-- A FEED write (R235, R253). -/
def feedWrite (e : Env) (d : Dev) (m : Master) (c : Nat) (b : List Byte) : Dev :=
  d.asWriter m (0x31C0 + c) 1 fun d =>
    let x := d.chain c
    let stamp := leAt b 8 8
    let back := match x.lastFeed with | some s => decide (stampDiff stamp s < 0) | none => false
    if b.length ≠ 16 || !x.running || back then d.reject m (0x31C0 + c)
    else if d.gn (kIdx c) 1 ≠ 5 then d.ended m stOK
    else
      (chainPush e (d.setChain c { x with lastFeed := some stamp }) c 0 stamp (posAt d stamp)
        (some (ofBits 32 (leAt b 0 4)))).ended m stOK

/-- Whether the rules of this chapter allow a write of a number (R243, R247, R250). -/
def chainWriteOk (d : Dev) (idx sub : Nat) (v : Int) : Bool :=
  if 0x3110 ≤ idx && idx < 0x3130 then
    let c := idx - 0x3110
    let cur (s : Nat) : Int := match tabFind d.shadow (okey idx s) with | some w => w.int | none => d.gi idx s
    let pick (s : Nat) : Int := if s = sub then v else cur s
    if 1 ≤ sub && sub ≤ 0x0D then !(d.chain c).running
    else if sub = 0x12 || sub = 0x13 || sub = 0x14 then decide (pick 0x13 + 2 * pick 0x14 < pick 0x12)
    else true
  else if 0x3180 ≤ idx && idx < 0x31C0 then
    let c := (idx - 0x3180) / 2
    let b := (idx - 0x3180) % 2
    b != kActive d c && (d.chain c).swap.isNone
  else true

/-- CHAIN_SAMPLE (R233). -/
def execChainSample (t c : Nat) (s : State) : Host.Outcome State Fault Refusal :=
  mainStep (okChain c) t s fun e d => chainSample e d c

/-- CHAIN_RUN (R241). -/
def execChainRun (t : Nat) (m : Master) (c : Nat) (s : State) : Host.Outcome State Fault Refusal :=
  mainStep (masterOk m && okChain c) t s fun _ d => chainRun d m c

/-- CHAIN_STOP (R250). -/
def execChainStop (t : Nat) (m : Master) (c : Nat) (s : State) : Host.Outcome State Fault Refusal :=
  mainStep (masterOk m && okChain c) t s fun _ d => chainStop d m c

/-- FEED (R253). -/
def execFeed (t : Nat) (m : Master) (c : Nat) (b : List Byte) (s : State) : Host.Outcome State Fault Refusal :=
  mainStep (masterOk m && okChain c) t s fun e d => feedWrite e d m c b

/-- CHAIN_SWAP_NEXT (R243). -/
def execChainSwapNext (t : Nat) (m : Master) (c : Nat) (s : State) : Host.Outcome State Fault Refusal :=
  mainStep (masterOk m && okChain c) t s fun _ d => chainSwapWrite d m c 1

/-- CHAIN_SWAP_AT_TIME (R243). -/
def execChainSwapAtTime (t : Nat) (m : Master) (c : Nat) (s : State) : Host.Outcome State Fault Refusal :=
  mainStep (masterOk m && okChain c) t s fun _ d => chainSwapWrite d m c 2

/-- CHAIN_SWAP_CANCEL (R243). -/
def execChainSwapCancel (t : Nat) (m : Master) (c : Nat) (s : State) : Host.Outcome State Fault Refusal :=
  mainStep (masterOk m && okChain c) t s fun _ d => chainSwapWrite d m c 3

/-- DET_CLEAR (R248). -/
def execDetClear (t : Nat) (m : Master) (c : Nat) (v : Int) (s : State) : Host.Outcome State Fault Refusal :=
  mainStep (masterOk m && okChain c) t s fun _ d => detClear d m c v

end Sys2Proof.Machine
end

