-- ==== Sys2Proof/Machine/Segment.lean ====
section
/-! DEFINITION. The segmenter, unit 0x00C (chapter 11): R255 to R274. -/

namespace Sys2Proof.Machine

/-- The unit of a column slice. -/
def uSlice (s : Nat) : Nat := 0x050 + s

/-- MASK (R255). -/
def clsMask : Nat := 7

/-- The polarity of a class code (R255): 1 dark, 2 light, 0 neither. -/
def polarity (c : Nat) : Nat := if c = 1 || c = 2 then 1 else if c = 5 || c = 6 then 2 else 0

/-- RASTER_WIDTH. -/
def rasterWidth (d : Dev) : Nat := d.gn 0x1B00 1

/-- The first column of a slice (R268). -/
def sliceFirst (d : Dev) (s : Nat) : Nat := (sliceSpan d s).1

/-- The column after the last of a slice (R268). -/
def sliceEnd (d : Dev) (s : Nat) : Nat := (sliceSpan d s).2

/-- Whether a slice owns columns (R268). -/
def sliceOwns (d : Dev) (s : Nat) : Bool := decide (sliceFirst d s < sliceEnd d s)

/-- Which slice owns a column. -/
def sliceOf (d : Dev) (x : Nat) : Nat :=
  ((List.range 16).filter (fun s => sliceFirst d s ≤ x && x < sliceEnd d s)).headD 0

/-- Whether the slice layout may be used (R268): written layouts start at 0 and rise strictly, and a slice that owns no columns is
not configured, which is to say OFF (DEDUCED, assumption log 118). -/
def sliceLayoutOk (d : Dev) : Bool :=
  d.gn 0x3203 0x11 == 0 || (d.gn 0x3203 1 == 0 && (List.range 15).all (fun s => d.gn 0x3203 (s + 1) < d.gn 0x3203 (s + 2)) &&
    (List.range 16).all (fun s => sliceOwns d s || d.ustate (uSlice s) == .off))

/-! ### Web edges (R265, R266) -/

/-- A column's sample where it is valid. -/
def validAt (samp : Array Nat) (bad : Array Bool) (x : Int) : Option Nat :=
  if x < 0 || (samp.size : Int) ≤ x then none
  else if bad.getD x.toNat true then none else some (samp.getD x.toNat 0)

/-- Whether a column passes (R265). -/
def edgePass (d : Dev) (samp : Array Nat) (bad : Array Bool) (x : Int) : Bool :=
  match validAt samp bad x with
  | none => false
  | some v => if d.gn 0x3201 2 = 0 then d.gn 0x3201 3 ≤ v else v ≤ d.gn 0x3201 3

/-- The position of an edge found at column `c`, with `o` the step toward the outside (R265): a step between equal samples
has no stated value. -/
def edgeAt (d : Dev) (samp : Array Nat) (bad : Array Bool) (c o : Int) : Int × Dev :=
  match validAt samp bad (c + o), validAt samp bad c with
  | some a, some b =>
    if a = b then let (f, d1) := d.fresh 32; (wrapI 32 f, d1)
    else
      let fr := Int.fdiv (256 * ((d.gn 0x3201 3 : Int) - a)) ((b : Int) - a)
      ((c + o) * 256 - o * fr, d)
  | _, _ => (c * 256, d)

/-- A side's search on a line (R265): `o` is −1 for the left side and +1 for the right. -/
def edgeFind (d : Dev) (samp : Array Nat) (bad : Array Bool) (x : EdgeSide) (o : Int) (first last : Nat) : Option Int :=
  let prev := x.e / 256
  let win : Int := d.gn 0x3201 5
  let lo : Int := if x.state = 1 then first else prev - win
  let hi : Int := if x.state = 1 then last else prev + win
  let lo2 := max lo 0
  let hi2 := min hi ((samp.size : Int) - 1)
  let run := d.gn 0x3201 4
  let ks := (List.range (hi2 + 1 - lo2).toNat).map (fun k => if o < 0 then lo2 + k else hi2 - k)
  ks.find? (fun c => (List.range run).all (fun j => edgePass d samp bad (c - o * j)))

/-- EDGE_LOST or EDGE_FOUND as a side changes state (R265). -/
def edgeEvents (e : Env) (d : Dev) (side old new : Nat) : Dev :=
  if old = new then d
  else if old = 2 then d.raise e 0x221 side
  else if new = 2 then d.raise e 0x222 side else d

/-- A side on a line that is no gap line (R265). A side that finds no edge is LOST, one that was ACQUIRING too; the lost lines in a
row count on while it acquires (DEDUCED, assumption log 59). -/
def edgeStep (e : Env) (d : Dev) (samp : Array Nat) (bad : Array Bool) (side : Nat) (x : EdgeSide) : EdgeSide × Dev :=
  if x.state = 0 then (x, d)
  else
    let o : Int := if side = 0 then -1 else 1
    match edgeFind d samp bad x o (d.gn 0x3201 (8 + 2 * side)) (d.gn 0x3201 (9 + 2 * side)) with
    | some c =>
      let (v, d1) := edgeAt d samp bad c o
      ({ state := 2, e := v, lost := 0 }, edgeEvents e d1 side x.state 2)
    | none =>
      let n := x.lost + 1
      let st := if d.gn 0x3201 6 ≤ n then 1 else 3
      ({ x with state := st, lost := n }, edgeEvents e d side x.state st)

/-- Whether a side masks a column (R266). -/
def edgeMasks (d : Dev) (side : Nat) (x : EdgeSide) (col : Nat) : Bool :=
  let mg : Int := d.gn 0x3201 7
  match x.state with
  | 0 => false
  | 1 => d.gn 0x3201 (8 + 2 * side) ≤ col && col ≤ d.gn 0x3201 (9 + 2 * side)
  | _ => if side = 0 then decide ((col : Int) < -((-x.e) / 256) + mg) else decide (x.e / 256 - mg < (col : Int))

/-- EDGE_STATE as it reads (R272). -/
def edgeStates (d : Dev) : Nat := d.seg.left.state + 4 * d.seg.right.state

/-- A write of EDGE_SIDES (R265): a side that is enabled acquires. -/
def edgeSidesWritten (e : Env) (d : Dev) : Dev :=
  let one (d : Dev) (side : Nat) (x : EdgeSide) : EdgeSide × Dev :=
    let on := bit (d.gn 0x3201 1) side
    if on && x.state = 0 then ({ x with state := 1, lost := 0 }, d)
    else if !on && x.state ≠ 0 then ({ x with state := 0 }, edgeEvents e d side x.state 0) else (x, d)
  let (l, d1) := one d 0 d.seg.left
  let (r, d2) := one d1 1 d.seg.right
  { d2 with seg := { d2.seg with left := l, right := r } }

/-! ### Models (R257 to R261) -/

/-- A model takes a sample (R258). -/
def ColModel.learn (m : ColModel) (bgk x : Nat) : ColModel :=
  let n2 := min (m.n + 1) 65535
  if m.n = 0 then { m with mean := x * 65536, var := 0, n := n2 }
  else
    let s := min bgk (flog2 (m.n + 1))
    let dv : Int := (x * 65536 : Nat) - (m.mean : Int)
    let mean := (m.mean : Int) + dv / 2 ^ s
    let var := (m.var : Int) + ((dv * dv) / 2 ^ 30 - m.var) / 2 ^ s
    { m with mean := mean.toNat, var := (clampI 0 4294967295 var).toNat, n := n2 }

/-- What a line does to a column's model (R260, R261): the model, whether it updated, and whether the update was forced.
A column that is only not learned updates (DEDUCED, assumption log 57). -/
def ColModel.line (m : ColModel) (bgk fmax x : Nat) (stop soft c34 : Bool) : ColModel × Bool × Bool :=
  if stop then (m, false, false)
  else if soft then ({ m with frozen := 0, forced := false }.learn bgk x, true, false)
  else if c34 then
    if m.forced then (m.learn bgk x, true, true)
    else
      let f := min (m.frozen + 1) 4294967295
      ({ m with frozen := f, forced := fmax ≠ 0 && fmax ≤ f }, false, false)
  else ({ m with frozen := 0, forced := false }.learn bgk x, true, false)

/-- The classified line that waits updates its models, with the extents of the regions that are open (R260). -/
def segUpdate (d : Dev) : Dev :=
  match d.seg.wait with
  | none => d
  | some w =>
    if w.updated then d
    else
      let mg := d.gn 0x3200 5
      let near (x : Nat) : Bool := d.openCols.any (fun q => q.1 ≤ x + mg && x ≤ q.2 + mg)
      let plane := tabGet w.r.planes [] (d.gn 0x3200 1)
      let bgk := d.gn 0x3200 2
      let fmax := d.gn 0x3200 4
      let cols := d.seg.cols.toArray
      let sa := plane.toArray
      let ca := w.codes.toArray
      let ha := w.hard.toArray
      let so := w.soft.toArray
      let rs : List (ColModel × Bool × Bool) := (List.range cols.size).map (fun x =>
        (cols.getD x {}).line bgk fmax (sa.getD x 0) (w.frozen || ha.getD x true) (so.getD x false && !near x)
          (ca.getD x 7 != 0 || near x))
      let d1 := { d with seg := { d.seg with cols := rs.map (fun (q : ColModel × Bool × Bool) => q.1), wait := some { w with updated := true } } }
      let lmin := d.gn 0x3200 3
      let learned := (rs.filter (fun r => lmin ≤ r.1.n)).length
      let still := (rs.filter (fun r => !r.2.1)).length
      let forced := (rs.filter (fun r => r.1.forced)).length
      let upd := (rs.filter (fun r => r.2.2)).length
      (d1.add 0x3204 0x0B upd).pub 0x3204 [(5, (learned : Int)), (6, (still : Int)), (7, (forced : Int))]

/-- The line that waits learns before the next line takes its own settings: it lies before their boundary (R14, R258). -/
def segBefore (d : Dev) : Dev :=
  if d.raster.isEmpty || d.ustate 0x00C == .off then d else segUpdate d

/-- Every model starts afresh and the edges acquire (R259, R265). -/
def segRelearn (e : Env) (d : Dev) : Dev :=
  let fresh (side : Nat) (x : EdgeSide) (d : Dev) : EdgeSide × Dev :=
    if x.state = 0 then (x, d) else ({ x with state := 1, lost := 0 }, edgeEvents e d side x.state 1)
  let (l, d1) := fresh 0 d.seg.left d
  let (r, d2) := fresh 1 d.seg.right d1
  let cols := if d.seg.cols.length = rasterWidth d then d.seg.cols.map (fun (m : ColModel) => { m with n := 0, frozen := 0, forced := false })
    else List.replicate (rasterWidth d) {}
  { (d2.raise e 0x224 0) with
    seg := { d2.seg with cols := cols, left := l, right := r, learning := true,
                         relearn := false } }

/-! ### Classification (R256, R262) -/

/-- The class of a deviation (R262). -/
def levelOf (d : Dev) (dv : Int) (var : Nat) : Nat :=
  let t (s : Nat) : Nat := d.gn 0x3200 s
  let a := dv.natAbs
  let v14 := max (var * 16384) (t 0x0C * t 0x0C)
  let hit (s : Nat) : Bool := if t 7 = 0 then t s * 65536 ≤ a else t s * t s * v14 ≤ a * a
  if dv < 0 then (if hit 9 then 2 else if hit 8 then 1 else 0)
  else if 0 < dv then (if hit 0x0B then 6 else if hit 0x0A then 5 else 0)
  else 0

/-- Whether a column lies in one of some runs. -/
def inRuns (rs : List (Nat × Nat)) (x : Nat) : Bool := rs.any (fun r => r.1 ≤ x && x ≤ r.2)

/-- The enabled static masks (R266). -/
def statMasks (d : Dev) : List (Nat × Nat) :=
  (List.range 32).filterMap (fun k =>
    let v := d.gn 0x3202 (k + 1)
    let f := v / 4294967296
    let l := v % 4294967296
    if f ≤ l then some (f, l) else none)

/-- A raster line classified (R256 to R268), before its models are updated. -/
def classRow (e : Env) (d : Dev) (r : RasterLine) : ClassRow :=
  let w := rasterWidth d
  let gapLine := bit r.flags 0
  let masks := statMasks d
  let sl := (List.range 16).map (fun s => (sliceFirst d s, sliceEnd d s, d.ustate (uSlice s)))
  let stateAt (x : Nat) : UState := ((sl.find? (fun q => q.1 ≤ x && x < q.2.1)).map (·.2.2)).getD .off
  let sa := (tabGet r.planes [] (d.gn 0x3200 1)).toArray
  let cols := d.seg.cols.toArray
  let lmin := d.gn 0x3200 3
  let inWeb (x : Nat) : Bool := !(edgeMasks d 0 d.seg.left x || edgeMasks d 1 d.seg.right x)
  let one (x : Nat) : Bool × Bool × Int × Nat × Bool :=
    let st := stateAt x
    let hard := gapLine || inRuns r.gaps x || inRuns r.runs x || !inWeb x || inRuns masks x ||
      !(st == .inService || st == .bypass)
    let m := cols.getD x {}
    let soft := decide (m.n < lmin)
    let dv : Int := ((sa.getD x 0) * 65536 : Nat) - (m.mean : Int)
    (hard, soft, dv, if hard || soft then clsMask else levelOf d dv m.var, st == .inService)
  let xs := (List.range w).map one
  let learning := (List.range w).any (fun x => (cols.getD x {}).n < lmin && inWeb x)
  let edgeLost := d.seg.left.state % 2 = 1 || d.seg.right.state % 2 = 1
  let sliceOut := sl.any (fun q => q.1 < q.2.1 && q.2.2 != .inService)
  let frozen := bit r.flags 5 || (openLulls d &&& d.gn 0x3200 6) != 0
  { r := r, time := passTime (d.enc (placeInput d)).edges r.wp (nowA e d),
    flags := r.flags % 4096 + 32768 * b2n learning + 16384 * b2n edgeLost + 8192 * b2n sliceOut + 4096 * b2n frozen,
    codes := xs.map (·.2.2.2.1), dev := xs.map (·.2.2.1), hard := xs.map (·.1), soft := xs.map (fun q => q.2.1),
    stage := xs.map (·.2.2.2.2), frozen := frozen, updated := false }

/-! ### The 3×3 stage (R263, R264) -/

/-- A pixel after the stage (R263), from its class and the classes of its 8 neighbours. -/
def stage33 (cleanMin fillMin c : Nat) (nb : List Nat) : Nat :=
  let mask := (nb.filter (· == clsMask)).length
  let dark := (nb.filter (fun k => polarity k == 1)).length
  let light := (nb.filter (fun k => polarity k == 2)).length
  if c = clsMask then c
  else if polarity c ≠ 0 then
    if (if polarity c = 1 then dark else light) + mask < cleanMin then 0 else c
  else if fillMin ≤ dark && light < dark then 1
  else if fillMin ≤ light && dark < light then 5
  else 0

/-- A class line from the line that waited, with the lines before and after it where they were classified (R263,
R264). -/
def stageLine (d : Dev) (before after : Option ClassRow) (cur : ClassRow) : List Nat :=
  let w := cur.codes.length
  let arr (r : Option ClassRow) : Array Nat := match r with | some x => x.codes.toArray | none => #[]
  let up := arr before
  let dn := arr after
  let me := cur.codes.toArray
  let st := cur.stage.toArray
  let at_ (a : Array Nat) (x : Nat) : Nat := if x = 0 || w < x then clsMask else a.getD (x - 1) clsMask
  let cmin := d.gn 0x3200 0x0D
  let fmin := d.gn 0x3200 0x0E
  (List.range w).map (fun x =>
    let c := me.getD x clsMask
    if c = clsMask || !st.getD x false then c
    else stage33 cmin fmin c
      [at_ up x, at_ up (x + 1), at_ up (x + 2), at_ me x, at_ me (x + 2), at_ dn x, at_ dn (x + 1), at_ dn (x + 2)])

/-- Tap T4 of a class line (R270). -/
def tap4 (e : Env) (d : Dev) (m wp : Int) (flags : Nat) (ovf : Bool) (before after : List Nat) : Dev :=
  let (f, c) := tapCols d 0x3208 after.length
  tapLine e d 0x3208 fun _ =>
    tapRecord
      { tap := 4, port := 0xFF, vcType := 0, flags := rasterTapFlags flags [] ovf, line := wrapU 32 m, settings := 0, trig := flags,
        arrival := wrapU 64 wp, firstCol := f % 65536, colCount := c % 65536, bits := 4, bank := 0,
        high := c / 65536 * 16 + f / 65536 % 16 }
      [(0, (((List.zipWith (fun a b => b + 8 * b2n (a != b)) before after).drop f).take c))] []

/-- How many of some codes are each class, in the order of CLASS_COUNTS (R272). -/
def classCounts (l : List Nat) : List Nat :=
  [0, 1, 2, 5, 6, 7].map (fun k => (l.filter (· == k)).length)

/-- U64 counters in bytes, each added to. -/
def addCounts (w : Nat) (b : List Byte) (l : List Nat) : List Byte :=
  ((List.range l.length).zip l).flatMap (fun (q : Nat × Nat) =>
    toLE w ((leAt b (q.1 * w) w + q.2) % 2 ^ (8 * w)))

/-- The line that waited leaves as a class line (R264). -/
def classEmit (e : Env) (d : Dev) (before after : Option ClassRow) (cur : ClassRow) : Dev :=
  let out := stageLine d before after cur
  let removed := ((List.zipWith (fun a b => a != 0 && b == 0) cur.codes out).filter id).length
  let filled := ((List.zipWith (fun a b => a == 0 && b != 0) cur.codes out).filter id).length
  let wp := gridWp d cur.r.m
  let d1 := tap4 e d cur.r.m wp cur.flags cur.r.ovf cur.codes out
  let d2 := ((d1.putB 0x3204 8 (addCounts 8 (d1.gB 0x3204 8) (classCounts out))).add 0x3204 9 removed).add 0x3204 0x0A filled
  let d3 := d2.pub 0x3204 [(1, wp)]
  { d3 with classLines := d3.classLines ++ [{
      m := cur.r.m, wp := wp, flags := cur.flags, time := cur.time, codes := out, dev := cur.dev, planes := cur.r.planes,
      gaps := cur.r.gaps, settings := cur.r.settings, arrival := cur.r.arrival }] }

/-- Edge tracking of a raster line (R265, R267), before it is classified. -/
def edgeLine (e : Env) (d : Dev) (r : RasterLine) : Dev :=
  let gapLine := bit r.flags 0
  let d3 :=
    if gapLine then d
    else
      let sa := (tabGet r.planes [] (d.gn 0x3200 1)).toArray
      let bad := ((List.range sa.size).map (fun x => inRuns r.runs x)).toArray
      let (l, d1) := edgeStep e d sa bad 0 d.seg.left
      let (rt, d2) := edgeStep e d1 sa bad 1 d.seg.right
      let d2a := { d2 with seg := { d2.seg with left := l, right := rt } }
      if l.state % 2 = 1 || rt.state % 2 = 1 then d2a.inc 0x3204 0x0C else d2a
  let l := d3.seg.left
  let rt := d3.seg.right
  let d4 := d3.pub 0x3204 [(2, l.e), (3, rt.e), (4, (edgeStates d3 : Int))]
  let val (x : EdgeSide) : Option Int := if x.state = 2 && !gapLine then some x.e else none
  chainEdge e d4 r.wp (val l) (val rt)

/-- CLASS_LINE (R256 to R268): the segmenter takes the oldest raster line. -/
def classLine (e : Env) (d : Dev) : Dev :=
  match d.raster with
  | [] => d
  | r :: rest =>
    let d0 := { d with raster := rest }
    if d0.ustate 0x00C == .off then d0
    else
      let d1 := (segUpdate d0).takeShadow 0x3200 0x3202
      let d2 := if d1.seg.relearn || d1.seg.cols.length ≠ rasterWidth d1 then segRelearn e d1 else d1
      let d3 := edgeLine e d2 r
      let row := classRow e d3 r
      let d4 := if d3.seg.learning && !bit row.flags 15 then
          { (d3.raise e 0x223 0) with seg := { d3.seg with learning := false } }
        else d3
      let x := d4.seg
      let d5 := { d4 with seg := { x with before := x.wait, wait := some row } }
      match x.wait with
      | none => d5
      | some cur =>
        let next (a : Option ClassRow) (m : Int) : Option ClassRow := a.bind (fun q => if q.r.m = m then some q else none)
        classEmit e d5 (next x.before (cur.r.m - 1)) (next (some row) (cur.r.m + 1)) cur

/-- The segmenter enters a state (R259, R272): from OFF it relearns; on entry to IN_SERVICE its counters start. -/
def segEnter (e : Env) (d : Dev) (old new : UState) : Dev :=
  let d1 := if new == .inService then d.clearSubs 0x3204 [8, 9, 0x0A, 0x0B, 0x0C] else d
  let d2 := if new == .off then { d1 with seg := { d1.seg with wait := none, before := none } } else d1
  if old == .off && new != .off then
    let d3 := { d2 with seg := { d2.seg with wait := none, before := none } }
    if new == .inService then segRelearn e d3 else d3
  else d2

/-- RELEARN (R259): at the next raster line boundary. -/
def relearnWrite (d : Dev) (m : Master) (v : Int) : Dev :=
  d.asWrite m 0x3200 0x0F v fun d =>
    (if v = 0 then d else { d with seg := { d.seg with relearn := true } }).ended m stOK

/-- One column's model as 0x3206 reads (R273). -/
def bgRead (d : Dev) (sub : Nat) : Int :=
  let m := (d.seg.cols[d.gn 0x3205 1]?).getD {}
  match sub with
  | 1 => m.mean
  | 2 => m.var
  | 3 => m.n
  | 4 => m.frozen
  | 5 => match d.seg.wait with
    | some w => if w.updated then w.r.wp else (d.seg.before.map (·.r.wp)).getD 0
    | none => 0
  | _ => d.gn 0x3204 0

/-- Whether the rules of this chapter allow a write of a number (R262). -/
def segWriteOk (d : Dev) (idx sub : Nat) (v : Int) : Bool :=
  if idx = 0x3200 && 8 ≤ sub && sub ≤ 0x0B then
    let cur (s : Nat) : Int := match tabFind d.shadow (okey 0x3200 s) with | some w => w.int | none => d.gi 0x3200 s
    let pick (s : Nat) : Int := if s = sub then v else cur s
    decide (0 < v) && decide (pick 8 ≤ pick 9) && decide (pick 0x0A ≤ pick 0x0B)
  else true

/-- RELEARN (R259). -/
def execRelearn (t : Nat) (m : Master) (v : Int) (s : State) : Host.Outcome State Fault Refusal :=
  mainStep (masterOk m) t s fun _ d => relearnWrite d m v

end Sys2Proof.Machine
end

