-- ==== Sys2Proof/Machine/Hash.lean ====
section
/-! DEFINITION. SHA-256 and HMAC-SHA-256, which R479, R539, R541 and R579 name. The spec cites them and does not
give them: PRESUMED, from FIPS 180-4 and FIPS 198-1 (assumption log 11). A round takes its word from the front of a window of
sixteen schedule words, which slides on by one word a round. -/

namespace Sys2Proof.Machine

/-- A 32-bit word of the hash. -/
abbrev HWord := BitVec 32

/-- The eight words of a row of 256 bits, the highest first. -/
def rowWords (row : Nat) : List HWord := (List.range 8).map (fun i => BitVec.ofNat 32 (row >>> (32 * (7 - i))))

/-- The constants of the 64 rounds, eight to a row. -/
def roundKeys : List HWord :=
  ([0x428a2f9871374491b5c0fbcfe9b5dba53956c25b59f111f1923f82a4ab1c5ed5,
   0xd807aa9812835b01243185be550c7dc372be5d7480deb1fe9bdc06a7c19bf174,
   0xe49b69c1efbe47860fc19dc6240ca1cc2de92c6f4a7484aa5cb0a9dc76f988da,
   0x983e5152a831c66db00327c8bf597fc7c6e00bf3d5a7914706ca635114292967,
   0x27b70a852e1b21384d2c6dfc53380d13650a7354766a0abb81c2c92e92722c85,
   0xa2bfe8a1a81a664bc24b8b70c76c51a3d192e819d6990624f40e3585106aa070,
   0x19a4c1161e376c082748774c34b0bcb5391c0cb34ed8aa4a5b9cca4f682e6ff3,
   0x748f82ee78a5636f84c878148cc7020890befffaa4506cebbef9a3f7c67178f2]).flatMap rowWords

/-- The hash words before the first block. -/
def hashStart : List HWord := rowWords 0x6a09e667bb67ae853c6ef372a54ff53a510e527f9b05688c1f83d9ab5be0cd19

/-- The exclusive or of three rotations of a word to the right. -/
def rotations (x : HWord) (i j k : Nat) : HWord := x.rotateRight i ^^^ x.rotateRight j ^^^ x.rotateRight k

/-- A word of the schedule mixed: two rotations and a shift to the right. -/
def mixed (x : HWord) (i j k : Nat) : HWord := x.rotateRight i ^^^ x.rotateRight j ^^^ x >>> k

/-- The hash at work on a block: the window of schedule words, the present one first, and the eight working words. -/
structure HashRun where
  window : List HWord
  work : List HWord

/-- One round with its constant: the front word is used, and the window's next word is made of four of its words. -/
def HashRun.round (r : HashRun) (key : HWord) : HashRun :=
  let at_ (i : Nat) : HWord := nth r.window i 0
  let v (i : Nat) : HWord := nth r.work i 0
  let choice := v 6 ^^^ (v 4 &&& (v 5 ^^^ v 6))
  let majority := (v 0 &&& v 1) ||| (v 2 &&& (v 0 ||| v 1))
  let lower := v 7 + rotations (v 4) 6 11 25 + choice + key + at_ 0
  let upper := rotations (v 0) 2 13 22 + majority
  { window := r.window.drop 1 ++ [at_ 0 + mixed (at_ 1) 7 18 3 + at_ 9 + mixed (at_ 14) 17 19 10]
    work := [lower + upper, v 0, v 1, v 2, v 3 + lower, v 4, v 5, v 6] }

/-- The hash words after a block of 64 bytes. -/
def hashBlock (h : List HWord) (block : List Byte) : List HWord :=
  let window := (chunks 16 4 block).map (fun c => BitVec.ofNat 32 (ofBE c))
  List.zipWith (· + ·) h (roundKeys.foldl HashRun.round { window := window, work := h }).work

/-- A message with the bit, the zeros and the length that fill its last block. -/
def hashFilled (m : List Byte) : List Byte :=
  m ++ 0x80 :: List.replicate ((119 - m.length % 64) % 64) 0 ++ toBE 8 (8 * m.length)

/-- SHA-256. -/
def sha256 (m : List Byte) : List Byte :=
  let all := hashFilled m
  ((chunks (all.length / 64 + 1) 64 all).foldl hashBlock hashStart).flatMap (fun w => toBE 4 w.toNat)

/-- HMAC-SHA-256. -/
def hmacSha256 (key msg : List Byte) : List Byte :=
  let k := padTo (if 64 < key.length then sha256 key else key) 64 0
  let keyed (x : Byte) (b : List Byte) : List Byte := sha256 (k.map (x ^^^ ·) ++ b)
  keyed 0x5c (keyed 0x36 msg)

end Sys2Proof.Machine
end

