-- ==== Sys2Proof/Machine/Wire.lean ====
section
/-! DEFINITION. FDP datagrams on the wire (R478, R479) and the sending of a stream's units (R484). -/

namespace Sys2Proof.Machine

/-- The first 16 bytes of a datagram (R478), with FLAGS 0. -/
def fdpHead (kind role session seq len : Nat) : List Byte :=
  toBE 2 0x4644 ++ [1, BitVec.ofNat 8 kind, 0, BitVec.ofNat 8 role] ++ toBE 2 len ++ toBE 4 session ++ toBE 4 seq

/-- A datagram with its tag under a session's key (R479). -/
def fdpDatagram (kind role session seq : Nat) (key body : List Byte) : List Byte :=
  let b := fdpHead kind role session seq body.length ++ body
  b ++ (hmacSha256 key b).take 16

/-- The fragments of a unit (R484): bodies of stream data with up to 1,432 bytes of payload each. -/
def streamBodies (n unit : Nat) (payload : List Byte) : List (List Byte) :=
  let parts := if payload.isEmpty then [[]] else chunks payload.length 1432 payload
  (List.range parts.length).map (fun i =>
    [BitVec.ofNat 8 n, BitVec.ofNat 8 (b2n (i == 0) + 2 * b2n (i + 1 == parts.length))] ++ toBE 2 i ++ toBE 4 unit ++ (parts[i]?).getD [])

/-- A unit sent on a stream (R484): its fragments as tagged datagrams of the session that owns the stream; UNITS_SENT and
BYTES_SENT (payload bytes; DEDUCED, assumption log 84). Packets are numbered from 1 (DEDUCED, assumption log 84). Answers
false where the stream is not open. -/
def streamSend (d : Dev) (n : Nat) (payload : List Byte) : Dev × Bool :=
  let x := d.stream n
  if !x.isOpen then (d, false)
  else
    let s := d.session x.owner
    let bodies := streamBodies n x.unit payload
    let out := (List.range bodies.length).map (fun i =>
      Out.datagram x.owner (fdpDatagram 3 (roleCode s.role) s.id ((x.packets + i + 1) % 4294967296) s.key ((bodies[i]?).getD [])))
    let d1 := { d with out := d.out ++ out,
                       streams := tabSet d.streams n { x with unit := (x.unit + 1) % 4294967296,
                                                              packets := (x.packets + bodies.length) % 4294967296 } }
    (((d1.inc (0x1440 + n) 4).add (0x1440 + n) 5 payload.length).publish (0x1440 + n), true)

end Sys2Proof.Machine
end

