-- ==== Sys2Proof/Machine/Settle.lean ====
section
/-! DEFINITION. Records, the settle stage of unit 0x00E, and the delivery of records (chapter 13): R309 to R327. -/

namespace Sys2Proof.Machine

/-! ### Records (R309 to R313) -/

/-- KIND of a record. -/
def Rec.kind (r : Rec) : Nat := leAt r.bytes 0 1
/-- Bits [3:0] of the action word of a record. -/
def Rec.act (r : Rec) : Nat := leAt r.bytes 2 1 % 16
/-- The class of a defect or segment record. -/
def Rec.cls (r : Rec) : Nat := leAt r.bytes 2 1 / 16
/-- The device number in ORIGIN. -/
def Rec.devn (r : Rec) : Nat := leAt r.bytes 4 2 % 1024
/-- The epoch in ORIGIN. -/
def Rec.epoch (r : Rec) : Nat := leAt r.bytes 4 2 / 1024
/-- SEQ of a record. -/
def Rec.seqNo (r : Rec) : Nat := leAt r.bytes 8 4
/-- Whether a record carries LATE. -/
def Rec.late (r : Rec) : Bool := bit (leAt r.bytes 6 1) 7
/-- LATE set on a record (R311). -/
def Rec.setLate (r : Rec) : Rec := { r with bytes := patch r.bytes 6 (toLE 1 (setBit (leAt r.bytes 6 1) 7)) }

/-- A record moved by a distance (R302, R320): only defect and segment records store positions. -/
def Rec.moved (r : Rec) (dist : Int) : Rec :=
  let r2 := { r with mdStart := r.mdStart + dist, mdEnd := r.mdEnd + dist }
  if r.kind = 3 then r2
  else { r2 with bytes := patch r.bytes 16 (toLE 8 (wrapU 64 r2.mdStart) ++ toLE 8 (wrapU 64 r2.mdEnd)) }

/-- ORIGIN with another epoch. -/
def Rec.toEpoch (r : Rec) (ep : Nat) : Rec :=
  { r with bytes := patch r.bytes 4 (toLE 2 (ep * 1024 + r.devn)) }

/-- The epoch of this device's positions (R310): POS_EPOCH of PLACE_INPUT mod 64. -/
def ownEpoch (d : Dev) : Nat := d.gn (0x3508 + placeInput d) 7 % 64

/-- ORIGIN of this device's records (R310). -/
def ownOrigin (d : Dev) : Nat := ownEpoch d * 1024 + devNo d % 1024

/-- The next SEQ (R313), and the device with it counted. -/
def takeSeq (d : Dev) : Nat × Dev :=
  let n := d.settle.seq
  let d1 := { d with settle := { d.settle with seq := if n = 4294967295 then 1 else n + 1 } }
  (n, d1.put 0x3408 1 d1.settle.seq)

/-- Whether a key comes before another (R317): MD_END, CD_FIRST, device number, SEQ mod 2^32. -/
def keyLt (a b : Int × Nat × Nat × Nat) : Bool :=
  if a.1 ≠ b.1 then a.1 < b.1
  else if a.2.1 ≠ b.2.1 then a.2.1 < b.2.1
  else if a.2.2.1 ≠ b.2.2.1 then a.2.2.1 < b.2.2.1
  else 0 < wrapI 32 ((b.2.2.2 : Int) - a.2.2.2)

/-- The key of a record (R317). -/
def Rec.key (r : Rec) : Int × Nat × Nat × Nat := (r.mdEnd, r.cdFirst, r.devn, r.seqNo)

/-- A record put in its place among held records. -/
def holdInsert (r : Rec) : List Rec → List Rec
  | [] => [r]
  | x :: xs => if keyLt r.key x.key then r :: x :: xs else x :: holdInsert r xs

/-! ### Delivery (R322, R323, R325) -/

/-- A delivery that a destination could not take (R322, R327). -/
def deliveryDrop (e : Env) (d : Dev) (dest : Nat) : Dev := d.raise e 0x22D dest

/-- WRITE_PTR of the record ring as it reads: RING_BASE where the ring has been moved (R323). -/
def recNext (d : Dev) : Nat :=
  let base := d.gn 0x3401 1
  let wp := d.gn 0x3401 4
  if base ≤ wp && wp < base + d.gn 0x3401 2 then wp else base

/-- RECORDS_READY where NOTIFY_COUNT is reached (R323). -/
def notifyCount (e : Env) (d : Dev) : Dev :=
  let x := d.settle
  let n := x.notify + 1
  let first := if x.notify = 0 then e.raw else x.notifyAt
  if d.gn 0x3401 6 ≤ n then { (d.raise e 0x22A 0) with settle := { x with notify := 0 } }
  else { d with settle := { x with notify := n, notifyAt := first } }

/-- A record written to the record ring (R323), where there is one. -/
def ringRecord (e : Env) (d : Dev) (b : List Byte) : Dev :=
  let base := d.gn 0x3401 1
  let size := d.gn 0x3401 2
  if size < 65536 || base % 4096 ≠ 0 || size % 4096 ≠ 0 then d
  else
    let wp := recNext d
    if d.gn 0x3401 3 = 1 && !ringFits base size wp (d.gn 0x3401 5) b.length then
      deliveryDrop e (d.incP 0x3408 0x10) 0
    else
      let room := ringRoom base size wp
      let at_ := if room < b.length then base else wp
      let (wp2, d1) := ringWrite d base size wp (fun _ => [0]) b
      let hit (a : Nat) : Bool := (at_ ≤ a && a < at_ + b.length) || (room < b.length && wp ≤ a)
      let x := d1.settle
      let gone := (x.ringRecs.filter hit).length
      let d2 := { d1 with settle := { x with ringRecs := x.ringRecs.filter (fun a => !hit a) ++ [at_] } }
      let d3 := (d2.put 0x3401 4 wp2).add 0x3408 0x0F (if d.gn 0x3401 3 = 0 then gone else 0)
      notifyCount e d3

/-- A record offered to FDP stream `n` (R322, R325). -/
def recStream (e : Env) (d : Dev) (n : Nat) (b : List Byte) : Dev :=
  let i := 0x3402 + n
  let kind := leAt b 0 1
  let pass := d.gb i 1 && bit (d.gn i 2) kind &&
    (!(kind == 1 || kind == 2) || bit (d.gn i 3) (leAt b 2 1 / 16)) &&
    (kind == 4 || d.gb i 4 || !bit (leAt b 6 1) 7)
  if !pass then d
  else
    let (d1, ok) := streamSend d n b
    if ok then d1
    else
      let c := padTo (d1.gB 0x3408 0x11) 16 0
      deliveryDrop e (d1.putB 0x3408 0x11 (patch c (4 * n) (toLE 4 ((leAt c (4 * n) 4 + 1) % 4294967296)))) (1 + n)

/-- The cores' ring and the streams take a record or watermark record, through their queue (R17). -/
def reportOut (e : Env) (d : Dev) (b : List Byte) : Dev :=
  (List.range 4).foldl (fun d n => recStream e d n b) (ringRecord e (qCommit d 0x4B) b)

/-- The queue of released records to the marking engine (R322, R414). -/
def Dev.setMarkQ (d : Dev) (l : List Rec) : Dev := qFill { d with markQ := l } 0x49 l.length

/-- The queue of released records to compression (R322, R414). -/
def Dev.setCropQ (d : Dev) (l : List Rec) : Dev := qFill { d with cropQ := l } 0x4A l.length

/-- A reset of the unit that reads a record queue empties it; what it had not read is lost and counted in DROPS (R413). -/
def recFlush (e : Env) (d : Dev) (q n : Nat) : Dev := if n = 0 then d else qDrop e d q 6 n

/-- A released record delivered (R322). -/
def deliver (e : Env) (d : Dev) (r : Rec) : Dev :=
  let a := r.act
  let d1 := if bit a 0 then reportOut e d r.bytes else d
  let d2 :=
    if bit a 1 && bit (leAt (d1.gB 0x3400 7) (r.devn / 8) 1) (r.devn % 8) then
      if 256 ≤ d1.markQ.length then deliveryDrop e (qDropEvent e (d1.inc 0x3408 0x12) 0x49) 5
      else qCommit (d1.setMarkQ (d1.markQ ++ [r])) 0x49
    else d1
  if bit a 2 then
    if 64 ≤ d2.cropQ.length then deliveryDrop e (qDropEvent e (d2.inc 0x3408 0x13) 0x4A) 6
    else qCommit (d2.setCropQ (d2.cropQ ++ [r])) 0x4A
  else d2

/-! ### Release (R317 to R319) -/

/-- SETTLE_WINDOW. -/
def settleWindow (d : Dev) : Int := d.gi 0x3400 1

/-- A record released in order (R317): it becomes the last released. -/
def releaseRec (e : Env) (d : Dev) (r : Rec) : Dev :=
  deliver e ({ d with settle := { d.settle with last := some r.key } }.inc 0x3408 6) r

/-- A record released LATE (R318). -/
def releaseLate (e : Env) (d : Dev) (r : Rec) : Dev :=
  deliver e (((d.inc 0x3408 6).inc 0x3408 8).raise e 0x22B r.devn) r.setLate

/-- A side's subtree watermark as it counts (R314, R316): the watermark, and whether it was substituted or overridden;
none while the side has sent none. -/
def sideMark (d : Dev) (s : Nat) : Option (Int × Bool × Bool) :=
  if nbWaits (d.side s).state then
    match tabFind d.settle.side s, d.settle.own.min? with
    | some w, some o => if w < o - d.gi 0x3400 4 then some (o, false, true) else some (w, false, false)
    | some w, none => some (w, false, false)
    | none, _ => none
  else some (d.gi 0x1B06 1, true, false)

/-- The sides of SETTLE_FROM. -/
def settleSides (d : Dev) : List Nat := [0, 1].filter (fun s => bit (d.gn 0x3400 3) s)

/-- M (R317): the lowest contributing watermark; none while one is missing. -/
def settleM (d : Dev) : Option Int :=
  let marks := (settleSides d).map (sideMark d)
  if d.settle.own.isEmpty || marks.any Option.isNone then none
  else (d.settle.own ++ marks.filterMap (fun q => q.map (·.1))).min?

/-- A watermark record (R312). -/
def wmRecord (d : Dev) (source flags : Nat) (w : Int) : List Byte :=
  [4, 1] ++ toLE 1 source ++ [0] ++ toLE 2 (ownOrigin d) ++ toLE 1 flags ++ [0] ++ toLE 8 (wrapU 64 w)

/-- WFLAGS as the sides stand (R312). -/
def wmFlags (d : Dev) : Nat :=
  let ms := (settleSides d).filterMap (sideMark d)
  b2n (ms.any (·.2.1)) + 2 * b2n (ms.any (·.2.2))

/-- The held records whose condition holds leave in ascending key order (R317). -/
def releaseDue (e : Env) (d : Dev) (m : Int) : Dev :=
  let w := settleWindow d
  let due := d.settle.hold.filter (fun r => r.mdEnd + w ≤ m)
  due.foldl (releaseRec e) { d with settle := { d.settle with hold := d.settle.hold.filter (fun r => m < r.mdEnd + w) } }

/-- SETTLE_RELEASE (R317): what a change of M releases, and the frontier record; `band` at a band end. -/
def settleAdvance (e : Env) (d : Dev) (band : Bool) : Dev :=
  if d.ustate 0x00E != .inService then d
  else match settleM d with
    | none => d
    | some m =>
      let d1 := releaseDue e d m
      let f := m - settleWindow d1
      let far := match d1.settle.front with | none => true | some g => decide (g + d1.gi 0x3400 5 ≤ f)
      let d2 := if far || band then
          let d1a := reportOut e d1 (wmRecord d1 0x11 (wmFlags d1) f)
          { d1a with settle := { d1a.settle with front := some f } }
        else d1
      d2.pub 0x3408 [(2, m), (3, f), (4, (d2.settle.hold.length : Int))]

/-! ### Taking records (R315, R318 to R321) -/

/-- A record forwarded along the route (R315). -/
def forwardBytes (e : Env) (d : Dev) (b : List Byte) : Dev :=
  let r := d.gn 0x3400 2
  if r = 0 then d else cascSend e d (r - 1) 3 b

/-- RECORD_SETTLE_ENTER (R315, R318, R319, R321): a record enters the stage. -/
def settleTake (e : Env) (d : Dev) (r : Rec) : Dev :=
  match d.ustate 0x00E with
  | .inService =>
    let d1 := if d.gn 0x3400 2 = 0 then d else (forwardBytes e d r.bytes).inc 0x3408 7
    let full := 8192 ≤ d1.settle.hold.length
    let d2 := if full then
        match d1.settle.hold with
        | [] => d1
        | x :: xs => ((releaseRec e { d1 with settle := { d1.settle with hold := xs } } x).inc 0x3408 9).raise e 0x22C 0
      else d1
    let late := match d2.settle.last with | some k => keyLt r.key k | none => false
    let due := match settleM d2 with | some m => decide (r.mdEnd + settleWindow d2 ≤ m) | none => false
    let d3 := if late then releaseLate e d2 r
      else if due then releaseRec e d2 r
      else { d2 with settle := { d2.settle with hold := holdInsert r d2.settle.hold } }
    (d3.peak 0x3408 5 d3.settle.hold.length).pub 0x3408 [(4, (d3.settle.hold.length : Int))]
  | .bypass =>
    let d1 := if d.gn 0x3400 2 = 0 then d else (forwardBytes e d r.bytes).inc 0x3408 7
    deliver e (d1.incP 0x3408 6) r
  | _ => d.incP 0x3408 0x0D

/-- The tracker's watermarks after a class line (R301, R315, R316): `band` at a band end. -/
def settleMarks (e : Env) (d : Dev) (ws : List Int) (band : Bool) : Dev :=
  let d1 := { (d.takeShadow 0x3400 0x3400) with settle := { d.settle with own := ws } }
  let over_ := ((settleSides d1).filterMap (sideMark d1)).any (·.2.2)
  let live := d1.ustate 0x00E == .inService
  let d2 := if over_ && live then d1.inc 0x3408 0x0A else d1
  let d3 := settleAdvance e d2 band
  match settleM d3 with
  | some m =>
    if d3.gn 0x3400 2 ≠ 0 && (live || d3.ustate 0x00E == .bypass) then
      forwardBytes e d3 (wmRecord d3 0x10 (wmFlags d3) m) else d3
  | none => d3

/-! ### Packets from a side (R314, R315, R320) -/

/-- The records of a SETTLE payload. -/
def splitRecs : Nat → List Byte → List (List Byte)
  | 0, _ => []
  | k + 1, b =>
    let n := 16 * leAt b 1 1
    if n = 0 || b.length < n then [] else b.take n :: splitRecs k (b.drop n)

/-- A record read from its bytes. A zone record does not carry its columns, and the zones of another device are not known here: they
are free values (R312, R317; assumption log 120). -/
def recOf (d : Dev) (b : List Byte) : Rec × Dev :=
  if leAt b 0 1 = 3 then
    let endIx := (d.trk.begun.getD 0) + wrapI 32 ((leAt b 12 4 : Int) - d.trk.begun.getD 0)
    let (first, d1) := d.fresh 29
    let (wide, d2) := d1.fresh 11
    ({ bytes := b, mdStart := gridWp d (endIx - 1023), mdEnd := gridWp d endIx, cdFirst := first, cdLast := first + wide }, d2)
  else
    ({ bytes := b, mdStart := wrapI 64 (leAt b 16 8), mdEnd := wrapI 64 (leAt b 24 8), cdFirst := leAt b 32 4 % 2 ^ 29,
       cdLast := leAt b 36 4 % 2 ^ 29 }, d)

/-- A record or watermark of this device's epoch taken from a side. -/
def takeFromSide (e : Env) (d : Dev) (s : Nat) (b : List Byte) : Dev :=
  if leAt b 0 1 = 4 then
    if leAt b 2 1 = 0x10 then
      { d with settle := { d.settle with side := tabSet d.settle.side s (wrapI 64 (leAt b 8 8)) } }
    else d
  else if 1 ≤ leAt b 0 1 && leAt b 0 1 ≤ 3 then let (r, d1) := recOf d b; settleTake e d1 r
  else d

/-- A record of the epoch before, moved by the last set (R320). -/
def raiseEpoch (d : Dev) (b : List Byte) : List Byte :=
  let n := placeInput d
  let dist := d.gi (0x350C + n) 3
  let o := toLE 2 (ownEpoch d * 1024 + leAt b 4 2 % 1024)
  let b1 := patch b 4 o
  match leAt b 0 1 with
  | 4 => patch b1 8 (toLE 8 (wrapU 64 (wrapI 64 (leAt b 8 8) + dist)))
  | 3 => b1
  | _ => patch b1 16 (toLE 8 (wrapU 64 (wrapI 64 (leAt b 16 8) + dist)) ++ toLE 8 (wrapU 64 (wrapI 64 (leAt b 24 8) + dist)))

/-- What waits on a side is taken in order, as far as its epochs allow (R320). -/
def sideDrain (e : Env) (s : Nat) : Nat → Dev → Dev
  | 0, d => d
  | k + 1, d =>
    match tabGet d.settle.sideQ [] s with
    | [] => d
    | b :: r =>
      let rest : Dev := { d with settle := { d.settle with sideQ := tabSet d.settle.sideQ s r } }
      let ep := leAt b 4 2 / 1024
      let own := ownEpoch d
      if ep = own then sideDrain e s k (takeFromSide e rest s b)
      else if (ep + 1) % 64 = own then sideDrain e s k (takeFromSide e rest s (raiseEpoch d b))
      else if ep = (own + 1) % 64 then d
      else sideDrain e s k (rest.incP 0x3408 0x0B)

/-- A SETTLE packet of a side (R314, R315). -/
def settleRx (e : Env) (d : Dev) (s : Nat) (pay : List Byte) : Dev :=
  if !bit (d.gn 0x3400 3) s then d.incP 0x3408 0x0C
  else
    let recs := splitRecs 1024 pay
    let q := tabGet d.settle.sideQ [] s ++ recs
    let d1 := { d with settle := { d.settle with sideQ := tabSet d.settle.sideQ s q } }
    settleAdvance e (sideDrain e s q.length d1) false

/-- A position set on PLACE_INPUT (R320). Held records carry the epoch of the positions they are moved to (R310), and what waited
for this set is taken. -/
def settleSet (e : Env) (d : Dev) (n : Nat) (dist : Int) : Dev :=
  if n ≠ placeInput d then d
  else
    let x := d.settle
    let mv (r : Rec) : Rec := (r.moved dist).toEpoch (ownEpoch d)
    let d1 := { d with settle := { x with
      hold := x.hold.map mv, own := x.own.map (· + dist), side := x.side.map (fun (q : Nat × Int) => (q.1, q.2 + dist)),
      front := x.front.map (· + dist), last := x.last.map (fun (k : Int × Nat × Nat × Nat) => (k.1 + dist, k.2)) } }
    let d2 := d1.pub 0x3408 [(2, d1.gi 0x3408 2 + dist), (3, d1.gi 0x3408 3 + dist)]
    let d3 := (settleSides d2).foldl (fun d s => sideDrain e s (tabGet d.settle.sideQ [] s).length d) d2
    if (settleSides d2).any (fun s => !(tabGet d2.settle.sideQ [] s).isEmpty) then settleAdvance e d3 false else d3

/-! ### States and the timer (R321, R323) -/

/-- The stage enters a state (R321, R326). -/
def settleEnter (e : Env) (d : Dev) (old new : UState) : Dev :=
  if new == .inService then
    (d.clearSubs 0x3408 [5, 6, 7, 8, 9, 0x0A, 0x0B, 0x0C, 0x0D, 0x0E, 0x0F, 0x10, 0x11, 0x12, 0x13])
      |> fun d => { d with settle := { d.settle with hold := [], last := none, front := none } }
  else if old == .inService then
    let h := d.settle.hold
    (h.foldl (releaseRec e) { d with settle := { d.settle with hold := [] } }).pub 0x3408 [(4, 0)]
  else d

/-- Whether this device's route would send into a side whose route points back (R314): a side that SETTLE_FROM names
routes toward this device. -/
def routeLoops (route from_ : Nat) : Bool := route ≠ 0 && bit from_ (route - 1)

/-- RECORDS_READY_TIMER (R323): NOTIFY_TIME after the first record since the last offer. -/
def notifyTimer (e : Env) (d : Dev) : Dev :=
  let x := d.settle
  if 0 < x.notify && x.notifyAt + d.gn 0x3401 7 * 16000 ≤ e.raw then
    { (d.raise e 0x22A 0) with settle := { x with notify := 0 } }
  else d

/-- Whether the rules of this chapter allow a write of a number (R314, R323): routes that would loop are refused. -/
def settleWriteOk (d : Dev) (idx sub : Nat) (v : Int) : Bool :=
  if idx = 0x3400 && sub = 2 then !(routeLoops v.toNat (d.gn 0x3400 3) &&
      (d.side (v.toNat - 1)).helloOk)
  else if idx = 0x3400 && sub = 3 then !(routeLoops (d.gn 0x3400 2) v.toNat &&
      (d.side (d.gn 0x3400 2 - 1)).helloOk)
  else if idx = 0x3401 && sub = 1 then v % 4096 == 0
  else if idx = 0x3401 && sub = 2 then v % 4096 == 0 && decide (65536 ≤ v)
  else true

/-- RECORDS_READY_TIMER (R323). -/
def execRecordsReadyTimer (t : Nat) (s : State) : Host.Outcome State Fault Refusal :=
  mainStep true t s fun e d => notifyTimer e d

end Sys2Proof.Machine
end

