-- ==== Sys2Proof/Machine/Regions.lean ====
section
/-! DEFINITION. The region tracker and classifier, unit 0x00D (chapter 12): R275 to R308. -/

namespace Sys2Proof.Machine

/-! ### Feature sets (R291 to R293) -/

/-- An empty feature set that starts at a grid index. -/
def featNew (d : Dev) (g : Int) : Feat := { mdStart := gridWp d g, mdEnd := gridWp d g, g0 := g, g1 := g }

/-- The place of a defective class in HIST (R291). -/
def histIx (c : Nat) : Nat := match c with | 1 => 0 | 2 => 1 | 5 => 2 | _ => 3

/-- MIXED where both polarities are present (R276). -/
def Feat.mixed (f : Feat) : Feat :=
  if nth f.hist 0 0 + nth f.hist 1 0 ≠ 0 && nth f.hist 2 0 + nth f.hist 3 0 ≠ 0 then { f with rflags := setBit f.rflags 1 }
  else f

/-- A pixel enters a feature set (R291). -/
def Feat.pixel (f : Feat) (col cls i : Nat) (dv : Int) (g : Int) : Feat :=
  let one := f.area = 0
  { f with
    cdFirst := if one then col else min f.cdFirst col, cdLast := if one then col else max f.cdLast col,
    area := f.area + 1, hist := f.hist.set (histIx cls) (nth f.hist (histIx cls) 0 + 1), sumX := f.sumX + col,
    sumY := f.sumY + (g - f.g0).toNat, sumI := f.sumI + i, sumI2 := f.sumI2 + i * i, sumDev := f.sumDev + dv,
    minI := if one then i else min f.minI i, maxI := if one then i else max f.maxI i }

/-- Two feature sets merged (R293); `a` is the root's. A set that holds no pixel gives only its flags. -/
def Feat.join (a b : Feat) : Feat :=
  let fl := a.rflags ||| b.rflags
  if b.area = 0 then { a with rflags := fl }
  else if a.area = 0 then Feat.mixed { b with rflags := fl }
  else
    let g := min a.g0 b.g0
    let sy := a.sumY + a.area * (a.g0 - g).toNat + (b.sumY + b.area * (b.g0 - g).toNat)
    Feat.mixed
      { mdStart := if b.g0 < a.g0 then b.mdStart else a.mdStart, mdEnd := max a.mdEnd b.mdEnd, g0 := g,
        g1 := max a.g1 b.g1, cdFirst := min a.cdFirst b.cdFirst, cdLast := max a.cdLast b.cdLast, area := a.area + b.area,
        perim := a.perim + b.perim, contact := a.contact + b.contact, hist := List.zipWith (· + ·) a.hist b.hist,
        sumX := a.sumX + b.sumX, sumY := sy, sumI := a.sumI + b.sumI, sumI2 := a.sumI2 + b.sumI2,
        sumDev := a.sumDev + b.sumDev, minI := min a.minI b.minI, maxI := max a.maxI b.maxI, t0 := min a.t0 b.t0,
        t1 := max a.t1 b.t1, settings := a.settings, rflags := fl }

/-- The feature block of a FRAGMENT entry (R290, R291). -/
def Feat.block (f : Feat) : List Byte :=
  toBE 8 (wrapU 64 f.mdStart) ++ toBE 8 (wrapU 64 f.mdEnd) ++ toBE 4 f.cdFirst ++ toBE 4 f.cdLast ++ toBE 4 f.area
    ++ toBE 4 f.perim ++ toBE 4 f.contact ++ f.hist.flatMap (toBE 4) ++ toBE 8 f.sumX ++ toBE 8 f.sumY ++ toBE 8 f.sumI
    ++ toBE 8 f.sumI2 ++ toBE 8 (wrapU 64 f.sumDev) ++ toBE 2 f.minI ++ toBE 2 f.maxI ++ toBE 8 f.t0 ++ toBE 8 f.t1
    ++ toBE 2 f.settings ++ toBE 2 f.rflags ++ toBE 4 0

/-- A feature block read. -/
def readBlock (d : Dev) (b : List Byte) : Feat :=
  let s := wrapI 64 (beAt b 0 8)
  let t := wrapI 64 (beAt b 8 8)
  { mdStart := s, mdEnd := t, g0 := gridCeil d s, g1 := gridCeil d t, cdFirst := beAt b 16 4, cdLast := beAt b 20 4,
    area := beAt b 24 4, perim := beAt b 28 4, contact := beAt b 32 4,
    hist := (List.range 4).map (fun k => beAt b (36 + 4 * k) 4), sumX := beAt b 52 8, sumY := beAt b 60 8,
    sumI := beAt b 68 8, sumI2 := beAt b 76 8, sumDev := wrapI 64 (beAt b 84 8), minI := beAt b 92 2, maxI := beAt b 94 2,
    t0 := beAt b 96 8, t1 := beAt b 104 8, settings := beAt b 112 2, rflags := beAt b 114 2 }

/-! ### The table (R278 to R281) -/

/-- The tracker written. -/
def Dev.setTrk (d : Dev) (x : Tracker) : Dev := { d with trk := x }

/-- Whether region or chain ID `a` is older than `b` (R279). -/
def idOlder (a b : Nat) : Bool := 0 < wrapI 32 ((b : Int) - a)

/-- The ID after another: 0 is skipped (R279). -/
def idNext (n : Nat) : Nat := if n = 4294967295 then 1 else n + 1

/-- A region by its ID. -/
def findRegion (d : Dev) (id : Nat) : Option Region := d.trk.regions.find? (fun r => r.id == id)

/-- A region replaced. -/
def putRegion (d : Dev) (r : Region) : Dev :=
  d.setTrk { d.trk with regions := d.trk.regions.map (fun q => if q.id = r.id then r else q) }

/-- An ID renamed in a line's runs. -/
def renameRuns (a b : Nat) (l : List TrackRun) : List TrackRun := l.map (fun r => if r.id = a then { r with id := b } else r)

/-- An ID renamed in a line that is kept. -/
def renameLine (a b : Nat) (l : Option TrackLine) : Option TrackLine :=
  l.map (fun q => { q with runs := renameRuns a b q.runs })

/-- The chains of a region that a merge ends (R279). -/
def Region.chains (r : Region) : List Nat := r.ended ++ (if r.chain = 0 then [] else [r.chain])

/-- An entry for CONTINUE packets to a side. -/
def outPut (d : Dev) (s : Nat) (b : List Byte) : Dev :=
  d.setTrk { d.trk with outbox := tabSet d.trk.outbox s (tabGet d.trk.outbox [] s ++ [b]) }

/-- Elements of a list without repeats. -/
def union (a b : List Nat) : List Nat := a ++ b.filter (fun x => !a.contains x)

/-- Two regions merged (R279, R287): the older ID is the root, the other becomes MERGED until step 8. -/
def mergeTwo (d : Dev) (i j : Nat) : Dev :=
  if i = j then d
  else match findRegion d i, findRegion d j with
    | some x, some y =>
      let (r, a) := if idOlder x.id y.id then (x, y) else (y, x)
      let ext := if r.on && a.on then (min r.ext.1 a.ext.1, max r.ext.2 a.ext.2) else if a.on then a.ext else r.ext
      let root := { r with feat := r.feat.join a.feat, ended := r.ended ++ a.chains, left := union r.left a.left,
                           right := union r.right a.right, pend := union r.pend a.pend,
                           waiting := r.waiting && a.waiting, on := r.on || a.on, ext := ext }
      let t := d.trk
      let d1 := d.setTrk { t with
        regions := (t.regions.filter (fun q => q.id != a.id)).map (fun q => if q.id = r.id then root else q),
        merged := t.merged ++ [a.slice], prev := renameLine a.id r.id t.prev, prev2 := renameLine a.id r.id t.prev2,
        mid := t.mid.map (fun (q : ClassLine × List TrackRun × Nat) => (q.1, renameRuns a.id r.id q.2.1, q.2.2)) }
      let both := r.sent &&& a.sent
      (bitsOf 2 both).foldl (fun d s => outPut d s ([2, 0, 0, 0] ++ toBE 4 a.id ++ toBE 4 r.id ++ toBE 4 0))
        (d1.inc 0x3212 8)
    | _, _ => d

/-- How many entries are not FREE (R278). -/
def occupancy (d : Dev) : Nat := d.trk.regions.length + d.trk.merged.length

/-- The charge of a slice (R281). -/
def sliceCharge (d : Dev) (s : Nat) : Nat :=
  (d.trk.regions.filter (fun r => r.slice == s)).length + (d.trk.merged.filter (· == s)).length

/-! ### Columns and runs (R275, R276) -/

/-- The first column this device owns (R207). -/
def ownFirst (d : Dev) : Nat := if sideOn d 0 then d.gn 0x1B00 7 else 0
/-- The column after the last this device owns. -/
def ownEnd (d : Dev) : Nat := rasterWidth d - (if sideOn d 1 then d.gn 0x1B00 7 else 0)

/-- The runs of a class line (R275): with `join` a run may hold both polarities. -/
def runsGo (join : Bool) : Nat → Option TrackRun → List Nat → List TrackRun
  | _, o, [] => o.toList
  | x, o, c :: r =>
    let p := polarity c
    match o with
    | none => if p = 0 then runsGo join (x + 1) none r else runsGo join (x + 1) (some { a := x, b := x, pol := p }) r
    | some q =>
      if p = 0 then q :: runsGo join (x + 1) none r
      else if join || p = q.pol then runsGo join (x + 1) (some { q with b := x }) r
      else q :: runsGo join (x + 1) (some { a := x, b := x, pol := p }) r

/-- JOIN_POLARITY. -/
def joins (d : Dev) : Bool := d.gb 0x3210 1

/-- The runs of the owned columns of a class line. -/
def trackRuns (d : Dev) (codes : List Nat) : List TrackRun :=
  runsGo (joins d) (ownFirst d) none ((codes.take (ownEnd d)).drop (ownFirst d))

/-- Whether two runs of adjacent lines touch (R276). -/
def touches (join : Bool) (r q : TrackRun) : Bool :=
  q.a ≤ r.b + 1 && r.a ≤ q.b + 1 && (join || r.pol == q.pol)

/-- The line before `m`, where the tracker has it. -/
def lineBefore (l : Option TrackLine) (m : Int) : Option TrackLine :=
  l.bind (fun q => if q.m = m - 1 then some q else none)

/-- The regions that a run touches on the line before. -/
def touched (d : Dev) (m : Int) (r : TrackRun) : List Nat :=
  match lineBefore d.trk.prev m with
  | none => []
  | some p => (p.runs.filter (fun q => q.id != 0 && touches (joins d) r q)).map (·.id)

/-! ### Zone cells (R285) -/

/-- The width of a zone. -/
def zoneWidth (d : Dev) : Nat := max 1 (ceilDiv (rasterWidth d) 256)

/-- A refused run's pixels counted (R280, R285). -/
def zoneRun (d : Dev) (g : Int) (codes : Array Nat) (r : TrackRun) (cause : Nat) : Dev :=
  let zw := zoneWidth d
  let cells := (List.range (r.b + 1 - r.a)).foldl (fun (t : Tab ZoneCell) k =>
    let x := r.a + k
    let c := tabGet t { first := g, last := g } (x / zw)
    let ix := histIx (codes.getD x 0)
    tabSet t (x / zw) { c with counts := c.counts.set ix (nth c.counts ix 0 + 1), last := g, causes := c.causes ||| cause })
    d.trk.cells
  (d.setTrk { d.trk with cells := cells }).add 0x3212 0x0D (r.b + 1 - r.a : Nat)

/-- Zone records of a band (R285, R312), to the settle stage. -/
def zoneEmit (e : Env) (d : Dev) : Dev :=
  match d.trk.band with
  | none => d
  | some k =>
    let end_ := 1024 * k + 1023
    let zw := zoneWidth d
    let off := d.gn 0x1B00 2
    let act := d.gn 0x3224 0x11 % 16
    let cells := d.trk.cells
    cells.foldl (fun (d : Dev) (q : Nat × ZoneCell) =>
      let c := q.2
      let (sq, d1) := takeSeq d
      let b := [3, 2] ++ toLE 1 act ++ toLE 1 q.1 ++ toLE 2 (ownOrigin d) ++ toLE 1 c.causes ++ [0] ++ toLE 4 sq
        ++ toLE 4 (wrapU 32 end_) ++ toLE 2 (c.first - 1024 * k).toNat ++ toLE 2 (c.last - 1024 * k).toNat
        ++ c.counts.flatMap (toLE 3)
      settleTake e (d1.inc 0x3212 0x0E)
        { bytes := b, mdStart := gridWp d1 (end_ - 1023), mdEnd := gridWp d1 end_, cdFirst := q.1 * zw + off,
          cdLast := min ((q.1 + 1) * zw) (ownEnd d1) + off - 1 }) (d.setTrk { d.trk with cells := [] })

/-! ### The tree (R294 to R298) -/

/-- Node `k` of a tree. -/
def treeNode (b : List Byte) (k : Nat) : Nat := leAt b (8 * k) 8

/-- Whether a node breaks a rule of R296. -/
def nodeBad (n k : Nat) : Bool :=
  let thr := n % 2 ^ 32
  match field n 63 62 with
  | 0 => 23 < field n 61 56 || (255 = field thr 30 23 && thr % 2 ^ 23 ≠ 0) || field n 55 50 ≤ k || field n 49 44 ≤ k
  | 1 => false
  | _ => true

/-- The first failing node that node 0 reaches (R296), with the nodes reached so far. -/
def treeBad (b : List Byte) : Nat → Nat → List Nat → Option Nat
  | 0, _, _ => none
  | f + 1, k, reach =>
    if !reach.contains k then treeBad b f (k + 1) reach
    else
      let n := treeNode b k
      if nodeBad n k then some k
      else treeBad b f (k + 1) (if field n 63 62 = 0 then reach ++ [field n 55 50, field n 49 44] else reach)

/-- TREE_CRC_LOAD as it reads: until the update the CRC as it stood before the latest writes (R202, R297). -/
def treeCrcLoad (d : Dev) : Nat :=
  match tabFind d.o (okey 0x3220 7) with
  | some v => v.int.toNat
  | none => crc32c (d.gB 0x3221 1)

/-- A write of TREE_SWAP (R297). -/
def treeSwapRequest (d : Dev) (v : Nat) : Dev × Bool :=
  if v = 2 then
    (if d.trk.tree.pending then (d.put 0x3220 2 0).setTrk { d.trk with tree := { d.trk.tree with pending := false } } else d,
     true)
  else match treeBad (d.gB 0x3221 1) 64 0 [0] with
    | some k => ((d.put 0x3220 2 3).put 0x3220 3 k, false)
    | none =>
      ((d.put 0x3220 2 1).setTrk { d.trk with tree := { pending := true, w := d.trk.begun.map (· + 1) } }, true)

/-- The tree's swap at a class line (R297). -/
def treeTake (d : Dev) (m : Int) : Dev :=
  let x := d.trk.tree
  let w := x.w.getD m
  if x.pending && w ≤ m then
    let old := d.gB 0x3222 1
    (((((d.putB 0x3222 1 (d.gB 0x3221 1)).putB 0x3221 1 old).put 0x3220 2 2).put 0x3220 4 (gridWp d w)).put 0x3220 7
      (crc32c old : Nat)).setTrk { d.trk with tree := {} }
  else d

/-- The square root of a non-negative fraction, as F32. -/
def f32Root (a : Frac) : Nat :=
  let v := a.n.natAbs * 2 ^ 160 / a.d
  let s := isqrt v
  f32.write { n := 2 * s + b2n (s * s * a.d != a.n.natAbs * 2 ^ 160), d := 2 ^ 81 }

/-- A quotient where its divisor is not 0. -/
def quot (a b : Int) : Option Frac := if b = 0 then none else some ((Frac.ofInt a).div (Frac.ofInt b))

/-- The distance of a column to the nearer web edge that is TRACKING or LOST (R294). -/
def edgeDist (d : Dev) (c : Frac) : Frac :=
  let one (x : EdgeSide) : List Frac :=
    if x.state = 2 || x.state = 3 then
      [(c.sub (Frac.norm { n := x.e + 256 * d.gn 0x1B00 2, d := 256 })).abs]
    else []
  match one d.seg.left ++ one d.seg.right with
  | [] => Frac.ofInt 16777216
  | a :: r => r.foldl (fun (p q : Frac) => if q.lt p then q else p) a

/-- A derived feature as F32 (R294): none where its divisor is 0, which the spec leaves open. -/
def derived (d : Dev) (f : Feat) (segment : Bool) (k : Nat) : Option Nat :=
  let a : Int := f.area
  let len : Int := f.g1 - f.g0 + 1
  let wid : Int := f.cdLast - f.cdFirst + 1
  let h (i : Nat) : Int := nth f.hist i 0
  let int (v : Int) : Option Nat := some (f32.write (Frac.ofInt v))
  let fr (q : Option Frac) : Option Nat := q.map f32.write
  let pitch : Frac := Frac.norm { n := d.gn 0x3000 3, d := 2 ^ 32 }
  let scale := f64Val (d.gn (0x3500 + placeInput d) 0x13)
  let col := f64Val (d.gn 0x1B00 4)
  let ten (n : Nat) : Frac := { n := 1, d := 10 ^ n }
  match k with
  | 0 => int a
  | 1 => int len
  | 2 => int wid
  | 3 => fr (quot len wid)
  | 4 => fr (quot a (len * wid))
  | 5 => int f.perim
  | 6 => fr (quot (f.perim * f.perim : Nat) a)
  | 7 => fr (quot f.sumI a)
  | 8 => (quot (a * f.sumI2 - (f.sumI * f.sumI : Nat)) (a * a)).map (fun v => if v.n < 0 then 0 else f32Root v)
  | 9 => int f.minI
  | 10 => int f.maxI
  | 11 => int ((f.maxI : Int) - f.minI)
  | 12 => fr (quot f.sumDev (a * 65536))
  | 13 => fr (quot (h 1) a)
  | 14 => fr (quot (h 0 + h 1) a)
  | 15 => fr (quot (h 2 + h 3) a)
  | 16 => fr (quot (h 3) a)
  | 17 => if f.perim = 0 then int 0 else fr (quot f.contact f.perim)
  | 18 => fr (quot f.sumX a)
  | 19 => (quot f.sumX a).map (fun c => f32.write (edgeDist d c))
  | 20 => fr (some ((((Frac.ofInt len).mul pitch).mul scale).mul (ten 6)))
  | 21 => fr (some (((Frac.ofInt wid).mul col).mul (ten 6)))
  | 22 => fr (some (((((Frac.ofInt a).mul pitch).mul scale).mul col).mul (ten 12)))
  | _ => int (b2n segment : Nat)

/-- Whether an F32 is below another; a NaN never is. -/
def f32Lt (a b : Nat) : Bool :=
  let nan (x : Nat) : Bool := field x 30 23 == 255 && x % 2 ^ 23 != 0
  let v (x : Nat) : Int := if bit x 31 then -((x % 2 ^ 31 : Nat) : Int) else (x % 2 ^ 31 : Nat)
  !nan a && !nan b && decide (v a < v b)

/-- The class of a feature set (R296): the walk from node `k`. A feature without a stated value is a free one. -/
def classWalk (f : Feat) (seg : Bool) (tree : List Byte) : Nat → Nat → Dev → Nat × Dev
  | 0, _, d => (0, d)
  | n + 1, k, d =>
    let w := treeNode tree k
    if field w 63 62 = 1 then (field w 35 32, d)
    else
      let (v, d1) := match derived d f seg (field w 61 56) with
        | some v => (v, d)
        | none => d.fresh 32
      classWalk f seg tree n (if f32Lt v (w % 2 ^ 32) then field w 55 50 else field w 49 44) d1

/-! ### Repeating defects (R299, R300) -/

/-- R of a feature set's MD centroid in Q48.16 counts, its revolution index and its time (R299). -/
def repeatAt (e : Env) (d : Dev) (f : Feat) : Int × Int × Nat :=
  let n := d.gn 0x3228 1
  let wp : Int := f.mdStart + (if f.area = 0 then 0 else ((f.sumY * d.gn 0x3000 3 / f.area / 65536 : Nat) : Int))
  let t := passTime (d.enc (placeInput d)).edges wp (nowA e d)
  let rc : Int := d.gn (0x3500 + n) 0x0A
  let r := revOn d n t
  (r, if rc = 0 then 0 else r / (rc * 65536), t)

/-- The track that a record matches (R300): the smallest phase error, then the lowest number. -/
def repeatMatch (d : Dev) (cls cd : Nat) (r : Int) : Option Nat :=
  let rc : Int := (d.gn (0x3500 + d.gn 0x3228 1) 0x0A) * 65536
  let best := d.trk.tracks.foldl (fun (a : Option (Nat × Nat)) (q : Nat × RepTrack) =>
    let x := q.2
    let k := if rc = 0 then 0 else roundHalfUp (r - x.r) rc
    let err := (r - x.r - k * rc).natAbs
    if x.cls = cls && 1 ≤ k && k ≤ (d.gn 0x3228 5 : Int) && err ≤ d.gn 0x3228 3 &&
        ((cd : Int) - x.cd).natAbs ≤ d.gn 0x3228 2 then
      match a with
      | some b => if err < b.1 then some (err, q.1) else a
      | none => some (err, q.1)
    else a) none
  best.map (·.2)

/-- Where a new track goes (R300): the lowest free one, else the one with the oldest last index. -/
def repeatSlot (d : Dev) : Nat :=
  match (List.range 64).find? (fun k => (tabFind d.trk.tracks k).isNone) with
  | some k => k
  | none =>
    ((d.trk.tracks.foldl (fun (a : Option (Int × Nat)) (q : Nat × RepTrack) =>
      match a with
      | some b => if q.2.last < b.1 then some (q.2.last, q.1) else a
      | none => some (q.2.last, q.1)) none).map (·.2)).getD 0

/-- Whether the repeat unit works: REPEAT_INPUT names an input. -/
def repeatOn (d : Dev) : Bool := d.gn 0x3228 1 < 4

/-- Tracks whose last index lies too far behind are freed (R300); REV_INDEX and TRACKS_ACTIVE. -/
def repeatAge (d : Dev) : Dev :=
  if !repeatOn d then d
  else
    let now := (d.enc (d.gn 0x3228 1)).turns
    let ts := d.trk.tracks.filter (fun (q : Nat × RepTrack) => decide (now - q.2.last ≤ d.gn 0x3228 5))
    (d.setTrk { d.trk with tracks := ts }).pub 0x3229 [(1, (wrapU 32 now : Int)), (2, (ts.length : Int))]

/-- A record's track and hits (R300). -/
def repeatTake (e : Env) (d : Dev) (f : Feat) (cls : Nat) : Nat × Nat × Dev :=
  let (r, ix, t) := repeatAt e d f
  let cd := if f.area = 0 then f.cdFirst else f.sumX / f.area
  match repeatMatch d cls cd r with
  | some k =>
    match tabFind d.trk.tracks k with
    | none => (0xFF, 0, d)
    | some x =>
      let h := min (x.hits + 1) 65535
      let d1 := d.setTrk { d.trk with tracks := tabSet d.trk.tracks k { x with hits := h, r := r, cd := cd, last := ix, time := t } }
      let d2 := if h = d.gn 0x3228 4 then (d1.incP 0x3229 3).raise e 0x228 k else d1
      (k, min h 255, d2)
  | none =>
    let k := repeatSlot d
    let x : RepTrack := { cls := cls, hits := 1, cd := cd, r := r, first := ix, last := ix, time := t }
    (k, 1, d.setTrk { d.trk with tracks := tabSet d.trk.tracks k x })

/-- TRACKS as it reads (R307). -/
def tracksBytes (d : Dev) : List Byte :=
  (List.range 64).flatMap (fun k =>
    match tabFind d.trk.tracks k with
    | none => List.replicate 32 0
    | some x => toLE 1 k ++ toLE 1 x.cls ++ toLE 2 x.hits ++ toLE 4 x.cd ++ toLE 8 (wrapU 64 x.r) ++ toLE 4 (wrapU 32 x.first)
        ++ toLE 4 (wrapU 32 x.last) ++ toLE 8 x.time)

/-! ### Emitting records (R309 to R312, step 8 of R277) -/

/-- What step 8 emits: a feature set with its region, chain, segment number and ended chains. -/
structure EmitItem where
  feat : Feat
  id : Nat
  chain : Nat
  segNo : Nat
  ended : List Nat

/-- A centroid as a fraction of the box (R310). -/
def centOf (num area w : Nat) : Nat := if w = 0 || area = 0 then 0 else (num * 65535 + area * w / 2) / (area * w)

/-- Chains sorted oldest first. -/
def chainInsert (c : Nat) : List Nat → List Nat
  | [] => [c]
  | x :: r => if idOlder c x then c :: x :: r else x :: chainInsert c r

/-- The record of an emitted feature set (R309 to R312); MEAN_I of no pixels has no stated value. -/
def regionRecord (d : Dev) (it : EmitItem) (cls act track hits : Nat) : Rec × Dev :=
  let f := it.feat
  let ended := it.ended.foldl (fun (a : List Nat) c => chainInsert c a) []
  let seg := bit f.rflags 5 || !ended.isEmpty
  let dt := (f.t1 - f.t0) / 256
  let sat := 4294967295 < dt
  let (mean, d0) := if f.area = 0 then d.fresh 16 else ((f.sumI + f.area / 2) / f.area, d)
  let (sq, d1) := takeSeq d0
  let base := toLE 1 (if seg then 2 else 1) ++ toLE 1 (if seg then 5 else 4) ++ toLE 1 (cls * 16 + act) ++ toLE 1 track
    ++ toLE 2 (ownOrigin d) ++ toLE 1 (f.rflags % 64 + 64 * b2n sat) ++ toLE 1 hits ++ toLE 4 sq ++ toLE 4 f.area
    ++ toLE 8 (wrapU 64 f.mdStart) ++ toLE 8 (wrapU 64 f.mdEnd) ++ toLE 4 (f.cdFirst % 2 ^ 29) ++ toLE 4 (f.cdLast % 2 ^ 29)
    ++ toLE 8 f.t0 ++ toLE 4 (if sat then 4294967295 else dt) ++ toLE 2 f.settings ++ toLE 2 mean ++ toLE 2 f.minI
    ++ toLE 2 f.maxI ++ toLE 2 (centOf (f.sumX - f.area * f.cdFirst) f.area (f.cdLast - f.cdFirst))
    ++ toLE 2 (centOf f.sumY f.area (f.g1 - f.g0).toNat)
  let ext := toLE 4 it.chain ++ toLE 2 (min it.segNo 65535) ++ toLE 1 (min ended.length 255) ++ [0]
    ++ toLE 4 (nth ended 0 0) ++ toLE 4 (nth ended 1 0)
  ({ bytes := base ++ (if seg then ext else []), mdStart := f.mdStart, mdEnd := f.mdEnd, cdFirst := f.cdFirst,
     cdLast := f.cdLast }, d1.add 0x3408 0x0E (ended.length - 2 : Nat))

/-- A feature set classified and emitted (R296, R298, R300). -/
def emitOne (e : Env) (d : Dev) (it : EmitItem) : Dev :=
  let (cls, d1) := classWalk it.feat (bit it.feat.rflags 5) (d.gB 0x3222 1) 64 0 d
  let word := d1.gn 0x3224 (cls + 1)
  let (track, hits, d2) := if bit word 4 && repeatOn d1 then repeatTake e d1 it.feat cls else (0xFF, 0, d1)
  if word % 16 = 0 then d2.putB 0x3212 0x0F (addCounts 4 (d2.gB 0x3212 0x0F) ((List.range 16).map (fun k => b2n (k == cls))))
  else
    let d3 := if bit word 3 then d2.raise e 0x227 (it.id + cls * 2 ^ 32) else d2
    let (r, d4) := regionRecord d3 it cls (word % 16) track hits
    settleTake e d4 r

/-- An item put in its place: ascending CD_FIRST, the older region first on a tie (DEDUCED, assumption log 60). -/
def itemInsert (x : EmitItem) : List EmitItem → List EmitItem
  | [] => [x]
  | y :: r =>
    if x.feat.cdFirst < y.feat.cdFirst || (x.feat.cdFirst = y.feat.cdFirst && idOlder x.id y.id) then x :: y :: r
    else y :: itemInsert x r

/-! ### The neighbours (R286 to R290) -/

/-- A FRAGMENT entry. -/
def fragBytes (link : Nat) (f : Feat) : List Byte := [3, 0, 0, 0] ++ toBE 4 link ++ f.block

/-- A region that has an own link to `x` of side `s`. -/
def linkedTo (d : Dev) (s x : Nat) : Option Region :=
  d.trk.regions.find? (fun r => (if s = 0 then r.left else r.right).contains x)

/-- A link between an own region and a neighbour's (R286, R287): two own entries with one neighbour ID merge. -/
def linkPut (d : Dev) (s own x : Nat) : Dev :=
  match findRegion d own with
  | none => d
  | some r =>
    let had := (if s = 0 then r.left else r.right).contains x
    let other := linkedTo d s x
    let r2 := if s = 0 then { r with left := union r.left [x] }
      else { r with right := union r.right [x], pend := if had then r.pend else union r.pend [x] }
    let d1 := putRegion d r2
    match other with
    | some o => mergeTwo d1 own o.id
    | none => d1

/-- The polarity condition of a link. -/
def linkPol (d : Dev) (a b : Nat) : Bool := polarity a ≠ 0 && polarity b ≠ 0 && (joins d || polarity a = polarity b)

/-- The own boundary pixel of a side on a line: its class and region. -/
def ownPixel (d : Dev) (s : Nat) (codes : List Nat) (runs : List TrackRun) : Nat × Nat :=
  let x := if s = 0 then ownFirst d else ownEnd d - 1
  let c := nth codes x clsMask
  (c, ((runs.find? (fun r => r.a ≤ x && x ≤ r.b)).map (·.id)).getD 0)

/-- The links of a side on a line (R286): own and neighbour pixels of this line and the one before. -/
def linkLine (d : Dev) (s : Nat) (cl : ClassLine) (runs : List TrackRun) (nb : Option LineEnt) : Dev :=
  let now (d : Dev) : Nat × Nat := ownPixel d s cl.codes (match d.trk.mid with | some q => q.2.1 | none => runs)
  let was (d : Dev) : Option (Nat × Nat) := (lineBefore d.trk.prev cl.m).map (fun p => ownPixel d s p.codes p.runs)
  let nbWas := (tabFind d.trk.lineLast s).bind (fun q => if q.wp = gridWp d (cl.m - 1) then some q else none)
  let one (d : Dev) (o : Nat × Nat) (n : LineEnt) : Dev :=
    if linkPol d o.1 n.cls && o.2 ≠ 0 && n.id ≠ 0 then linkPut d s o.2 n.id else d
  let d1 := match nb with | some n => one d (now d) n | none => d
  let d2 := match nbWas with | some n => one d1 (now d1) n | none => d1
  let d3 := match was d2, nb with | some o, some n => one d2 o n | _, _ => d2
  d3.setTrk { d3.trk with lineLast := match nb with
    | some n => tabSet d3.trk.lineLast s n
    | none => tabErase d3.trk.lineLast s }

/-- A MERGE entry received (R287): links to the absorbed ID become links to the root. -/
def mergeRx (d : Dev) (s a r : Nat) : Dev :=
  match linkedTo d s a with
  | none => d
  | some x =>
    let swap (l : List Nat) : List Nat := union (l.filter (· != a)) (if l.contains a then [r] else [])
    let other := linkedTo d s r
    let x2 := if s = 0 then { x with left := swap x.left } else { x with right := swap x.right, pend := swap x.pend }
    let d1 := putRegion d x2
    match other with
    | some o => mergeTwo d1 x.id o.id
    | none => d1

/-- STREAK_LEN as an extent in Q48.32. -/
def streakLen (d : Dev) : Int := d.gi 0x3210 3 * 65536

/-- The MD extent between the web positions of a first and a last line, in Q48.32 (R282). -/
def extentOf (d : Dev) (first last : Int) : Int := (last - first) * 65536 + d.gn 0x3000 3

/-- A FRAGMENT entry received (R288, R289): the device, and what is to be emitted beside its entry. -/
def fragRx (e : Env) (d : Dev) (s : Nat) (b : List Byte) : Dev × List EmitItem :=
  let link := beAt b 4 4
  let f := readBlock d (b.drop 8)
  match linkedTo d s link with
  | none =>
    ((d.inc 0x3212 0x14).raise e 0x229 s,
     [{ feat := { f with rflags := (f.rflags &&& 0x06) ||| 9 }, id := link, chain := 0, segNo := 0, ended := [] }])
  | some r =>
    let last := !bit f.rflags 6 && !bit f.rflags 7
    let fl := f.rflags &&& 0x07
    let r1 := { r with pend := if last then r.pend.filter (· != link) else r.pend }
    let first := if r.feat.area = 0 then f.mdStart else min r.feat.mdStart f.mdStart
    let last_ := if r.feat.area = 0 then f.mdEnd else max r.feat.mdEnd f.mdEnd
    if extentOf d first last_ ≤ streakLen d then
      let j := r1.feat.join { f with rflags := fl }
      (putRegion (d.inc 0x3212 0x12) { r1 with feat := { j with rflags := setBit j.rflags 3 } }, [])
    else if !r.left.isEmpty then
      (outPut ((putRegion d r1).inc 0x3212 0x11) 0 (fragBytes r.id { f with rflags := setBit f.rflags 7 }), [])
    else
      let chain := if r.chain = 0 then d.trk.nextChain else r.chain
      let d1 := if r.chain = 0 then d.setTrk { d.trk with nextChain := idNext d.trk.nextChain } else d
      let r2 := { r1 with chain := chain, segNo := r1.segNo + 1, feat := { r1.feat with rflags := setBit r1.feat.rflags 3 } }
      (putRegion (d1.inc 0x3212 0x13) r2,
       [{ feat := { f with rflags := fl ||| 0x38 }, id := r.id, chain := chain, segNo := r.segNo, ended := [] }])

/-- The MERGE and FRAGMENT entries that arrived (step 5 of R277). -/
def inboxApply (e : Env) (d : Dev) : Dev × List EmitItem :=
  d.trk.inbox.foldl (fun (a : Dev × List EmitItem) (q : Nat × List Byte) =>
    if beAt q.2 0 1 = 2 then (mergeRx a.1 q.1 (beAt q.2 4 4) (beAt q.2 8 4), a.2)
    else let (d1, l) := fragRx e a.1 q.1 q.2; (d1, a.2 ++ l)) (d.setTrk { d.trk with inbox := [] }, [])

/-- The CONTINUE packets of a line to a side (R290): the LINE entry, then what has gathered. -/
def packEntries : Nat → List Byte → List (List Byte) → List (List Byte)
  | _, cur, [] => if cur.isEmpty then [] else [cur]
  | lim, cur, b :: r => if lim < cur.length + b.length then cur :: packEntries lim b r else packEntries lim (cur ++ b) r

/-- A line's CONTINUE packets sent, and the IDs in them marked as sent. -/
def continueSend (e : Env) (d : Dev) (s : Nat) (cl : ClassLine) (runs : List TrackRun) : Dev :=
  if !nbWaits (d.side s).state then d
  else
    let (c, id) := ownPixel d s cl.codes runs
    let x := if s = 0 then ownFirst d else ownEnd d - 1
    let gap := bit cl.flags 0 || inRuns cl.gaps x
    let line := [1] ++ toBE 1 (16 * b2n gap + 8 * b2n (id != 0) + c) ++ [0, 0] ++ toBE 4 id ++ toBE 8 (wrapU 64 cl.wp)
    let pk := packEntries 16384 line (tabGet d.trk.outbox [] s)
    let d1 := pk.foldl (fun d b => cascSend e d s 2 b) (d.setTrk { d.trk with outbox := tabSet d.trk.outbox s [] })
    match findRegion d1 id with
    | some r => putRegion d1 { r with sent := r.sent ||| 2 ^ s }
    | none => d1

/-- A side left PRESENT or LATE (R289). -/
def trackSideLost (d : Dev) (s : Nat) : Dev :=
  let hit (r : Region) : Bool := if s = 0 then !r.left.isEmpty else !r.pend.isEmpty
  let n := (d.trk.regions.filter hit).length
  let fix (r : Region) : Region :=
    let f := { r.feat with rflags := setBit (setBit r.feat.rflags 3) 0 }
    if s = 0 then { r with left := [], feat := f } else { r with right := [], pend := [], feat := f }
  let d1 := d.setTrk { d.trk with regions := d.trk.regions.map (fun r => if hit r then fix r else r),
                                  lineIn := tabErase d.trk.lineIn s, lineLast := tabErase d.trk.lineLast s,
                                  outbox := tabErase d.trk.outbox s }
  if n = 0 then d1 else (d1.add 0x3212 0x15 n).publish 0x3212

/-! ### A class line (R277) -/

/-- The region at a column of a line, 0 for none. -/
def coverAt (l : Option TrackLine) (x : Int) : Nat :=
  match l with
  | none => 0
  | some p => if x < 0 then 0 else ((p.runs.find? (fun r => (r.a : Int) ≤ x && x ≤ r.b)).map (·.id)).getD 0

/-- Whether a column of a line is MASK; beyond the raster and on lines not seen it counts as MASK (DEDUCED, log 60). -/
def maskAt (w : Nat) (l : Option TrackLine) (x : Int) : Bool :=
  if x < 0 || (w : Int) ≤ x then true
  else match l with | none => true | some p => nth p.codes x.toNat clsMask == clsMask

/-- Whether a column of a line lies in a gap line or gap run. -/
def gapAt (w : Nat) (l : Option TrackLine) (x : Int) : Bool :=
  if x < 0 || (w : Int) ≤ x then false
  else match l with | none => false | some p => p.gapLine || inRuns p.gaps x.toNat

/-- The perimeter, MASK contact and GAP of a run's pixels completed (R291, step 4 of R277). -/
def completeRun (w : Nat) (up cur dn : Option TrackLine) (r : TrackRun) (f : Feat) : Feat :=
  (List.range (r.b + 1 - r.a)).foldl (fun (f : Feat) k =>
    let x : Int := r.a + k
    let out (c : Nat) : Bool := c != r.id
    let per := out (coverAt cur (x - 1)) || out (coverAt cur (x + 1)) || out (coverAt up x) || out (coverAt dn x)
    let nb (at_ : Option TrackLine → Int → Bool) : Bool :=
      at_ up (x - 1) || at_ up x || at_ up (x + 1) || at_ cur (x - 1) || at_ cur (x + 1) ||
      at_ dn (x - 1) || at_ dn x || at_ dn (x + 1)
    { f with perim := f.perim + b2n per, contact := f.contact + b2n (nb (maskAt w)),
             rflags := if nb (gapAt w) then setBit f.rflags 0 else f.rflags }) f

/-- The pixels of the line before completed. -/
def completeLine (d : Dev) (up cur dn : Option TrackLine) : Dev :=
  match cur with
  | none => d
  | some p =>
    let w := rasterWidth d
    p.runs.foldl (fun (d : Dev) r =>
      match findRegion d r.id with
      | some x => putRegion d { x with feat := completeRun w up cur dn r x.feat }
      | none => d) d

/-- The settings of the port whose span holds a column (R291): the lowest such port. -/
def settingsAt (cl : ClassLine) (x : Nat) : Nat :=
  ((cl.settings.find? (fun q => q.first ≤ x && x ≤ q.last)).map (·.settings)).getD 0

/-- A run's pixels enter its region (step 4 of R277). -/
def enterRun (d : Dev) (cl : ClassLine) (codes inten : Array Nat) (dev : Array Int) (r : TrackRun) : Dev :=
  match findRegion d r.id with
  | none => d
  | some x =>
    let off := d.gn 0x1B00 2
    let f0 := if x.feat.area = 0 then { x.feat with t0 := cl.time, settings := settingsAt cl r.a } else x.feat
    let f1 := (List.range (r.b + 1 - r.a)).foldl (fun (f : Feat) k =>
      let c := r.a + k
      f.pixel (c + off) (codes.getD c 0) (inten.getD c 0) (dev.getD c 0) cl.m) f0
    let f2 := Feat.mixed { f1 with mdEnd := cl.wp, g1 := cl.m, t1 := cl.time,
                                   rflags := if d.trk.squall then setBit f1.rflags 2 else f1.rflags }
    putRegion d { x with feat := f2, on := true, ext := if x.on then (min x.ext.1 r.a, max x.ext.2 r.b) else (r.a, r.b) }

/-- Squall mode begins or ends (R283, R284). -/
def squallTo (e : Env) (d : Dev) (on : Bool) : Dev :=
  let d1 := d.setTrk { d.trk with squall := on, exit := if on then 0 else d.trk.exit }
  if on then (d1.inc 0x3212 5).raise e 0x225 0 else d1.raise e 0x226 0

/-- The cause that refuses a run an entry (R280): 0 where it gets one, else the zone bit of the cause. -/
def allocCause (d : Dev) (bypass : Bool) (slice : Nat) : Nat :=
  if 2048 ≤ occupancy d then 1
  else if bypass || d.trk.squall then 4
  else if d.gn 0x3211 (slice + 1) ≤ sliceCharge d slice then 2
  else 0

/-- A run gets its region (step 2 of R277): the regions it touches merge; a run that touches none asks for an entry. -/
def placeRun (d : Dev) (cl : ClassLine) (bypass : Bool) (codes : Array Nat) (r : TrackRun) : TrackRun × Dev :=
  match (if bypass then [] else touched d cl.m r) with
  | a :: rest =>
    let d1 := rest.foldl (fun d b =>
      match (touched d cl.m r).head? with | some h => mergeTwo d h b | none => d) d
    ({ r with id := ((touched d1 cl.m r).head?).getD a }, d1)
  | [] =>
    let s := sliceOf d r.a
    match allocCause d bypass s with
    | 0 =>
      let t := d.trk
      let x : Region := { id := t.nextId, feat := featNew d cl.m, slice := s, ext := (r.a, r.b) }
      ({ r with id := t.nextId },
       (d.setTrk { t with regions := t.regions ++ [x], nextId := idNext t.nextId }).inc 0x3212 7)
    | c => (r, zoneRun (d.inc 0x3212 (if c = 1 then 0x0A else if c = 4 then 0x0B else 0x0C)) cl.m codes r c)

/-- The runs of a line placed in ascending column order; a merge on the way renames the runs before it. -/
def placeRuns (cl : ClassLine) (bypass : Bool) (codes : Array Nat) : Dev → List TrackRun → List TrackRun → Dev × List TrackRun
  | d, done, [] => (d, done)
  | d, done, r :: rest =>
    let d0 := d.setTrk { d.trk with mid := some (cl, done, 0) }
    let (q, d1) := placeRun d0 cl bypass codes r
    let done2 := match d1.trk.mid with | some m => m.2.1 | none => done
    placeRuns cl bypass codes d1 (done2 ++ [q]) rest

/-- What a closed region or a cut gives (steps 6 and 7 of R277): a fragment to the left where it is linked there, else an
item of step 8. -/
def closeOut (d : Dev) (r : Region) (f : Feat) (cut : Bool) : Dev × List EmitItem :=
  if r.left.isEmpty then
    (d, [{ feat := f, id := r.id, chain := r.chain, segNo := r.segNo, ended := r.ended }])
  else
    (outPut (d.inc 0x3212 0x11) 0 (fragBytes r.id { f with rflags := if cut then setBit f.rflags 6 else clrBit f.rflags 6 }), [])

/-- Steps 6 and 7 for one region (R277, R278, R282). -/
def endRegion (g : Int) (a : Dev × List EmitItem) (r0 : Region) : Dev × List EmitItem :=
  let d := a.1
  match findRegion d r0.id with
  | none => a
  | some r =>
    if !r.on then
      if r.pend.isEmpty then
        let f := if r.chain = 0 then r.feat else { r.feat with rflags := clrBit (setBit r.feat.rflags 5) 4 }
        let d1 := d.setTrk { d.trk with regions := d.trk.regions.filter (fun q => q.id != r.id) }
        let (d2, l) := closeOut d1 r f false
        (d2, a.2 ++ l)
      else (putRegion d { r with waiting := true }, a.2)
    else if streakLen d < extentOf d r.feat.mdStart (gridWp d (g + 1)) then
      let chain := if r.chain = 0 then d.trk.nextChain else r.chain
      let d1 := if r.chain = 0 then d.setTrk { d.trk with nextChain := idNext d.trk.nextChain } else d
      let f := { r.feat with rflags := setBit (setBit r.feat.rflags 5) 4 }
      let (d2, l) := closeOut d1 { r with chain := chain } f true
      (putRegion (d2.inc 0x3212 9)
        { r with chain := chain, segNo := r.segNo + 1, ended := [], feat := featNew d (g + 1) }, a.2 ++ l)
    else a

/-- The watermark of a slice (R301). -/
def sliceMark (d : Dev) (wp : Int) (s : Nat) : Int :=
  d.trk.regions.foldl (fun (a : Int) r =>
    if r.slice = s && (r.waiting || !r.pend.isEmpty) then min a r.feat.mdStart else a) wp

/-- The extents of the open regions, in device columns (R260, R277). -/
def openExtents (d : Dev) : List (Nat × Nat) :=
  let off := d.gn 0x1B00 2
  (d.trk.regions.filter (fun r => r.on)).map (fun r =>
    if r.feat.area = 0 then r.ext else (r.feat.cdFirst - off, r.feat.cdLast - off))

/-- The segmenter updates its models once the regions of the line before are known (R260). -/
def extentsBack (d : Dev) (m : Int) : Dev :=
  match d.seg.wait with
  | some w => if w.r.m = m + 1 then segUpdate d else d
  | none => d

/-- The rest of a line (steps 3 to 9 of R277). -/
def trackFinish (e : Env) (d0 : Dev) (cl : ClassLine) (runs0 : List TrackRun) : Dev :=
  let g := cl.m
  let ent (d : Dev) (s : Nat) : Option LineEnt := (tabGet d.trk.lineIn [] s).find? (fun q => q.wp == cl.wp)
  let link (d : Dev) (s : Nat) : Dev :=
    if !nbWaits (d.side s).state then d
    else
      let rs := match d.trk.mid with | some q => q.2.1 | none => runs0
      let nb := ent d s
      let d1 := if nb.isNone then
          d.putB 0x3212 0x10 (addCounts 4 (d.gB 0x3212 0x10) ((List.range 2).map (fun k => b2n (k == s))))
        else d
      let d2 := linkLine d1 s cl rs nb
      d2.setTrk { d2.trk with lineIn := tabSet d2.trk.lineIn s ((tabGet d2.trk.lineIn [] s).filter (fun q => cl.wp < q.wp)) }
  let d1 := link (link d0 0) 1
  let runs := match d1.trk.mid with | some q => q.2.1 | none => runs0
  let codes := cl.codes.toArray
  let inten := (tabGet cl.planes [] (d1.gn 0x3210 2)).toArray
  let dev := cl.dev.toArray
  let d2 := d1.setTrk { d1.trk with regions := d1.trk.regions.map (fun r => { r with on := false }), mid := none }
  let d3 := runs.foldl (fun d r => enterRun d cl codes inten dev r) d2
  let me : TrackLine := { m := g, codes := cl.codes, gapLine := bit cl.flags 0, gaps := cl.gaps, runs := runs }
  let seq := (lineBefore d3.trk.prev g).isSome
  let up := d3.trk.prev.bind (fun p => lineBefore d3.trk.prev2 p.m)
  let d4 := completeLine d3 up d3.trk.prev (if seq then some me else none)
  let d4a := d4.setTrk { d4.trk with prev2 := if seq then d4.trk.prev else none, prev := some me }
  let (d5, items5) := inboxApply e d4a
  let (d6, items) := (d5.trk.regions).foldl (endRegion g) (d5, items5)
  let sorted := items.foldl (fun (a : List EmitItem) x => itemInsert x a) []
  let d7 := sorted.foldl (emitOne e) (repeatAge d6)
  let d8 := d7.setTrk { d7.trk with merged := [] }
  let band := decide (g % 1024 = 1023)
  let d9 := if band then zoneEmit e d8 else d8
  let occ := occupancy d9
  let d10 := d9.setTrk { d9.trk with exit := if occ < d9.gn 0x3210 5 then d9.trk.exit + 1 else 0 }
  let d11 := if d10.trk.squall then (if d10.gn 0x3210 6 ≤ d10.trk.exit then squallTo e d10 false else d10)
    else if d10.gn 0x3210 4 < occ then squallTo e d10 true else d10
  let d12 := d11.peak 0x3212 2 occ
  let d13 := (d12.putB 0x3212 6 ((List.range 16).flatMap (fun s => toLE 2 (sliceCharge d12 s)))).pub 0x3212
    [(1, (occ : Int)), (3, (b2n d12.trk.squall : Int)), (4, (min d12.trk.exit 4294967295 : Int)), (0x16, cl.wp)]
  let d14 := { d13 with openCols := openExtents d13 }
  extentsBack (settleMarks e d14 ((List.range 16).map (sliceMark d14 cl.wp)) band) g

/-- Whether a side's LINE entry of the line in work is still awaited (R277, R286). -/
def lineWaits (d : Dev) (wp : Int) : Bool :=
  [0, 1].any (fun s => nbWaits (d.side s).state && !(tabGet d.trk.lineIn [] s).any (fun q => q.wp == wp))

/-- SQUALL_CMD as the next class line finds it (R284). -/
def squallCmd (e : Env) (d : Dev) : Dev :=
  let cmd := d.trk.cmd
  let d1 := d.setTrk { d.trk with cmd := 0 }
  if cmd = 1 && !d1.trk.squall then squallTo e d1 true
  else if cmd = 2 && d1.trk.squall then squallTo e d1 false else d1

/-- The zone band that a class line lies in (R285): where it is another, the zones of the band before leave. -/
def bandEnter (e : Env) (d : Dev) (k : Int) : Dev :=
  let d1 := match d.trk.band with
    | some b => if b ≠ k then zoneEmit e d else d
    | none => d
  d1.setTrk { d1.trk with band := some k }

/-- Steps 1 and 2 of R277: the line's runs get their regions and go to the neighbours; the rest at once where no neighbour's
LINE entry is awaited. -/
def trackRunsOn (e : Env) (d : Dev) (cl : ClassLine) (bypass : Bool) : Dev :=
  let (d1, runs) := placeRuns cl bypass cl.codes.toArray d [] (trackRuns d cl.codes)
  let d2 := continueSend e (continueSend e d1 0 cl runs) 1 cl runs
  let d3 := d2.setTrk { d2.trk with mid := some (cl, runs, e.raw) }
  if lineWaits d3 cl.wp then d3 else trackFinish e d3 cl runs

/-- CLASS_LINE_TRACK (R277). -/
def trackLine (e : Env) (d : Dev) : Dev :=
  if d.trk.mid.isSome then d
  else match d.classLines with
    | [] => d
    | c :: rest =>
      let cl := { c with wp := gridWp d c.m }
      let g := cl.m
      let d0 := treeTake ({ d with classLines := rest }.takeShadow 0x3210 0x3224) g
      let d1 := d0.setTrk { d0.trk with begun := some g }
      let st := d1.ustate 0x00D
      if st == .inService || st == .bypass then
        trackRunsOn e (bandEnter e (squallCmd e d1) (g / 1024)) cl (st == .bypass)
      else
        let d2 := ({ d1 with openCols := [] }).pub 0x3212 [(0x16, cl.wp)]
        extentsBack (settleMarks e d2 (List.replicate 16 cl.wp) (g % 1024 == 1023)) g

/-- LINE_ENTRY_WAIT_EXPIRED (R286): NB_WAIT after phase 1 the line goes on without. -/
def lineWaitExpired (e : Env) (d : Dev) : Dev :=
  match d.trk.mid with
  | some (cl, runs, at_) => if at_ + d.gn 0x1B10 4 ≤ e.raw then trackFinish e d cl runs else d
  | none => d

/-- The entries of a CONTINUE payload. -/
def splitEntries : Nat → List Byte → List (List Byte)
  | 0, _ => []
  | k + 1, b =>
    let n := match beAt b 0 1 with | 1 => 16 | 2 => 16 | 3 => 128 | _ => 0
    if n = 0 || b.length < n then [] else b.take n :: splitEntries k (b.drop n)

/-- A CONTINUE packet of a side (R286 to R290). -/
def continueRx (e : Env) (d : Dev) (s : Nat) (pay : List Byte) : Dev :=
  let st := d.ustate 0x00D
  if !(st == .inService || st == .bypass) then d
  else
    let d1 := (splitEntries 1100 pay).foldl (fun (d : Dev) b =>
      if beAt b 0 1 = 1 then
        let n : LineEnt := { wp := wrapI 64 (beAt b 8 8), cls := beAt b 1 1 % 8, id := if bit (beAt b 1 1) 3 then beAt b 4 4 else 0 }
        d.setTrk { d.trk with lineIn := tabSet d.trk.lineIn s ((tabGet d.trk.lineIn [] s ++ [n]).take 128) }
      else d.setTrk { d.trk with inbox := d.trk.inbox ++ [(s, b)] }) d
    match d1.trk.mid with
    | some (cl, runs, _) => if lineWaits d1 cl.wp then d1 else trackFinish e d1 cl runs
    | none => d1

/-- A position set on PLACE_INPUT (R302). -/
def trackSet (d : Dev) (n : Nat) (dist : Int) : Dev :=
  if n ≠ placeInput d then d
  else
    let mv (f : Feat) : Feat := { f with mdStart := f.mdStart + dist, mdEnd := f.mdEnd + dist }
    let t := d.trk
    let d1 := d.setTrk { t with
      regions := t.regions.map (fun r => { r with feat := mv r.feat }),
      mid := t.mid.map (fun (q : ClassLine × List TrackRun × Nat) => ({ q.1 with wp := q.1.wp + dist }, q.2)),
      lineIn := t.lineIn.map (fun (q : Nat × List LineEnt) => (q.1, q.2.map (fun n => { n with wp := n.wp + dist }))),
      lineLast := t.lineLast.map (fun (q : Nat × LineEnt) => (q.1, { q.2 with wp := q.2.wp + dist })) }
    { d1 with classLines := d1.classLines.map (fun c => { c with wp := c.wp + dist }),
              raster := d1.raster.map (fun r => { r with wp := r.wp + dist }),
              seg := { d1.seg with
                wait := d1.seg.wait.map (fun w => { w with r := { w.r with wp := w.r.wp + dist } }),
                before := d1.seg.before.map (fun w => { w with r := { w.r with wp := w.r.wp + dist } }) } }

/-- The tracker enters a state (R303, R305). -/
def trackEnter (d : Dev) (new : UState) : Dev :=
  if new == .bypass then d
  else
    let t := d.trk
    let d1 := { (d.setTrk { nextId := t.nextId, nextChain := t.nextChain, begun := t.begun, tree := t.tree, tracks := t.tracks })
      with openCols := [] }
    if new == .inService then
      d1.clearSubs 0x3212 [1, 2, 3, 4, 5, 6, 7, 8, 9, 0x0A, 0x0B, 0x0C, 0x0D, 0x0E, 0x0F, 0x10, 0x11, 0x12, 0x13, 0x14, 0x15]
    else d1.pub 0x3212 [(1, 0), (3, 0)]

/-- SQUALL_CMD (R284). -/
def squallWrite (d : Dev) (m : Master) (v : Int) : Dev :=
  d.asWrite m 0x3210 7 v fun d => (d.setTrk { d.trk with cmd := v.toNat }).ended m stOK

/-- TREE_SWAP (R297). -/
def treeSwapWrite (d : Dev) (m : Master) (v : Int) : Dev :=
  d.asWrite m 0x3220 1 v fun d =>
    let (d1, ok) := treeSwapRequest d v.toNat
    d1.swapAsked m 0x3220 ok

/-- TREE_COPY (R297). -/
def treeCopyWrite (d : Dev) (m : Master) (v : Int) : Dev :=
  d.asWrite m 0x3220 5 v fun d =>
    if v = 0 then d.ended m stOK
    else if d.trk.tree.pending then d.reject m 0x3220
    else ((d.put 0x3220 7 (treeCrcLoad d : Nat)).putB 0x3221 1 (d.gB 0x3222 1)).ended m stOK

/-- Whether the rules of this chapter allow a write of a number (R282, R284, R299). -/
def trackWriteOk (d : Dev) (idx sub : Nat) (v : Int) : Bool :=
  if idx = 0x3210 && sub = 3 then decide ((16 : Int) * d.gn 0x3000 3 ≤ v * 65536)
  else if idx = 0x3210 && sub = 4 then decide ((d.gn 0x3210 5 : Int) < v)
  else if idx = 0x3210 && sub = 5 then decide (v < d.gn 0x3210 4)
  else if idx = 0x3228 && sub = 1 then v == 255 || d.gn (0x3500 + v.toNat) 0x0A != 0
  else if idx = 0x3221 then !d.trk.tree.pending
  else true

/-- LINE_ENTRY_WAIT_EXPIRED (R286). -/
def execLineEntryWaitExpired (t : Nat) (s : State) : Host.Outcome State Fault Refusal :=
  mainStep true t s fun e d => lineWaitExpired e d

/-- SQUALL_CMD_ENTER (R284). -/
def execSquallCmdEnter (t : Nat) (m : Master) (s : State) : Host.Outcome State Fault Refusal :=
  mainStep (masterOk m) t s fun _ d => squallWrite d m 1

/-- SQUALL_CMD_EXIT (R284). -/
def execSquallCmdExit (t : Nat) (m : Master) (s : State) : Host.Outcome State Fault Refusal :=
  mainStep (masterOk m) t s fun _ d => squallWrite d m 2

/-- TREE_SWAP (R297). -/
def execTreeSwap (t : Nat) (m : Master) (s : State) : Host.Outcome State Fault Refusal :=
  mainStep (masterOk m) t s fun _ d => treeSwapWrite d m 1

/-- TREE_SWAP_CANCEL (R297). -/
def execTreeSwapCancel (t : Nat) (m : Master) (s : State) : Host.Outcome State Fault Refusal :=
  mainStep (masterOk m) t s fun _ d => treeSwapWrite d m 2

/-- TREE_COPY (R297). -/
def execTreeCopy (t : Nat) (m : Master) (v : Int) (s : State) : Host.Outcome State Fault Refusal :=
  mainStep (masterOk m) t s fun _ d => treeCopyWrite d m v

end Sys2Proof.Machine
end

