-- ==== Sys2Proof/Machine/Marking.lean ====
section
/-! DEFINITION. The marking engine of unit 0x00F and the heads H0 to H7 (chapter 14): R328 to R354. -/

namespace Sys2Proof.Machine

/-! ### Heads and their states (R334, R347) -/

/-- A head. -/
def Dev.head (d : Dev) (h : Nat) : Head := tabGet d.heads {} h
/-- A head written. -/
def Dev.setHead (d : Dev) (h : Nat) (x : Head) : Dev := { d with heads := tabSet d.heads h x }
/-- The unit of a head. -/
def uHead (h : Nat) : Nat := 0x060 + h
/-- The result group of a head (R353). -/
def hRes (h : Nat) : Nat := 0x3650 + h
/-- The configuration of a head (R350). -/
def hCfg (h : Nat) : Nat := 0x3610 + h

/-- Whether a state lets records be marked (R347). -/
def markLive (u : UState) : Bool := u == .inService || u == .shadow

/-- The state a head acts in (R347): its own only while the engine is IN_SERVICE or SHADOW. -/
def headEff (d : Dev) (h : Nat) : UState :=
  let e := d.ustate 0x00F
  if markLive e then d.ustate (uHead h) else e

/-- The live fields of a head's results published (R353). -/
def headPub (d : Dev) (h : Nat) : Dev :=
  let x := d.head h
  d.pub (hRes h) [(3, b2i x.slim + 2 * b2i x.armed), (5, (x.queue.length : Int))]

/-- ROW_PITCH. -/
def rowPitch (d : Dev) (h : Nat) : Nat := d.gn (hCfg h) 4

/-- r_k in Q48.32 (R334). -/
def rowExact (d : Dev) (h : Nat) (k : Int) : Int := d.gi 0x3000 2 * 65536 + k * rowPitch d h

/-- x_k (R334). -/
def rowWeb (d : Dev) (h : Nat) (k : Int) : Int := rowExact d h k / 65536 + d.gi (hCfg h) 3

/-- The lead of R335 at a speed in 2^-16 wp/µs. -/
def headLead (d : Dev) (h : Nat) (speed : Int) : Int := speed * (d.gn (hCfg h) 8 + 40) / 1000

/-! ### The end of a mark (R347, R352) -/

/-- A mark leaves its head's queue with its outcome, or with `forced`. -/
def markFinish (e : Env) (d : Dev) (h : Nat) (m : Mark) (forced : Option Nat) : Dev :=
  let x := d.head h
  let own := if m.dry then 3 else if m.lost = 0 then 0 else if m.fired = 0 then 2 else 1
  let code := forced.getD own
  let d1 := d.setHead h { x with queue := x.queue.filter (fun q => q.at_ != m.at_) }
  let d2 := if code < 3 then d1.inc (hRes h) (9 + code) else d1
  let d3 := if code = 1 || code = 2 then d2.raise e 0x231 h else d2
  let entry := toLE 2 m.origin ++ toLE 1 h ++ toLE 1 (code + m.flags) ++ toLE 4 m.seq ++ toLE 8 m.stamp
  headPub ((d3.putB 0x3608 7 (entry ++ (padTo (d3.gB 0x3608 7) 512 0).take 496)).publish 0x3608) h

/-- Marks whose rows are all judged and done end. -/
def marksDone (e : Env) (d : Dev) (h : Nat) : Dev :=
  ((d.head h).queue.filter (fun m => m.last < m.next && m.busy = 0)).foldl (fun d m => markFinish e d h m none) d

/-- The marks of a row after it fired (`ok`) or was lost (R335, R352). -/
def rowTally (d : Dev) (h : Nat) (r : HeadRow) (ok : Bool) (stamp : Nat) : Dev :=
  let x := d.head h
  d.setHead h { x with queue := x.queue.map (fun m =>
    if r.marks.any (fun q => q.1 == m.at_) then
      if ok then { m with busy := m.busy - 1, fired := m.fired + 1, stamp := if m.stamp = 0 then stamp else m.stamp }
      else { m with busy := m.busy - 1, lost := m.lost + 1 }
    else m) }

/-! ### Remap and dead nozzles (R340 to R342) -/

/-- REMAP entry `i`. -/
def remapAt (b : List Byte) (i : Nat) : Nat := leAt b (2 * i) 2

/-- The DEAD_NOZZLES of every head from REMAP. -/
def deadCounts (d : Dev) : Dev :=
  let b := d.gB 0x3640 1
  (List.range 8).foldl (fun d h =>
    d.pub (hRes h) [(0x0E, (((List.range 128).filter (fun p => bit (remapAt b (128 * h + p)) 15)).length : Int))]) d

/-- What AUTO_COVER sets on the neighbours of a dead entry (R342), and whether one of them is live. -/
def coverEntry (d : Dev) (h p : Nat) (b : List Byte) : List Byte × Bool :=
  let noz := d.gn (hCfg h) 1
  let side (ok : Bool) (q flag : Nat) (s : List Byte × Bool) : List Byte × Bool :=
    let v := remapAt s.1 (128 * h + q)
    if ok && decide (q < noz) && !bit v 15 then (patch s.1 (2 * (128 * h + q)) (toLE 2 (setBit v flag)), true) else s
  side true (p + 1) 14 (side (decide (0 < p)) (p - 1) 13 (b, false))

/-- Entry `p` of head `h` has become dead: the table as covered, UNCOVERED and NOZZLE_DEAD (R342). -/
def nozzleDead (e : Env) (d : Dev) (h p : Nat) (b : List Byte) : List Byte × Dev :=
  let chan := remapAt b (128 * h + p) % 1024
  let d1 := d.raise e 0x22F chan
  if !d.gb 0x3600 5 then (b, d1)
  else
    let b1 := patch b (2 * (128 * h + p)) (toLE 2 (setBit (remapAt b (128 * h + p)) 15))
    let (b2, ok) := coverEntry d h p b1
    (b2, if ok then d1 else d1.incP (hRes h) 0x0F)

/-- Whether the TAKE bits of entry `p` stay inside a head of `noz` nozzles (R340). -/
def takesInside (noz p v : Nat) : Bool :=
  (!bit v 14 || (decide (0 < p) && decide (p ≤ noz))) && (!bit v 13 || decide (p + 1 < noz))

/-- Whether REMAP bytes may be written (R340). -/
def remapOk (d : Dev) (b : List Byte) : Bool :=
  b.length == 2048 && (List.range 8).all (fun h =>
    let es := (List.range 128).map (fun p => remapAt b (128 * h + p))
    es.all (fun v => field v 9 7 == h && field v 12 10 == 0)
    && (List.range 128).all (fun p => takesInside (d.gn (hCfg h) 1) p (nth es p 0))
    && (es.map (· % 128)).eraseDups.length == 128)

/-- A write of REMAP (R340, R342). -/
def remapWrite (e : Env) (d : Dev) (m : Master) (b : List Byte) : Dev :=
  d.asWriter m 0x3640 1 fun d =>
    if !remapOk d b then d.reject m 0x3640
    else
      let old := d.gB 0x3640 1
      let dead := (List.range 1024).filter (fun i => bit (remapAt b i) 15 && !bit (remapAt old i) 15)
      let (b2, d1) := dead.foldl (fun (s : List Byte × Dev) i => nozzleDead e s.2 (i / 128) (i % 128) s.1) (b, d)
      (deadCounts (d1.putB 0x3640 1 b2)).ended m stOK

/-- Whether TRIM bytes may be written (R340). -/
def trimOk (b : List Byte) : Bool := b.length == 1024 && b.all (fun x => x.toNat < 32)

/-! ### A row's sequence (R329, R341) -/

/-- Whether a channel is held off at a compare fire (R341). -/
def heldOff (d : Dev) (h chan t0 : Nat) : Bool :=
  match tabFind (d.head h).lastFire chan with
  | none => false
  | some t => (t0 - t) * d.gn (hCfg h) 0x0B < 16000000000

/-- F of a row (R341): the mask, how many dots were held off, and the marks that a covering nozzle printed for. -/
def rowMask (d : Dev) (h : Nat) (r : HeadRow) : Nat × Nat × List Nat :=
  let b := d.gB 0x3640 1
  let l := r.marks.foldl (fun a q => a ||| q.2) 0
  (List.range (d.gn (hCfg h) 1)).foldl (fun (s : Nat × Nat × List Nat) p =>
    let v := remapAt b (128 * h + p)
    let lf := bit v 14 && decide (0 < p) && bit l (p - 1)
    let rt := bit v 13 && bit l (p + 1)
    if !(bit l p || lf || rt) || bit v 15 then s
    else if heldOff d h (v % 128) r.t0 then (s.1, s.2.1 + 1, s.2.2)
    else
      let cov := if bit l p then [] else
        (r.marks.filter (fun q => (lf && bit q.2 (p - 1)) || (rt && bit q.2 (p + 1)))).map (·.1)
      (setBit s.1 (v % 128), s.2.1, s.2.2 ++ cov)) (0, 0, [])

/-- Whether HEAT and FIRE are driven for a row now (R330, R347). -/
def headDrives (d : Dev) (h : Nat) (r : HeadRow) : Bool := headEff d h == (if r.test then .test else .inService)

/-- Whether pulses may start (R330). -/
def headPowered (d : Dev) : Bool := d.headPow.on && d.headPow.settled

/-- One phase of a sequence: when it starts, and after it the device and the end of its LAT pulse. -/
def phaseRun (d : Dev) (h : Nat) (r : HeadRow) (t mask : Nat) (heat : Option Nat) : Dev × Nat × Option Nat :=
  let shift := 32 * d.gn 0x3600 3 * 80
  let free := match (d.head h).fireEnd with | some x => clk200 x | none => 0
  let lat := max (t + shift) free
  let d1 := d.emit (.head h 0 mask lat 640)
  match heat with
  | none => (d1, lat + 640, none)
  | some b =>
    let w := 2 ^ b * 160
    (if headDrives d h r && headPowered d then d1.emit (.head h 1 mask (lat + 640) w) else d1, lat + 640, some (lat + 640 + w))

/-- A row's sequence from a raw instant (R329). -/
def rowSequence (d : Dev) (h : Nat) (r : HeadRow) (start : Nat) : Dev × HeadRow :=
  let trims := d.gB 0x3640 2
  let heatMask (b : Nat) : Nat :=
    (bitsOf 128 r.f).foldl (fun a c => if bit (leAt trims (128 * h + c) 1) b then setBit a c else a) 0
  let (d1, t1, end_) := [4, 3, 2, 1, 0].foldl (fun (s : Dev × Nat × Option Nat) b =>
    let m := heatMask b
    if m = 0 then s
    else
      let (d2, t2, h2) := phaseRun s.1 h r s.2.1 m (some b)
      (d2, t2, h2)) (d, start, none)
  let (d3, t3, _) := phaseRun d1 h r t1 r.f none
  (d3, { r with latch := t3, heatEnd := end_ })

/-- Rows begin their sequence while none is in work (R329, R335, R341); `fuel` bounds the rows waiting. -/
def rowStart (e : Env) (h start : Nat) : Nat → Dev → Dev
  | 0, d => d
  | fuel + 1, d =>
    let x := d.head h
    match x.cur, x.rows with
    | none, r :: rest =>
      let d0 := d.setHead h { x with rows := rest }
      if r.poison then rowStart e h start fuel (rowTally (d0.incP (hRes h) 7) h r false 0)
      else
        let (f, held, cov) := if r.test then (r.f, 0, []) else rowMask d0 h r
        let d1 := if held = 0 then d0 else (d0.add (hRes h) 0x0D held).publish (hRes h)
        let x1 := d1.head h
        let d2 := d1.setHead h { x1 with queue := x1.queue.map (fun (m : Mark) =>
          if cov.contains m.at_ then { m with flags := setBit m.flags 5 } else m) }
        if f = 0 then rowStart e h start fuel (rowTally d2 h r true 0)
        else
          let (d3, r3) := rowSequence d2 h { r with f := f } (max start r.t0)
          d3.setHead h { d3.head h with cur := some r3 }
    | _, _ => d

/-- Rows begin, and marks that are done end. -/
def rowsGo (e : Env) (d : Dev) (h : Nat) : Dev :=
  marksDone e (rowStart e h (clk200 e.raw) ((d.head h).rows.length) d) h

/-! ### Compare fires (R335, R343, R344) -/

/-- The thinning factor at a speed (R343); with ROW_PITCH 0 the rule gives none, and an open value stands for it. -/
def thinN (d : Dev) (h : Nat) (speed : Int) : Nat × Dev :=
  let den := rowPitch d h * d.gn (hCfg h) 0x0B
  if speed ≤ 0 then (1, d)
  else if den = 0 then let (v, d1) := d.fresh 8; (max 1 v, d1)
  else (max 1 (ceilDiv (speed.toNat * 65536000000) den), d)

/-- SPEED_LIMIT and THIN_N at a fire (R343). -/
def headThin (e : Env) (d : Dev) (h n : Nat) : Dev :=
  let x := d.head h
  let d1 := d.put (hRes h) 4 n
  if 2 ≤ n then
    if !x.queue.isEmpty && !x.slim then (d1.setHead h { x with slim := true }).raise e 0x230 h else d1
  else d1.setHead h { x with slim := false }

/-- Whether a mark fires on row `k` (R344). -/
def markFires (m : Mark) (k : Int) (n : Nat) : Bool :=
  let near := match m.prev with | none => false | some p => decide (k - p < n)
  if k = m.first then true
  else if near then false
  else if k = m.last then true
  else decide ((n : Int) ≤ m.last - k)

/-- The address of a mark's dot row (R339). -/
def dotAddr (d : Dev) (m : Mark) (k : Int) : Nat :=
  d.gn 0x3600 6 + (m.at_ + 16 * (k - m.first).toNat) % max 1 (d.gn 0x3600 7)

/-- One mark judged on a row: its share in the row (R339, R344). SHORTENED is judged with the `n` of the mark's first row,
or of a last row that it skips (log 121). -/
def markRow (d : Dev) (h n : Nat) (k : Int) (r : HeadRow) (m : Mark) : Dev × HeadRow × Mark :=
  if k < m.next || m.last < k then (d, r, m)
  else
    let m1 := { m with next := k + 1 }
    let short (f : Nat) : Nat := if (k = m.first || k = m.last) && m.last + 1 - m.first ≤ n then setBit f 4 else f
    if !markFires m k n then (d, r, { m1 with flags := short (setBit m1.flags 3) })
    else
      let m2 := { m1 with prev := some k, flags := if k = m.first then short m1.flags else m1.flags }
      if 16 ≤ r.marks.length then (d.inc (hRes h) 0x0C, r, { m2 with lost := m2.lost + 1 })
      else
        let (b, bad) := memRead d (dotAddr d m k) 16
        (memSeen d (dotAddr d m k) 16, { r with marks := r.marks ++ [(m.at_, ofLE b)], poison := r.poison || bad }, { m2 with busy := m2.busy + 1 })

/-- The compare is disarmed after the last row of the last queued mark (R335). -/
def headDisarm (d : Dev) (h : Nat) : Dev :=
  let x := d.head h
  if x.armed && x.queue.all (fun m => m.last < m.next) then
    cmpDisarmNow (d.setHead h { x with armed := false }) (d.gn (hCfg h) 2)
  else d

/-- A compare fire of a head (R335, R343, R344). -/
def headDispatch (e : Env) (d : Dev) (h : Nat) : Dev :=
  let k := (d.head h).nextRow
  let (n, d0) := thinN d h (encSpeed e d (placeInput d))
  let d1 := headThin e d0 h n
  let x := d1.head h
  let (d2, r, ms) := x.queue.foldl (fun (s : Dev × HeadRow × List Mark) m =>
    let (d3, r3, m3) := markRow s.1 h n k s.2.1 m
    (d3, r3, s.2.2 ++ [m3])) (d1, { k := k, t0 := clk200 e.raw }, [])
  let y := d2.head h
  let d4 := d2.setHead h { y with queue := ms, nextRow := k + 1, rows := y.rows ++ [r] }
  headPub (rowsGo e (headDisarm d4 h) h) h

/-- How many rows of a run are needed by some mark: the length of a union of intervals sorted by their first row. -/
def unionRows : Int → List (Int × Int) → Nat
  | _, [] => 0
  | from_, (a, b) :: r =>
    let lo := max from_ a
    (b + 1 - lo).toNat + unionRows (max from_ (b + 1)) r

/-- The compare passed `n` row targets without a fire (R335). -/
def headSkipped (e : Env) (d : Dev) (h n : Nat) : Dev :=
  if n = 0 then d
  else
    let x := d.head h
    let a := x.nextRow
    let b := a + n
    let cut (m : Mark) : Int × Int := (max m.next a, min m.last (b - 1))
    let need := (x.queue.map cut).filter (fun q => q.1 ≤ q.2)
    let rows := unionRows a (need.mergeSort (fun p q => p.1 ≤ q.1))
    let ms := x.queue.map (fun (m : Mark) =>
      let q := cut m
      if q.1 ≤ q.2 then { m with next := q.2 + 1, lost := m.lost + (q.2 + 1 - q.1).toNat } else m)
    let d1 := (d.setHead h { x with queue := ms, nextRow := b }).add (hRes h) 8 rows
    headPub (rowsGo e (headDisarm d1 h) h) h

/-- The head that runs from a compare unit, if one does. -/
def headOf (d : Dev) (n : Nat) : Option Nat :=
  (List.range 8).find? (fun h => (d.head h).armed && d.gn (hCfg h) 2 == n)

/-- What the marking engine does on a compare fire. -/
def markFire (e : Env) (d : Dev) (n : Nat) : Dev :=
  match headOf d n with
  | none => d
  | some h => headDispatch e d h

/-- A compare unit's SKIP_COUNT went from `before` to what it is: rows its head misses (R335). -/
def markSkips (e : Env) (d : Dev) (n before : Nat) (h : Option Nat) : Dev :=
  match h with
  | none => d
  | some h => headSkipped e d h ((d.gn (0x3540 + n) 8 + 4294967296 - before) % 4294967296)

/-- The engine takes its compare unit: OWNER 2, INPUT at PLACE_INPUT, LATE at DROP (R335, R69). -/
def headClaim (d : Dev) (h : Nat) : Dev :=
  let c := d.gn (hCfg h) 2
  let i := 0x3540 + c
  if c = 255 || cmpOwner d c = 2 then d
  else ((cmpDisarmNow d c).put i 1 (placeInput d)).put i 5 (putField (putField (d.gn i 5) 7 6 2) 5 4 0)

/-- The engine gives its compare unit up (R69): OWNER 0, unless another live head runs from the same unit. -/
def headRelease (d : Dev) (h : Nat) : Dev :=
  let c := d.gn (hCfg h) 2
  let i := 0x3540 + c
  if c = 255 || cmpOwner d c ≠ 2 || (List.range 8).any (fun g => g != h && markLive (headEff d g) && d.gn (hCfg g) 2 == c)
  then d
  else d.put i 5 (putField (d.gn i 5) 7 6 0)

/-- The engine arms its compare unit at the first row of the earliest queued mark (R335). -/
def headArm (e : Env) (d : Dev) (h : Nat) : Dev :=
  let x := d.head h
  match ((x.queue.filter (fun m => m.next ≤ m.last)).map (·.next)).min? with
  | none => d
  | some k =>
    let c := d.gn (hCfg h) 2
    let i := 0x3540 + c
    let exact := rowExact d h k + (d.gi (hCfg h) 3 - d.gi (hCfg h) 7) * 65536
    let d1 := ((((d.put i 1 (placeInput d)).put i 2 (exact / 65536)).put i 3 (rowPitch d h)).put i 4 0).put i 5
      (putField (putField (d.gn i 5) 7 6 2) 5 4 0)
    if cmpBadArm d1 c then
      let d2 := d1.setFlag i 6 3
      marksDone e (d2.setHead h { x with queue := x.queue.map (fun (m : Mark) =>
        { m with lost := m.lost + (m.last + 1 - m.next).toNat, next := max m.next (m.last + 1) }) }) h
    else
      let before := d1.gn i 8
      let d2 := (d1.setCmp c { armed := true, target := exact, period := rowPitch d h }).setHead h
        { x with nextRow := k, armed := true }
      headPub (markSkips e (cmpLateHandle e d2 c) c before (some h)) h

/-! ### From record to mark (R336 to R339) -/

/-- The nozzles whose cells overlap columns `a` to `b` (R337): first and last. -/
def cellRange (d : Dev) (h a b : Nat) : Option (Nat × Nat) :=
  let c := d.gn (hCfg h) 5
  let w := d.gn (hCfg h) 6
  let hit := (List.range (d.gn (hCfg h) 1)).filter (fun p =>
    decide (2 * (c + p * w) < (b + 1) * 131072 + w) && decide (a * 131072 < 2 * (c + p * w) + w))
  match hit.head?, hit.getLast? with
  | some lo, some hi => some (lo, hi)
  | _, _ => none

/-- The selection grown to MIN_NOZZLES (R337): right first, then left. -/
def growSel (noz want : Nat) : Nat → Bool → Nat × Nat → Nat × Nat
  | 0, _, s => s
  | k + 1, right, (lo, hi) =>
    if want ≤ hi + 1 - lo || (lo = 0 && noz ≤ hi + 1) then (lo, hi)
    else if (right && hi + 1 < noz) || lo = 0 then growSel noz want k (!right) (lo, hi + 1)
    else growSel noz want k (!right) (lo - 1, hi)

/-- Nozzles `lo` to `hi` as a mask. -/
def spanMask (lo hi : Nat) : Nat := if hi < lo then 0 else 2 ^ (hi + 1) - 2 ^ lo

/-- The nozzles a rule selects on a head (R337, R338). -/
def ruleSel (d : Dev) (h rule : Nat) (r : Rec) : Option (Nat × Nat) :=
  let i := 0x3620 + rule
  let noz := d.gn (hCfg h) 1
  if d.gn i 2 = 4 then
    let lo := d.gn i 0x0A
    let hi := min (d.gn i 0x0B) (noz - 1)
    if lo ≤ hi then some (lo, hi) else none
  else
    (cellRange d h (r.cdFirst - d.gn i 5) (r.cdLast + d.gn i 6)).map (growSel noz (d.gn i 8) 128 true)

/-- The nozzle whose cell holds the CD centroid (R310, R338), as a mask; `frac` is CENT_CD. -/
def centreMask (d : Dev) (h : Nat) (r : Rec) (frac lo hi : Nat) : Nat :=
  let c := d.gn (hCfg h) 5
  let w := d.gn (hCfg h) 6
  let x := (r.cdFirst * 65535 + frac * (r.cdLast - r.cdFirst)) * 131072
  match ((List.range (hi + 1)).filter (lo ≤ ·)).find? (fun p =>
      decide (2 * (c + p * w) * 65535 ≤ x + w * 65535) && decide (x < (2 * (c + p * w) + w) * 65535)) with
  | some p => 2 ^ p
  | none => 0

/-- The dots of a mark on row `first + j` (R338). -/
def dotRow (rule : Nat) (lo hi frac h : Nat) (r : Rec) (first : Int) (d : Dev) (j : Nat) : Nat × Dev :=
  let i := 0x3620 + rule
  let sel := spanMask lo hi
  match d.gn i 2 with
  | 1 => ((bitsOf 128 sel).foldl (fun (a p : Nat) => if ((p : Int) + first + j) % 2 = 0 then setBit a p else a) 0, d)
  | 2 => (centreMask d h r frac lo hi, d)
  | 3 =>
    let (b, bad) := memRead d (d.gn 0x3600 8 + 1024 * d.gn i 9 + 16 * (j % 64)) 16
    let (g, d1) := if bad then (memSeen d (d.gn 0x3600 8 + 1024 * d.gn i 9 + 16 * (j % 64)) 16).fresh 128 else (ofLE b, d)
    ((g * 2 ^ lo) &&& sel, d1)
  | _ => (sel, d)

/-- The dot rows of a mark written into the ring from a place (R339). -/
def dotBlock (rule lo hi frac h : Nat) (r : Rec) (m : Mark) : Nat → Nat → Dev → Dev
  | 0, _, d => d
  | n + 1, j, d =>
    let (v, d1) := dotRow rule lo hi frac h r m.first d j
    dotBlock rule lo hi frac h r m n (j + 1) (memWrite d1 (dotAddr d1 m (m.first + j)) (toLE 16 v))

/-- Bytes of the dot ring in use: from the oldest queued block to the newest (R339). -/
def dotUsed (d : Dev) : Nat :=
  match ((List.range 8).flatMap (fun h => (d.head h).queue.map (·.at_))).min? with
  | none => 0
  | some a => d.dotHead - a

/-- The rows of a mark (R337), and whether they were cut. With ROW_PITCH 0 the rule gives none, and open values stand for
them. -/
def markRows (d : Dev) (h rule : Nat) (s e2 : Int) : (Int × Int × Bool) × Dev :=
  let i := 0x3620 + rule
  let pitch : Int := rowPitch d h
  let o := d.gi 0x3000 2
  let ((kf, kl), d1) : (Int × Int) × Dev :=
    if pitch = 0 then
      let (a, d1) := d.fresh 16
      let (b, d2) := d1.fresh 16
      (((a : Int), (b : Int)), d2)
    else ((-(-((s - o) * 65536) / pitch), (e2 - o) * 65536 / pitch), d)
  let min_ : Int := d.gn i 7
  let kl1 := if kl - kf + 1 < min_ then kf + min_ - 1 else kl
  if 16384 < kl1 - kf + 1 then ((kf, kf + 16383, true), d1) else ((kf, kl1, false), d1)

/-- Whether the compare target of row `k` still lies ahead of the estimate. -/
def rowAhead (e : Env) (d : Dev) (h : Nat) (k : Int) : Bool :=
  decide (encEst e d (placeInput d) < rowWeb d h k - d.gi (hCfg h) 7)

/-- A mark committed on a head, or dropped for want of room (R339). The unit is armed anew where the mark begins before
the row that it waits for and a row between them lies ahead: the earliest queued mark is the first (R335). -/
def markCommit (e : Env) (d : Dev) (h rule lo hi frac : Nat) (r : Rec) (m : Mark) : Dev :=
  let rows := (m.last + 1 - m.first).toNat
  let x := d.head h
  if 512 ≤ x.queue.length || d.gn 0x3600 7 < dotUsed d + 16 * rows || !memReady d then d.incP 0x3608 3
  else
    let d1 := dotBlock rule lo hi frac h r m rows 0 d
    let d2 := { d1 with dotHead := d1.dotHead + 16 * rows }
    let x2 := d2.head h
    if !x2.armed || (decide (m.first < x2.nextRow) && rowAhead e d2 h (x2.nextRow - 1)) then
      headPub (headArm e (d2.setHead h { x2 with queue := x2.queue ++ [m] }) h) h
    else
      let nxt := min (max x2.nextRow m.first) (m.last + 1)
      let past := (nxt - m.first).toNat
      let m2 := { m with next := nxt, lost := past }
      let d3 := (d2.setHead h { x2 with queue := x2.queue ++ [m2] }).add (hRes h) 8 past
      headPub (marksDone e d3 h) h

/-- A record on one head (R337, R347): whether the head discarded it by its state, or made a mark. -/
def markOnHead (e : Env) (d : Dev) (rule : Nat) (r : Rec) (s e2 : Int) (h : Nat) : Dev × Bool × Bool :=
  let i := 0x3620 + rule
  let st := headEff d h
  if !bit (d.gn i 1) h then (d, false, false)
  else if st == .test || st == .bypass then (d, true, false)
  else if !markLive st || d.gn (hRes h) 1 ≠ 1 || d.gn (hCfg h) 2 = 255 then (d, false, false)
  else match ruleSel d h rule r with
    | none => (d, false, false)
    | some (lo, hi) =>
      let ((kf, kl, cut), d1) := markRows d h rule s e2
      let (frac, d2) := if r.kind = 3 && d1.gn i 2 = 2 then d1.fresh 16 else (leAt r.bytes 60 2, d1)
      let m : Mark := { at_ := d2.dotHead, origin := leAt r.bytes 4 2, seq := r.seqNo, first := kf, last := kl, next := kf,
                        flags := if cut then 64 else 0, dry := st == .shadow }
      let d3 := if cut then d2.incP 0x3608 5 else d2
      (markCommit e d3 h rule lo hi frac r m, false, true)

/-- MARK_ACCEPT (R336 to R339, R347): the engine takes the oldest record handed to it. -/
def markAccept (e : Env) (d : Dev) : Dev :=
  match d.markQ with
  | [] => d
  | r :: rest =>
    let d0 := (d.setMarkQ rest).takeShadow 0x3620 0x362F
    let st := d0.ustate 0x00F
    match st with
    | .off => d0
    | .test => d0.incP 0x3608 6
    | .bypass => (d0.inc 0x3608 1).incP 0x3608 6
    | _ =>
      let d1 := d0.incP 0x3608 1
      let own := ownEpoch d1
      if r.epoch ≠ own && (r.epoch + 1) % 64 ≠ own then d1.incP 0x3608 4
      else
        let dist := if r.epoch = own then 0 else d1.gi (0x350C + placeInput d1) 3
        let rule := if r.kind = 3 then d1.gn 0x3600 4 else field (d1.gn 0x3224 (r.cls + 1)) 11 8
        let i := 0x3620 + rule
        let s := r.mdStart + dist - d1.gi i 3
        let e2 := r.mdEnd + dist + d1.gi i 4
        let (d2, byp, made) := (List.range 8).foldl (fun (a : Dev × Bool × Bool) h =>
          let (d3, b, m) := markOnHead e a.1 rule r s e2 h
          (d3, a.2.1 || b, a.2.2 || m)) (d1, false, false)
        if byp then d2.incP 0x3608 6 else if made then d2 else d2.incP 0x3608 2

/-! ### FIRE (R330, R335) -/

/-- The next row of a FIRE_TEST begins (R347): PERIOD after the one before began, and once that one has fired. -/
def testNext (d : Dev) (h start : Nat) : Dev :=
  let x := d.head h
  match x.cur, x.tests with
  | none, some (left, f, period, at_) =>
    let go := max start (clk200 at_)
    let x1 := { x with tests := if left ≤ 1 then none else some (left - 1, f, period, at_ + period * 16) }
    let (d1, r) := rowSequence (d.setHead h x1) h { k := 0, t0 := go, f := f, test := true } go
    d1.setHead h { d1.head h with cur := some r }
  | _, _ => d

/-- A row in sequence leaves it. -/
def rowDone (e : Env) (d : Dev) (h : Nat) (r : HeadRow) (ok : Bool) (stamp : Nat) : Dev :=
  let d1 := rowTally d h r ok stamp
  let d2 := d1.setHead h { d1.head h with cur := none }
  headPub (testNext (rowsGo e d2 h) h (clk200 e.raw)) h

/-- FIRE of a row on a clock (R330, R335): 40 ns to the ball, FIRE_WIDTH long and at most 5 µs. -/
def rowFires (e : Env) (d : Dev) (h : Nat) (r : HeadRow) : Dev :=
  let t := clk200 e.raw
  let w := min (d.gn (hCfg h) 9) 5000 * 16
  let x := d.head h
  let last := (bitsOf 128 r.f).foldl (fun (a : Tab Nat) c => tabSet a c r.t0) x.lastFire
  let d1 := if headDrives d h r then
      (d.setHead h { x with lastFire := last, fireEnd := some (t + 640 + w) }).emit (.head h 2 r.f (t + 640) w)
    else d.setHead h { x with lastFire := last }
  rowDone e (d1.inc (hRes h) 6) h r true (stampA e d t)

/-- ROW_FIRE (R335): on the first clock on which the estimate has reached x_k − lead the row fires, or is late. A row of
FIRE_TEST fires once F is latched and HEAT_GAP_MIN has passed (R347). -/
def rowFire (e : Env) (d : Dev) (h : Nat) : Dev :=
  match (d.head h).cur with
  | none => d
  | some r =>
    let t := clk200 e.raw
    let gapOk := match r.heatEnd with | none => true | some x => decide (x + d.gn (hCfg h) 0x0A * 16 ≤ t)
    let ready := decide (r.latch ≤ t) && gapOk
    let powered := !headDrives d h r || headPowered d
    if r.test then
      if !ready then d
      else if powered then rowFires e d h r else rowDone e (d.inc (hRes h) 7) h r false 0
    else
      let n := placeInput d
      if encEst e d n < rowWeb d h r.k - headLead d h (encSpeed e d n) then d
      else if ready && powered then rowFires e d h r
      else rowDone e (d.inc (hRes h) 7) h r false 0

/-- FIRE_PULSE_END (R329, R330). -/
def firePulseEnd (e : Env) (d : Dev) (h : Nat) : Dev :=
  let x := d.head h
  match x.fireEnd with
  | some z => if z ≤ e.raw then d.setHead h { x with fireEnd := none } else d
  | none => d

/-! ### Identification and resistance (R331 to R333) -/

/-- A head becomes FAULT (R332). -/
def headFault (e : Env) (d : Dev) (h cause : Nat) : Dev :=
  (d.pub (hRes h) [(1, 2), (2, (cause : Int))]).raise e 0x22E h

/-- HEAD_ID_READ_DONE (R332): the registers 0x00 to 0x14, or none where three transfers had no acknowledge. A head that
is OFF and not asked to leave OFF is not read. -/
def headIdDone (e : Env) (d : Dev) (h : Nat) (regs : Option (List Byte)) : Dev :=
  let asked := d.ustate (uHead h) != .off || [uHead h, 0x00F, 0].any (fun u => (d.unit u).cmd.isSome)
  if !asked || d.gn (hRes h) 1 ≠ 0 then d
  else match regs with
    | none => headFault e d h 1
    | some b =>
      let b := padTo (b.take 21) 21 0
      let d1 := (d.putB (hRes h) 0x13 b).put (hRes h) 0x12 (wrapI 8 (leAt b 0x14 1))
      if beAt b 0 2 ≠ 1 then headFault e d1 h 2
      else if leAt b 6 1 < d1.gn (hCfg h) 1 then headFault e d1 h 3
      else if beAt b 0x0A 2 < d1.gn (hCfg h) 9 then headFault e d1 h 4
      else d1.pub (hRes h) [(1, 1), (2, 0)]

/-- Whether a row of a head is due within RCHECK_GUARD (R333). -/
def rowDueSoon (e : Env) (d : Dev) (h : Nat) : Bool :=
  let x := d.head h
  let n := placeInput d
  let guard_ := d.gn (hCfg h) 0x0F
  let test := match x.cur with | some r => r.test && decide (r.latch ≤ e.raw + guard_ * 16000) | none => false
  let v := encSpeed e d n
  let ks := (x.cur.toList ++ x.rows).filterMap (fun r => if r.test then none else some r.k)
    ++ (x.queue.filter (fun m => m.next ≤ m.last)).map (·.next)
  test || ((d.enc n).standstill == false &&
    ks.any (fun k => decide (rowWeb d h k - headLead d h v ≤ encEst e d n + v * guard_)))

/-- Whether a head measures its nozzles (R333, R347). -/
def headMeasures (d : Dev) (h : Nat) : Bool :=
  let st := headEff d h
  d.gb (hCfg h) 0x0D && (markLive st || st == .test) && d.gn (hRes h) 1 == 1

/-- RCHECK_START (R333). -/
def rcheckStart (e : Env) (d : Dev) (h : Nat) : Dev :=
  let x := d.head h
  let due := x.checkedAt + d.gn (hCfg h) 0x0E * 16000000 ≤ e.raw
  if headMeasures d h && due && !x.checking && !rowDueSoon e d h then
    (d.setHead h { x with checking := true, checkedAt := e.raw }).emit
      (.i2c h (d.gn (hCfg h) 0x0C) [0x10, BitVec.ofNat 8 x.nozzle, 0x01])
  else d

/-- The entry of REMAP whose CHANNEL is a physical nozzle of a head. -/
def entryOf (d : Dev) (h q : Nat) : Option Nat :=
  let b := d.gB 0x3640 1
  (List.range 128).find? (fun p => remapAt b (128 * h + p) % 1024 == 128 * h + q)

/-- A measured value judged (R333): two failures in a row make the nozzle dead. -/
def rcheckJudge (e : Env) (d : Dev) (h v : Nat) : Dev :=
  let x := d.head h
  let q := x.nozzle
  let nom := beAt (d.gB (hRes h) 0x13) 8 2
  let tol := d.gn (hCfg h) 0x10
  let fail := v = 0 || v = 65535 || v * 100 < nom * (100 - tol) || nom * (100 + tol) < v * 100
  let n := if fail then tabGet x.fails 0 q + 1 else 0
  let d1 := (d.inc (hRes h) 0x10).putB (hRes h) 0x14 (patch (padTo (d.gB (hRes h) 0x14) 256 0) (2 * q) (toLE 2 v))
  let d2 := if fail then d1.inc (hRes h) 0x11 else d1
  let d3 := (d2.setHead h { x with checking := false, nacks := 0, fails := tabSet x.fails q (if n = 2 then 0 else n),
                                   nozzle := (q + 1) % max 1 (d.gn (hCfg h) 1) }).publish (hRes h)
  if n < 2 then d3
  else match entryOf d3 h q with
    | none => d3
    | some p =>
      if bit (remapAt (d3.gB 0x3640 1) (128 * h + p)) 15 then d3
      else
        let (b, d4) := nozzleDead e d3 h p (d3.gB 0x3640 1)
        deadCounts (d4.putB 0x3640 1 b)

/-- RCHECK_RESULT (R332, R333): INVALID and RMEAS_VALUE, or no acknowledge. -/
def rcheckResult (e : Env) (d : Dev) (h : Nat) (reply : Option (Bool × Nat)) : Dev :=
  let x := d.head h
  if !x.checking then d
  else match reply with
    | none =>
      let d1 := d.setHead h { x with checking := false, nacks := x.nacks + 1 }
      if 3 ≤ x.nacks + 1 && d.gn (hRes h) 1 ≠ 2 then headFault e d1 h 1 else d1
    | some (true, _) => d.setHead h { x with checking := false, nacks := 0 }
    | some (false, v) => rcheckJudge e d h (v % 65536)

/-! ### Power and states (R330, R346, R347) -/

/-- Whether an instant lies ahead. -/
def ahead (e : Env) (z : Option Nat) : Bool := match z with | some z => decide (e.raw < z) | none => false

/-- The row of a head whose HEAT pulses, driven as `d0` has it, are not all over. -/
def heating (e : Env) (d0 : Dev) (h : Nat) : Option HeadRow :=
  (d0.head h).cur.filter (fun r => ahead e r.heatEnd && headDrives d0 h r)

/-- The pulses of a head, driven as `d0` has it, are cut (R346, R347). -/
def pulsesCut (e : Env) (d0 d : Dev) (h : Nat) : Dev :=
  if ahead e (d0.head h).fireEnd || (heating e d0 h).isSome then
    (d.setHead h { d.head h with fireEnd := none }).emit (.head h 3 0 e.raw 0)
  else d

/-- FIRE and HEAT of a head cut as its supply is about to fall (R346): each row cut counts in LATE_ROWS, and one still in
sequence is dropped whole. -/
def headCut (e : Env) (d0 d : Dev) (h : Nat) : Dev :=
  let d1 := pulsesCut e d0 d h
  let d2 := if ahead e (d0.head h).fireEnd then d1.incP (hRes h) 7 else d1
  match heating e d0 h with
  | some r => rowDone e (d2.incP (hRes h) 7) h r false 0
  | none => d2

/-- HEAD_PWR_EN follows HEAD_POWER and the engine's state (R346); `d0` is the device before the change. -/
def headPowerUpdate (e : Env) (d0 d : Dev) : Dev :=
  let st := d.ustate 0x00F
  let want := d.gb 0x3600 1 && (markLive st || st == .test)
  let p := d.headPow
  if want = p.on then d
  else if want then
    { d with headPow := { on := true, since := e.raw, settled := false, lowAt := 0 } }.emit
      (.pin "HEAD_PWR_EN" 0 true e.raw)
  else
    let d1 := { d with headPow := { p with on := false, settled := false, lowAt := e.raw + 16000 } }
    ((List.range 8).foldl (headCut e d) d1).emit (.pin "HEAD_PWR_EN" 0 false (e.raw + 16000))

/-- The level of HEAD_PWR_EN as the event fabric sees it (R361). -/
def headPwrPin (e : Env) (d : Dev) : Bool := d.headPow.on || decide (e.raw < d.headPow.lowAt)

/-- A head's marks, rows, tests and pulses end as it leaves the state of `d0` (R347). -/
def headDrop (e : Env) (d0 d : Dev) (h : Nat) : Dev :=
  let d1 := (d.head h).queue.foldl (fun d m => markFinish e d h m (some 4)) (pulsesCut e d0 d h)
  let x := d1.head h
  let d2 := d1.setHead h { x with rows := [], cur := none, tests := none, armed := false }
  headPub (if x.armed then cmpDisarmNow d2 (d.gn (hCfg h) 2) else d2) h

/-- The engine or a head has moved from the states of `d0` (R332, R347, R352, R353). -/
def markEnter (e : Env) (d0 d : Dev) : Dev :=
  let dp := headPowerUpdate e d0 d
  let d1 := if markLive (d.ustate 0x00F) && !markLive (d0.ustate 0x00F) then dp.clearSubs 0x3608 [1, 2, 3, 4, 5, 6] else dp
  (List.range 8).foldl (fun d h =>
    let a := headEff d0 h
    let b := headEff d h
    let dz := if a != b && (markLive a || a == .test) then headDrop e d0 d h else d
    let da := if markLive b && !markLive a then headClaim dz h else if markLive a && !markLive b then headRelease dz h else dz
    let db := if markLive b && !markLive a then
      da.clearSubs (hRes h) [6, 7, 8, 9, 0x0A, 0x0B, 0x0C, 0x0D, 0x0F, 0x10, 0x11] else da
    let dc := if (markLive b || b == .test) && !(markLive a || a == .test) then
        db.setHead h { db.head h with checkedAt := e.raw, checking := false }
      else if b == .off || b == .bypass then db.setHead h { db.head h with checking := false } else db
    if d.ustate (uHead h) == .off && d0.ustate (uHead h) != .off then
      (dc.setHead h { dc.head h with nacks := 0 }).pub (hRes h) [(1, 0), (2, 0)]
    else dc) d1

/-- A write of HEAD_POWER (R346). -/
def headPowerWrite (e : Env) (d : Dev) (m : Master) (v : Int) : Dev :=
  d.asWrite m 0x3600 1 v fun d => (headPowerUpdate e d (d.put 0x3600 1 v)).ended m stOK

/-- HEAD_PWR_SETTLED (R330). -/
def headSettled (e : Env) (d : Dev) : Dev :=
  let p := d.headPow
  if p.on && p.since + d.gn 0x3600 2 * 16000 ≤ e.raw then { d with headPow := { p with settled := true } } else d

/-- A write of FIRE_TEST (R347, R350): mask, COUNT and PERIOD; taken in TEST only. -/
def fireTestWrite (e : Env) (d : Dev) (m : Master) (h : Nat) (b : List Byte) : Dev :=
  d.asWriter m (hCfg h) 0x11 fun d =>
    if b.length ≠ 24 || headEff d h != .test then d.reject m (hCfg h)
    else
      let f := leAt b 0 16
      let n := leAt b 16 4
      if f = 0 || n = 0 then d.ended m stOK
      else
        let x := d.head h
        let now := clk200 e.raw
        (testNext (d.setHead h { x with tests := some (n, f, leAt b 20 4, now) }) h now).ended m stOK

/-! ### Commands -/

/-- ROW_FIRE (R335). -/
def execRowFire (t h : Nat) (s : State) : Host.Outcome State Fault Refusal :=
  mainStep (okHead h) t s fun e d => rowFire e d h

/-- FIRE_PULSE_END (R329). -/
def execFirePulseEnd (t h : Nat) (s : State) : Host.Outcome State Fault Refusal :=
  mainStep (okHead h) t s fun e d => firePulseEnd e d h

/-- HEAD_ID_READ_DONE (R332). -/
def execHeadIdReadDone (t h : Nat) (regs : Option (List Byte)) (s : State) : Host.Outcome State Fault Refusal :=
  mainStep (okHead h) t s fun e d => headIdDone e d h regs

/-- RCHECK_START (R333). -/
def execRcheckStart (t h : Nat) (s : State) : Host.Outcome State Fault Refusal :=
  mainStep (okHead h) t s fun e d => rcheckStart e d h

/-- RCHECK_RESULT (R333). -/
def execRcheckResult (t h : Nat) (reply : Option (Bool × Nat)) (s : State) : Host.Outcome State Fault Refusal :=
  mainStep (okHead h) t s fun e d => rcheckResult e d h reply

/-- HEAD_POWER (R346). -/
def execHeadPower (t : Nat) (m : Master) (v : Int) (s : State) : Host.Outcome State Fault Refusal :=
  mainStep (masterOk m) t s fun e d => headPowerWrite e d m v

/-- HEAD_PWR_SETTLED (R330). -/
def execHeadPwrSettled (t : Nat) (s : State) : Host.Outcome State Fault Refusal :=
  mainStep true t s fun e d => headSettled e d

/-- FIRE_TEST (R347). -/
def execFireTest (t : Nat) (m : Master) (h : Nat) (b : List Byte) (s : State) : Host.Outcome State Fault Refusal :=
  mainStep (masterOk m && okHead h) t s fun e d => fireTestWrite e d m h b

/-- REMAP_WRITE (R340). -/
def execRemapWrite (t : Nat) (m : Master) (b : List Byte) (s : State) : Host.Outcome State Fault Refusal :=
  mainStep (masterOk m) t s fun e d => remapWrite e d m b

end Sys2Proof.Machine
end

