-- ==== Sys2Proof/Machine/Fabric.lean ====
section
/-! DEFINITION. The event fabric of unit 0x002 (chapter 15): R355 to R378. -/

namespace Sys2Proof.Machine

/-- What later chapters do when their task inputs take an event (overlays, monitors): task, event, raw instant. -/
abbrev TaskHook := Env → Dev → Nat → Granted → Nat → Dev

/-! ### Channels' objects (R369, R370, R376) -/

/-- A field of a channel. -/
def chGet (d : Dev) (c f : Nat) : Nat := d.gn (chIdx c) (chSub c f)
/-- A field of a channel written. -/
def chPut (d : Dev) (c f v : Nat) : Dev := d.put (chIdx c) (chSub c f) v
/-- Whether a channel is enabled. -/
def chOn (d : Dev) (c : Nat) : Bool := bit (chGet d c 0x0A) 0
/-- Whether a channel is SYNC. -/
def chSync (d : Dev) (c : Nat) : Bool := bit (chGet d c 0x0A) 1

/-- CONTROL or GATE of a channel in force: the list of enabled channels follows. -/
def chApply (d : Dev) (c f v : Nat) : Dev :=
  let d1 := chPut d c f v
  if f = 0x0A then { d1 with chanOn := if bit v 0 then ascPut d1.chanOn c else d1.chanOn.filter (· != c) } else d1

/-- The destinations of a channel. -/
def chDests (d : Dev) (c : Nat) : List Nat :=
  ((List.range 8).map (fun i => chGet d c (2 + i))).filter (· != 0xFFFF)

/-- Whether a producer ID is not reserved (R356, and the tables of later chapters). -/
def prodOk (p : Nat) : Bool :=
  p < 0x232 || (0x240 ≤ p && p ≤ 0x248) || (0x260 ≤ p && p ≤ 0x262) || (0x270 ≤ p && p ≤ 0x275) ||
  (0x280 ≤ p && p ≤ 0x288) || (0x2A0 ≤ p && p ≤ 0x2A4) || (0x2C0 ≤ p && p ≤ 0x2C6) ||
  (0x2E0 ≤ p && p ≤ 0x2E6) || (0x2F0 ≤ p && p ≤ 0x2F4)

/-- SYNC-only producers (R356): COUNT and software. -/
def prodSyncOnly (p : Nat) : Bool :=
  p == 0x020 || p == 0x028 || p == 0x030 || p == 0x038 || (0x180 ≤ p && p ≤ 0x19F)

/-- Whether a channel names a secure producer or a secure task input (R370). -/
def namesSecure (d : Dev) (c : Nat) : Bool :=
  (0x190 ≤ chGet d c 1 && chGet d c 1 ≤ 0x19F) || (chDests d c).any (fun k => 0x120 ≤ k && k ≤ 0x13F)

/-- Whether a channel may be enabled with a CONTROL value (R355, R356, R370, R376). -/
def canEnable (d : Dev) (c ctl : Nat) : Bool :=
  let ds := chDests d c
  !bit (chGet d c 0x0D) 1 && prodOk (chGet d c 1) && (bit ctl 1 || !prodSyncOnly (chGet d c 1)) &&
    !ds.isEmpty && ds.all okTask && ds.eraseDups.length == ds.length && (bit ctl 7 || !namesSecure d c)

/-! ### Gates (R361) -/

/-- The level of an event pin (R372, R375). -/
def evpLevel (d : Dev) (k : Nat) : Bool :=
  let x := d.evp k
  if d.gn (evIdx k) (evSub k 1) = 2 then x.pulseEnd.isSome != d.gb (evIdx k) (evSub k 3) else x.lvl

/-- GATE_SOFT in force: a direct write waits for the next 200 MHz edge (R374). -/
def gateSoft (e : Env) (d : Dev) : Dev := if d.gateAt ≤ e.raw then d.takeShadow 0x1503 0x1503 else d

/-- A gate signal (R361). -/
def gateSignal (e : Env) (d : Dev) (g : Nat) : Bool :=
  if g = 0 then true
  else if g ≤ 0x40 then evpLevel d (g - 1)
  else if g = 0x41 then d.pow.inspecting
  else if g ≤ 0x45 then (d.enc (g - 0x42)).reverse
  else if g ≤ 0x49 then (d.enc (g - 0x46)).standstill
  else if g = 0x4A then d.trk.squall
  else if g ≤ 0x4E then bit (openLulls d) (g - 0x4B)
  else if g = 0x4F then headPwrPin e d
  else if g ≤ 0x6F then (d.tc (g - 0x50)).armed
  else if g ≤ 0xAF then (d.cmp (g - 0x70)).armed
  else if g ≤ 0xBF then bit (d.gn 0x1503 1) (g - 0xB0)
  else false

/-- Whether a channel's gate passes an offer. -/
def gatePasses (e : Env) (d : Dev) (c : Nat) : Bool :=
  gateSignal e d (chGet d c 0x0B) != bit (chGet d c 0x0A) 2

/-! ### Relays (R360, R367) -/

/-- A relay. -/
def Dev.relay (d : Dev) (r : Nat) : Option RelayWork := tabFind d.relays r

/-- A channel is done with the offer of a relay: completed or dropped it. -/
def relayCount (d : Dev) (relay : Option Nat) (c : Nat) : Dev :=
  match relay with
  | none => d
  | some r =>
    match d.relay r with
    | none => d
    | some w => { d with relays := tabSet d.relays r { w with waits := w.waits.erase c } }

/-- Whether a channel waits on a relay, directly or through other relays (R367). -/
def waitsOn (d : Dev) (r : Nat) : Nat → Nat → Bool
  | 0, _ => false
  | f + 1, c =>
    let rs := (d.chan c).waitRelays
    rs.contains r || rs.any (fun q => match d.relay q with
      | none => false
      | some w => w.waits.any (fun c2 => waitsOn d r f c2))

/-! ### Task inputs (R363 to R366) -/

/-- TASK_MODE COUNTER. -/
def taskCounter (d : Dev) (k : Nat) : Bool := d.gb (tkIdx k) (tkSub k 1)

/-- The latest grant of the selected task input, published (R377). -/
def taskShow (d : Dev) (k : Nat) : Dev :=
  if d.gn 0x1504 1 ≠ k then d
  else
    let x := d.task k
    match x.last with
    | none => d.pub 0x1505 [(1, 0), (2, 0), (3, 0), (4, 0), (5, 0), (6, (x.held.length : Int))]
    | some g => d.pub 0x1505 [(1, (g.seq : Int)), (2, (g.stamp : Int)), (3, (g.chan : Int)), (4, (g.data : Int)),
                              (5, (x.outcome : Int)), (6, (x.held.length : Int))]

/-- An output pin's pulse (R372): the pin goes active 0.8 ns after the take; the task is busy until the gap is over. -/
def evpPulse (d : Dev) (k raw : Nat) : Dev × Nat :=
  if d.gn (evIdx k) (evSub k 1) ≠ 2 then (d, raw + 80)
  else
    let at_ := raw + 13
    let w := d.gn (evIdx k) (evSub k 4)
    let d1 := (d.setEvp k { d.evp k with pulseEnd := some (at_ + w) }).emit
      (.pin "EVP" k (!d.gb (evIdx k) (evSub k 3)) at_)
    (d1, at_ + w + d.gn (evIdx k) (evSub k 5))

/-- ARM of a compare unit by a task (R358): OWNER 2 ignores it. -/
def cmpTask (e : Env) (d : Dev) (n : Nat) : Dev :=
  if cmpOwner d n = 2 then d.inc 0x1500 4 else cmpArmNow e d n

/-- What a task does on a take (R358), and until when it is busy. A relay and an interrupt input have no instant of their
own: 0. -/
def taskAct (h : TaskHook) (e : Env) (d : Dev) (k : Nat) (g : Granted) (raw : Nat) : Dev × Nat :=
  if k < 0x40 then evpPulse d k raw
  else if k < 0x44 then (posSetGrant d (k - 0x40), raw + 80)
  else if k = 0x44 then (lullSplice e d g.stamp, raw + 80)
  else if k = 0x45 then (spliceClose e d g.stamp, raw + 80)
  else if k < 0x60 then (calStartGrant e d (k - 0x48), raw + 80)
  else if k < 0x80 then (tcArmNow e d (k - 0x60), raw + 80)
  else if k < 0xC0 then (cmpTask e d (k - 0x80), raw + 80)
  else if k < 0xD0 then
    let r := k - 0xC0
    let d1 := { d with relays := tabSet d.relays r { chan := g.chan, waits := d.chansOf (0x200 + r) } }
    (d1.raiseFrom (0x200 + r) g.data raw (some r), 0)
  else if 0x100 ≤ k && k < 0x140 then (d, 0)
  else (h e d k g raw, raw + 80)

/-- A task takes an event (R364). -/
def taskTake (h : TaskHook) (e : Env) (d : Dev) (k : Nat) (g : Granted) (raw : Nat) : Dev :=
  let (d1, till) := taskAct h e (d.setTask k { d.task k with work := some g }) k g raw
  d1.setTask k { d1.task k with busyTill := till }

/-- A task's action ended; the next held event is taken with the stamp of its grant (R364, R365). -/
def taskFree (h : TaskHook) (e : Env) (d : Dev) (k raw : Nat) : Dev :=
  let x := d.task k
  match x.held with
  | [] => taskShow (d.setTask k { x with work := none }) k
  | g :: r => taskShow (taskTake h e (d.setTask k { x with work := none, held := r }) k g raw) k

/-- An arbiter grants an event at `raw`, stamped for `at_` (R363 to R365): the device, and whether a relay took or holds
it. -/
def taskGrant (h : TaskHook) (e : Env) (d : Dev) (k chan data at_ raw : Nat) : Dev × Bool :=
  let x := d.task k
  let seq := (x.seq + 1) % 65536
  let g : Granted := { at_ := at_, stamp := stampA e d at_, data := data, chan := chan, seq := seq }
  let room := if taskCounter d k then 8 else 1
  let out := if x.work.isNone then 0 else if x.held.length < room then (if taskCounter d k then 2 else 1) else 3
  let x1 := { x with seq := seq, last := some g, outcome := out }
  let d1 := d.inc (tkIdx k) (tkSub k 4)
  let d2 := match out with
    | 0 => taskTake h e (d1.setTask k x1) k g raw
    | 3 => ((d1.setTask k x1).setFlag (tkIdx k) (tkSub k 2) 0).inc (tkIdx k) (tkSub k 3)
    | _ => d1.setTask k { x1 with held := x1.held ++ [g] }
  (taskShow d2 k, decide (0xC0 ≤ k) && decide (k < 0xD0) && out ≠ 3)

/-! ### An offer on its way (R359, R362, R367, R368) -/

/-- An offer lost: DROPS, a STATUS bit, and a relay that made it counts the channel as done. -/
def chDrop (d : Dev) (c : Nat) (o : Offer) (status : Nat) : Dev :=
  relayCount (((d.inc (chIdx c) (chSub c 0x0F)).setFlag (chIdx c) (chSub c 0x0D) status)) o.relay c

/-- The eddy test (R368). -/
def eddyFails (x : Chan) (acc : Nat) : Bool :=
  match x.accepts[63]? with
  | none => false
  | some t => acc < t + 16000

/-- The latest instant stamped at any of a channel's task inputs. No later grant of theirs falls before it: an arbiter's
stamps never decrease, and its mutual exclusion keeps an ASYNC event waiting (R39, R366). -/
def arbiterLast (d : Dev) (c : Nat) : Nat :=
  (chDests d c).foldl (fun a k => match (d.task k).last with | some g => max a g.at_ | none => a) 0

/-- Whether an offer comes from an event pin. -/
def Offer.pin (o : Offer) : Bool := decide (0x140 ≤ o.prod) && decide (o.prod < 0x180)

/-- The 200 MHz edge on which a SYNC channel samples an offer handled from an instant on (R362). -/
def sampleEdge (o : Offer) (from_ : Nat) : Nat := clk200 (from_ + (if o.pin && from_ = o.at_ then 32 else 0))

/-- The instant of an ASYNC grant (R362): `delay` is the path's, at most its maximum. -/
def asyncGrant (d : Dev) (c : Nat) (o : Offer) (from_ delay : Nat) : Nat :=
  max (from_ + min delay (if o.pin then 59 else 48)) (arbiterLast d c)

/-- The raw instants of acceptance and grant of an offer (R362). -/
def offerTimes (d : Dev) (c : Nat) (o : Offer) (from_ delay : Nat) : Nat × Nat :=
  if chSync d c then
    let s := sampleEdge o from_
    (s, max (s + 160) (clk200 (arbiterLast d c)))
  else (from_, asyncGrant d c o from_ delay)

/-- An offer accepted (R359, R360, R368): FIRES, and a grant at every destination. -/
def chAccept (h : TaskHook) (e : Env) (d : Dev) (c : Nat) (o : Offer) (acc grant : Nat) : Dev :=
  let x := d.chan c
  let at_ := if chSync d c then grant else ceilTo 16 grant
  let d1 := (d.setChan c { x with busy := true, doneAt := grant, waitRelays := [], cur := some o,
                                  accepts := (acc :: x.accepts).take 64 }).inc (chIdx c) (chSub c 0x0E)
  (chDests d c).foldl (fun d k =>
    let d2 := if 0xC0 ≤ k && k < 0xD0 then
      d.setChan c { d.chan c with waitRelays := (d.chan c).waitRelays ++ [k - 0xC0] } else d
    let (d3, waits) := taskGrant h e d2 k c o.data at_ grant
    if waits then d3 else d3.setChan c { d3.chan c with waitRelays := (d3.chan c).waitRelays.erase (k - 0xC0) }) d1

/-- An offer handled from the returning test on (R359). -/
def chHandle (h : TaskHook) (e : Env) (d : Dev) (c : Nat) (o : Offer) (from_ delay : Nat) : Dev :=
  let x := d.chan c
  let back := match o.relay with | none => false | some r => waitsOn d r 17 c
  if back then chDrop { (d.inc 0x1500 2) with irqFlags := setBit d.irqFlags 0 } c o 0
  else if x.busy then
    match x.latch with
    | none => d.setChan c { x with latch := some o }
    | some _ => chDrop d c o 4
  else if !gatePasses e d c then chDrop d c o 2
  else
    let (acc, grant) := offerTimes d c o from_ delay
    if eddyFails x acc then
      let d1 := chApply (d.setChan c { x with latch := none }) c 0x0A (clrBit (chGet d c 0x0A) 0)
      chDrop { (d1.inc 0x1500 3) with irqFlags := setBit d1.irqFlags 0 } c o 1
    else chAccept h e d c o acc grant

/-- Whether a SYNC channel must be granted first (R39, R366): one whose waiting offer is for the same task input, and for
the same edge and a lower channel or, against an ASYNC offer, for an edge no later than its grant. -/
def offerWaits (d : Dev) (c : Nat) (o : Offer) (delay : Nat) : Bool :=
  d.offers.any (fun q => chOn d q.chan && chSync d q.chan && !(d.chan q.chan).busy
    && (if chSync d c then decide (q.chan < c) && sampleEdge q q.at_ == sampleEdge o o.at_
        else decide (sampleEdge q q.at_ + 160 ≤ asyncGrant d c o o.at_ delay))
    && (chDests d q.chan).any (fun k => (chDests d c).contains k))

/-- EVENT_OFFER (R359, R373): the oldest offer that waits for a channel is handled. -/
def eventOffer (h : TaskHook) (e : Env) (d : Dev) (c delay : Nat) : Dev :=
  match d.offers.find? (fun o => o.chan == c) with
  | none => d
  | some o =>
    if offerWaits d c o delay then d
    else
      let d1 := gateSoft e { d with offers := d.offers.erase o }
      let st := d.ustate 0x002
      let closed := st == .off || (st == .test && !(0x180 ≤ o.prod && o.prod ≤ 0x19F))
      if closed || !chOn d1 c then relayCount d1 o.relay c else chHandle h e d1 c o o.at_ delay

/-- The shadows of a channel's CONTROL and GATE taken between two offers (R371). -/
def chShadow (d : Dev) (c : Nat) : Dev :=
  [0x0B, 0x0A].foldl (fun d f =>
    let k := okey (chIdx c) (chSub c f)
    match tabFind d.shadow k with
    | none => d
    | some v => chApply { d with shadow := tabErase d.shadow k } c f v.int.toNat) d

/-- HANDSHAKE_COMPLETE (R360): every destination has granted and every relay is done; a held offer is handled again. -/
def handshakeDone (h : TaskHook) (e : Env) (d : Dev) (c : Nat) : Dev :=
  let x := d.chan c
  if !x.busy || !x.waitRelays.isEmpty || e.raw < x.doneAt then d
  else
    let d1 := chShadow (d.setChan c { x with busy := false, cur := none, latch := none }) c
    let d2 := match x.cur with | some o => relayCount d1 o.relay c | none => d1
    match x.latch with
    | none => d2
    | some o => if chOn d2 c then chHandle h e (gateSoft e d2) c o e.raw 19 else relayCount d2 o.relay c

/-- TASK_ACTION_END (R364): the action is over; a relay's once every channel it offered to is done; an interrupt input's
under R508 alone. -/
def taskActionEnd (h : TaskHook) (e : Env) (d : Dev) (k : Nat) : Dev :=
  let x := d.task k
  if x.work.isNone || (0x100 ≤ k && k < 0x140) then d
  else if 0xC0 ≤ k && k < 0xD0 then
    match d.relay (k - 0xC0) with
    | none => d
    | some w =>
      if !w.waits.isEmpty then d
      else
        let y := d.chan w.chan
        let d1 := { d.setChan w.chan { y with waitRelays := y.waitRelays.erase (k - 0xC0) } with
                    relays := tabErase d.relays (k - 0xC0) }
        taskFree h e d1 k e.raw
  else if x.busyTill ≤ e.raw then taskFree h e d k e.raw
  else d

/-! ### Event pins and software (R372, R374) -/

/-- EVP_EDGE (R372): a level at the ball. -/
def evpEdge (e : Env) (d : Dev) (k : Nat) (level : Bool) : Dev :=
  let x := d.evp k
  let d1 := d.setEvp k { x with lvl := level }
  let which := d.gn (evIdx k) (evSub k 2)
  if x.lvl = level || d.gn (evIdx k) (evSub k 1) ≠ 1 || (which = 0 && !level) || (which = 1 && level) then d1
  else d1.raise e (0x140 + k) (b2n level)

/-- An output pin returns to its idle level. -/
def evpIdle (d : Dev) (k at_ : Nat) : Dev :=
  let x := d.evp k
  match x.pulseEnd with
  | none => d
  | some _ => (d.setEvp k { x with pulseEnd := none }).emit (.pin "EVP" k (d.gb (evIdx k) (evSub k 3)) at_)

/-- EVP_DIR or EVP_POLARITY of a pin written, against the device before it (R372): a pin that stays no output ends its
pulse, and an output drives the level that it now shows. -/
def evpFollow (e : Env) (old d : Dev) (k : Nat) : Dev :=
  let was := old.gn (evIdx k) (evSub k 1) = 2
  if d.gn (evIdx k) (evSub k 1) ≠ 2 then d.setEvp k { d.evp k with pulseEnd := none }
  else if was && evpLevel old k == evpLevel d k then d
  else d.emit (.pin "EVP" k (evpLevel d k) e.raw)

/-- EVP_PULSE_END (R372). -/
def evpPulseEnd (e : Env) (d : Dev) (k : Nat) : Dev :=
  match (d.evp k).pulseEnd with
  | none => d
  | some z => if z ≤ e.raw then evpIdle d k z else d

/-- A refusal by domain (R369, R370, R377): STATUS.DENIED of the channel where there is one. -/
def fabDenied (d : Dev) (m : Master) (c : Option Nat) : Dev :=
  ((match c with
    | none => d
    | some c => d.setFlag (chIdx c) (chSub c 0x0D) 3).inc 0x1500 1).ended m stDenied

/-- A write of SW_FIRE (R370, R374): the operator role fires SW0 to SW15 alone, SW16 to SW31 take a secure domain. -/
def swFire (e : Env) (d : Dev) (m : Master) (v : Int) : Dev :=
  d.asWrite m 0x1502 2 v fun d =>
    let n := v.toNat
    if 65536 ≤ n && !(d.secureM m && d.hasRole m .integrator) then fabDenied d m none
    else ((bitsOf 32 n).foldl (fun d k => d.raiseFrom (0x180 + k) (d.gn 0x1502 1) (clk200 (e.raw + 1)) none) d).ended m stOK

/-- A write of GATE_SOFT (R370, R374). -/
def gateSoftWrite (e : Env) (d : Dev) (m : Master) (v : Int) : Dev :=
  let old := d.gn 0x1503 1
  if v.toNat / 256 ≠ old / 256 && !d.secureM m then fabDenied d m none
  else ({ d with shadow := tabSet d.shadow (okey 0x1503 1) (.num v), gateAt := clk200 (e.raw + 1) }).ended m stOK

/-- A channel's held offer discarded. -/
def latchClear (d : Dev) (c : Nat) : Dev :=
  let x := d.chan c
  match x.latch with
  | none => d
  | some o => relayCount (d.setChan c { x with latch := none }) o.relay c

/-- A channel released (R369): disabled, every field at its default. -/
def chRelease (d : Dev) (c : Nat) : Dev :=
  let d1 := chApply (latchClear d c) c 0x0A 0
  let keys := [0x0A, 0x0B].map (fun f => okey (chIdx c) (chSub c f))
  { d1.clearSubs (chIdx c) ((List.range 15).map (fun f => chSub c (f + 1))) with
    shadow := d1.shadow.filter (fun p => !keys.contains p.1) }

/-- A write of OWNER (R369, R378). -/
def ownerWrite (d : Dev) (m : Master) (c : Nat) (v : Int) : Dev :=
  let own := chGet d c 0x0C
  let dom := d.domOfM m
  let may := d.hasRole m .integrator || m == .metSeam
  if !may then d.ended m stDenied
  else if own = 0 && v ≠ 0 && v = dom then (chPut d c 0x0C dom).ended m stOK
  else if own ≠ 0 && v = 0 && (dom = own || (dom = 1 && own ≠ 3)) then (chRelease d c).ended m stOK
  else fabDenied d m (some c)

/-- CONTROL or GATE taken now, or at the end of the handshake (R371). -/
def chLater (d : Dev) (c f : Nat) (v : Nat) : Dev :=
  if (d.chan c).busy then { d with shadow := tabSet d.shadow (okey (chIdx c) (chSub c f)) (.num v) }
  else chApply d c f v

/-- A write of a channel's field but OWNER, in a domain (R369 to R371, R376). -/
def chanWrite (d : Dev) (m : Master) (dom c f : Nat) (v : Nat) : Dev :=
  let i := chIdx c
  let own := chGet d c 0x0C
  let ctl := chGet d c 0x0A
  let secure := dom == 1 || dom == 3 || dom == 4
  if own = 0 || own ≠ dom then fabDenied d m (some c)
  else if f < 0x0A then if bit ctl 0 then d.reject m i else (chPut d c f v).ended m stOK
  else if f = 0x0B then if 0xBF < v then d.reject m i else (chLater d c f v).ended m stOK
  else if f = 0x0D then (chPut d c 0x0D (w1cWrite (chGet d c 0x0D) v 0)).ended m stOK
  else if bit ctl 0 && (bit v 1 != bit ctl 1) then d.reject m i
  else if (bit v 7 != bit ctl 7) && !secure then fabDenied d m (some c)
  else if bit ctl 0 && bit ctl 7 && !bit v 7 && namesSecure d c then d.reject m i
  else if bit v 0 && !bit ctl 0 && !canEnable d c v then d.reject m i
  else (chLater (if bit v 0 then d else latchClear d c) c f v).ended m stOK

/-- A write of a task input's field (R365, R377). -/
def taskWrite (d : Dev) (m : Master) (k f : Nat) (v : Nat) : Dev :=
  if 0x120 ≤ k && k < 0x140 && !d.secureM m then fabDenied d m none
  else if f = 1 && v = 1 && 0xC0 ≤ k && k < 0xD0 then d.reject m (tkIdx k)
  else if f = 2 then (d.put (tkIdx k) (tkSub k 2) (w1cWrite (d.gn (tkIdx k) (tkSub k 2)) v 2)).ended m stOK
  else (d.put (tkIdx k) (tkSub k f) v).ended m stOK

/-- TASK_SELECT written: the group shows that task input's latest grant (R377). -/
def taskSelect (d : Dev) (v : Nat) : Dev := taskShow (d.put 0x1504 1 v) v

/-! ### States and resets (R373) -/

/-- Every output at its idle level. -/
def evpAllIdle (e : Env) (d : Dev) : Dev := (List.range 64).foldl (fun d k => evpIdle d k e.raw) d

/-- Unit 0x002 reset (R373): every channel, pin and task input at its default. -/
def fabricReset (e : Env) (d : Dev) : Dev :=
  let d1 := evpAllIdle e d
  let lvls := d1.evps.map (fun (p : Nat × EvPin) => (p.1, { lvl := p.2.lvl : EvPin }))
  { (d1.clearRange 0x1500 0x15FF) with
    offers := [], chans := [], tasks := [], evps := lvls, relays := [], chanOn := [], gateAt := 0,
    shadow := d1.shadow.filter (fun p => p.1 / 65536 != 0x15) }

/-- Unit 0x002 enters a state (R373). -/
def fabricEnter (e : Env) (d : Dev) (new : UState) : Dev := if new == .off then evpAllIdle e d else d

/-! ### Commands that no later chapter joins -/

/-- EVP_EDGE (R372). -/
def execEvpEdge (t k : Nat) (level : Bool) (s : State) : Host.Outcome State Fault Refusal :=
  mainStep (okEvp k) t s fun e d => evpEdge e d k level

/-- EVP_PULSE_END (R372). -/
def execEvpPulseEnd (t k : Nat) (s : State) : Host.Outcome State Fault Refusal :=
  mainStep (okEvp k) t s fun e d => evpPulseEnd e d k

/-- SW_FIRE (R374). -/
def execSwFire (t : Nat) (m : Master) (v : Int) (s : State) : Host.Outcome State Fault Refusal :=
  mainStep (masterOk m) t s fun e d => swFire e d m v

/-- CHANNEL_OWNER_WRITE (R369). -/
def execChannelOwnerWrite (t : Nat) (m : Master) (c : Nat) (v : Int) (s : State) : Host.Outcome State Fault Refusal :=
  mainStep (masterOk m && okChan c) t s fun _ d => ownerWrite d m c v

end Sys2Proof.Machine
end

