-- ==== Sys2Proof/Machine/Compress.lean ====
section
/-! DEFINITION. Compression, look-back and live views of unit 0x031 (chapter 18): R426 to R448. The JPEG-LS coder itself is
the standard's: an uninterpreted function. -/

namespace Sys2Proof.Machine

/-! ### Coding lanes (R427, R444) -/

/-- Coding lanes of the engines that are IN_SERVICE, engine by engine. -/
def codeLanes (d : Dev) : List Nat :=
  ([0, 1, 2, 3].filter (fun k => d.inSvc (0x068 + k))).flatMap (fun k => (List.range 44).map (44 * k + ·))

/-- A decoding lane that is free: 8 to each engine that is IN_SERVICE (R427). -/
def decFree (d : Dev) : Option Nat :=
  (([0, 1, 2, 3].filter (fun k => d.inSvc (0x068 + k))).flatMap (fun k => (List.range 8).map (8 * k + ·))).find?
    (fun l => !d.comp.decs.contains l)

/-- A coding lane of the engine of a decoding lane: what names the engine. -/
def decEngine (l : Nat) : Nat := 44 * (l / 8)

/-- Lanes in use shown (R447). -/
def lanesShow (d : Dev) : Dev := d.put 0x1A40 0x0E d.comp.lanes.length

/-- A lane given to work, where one is free. -/
def laneTake (d : Dev) : Option Nat × Dev :=
  match (codeLanes d).find? (fun l => !d.comp.lanes.contains l) with
  | none => (none, d)
  | some l => (some l, lanesShow { d with comp := { d.comp with lanes := l :: d.comp.lanes } })

/-- `n` lanes, or none of them. -/
def lanesTake (d : Dev) (n : Nat) : Option (List Nat) × Dev :=
  let free := ((codeLanes d).filter (fun l => !d.comp.lanes.contains l)).take n
  if free.length < n then (none, d)
  else (some free, lanesShow { d with comp := { d.comp with lanes := free ++ d.comp.lanes } })

/-- Lanes given back. -/
def lanesGive (d : Dev) (ls : List Nat) : Dev :=
  lanesShow { d with comp := { d.comp with lanes := d.comp.lanes.filter (fun l => !ls.contains l) } }

/-- Samples added to an engine's counter (R447). -/
def engineAdd (d : Dev) (lane sub n : Nat) : Dev := (d.add (0x1A50 + lane / 44) sub n).publish (0x1A50 + lane / 44)

/-! ### The stored block (R426, R428, R429) -/

/-- What a stored block's header says (R429). -/
structure BlockHead where
  coding : Nat
  near : Nat
  bits : Nat
  layout : Nat
  flags : Nat
  wp : Int
  col : Nat
  cols : Nat
  lines : Nat
  origin : Nat
  bytes : Nat
  deriving DecidableEq, Repr

/-- The header's 32 bytes (R429). -/
def BlockHead.put (h : BlockHead) : List Byte :=
  let b := toLE 2 0xB15C ++ [1] ++ toLE 1 h.coding ++ toLE 1 h.near ++ toLE 1 h.bits ++ toLE 1 h.layout ++ toLE 1 h.flags
    ++ toLE 8 (wrapU 64 h.wp) ++ toLE 4 h.col ++ toLE 2 h.cols ++ toLE 2 h.lines ++ toLE 2 h.origin
  b ++ toLE 2 (crc16 b) ++ toLE 4 h.bytes

/-- A header read; none where MAGIC, VERSION or HDR_CRC is wrong (R429). -/
def BlockHead.get (b : List Byte) : Option BlockHead :=
  if b.length < 32 || leAt b 0 2 ≠ 0xB15C || leAt b 2 1 ≠ 1 || leAt b 26 2 ≠ crc16 (b.take 26) then none
  else some { coding := leAt b 3 1, near := leAt b 4 1, bits := leAt b 5 1, layout := leAt b 6 1, flags := leAt b 7 1,
              wp := wrapI 64 (leAt b 8 8), col := leAt b 16 4, cols := leAt b 20 2, lines := leAt b 22 2,
              origin := leAt b 24 2, bytes := leAt b 28 4 }

/-- DATA_CRC over samples (R429). -/
def dataCrc (l : List Nat) : Nat := crc32c (l.flatMap (toLE 2))

/-- A block's length with its stream (R429). -/
def blockLen (n : Nat) : Nat := ceilDiv (36 + n) 16 * 16

/-- A block of samples (R428, R429): coded, or RAW on a mismatch or where the stream would be longer. Whether it is RAW for
its length comes with it. -/
def makeBlock (h : BlockHead) (samples : List Nat) (raw mismatch : Bool) : List Byte × Bool :=
  let plain := packLsb h.bits samples
  let code := Config.jpegLsCode h.bits h.near h.cols samples
  let long := !raw && !mismatch && decide (plain.length < code.length)
  let asRaw := raw || mismatch || long
  let body := if asRaw then plain else code
  let seen := if asRaw || h.near = 0 then samples else (Config.jpegLsDecode h.bits h.near h.cols code).getD samples
  let h2 := { h with coding := b2n asRaw, near := if asRaw then 0 else h.near, bytes := body.length }
  (padTo (h2.put ++ body ++ toLE 4 (dataCrc seen)) (blockLen body.length) 0, long)

/-- The verifying decoder disagreed (R428). -/
def verifyFail (e : Env) (d : Dev) (lane : Nat) : Dev := ((d.incP (0x1A50 + lane / 44) 1).raise e 0x270 (lane / 44))

/-- Samples unpacked, `bits` each, least significant bit first. -/
def unpackLsb (bits n : Nat) (b : List Byte) : List Nat :=
  let v := ofLE b
  (List.range n).map (fun i => v / 2 ^ (bits * i) % 2 ^ bits)

/-- Whether a block's header names what the decoder takes (R426, R429). -/
def headOk (h : BlockHead) : Bool :=
  h.coding ≤ 1 && h.near ≤ 15 && [8, 10, 12, 14, 16].contains h.bits && 1 ≤ h.cols && h.cols ≤ 32768 && 1 ≤ h.lines

/-- The samples of a block: 0 right, 2 DATA_CRC wrong, 3 not a stream (R441). -/
def blockSamples (h : BlockHead) (body : List Byte) (crc : Nat) : Nat × List Nat :=
  if !headOk h then (3, [])
  else
    let got := if h.coding = 1 then
        if h.bytes < ceilDiv (h.bits * h.cols * h.lines) 8 then none else some (unpackLsb h.bits (h.cols * h.lines) body)
      else Config.jpegLsDecode h.bits h.near h.cols body
    match got with
    | none => (3, [])
    | some l => if l.length ≠ h.cols * h.lines then (3, []) else if dataCrc l ≠ crc then (2, []) else (0, l)

/-- A value for a header field of `w` bits: what the field cannot hold the rule leaves open (R429, assumption log 122). -/
def fieldOf (d : Dev) (w v : Nat) : Nat × Dev := if v < 2 ^ w then (v, d) else d.fresh w

/-- A group of lines averaged over `cd` columns and all its lines (R431); a gap line makes 0. -/
def averageRows (cd : Nat) (rows : List (Bool × List Nat)) : List Nat :=
  let w := (rows.map (fun r => r.2.length)).foldl max 0
  let gap := rows.any (·.1)
  (List.range (ceilDiv w cd)).map (fun i =>
    let s : List Nat := rows.flatMap (fun r => (r.2.drop (i * cd)).take cd)
    if gap || s.isEmpty then 0 else (sumN s + s.length / 2) / s.length)

/-! ### Look-back rings (R430 to R433) -/


/-- The objects of a ring: 0 fine, 1 coarse. -/
def lbIdx (r : Nat) : Nat := 0x1A01 + r
/-- A ring. -/
def Dev.lring (d : Dev) (r : Nat) : CompRing := tabGet d.comp.rings {} r
/-- A ring written. -/
def Dev.setLring (d : Dev) (r : Nat) (x : CompRing) : Dev := { d with comp := { d.comp with rings := tabSet d.comp.rings r x } }

/-- Raster lines of a band, MD and CD factors of a ring (R430, R431). -/
def lbMd (d : Dev) (r : Nat) : Nat := if r = 0 then 1 else d.gn 0x1A02 9
/-- CD factor of a ring. -/
def lbCd (d : Dev) (r : Nat) : Nat := if r = 0 then 1 else d.gn 0x1A02 0x0A

/-- Whether rings and views run (R444). -/
def compRuns (d : Dev) : Bool :=
  let s := d.ustate 0x031
  s == .inService || s == .shadow || s == .bypass

/-- The next index entry's address (R445): the pointer, or the base where it lies outside the ring. -/
def indexNext (d : Dev) (r : Nat) : Nat :=
  let base := d.gn (lbIdx r) 6
  let p := d.gn (lbIdx r) 8
  if base ≤ p && p + 32 ≤ base + d.gn (lbIdx r) 7 then p else base

/-- The next crop header's address (R445), likewise. -/
def cropNext (d : Dev) : Nat :=
  let base := d.gn 0x1A03 1
  let p := d.gn 0x1A03 3
  if base ≤ p && p < base + d.gn 0x1A03 2 then p else base

/-- Whether a ring is written uncompressed (R431). -/
def rawRing (d : Dev) (r : Nat) : Bool := r == 0 && d.gn 0x1A01 3 == 1

/-- Whether a ring is written: enabled, with room for blocks. -/
def lbOn (d : Dev) (r : Nat) : Bool := d.gb (lbIdx r) 1 && decide (0 < d.gn (lbIdx r) 5)

/-- A tile was not written (R432): TILES_DROPPED, and TILE_DROP at most once per 1 ms. -/
def tileLost (e : Env) (d : Dev) (r : Nat) : Dev :=
  let x := d.lring r
  let x1 := { x with writing := x.writing.map (fun w => { w with dropped := w.dropped + 1 }) }
  let d1 := (d.setLring r x1).incP 0x1A40 2
  let soon := match x.dropAt with | none => false | some t => decide (e.raw < t + 16000000)
  if soon then d1 else (d1.setLring r { x1 with dropAt := some e.raw }).raise e 0x271 r

/-- Whether two stretches of addresses meet. -/
def meets (a n b m : Nat) : Bool := decide (a < b + m) && decide (b < a + n)

/-- A ring's index without the bands whose blocks a write would overwrite (R432). -/
def indexFree (x : CompRing) (a n : Nat) : CompRing := { x with index := x.index.filter (fun q => !meets a n q.start q.len) }

/-- A block put into the ring (R432, R433): a band that does not fit before the end starts again at the base. False where
the ring cannot hold it. -/
def bandPut (d : Dev) (r : Nat) (w : BandOut) (b : List Byte) : Dev × Bool :=
  let base := d.gn (lbIdx r) 4
  let size := d.gn (lbIdx r) 5
  let x := d.lring r
  if size < w.bytes.length + b.length then (d, false)
  else if w.start + w.bytes.length + b.length ≤ base + size then
    let a := w.start + w.bytes.length
    let x1 := { indexFree x a b.length with wp := a + b.length, writing := some { w with bytes := w.bytes ++ b } }
    (memWrite (d.setLring r x1) a b, true)
  else
    let all := w.bytes ++ b
    let x1 := { indexFree x base all.length with wp := base + all.length, writing := some { w with start := base, bytes := all } }
    (memWrite (d.setLring r x1) base all, true)

/-- The web that a ring's index spans (R447). -/
def lbSpan (d : Dev) (r : Nat) : Int :=
  match (d.lring r).index with
  | [] => 0
  | q :: l =>
    let old := (l.getLast?).getD q
    (q.first - old.first + 64 * lbMd d r) * d.gn 0x3000 3 / 65536

/-- The band's index entry (R433). -/
def bandEntry (d : Dev) (r : Nat) (first : Int) : Dev :=
  let x := d.lring r
  match x.writing with
  | none => d
  | some w =>
    let d0 := d.setLring r { x with writing := none }
    let base := d.gn (lbIdx r) 6
    let size := d.gn (lbIdx r) 7
    if size < 32 then d0
    else
      let p := indexNext d r
      let entry := toLE 8 (wrapU 64 (gridWp d first)) ++ toLE 8 w.start ++ toLE 4 w.bytes.length ++ toLE 2 w.tiles
        ++ toLE 2 w.dropped ++ toLE 2 (ownOrigin d) ++ toLE 1 w.flags ++ List.replicate 5 0
      let d1 := memWrite d0 p entry
      let p2 := if base + size < p + 64 then base else p + 32
      let ix := { first := first, start := w.start, len := w.bytes.length } :: x.index
      let d2 := (d1.setLring r { x with writing := none, index := ix.take (size / 32) }).put (lbIdx r) 8 p2
      d2.pub 0x1A40 [(if r = 0 then 5 else 6, lbSpan d2 r)]

/-- FINE_RATIO over the last second (R447). -/
def ratioAdd (e : Env) (d : Dev) (raw coded : Nat) : Dev :=
  let l := ((e.raw, raw, coded) :: d.comp.ratio).filter (fun q => e.raw < q.1 + 16000000000)
  let a := sumN (l.map (·.2.1))
  let b := sumN (l.map (·.2.2))
  ({ d with comp := { d.comp with ratio := l } }).put 0x1A40 4 (if b = 0 then 0 else min 65535 (a * 256 / b) : Nat)

/-- One tile written or lost (R428, R429, R432). -/
def tilePut (e : Env) (d : Dev) (t : Tile) (credit mismatch : Bool) : Dev :=
  let x := d.lring t.ring
  let base := d.gn (lbIdx t.ring) 4
  let size := d.gn (lbIdx t.ring) 5
  let start := if base ≤ x.wp && x.wp < base + size then x.wp else base
  let d0 := if x.writing.isNone then d.setLring t.ring { x with writing := some { start := start } } else d
  let raw := rawRing d0 t.ring
  let lane := t.lane.getD 0
  let d1 :=
      if !credit || (t.lane.isNone && !raw) then tileLost e d0 t.ring
      else
        let h : BlockHead :=
          { coding := 0, near := t.near, bits := t.bits,
            layout := t.plane * 64 + (if t.ring = 0 then 0 else flog2 (lbMd d0 1) * 16 + flog2 (lbCd d0 1) * 4),
            flags := t.flags, wp := gridWp d0 t.first, col := d0.gn 0x1B00 2 + t.tile * d0.gn 0x1A00 1, cols := t.cols,
            lines := t.lines, origin := ownOrigin d0, bytes := 0 }
        let (b, long) := makeBlock h t.samples raw (mismatch && !raw)
        let da := if raw then d0 else engineAdd d0 lane 2 t.samples.length
        let db := if mismatch && !raw then verifyFail e da lane else da
        let dc := if long then db.inc 0x1A40 3 else db
        match (dc.lring t.ring).writing with
        | none => dc
        | some w =>
          let (dd, ok) := bandPut dc t.ring { w with tiles := w.tiles + 1, flags := w.flags ||| (t.flags % 4) } b
          if !ok then tileLost e dc t.ring
          else
            let de := dd.incP 0x1A40 1
            if t.ring = 0 then ratioAdd e de (ceilDiv (t.samples.length * t.bits) 8) b.length else de
  if t.last then bandEntry d1 t.ring t.first else d1

/-- Tiles at the front that found no lane at their first line are passed over; an uncompressed ring needs none (R431). -/
def tilesSkip (e : Env) : Nat → Dev → Dev
  | 0, d => d
  | k + 1, d =>
    match d.comp.work with
    | t :: r => if t.lane.isNone && !rawRing d t.ring then tilesSkip e k (tilePut e { d with comp := { d.comp with work := r } } t true false) else d
    | [] => d

/-- TILE_WRITTEN (R432): the oldest tile that was coded is written, or lost for want of credit. -/
def tileWritten (e : Env) (d : Dev) (credit mismatch : Bool) : Dev :=
  match d.comp.work with
  | [] => d
  | t :: r =>
    let d1 := tilePut e { d with comp := { d.comp with work := r } } t credit mismatch
    tilesSkip e r.length d1

/-- A band begins on a ring (R432): every tile asks for a lane. -/
def bandBegin (d : Dev) (r : Nat) (m : Int) : Dev :=
  let n := ceilDiv (rasterWidth d) (d.gn 0x1A00 1)
  let keys := (List.range n).flatMap (fun t => (rasterPlanes d).map (fun p => (t, p)))
  let (d1, ts) := keys.foldl (fun (s : Dev × List (Nat × Nat × Option Nat)) k =>
    let (l, d2) := if rawRing d r then (none, s.1) else laneTake s.1
    (d2, s.2 ++ [(k.1, k.2, l)])) (d, [])
  d1.setLring r { d1.lring r with gather := some { first := m, tiles := ts, rows := [] } }

/-- The samples of a raster line on a plane. -/
def planeOf (x : RasterLine) (plane : Nat) : List Nat :=
  match x.planes.find? (fun q => q.1 == plane) with | some q => q.2 | none => []

/-- The samples of a tile from its band's rows. -/
def tileSamples (rows : List RasterLine) (plane col cols md cd : Nat) : List (List Nat) :=
  let one (x : RasterLine) : Bool × List Nat :=
    (bit x.flags 0, ((planeOf x plane).drop col).take cols)
  if md = 1 then rows.map (fun x => (one x).2)
  else (chunks rows.length md rows).map (fun g => averageRows cd (g.map one))

/-- A band ends: its tiles wait to be written, and its lanes are free (R432). -/
def bandEnd (e : Env) (d : Dev) (r : Nat) (b : OpenBand) : Dev :=
  let rows := b.rows.reverse
  let tc := d.gn 0x1A00 1
  let w := rasterWidth d
  let fl := b2n (rows.any (fun x => bit x.flags 0)) + 2 * b2n (rows.any (fun x => bit x.flags 8))
  let n := b.tiles.length
  let mk (k : Nat × Nat × Nat × Option Nat) : Tile :=
    let (i, t, p, lane) := k
    let cols := min tc (w - t * tc)
    let s := tileSamples rows p (t * tc) cols (lbMd d r) (lbCd d r)
    { ring := r, first := b.first, tile := t, plane := p, cols := ceilDiv cols (lbCd d r), lines := s.length,
      near := d.gn (lbIdx r) 2, bits := rasterBits d, flags := fl, samples := s.flatten, lane := lane, last := i + 1 = n }
  let ts := ((List.range n).zip b.tiles).map mk
  let d1 := lanesGive d (b.tiles.filterMap (fun k => k.2.2))
  let d2 := d1.setLring r { d1.lring r with gather := none }
  let d3 := { d2 with comp := { d2.comp with work := d2.comp.work ++ ts } }
  tilesSkip e d3.comp.work.length d3

/-- A raster line at a ring (R430 to R432). -/
def bandLine (e : Env) (d : Dev) (r : Nat) (x : RasterLine) : Dev :=
  let n : Int := 64 * lbMd d r
  let d1 := if x.m % n = 0 && lbOn d r then bandBegin d r x.m else d
  match (d1.lring r).gather with
  | none => d1
  | some b =>
    let b1 := { b with rows := x :: b.rows }
    if (x.m + 1) % n = 0 then bandEnd e d1 r b1 else d1.setLring r { d1.lring r with gather := some b1 }

/-! ### Live views (R438, R439) -/

/-- The objects of a view. -/
def vwIdx (v : Nat) : Nat := 0x1A20 + v

/-- A counter by view in a DOMAIN of 8 × U32. -/
def viewCount (d : Dev) (sub v : Nat) : Dev :=
  let c := padTo (d.gB 0x1A40 sub) 32 0
  (d.putB 0x1A40 sub (patch c (4 * v) (toLE 4 ((leAt c (4 * v) 4 + 1) % 4294967296)))).publish 0x1A40

/-- A frame dropped whole (R439). -/
def frameDrop (e : Env) (d : Dev) (v : Nat) : Dev := (viewCount d 0x0B v).raise e 0x274 v

/-- A finished frame sent whole or dropped (R439). -/
def frameSend (e : Env) (d : Dev) (v : Nat) (f : ViewFrame) : Dev :=
  match f.lane with
  | none => frameDrop e d v
  | some lane =>
    let rows := f.done.reverse
    let (md, da) := fieldOf d 2 (flog2 f.md)
    let (cd, db) := fieldOf da 2 (flog2 f.cd)
    let (cols, dc) := fieldOf db 16 (rows.headD []).length
    let h : BlockHead :=
      { coding := 0, near := f.near, bits := f.bits, layout := f.plane * 64 + md * 16 + cd * 4,
        flags := 8 + f.flags, wp := gridWp d f.first, col := d.gn 0x1B00 2 + f.col, cols := cols,
        lines := rows.length, origin := ownOrigin d, bytes := 0 }
    let (b, long) := makeBlock h rows.flatten false false
    let d0 := engineAdd (lanesGive dc [lane]) lane 2 rows.flatten.length
    let d1 := if long then d0.inc 0x1A40 3 else d0
    let sent := (tabGet d1.comp.viewSent [] v).filter (fun q => e.raw < q.1 + 16000000000)
    let tooFast := d1.gn (vwIdx v) 0x0A * 1000 < (sumN (sent.map (·.2)) + b.length) * 8
    let n := d1.gn (vwIdx v) 9
    if tooFast || n = 255 then frameDrop e d1 v
    else
      let (d2, ok) := streamSend d1 n b
      if !ok then frameDrop e d1 v
      else viewCount { d2 with comp := { d2.comp with viewSent := tabSet d2.comp.viewSent v ((e.raw, b.length) :: sent) } } 0x0A v

/-- A raster line at a view (R438). -/
def viewLine (e : Env) (d : Dev) (x : RasterLine) (v : Nat) : Dev :=
  let i := vwIdx v
  let md := d.gn i 5
  let d1 :=
    if d.gb i 1 && (tabFind d.comp.views v).isNone && x.m % (md * d.gn i 7 : Nat) = 0 then
      let (lane, da) := laneTake d
      let first := d.gn i 3
      let rest := rasterWidth d - first
      let cols := if d.gn i 4 = 0 then rest else min (d.gn i 4) rest
      let f : ViewFrame := { plane := d.gn i 2, col := first, cols := cols, md := md, cd := d.gn i 6, lines := d.gn i 7,
                             near := d.gn i 8, bits := rasterBits d, lane := lane, first := x.m }
      { da with comp := { da.comp with views := tabSet da.comp.views v f } }
    else d
  match tabFind d1.comp.views v with
  | none => d1
  | some f =>
    let row := ((planeOf x f.plane).drop f.col).take f.cols
    let g := f.group ++ [(bit x.flags 0, row)]
    let fl := f.flags ||| b2n (bit x.flags 0) ||| (2 * b2n (bit x.flags 8))
    let f1 := if g.length < f.md then { f with group := g, flags := fl }
      else { f with group := [], flags := fl, done := averageRows f.cd g :: f.done }
    if f1.done.length < f1.lines then { d1 with comp := { d1.comp with views := tabSet d1.comp.views v f1 } }
    else frameSend e { d1 with comp := { d1.comp with views := tabErase d1.comp.views v } } v f1

/-- A raster line at the compression unit. -/
def compRaster (e : Env) (d : Dev) (x : RasterLine) : Dev :=
  let d0 := d.takeShadow 0x1A00 0x1AFF
  if !compRuns d0 then d0
  else (List.range 8).foldl (fun d v => viewLine e d x v) (bandLine e (bandLine e d0 0 x) 1 x)

/-! ### Crops (R434 to R437) -/

/-- A crop that was not made: 0 LOST, 1 POISON, 2 TIMEOUT, 3 FULL (R435, R436). -/
def cropFail (e : Env) (d : Dev) (r : Rec) (k : Nat) : Dev :=
  let c := padTo (d.gB 0x1A40 8) 16 0
  ((d.putB 0x1A40 8 (patch c (4 * k) (toLE 4 ((leAt c (4 * k) 4 + 1) % 4294967296)))).publish 0x1A40).raise e 0x273 r.seqNo

/-- A window clipped to a size around a point (R437). -/
def clipSpan (a b c size : Int) : Int × Int × Bool :=
  if b - a + 1 ≤ size then (a, b, false)
  else
    let lo := clampI a (b + 1 - size) (c - size / 2)
    (lo, lo + size - 1, true)

/-- A request as the unit takes it (R434, R435, R437). -/
def cropTakeOne (e : Env) (d : Dev) (r : Rec) : Dev :=
  let off := d.gn 0x1B00 2
  let lo := off + ownFirst d
  let hi := off + ownEnd d
  if d.ustate 0x031 != .inService then cropFail e d r 0
  else if r.cdLast < lo || hi ≤ r.cdFirst || hi ≤ lo then d.incP 0x1A40 9
  else if 16 ≤ d.comp.crops.length then cropFail e d r 3
  else
    let mm : Int := d.gn 0x1A03 4
    let cm := d.gn 0x1A03 5
    let g0 := gridCeil d r.mdStart
    let g1 := gridCeil d r.mdEnd
    let ((fc, fm), d0) : (Nat × Nat) × Dev := if r.kind = 3 then
        let (a, da) := d.fresh 16
        let (b, db) := da.fresh 16
        ((a, b), db)
      else ((leAt r.bytes 60 2, leAt r.bytes 62 2), d)
    let (m0, m1, cut1) := clipSpan (g0 - mm) (g1 + mm) (g0 + fm * (g1 - g0) / 65535) (d.gn 0x1A03 6)
    let (c0, c1, cut2) := clipSpan (max ((r.cdFirst : Int) - cm) lo) (min (r.cdLast + cm) (hi - 1) : Nat)
      (r.cdFirst + fc * (r.cdLast - r.cdFirst) / 65535 : Nat) (d.gn 0x1A03 7)
    let c : Crop := { src := r, m0 := m0, m1 := m1, c0 := (c0 - off).toNat, c1 := (c1 - off).toNat, clipped := cut1 || cut2,
                      at_ := e.raw }
    { d0 with comp := { d0.comp with crops := d0.comp.crops ++ [c] } }

/-- Every request that the settle stage handed over reaches the unit (R434). -/
def cropTake (e : Env) (d : Dev) : Dev :=
  d.cropQ.foldl (cropTakeOne e) (d.setCropQ [])

/-- The fine band of a grid index. -/
def bandOf (m : Int) : Int := m - m % 64

/-- The blocks of a band in memory: header, whether poisoned, body and DATA_CRC (R429, R433); none for a bad header. -/
def bandBlocks (d : Dev) : Nat → Nat → Nat → List (Option (BlockHead × Bool × List Byte × Nat))
  | 0, _, _ => []
  | k + 1, a, left =>
    if left < 32 then []
    else match BlockHead.get (memRead d a 32).1 with
      | none => [none]
      | some h =>
        let n := blockLen h.bytes
        let (b, bad) := memRead d a n
        some (h, bad, slice b 32 h.bytes, leAt b (32 + h.bytes) 4) :: bandBlocks d k (a + n) (left - n)

/-- A block of the window, decoded: band, system column, plane, columns, FLAGS, samples. -/
abbrev CropTile := Int × Nat × Nat × Nat × Nat × List Nat

/-- What the bands of a window hold: its tiles, decoded by the engine of a lane, or the outcome that ends the crop. -/
def cropRead (lane : Nat) (d : Dev) (c : Crop) : Nat → Int → List CropTile → Dev × (Nat ⊕ List CropTile)
  | 0, _, got => (d, .inr got)
  | k + 1, b, got =>
    match (d.lring 0).index.find? (fun q => q.first == b) with
    | none => (d, .inl 0)
    | some q =>
      let off := d.gn 0x1B00 2
      let blocks := bandBlocks d 4096 q.start q.len
      let touch := blocks.filterMap (fun (x : Option (BlockHead × Bool × List Byte × Nat)) => match x with
        | some y => if y.1.col ≤ off + c.c1 && off + c.c0 < y.1.col + y.1.cols then some y else none
        | none => none)
      let d0 := memSeen d q.start q.len
      let d1 := if blocks.any Option.isNone then d0.incP 0x1A40 0x0D else d0
      if touch.any (fun y => y.2.1) then (d1, .inl 1)
      else
        let read := touch.map (fun y => (y, blockSamples y.1 y.2.2.1 y.2.2.2))
        if blocks.any Option.isNone || read.any (fun p => p.2.1 != 0) then (d1, .inl 0)
        else
          let d2 := read.foldl (fun d p => engineAdd d lane 3 p.2.2.length) d1
          cropRead lane d2 c k (b + 64)
            (got ++ read.map (fun p => (b, p.1.1.col, field p.1.1.layout 7 6, p.1.1.cols, p.1.1.flags, p.2.2)))

/-- One row of the window on a plane. -/
def cropRow (off : Nat) (c : Crop) (ts : List CropTile) (plane : Nat) (m : Int) : List (Option Nat) :=
  let mine := ts.filter (fun t => t.1 == bandOf m && t.2.2.1 == plane)
  let row := (m - bandOf m).toNat
  (List.range (c.c1 + 1 - c.c0)).map (fun i =>
    let x := off + c.c0 + i
    (mine.find? (fun t => t.2.1 ≤ x && x < t.2.1 + t.2.2.2.1)).bind (fun t =>
      t.2.2.2.2.2[row * t.2.2.2.1 + (x - t.2.1)]?))

/-- The first crop that has not begun. -/
def cropWaiting (d : Dev) : Option Crop := d.comp.crops.find? (fun c => c.cut.isNone)

/-- A crop of the unit changed, or taken out. -/
def cropSet (d : Dev) (c : Crop) (new : Option Crop) : Dev :=
  { d with comp := { d.comp with crops := d.comp.crops.flatMap (fun q => if q == c then new.toList else [q]) } }

/-- Whether the fine index holds a band. -/
def bandIndexed (d : Dev) (b : Int) : Bool := (d.lring 0).index.any (fun q => q.first == b)

/-- Whether a band has left the fine index: a newer one is held, and it is not (R435). -/
def bandGone (d : Dev) (b : Int) : Bool := !bandIndexed d b && (d.lring 0).index.any (fun q => decide (b < q.first))

/-- How many coding lanes a crop that could start now waits for (R427). -/
def cropNeeds (d : Dev) : Nat :=
  match cropWaiting d with
  | some c => if d.ustate 0x031 == .inService && bandIndexed d (bandOf c.m1) then (rasterPlanes d).length else 0
  | none => 0

/-- A crop cut out of the decoded tiles of its window, plane by plane (R435, R436); a sample that no tile holds ends it as
LOST. -/
def cropCut (e : Env) (d : Dev) (c : Crop) (planes ls : List Nat) (ts : List CropTile) : Dev :=
  let off := d.gn 0x1B00 2
  let fl := ts.foldl (fun a t => a ||| (t.2.2.2.2.1 % 4)) 0 + 4 + 64 * b2n c.clipped
  let lines := (c.m1 + 1 - c.m0).toNat
  let rows (p : Nat) : List (List (Option Nat)) := (List.range lines).map (fun j => cropRow off c ts p (c.m0 + j))
  if planes.any (fun p => (rows p).any (fun r => r.any Option.isNone)) then
    cropFail e (lanesGive (cropSet d c none) ls) c.src 0
  else
    let cut := planes.map (fun p => (p, (rows p).flatMap (fun r => r.filterMap id)))
    cropSet (ls.foldl (fun d l => engineAdd d l 2 (lines * (c.c1 + 1 - c.c0))) d) c
      (some { c with lanes := ls, cut := some (fl, cut) })

/-- CROP_START (R435): the window's last band is indexed; the crop reads, decodes, cuts and codes. -/
def cropStart (e : Env) (d : Dev) : Dev :=
  let d := cropTake e d
  match cropWaiting d with
  | none => d
  | some c =>
    if d.ustate 0x031 != .inService then d
    else if bandGone d (bandOf c.m1) then cropFail e (cropSet d c none) c.src 0
    else if !bandIndexed d (bandOf c.m1) then d
    else
      let planes := rasterPlanes d
      match lanesTake d planes.length with
      | (none, _) => d
      | (some ls, d1) =>
        let n := ((bandOf c.m1 - bandOf c.m0) / 64 + 1).toNat
        match cropRead (ls.headD 0) d1 c n (bandOf c.m0) [] with
        | (d2, .inl k) => cropFail e (lanesGive (cropSet d2 c none) ls) c.src k
        | (d2, .inr ts) =>
          cropCut e d2 c planes ls ts

/-- The blocks of a cut crop (R428, R436): each with whether it is RAW for its length; `mismatch` are the planes, in the
order of their blocks, whose verify failed. -/
def cropBlocks (d : Dev) (c : Crop) (mismatch : List Nat) : List (List Byte × Bool) :=
  let (fl, cut) := c.cut.getD (0, [])
  ((List.range cut.length).zip cut).map (fun q =>
    makeBlock { coding := 0, near := d.gn 0x1A03 8, bits := rasterBits d, layout := q.2.1 * 64, flags := fl,
                wp := gridWp d c.m0, col := d.gn 0x1B00 2 + c.c0, cols := c.c1 + 1 - c.c0,
                lines := (c.m1 + 1 - c.m0).toNat, origin := ownOrigin d, bytes := 0 }
      q.2.2 false (mismatch.contains q.1))

/-- CROP_DONE (R436): a cut crop is written to the crop ring; `mismatch` are the planes whose verify failed. -/
def cropDone (e : Env) (d : Dev) (mismatch : List Nat) : Dev :=
  match d.comp.crops.find? (fun c => c.cut.isSome) with
  | none => d
  | some c =>
    let bs := cropBlocks d c mismatch
    let body := bs.flatMap (·.1)
    let long := (bs.filter (·.2)).length
    let d0 := (mismatch.filter (fun k => k < bs.length)).foldl (fun d k => verifyFail e d (nth c.lanes k 0)) d
    let dr := if long = 0 then d0 else (d0.add 0x1A40 3 long).publish 0x1A40
    let d1 := lanesGive (cropSet dr c none) c.lanes
    let n := 32 + body.length
    let base := d1.gn 0x1A03 1
    let size := d1.gn 0x1A03 2
    if size < n then cropFail e d1 c.src 0
    else
      let w := cropNext d1
      let (a, d2) := if base + size < w + n then (base, memWrite d1 w (List.replicate (min 32 (base + size - w)) 0)) else (w, d1)
      let head := [0x10] ++ toLE 1 bs.length ++ [0, 0] ++ toLE 2 (leAt c.src.bytes 4 2) ++ toLE 2 (devNo d2)
        ++ toLE 4 c.src.seqNo ++ toLE 4 n ++ toLE 8 (nowA e d2) ++ List.replicate 8 0
      let end_ := if base + size ≤ a + n then base else a + n
      (((memWrite d2 a (head ++ body)).put 0x1A03 3 end_).incP 0x1A40 7).raise e 0x272 c.src.seqNo

/-- CROP_TIMEOUT (R435): the window's last band is not indexed within CROP_WAIT. -/
def cropTimeout (e : Env) (d : Dev) : Dev :=
  let d := cropTake e d
  match cropWaiting d with
  | none => d
  | some c =>
    if !bandIndexed d (bandOf c.m1) && c.at_ + d.gn 0x1A03 9 * 16000 ≤ e.raw then cropFail e (cropSet d c none) c.src 2 else d

/-! ### Jobs for the cores (R440 to R443) -/

/-- Whether jobs run (R444). -/
def jobsRun (d : Dev) : Bool := d.ustate 0x031 == .inService || d.ustate 0x031 == .test

/-- Entries of the job and done rings. -/
def jobRingLen (d : Dev) : Nat := d.gn 0x1A04 2

/-- Jobs submitted and not read. -/
def jobsWaiting (d : Dev) : Nat :=
  let n := jobRingLen d
  if n = 0 then 0 else (d.gn 0x1A04 3 + n - d.gn 0x1A04 4 % n) % n

/-- A completion (R441): written to DONE_RING, and JOB_DONE. -/
def compJobEnd (e : Env) (d : Dev) (desc : List Byte) (status coding lines inB outB : Nat) : Dev :=
  let n := max 1 (jobRingLen d)
  let k := d.gn 0x1A04 6 % n
  let c := slice desc 48 8 ++ toLE 1 status ++ toLE 1 coding ++ [0, 0] ++ toLE 4 lines ++ toLE 8 inB ++ toLE 8 outB
  (((memWrite d (d.gn 0x1A04 5 + 32 * k) c).put 0x1A04 6 ((k + 1) % n : Nat)).incP 0x1A40 0x0C).raise e 0x275 (leAt desc 48 4)

/-- The next descriptor read through port 21. -/
def jobFetch (d : Dev) : List Byte × Dev :=
  let n := max 1 (jobRingLen d)
  let k := d.gn 0x1A04 4 % n
  let a := d.gn 0x1A04 1 + 64 * k
  ((memRead d a 64).1, (memSeen d a 64).put 0x1A04 4 ((k + 1) % n : Nat))

/-- A job begins on a lane that it needs: DECOMPRESS on a decoding lane, any other on a coding lane that no crop waits for
(R427); none where there is none. -/
def jobLane (d : Dev) (desc : List Byte) : Option (CompJob × Dev) :=
  if leAt desc 0 1 = 2 then
    (decFree d).map (fun l => ({ desc := desc, lane := l, dec := true },
      { d with comp := { d.comp with decs := l :: d.comp.decs } }))
  else if ((codeLanes d).filter (fun l => !d.comp.lanes.contains l)).length ≤ cropNeeds d then none
  else match laneTake d with
    | (some l, d1) => some ({ desc := desc, lane := l }, d1)
    | (none, _) => none

/-- Jobs start in order, up to 32 at once, each on a free lane (R427, R440). -/
def jobsStart : Nat → Dev → Dev
  | 0, d => d
  | k + 1, d =>
    if jobsWaiting d = 0 || 32 ≤ d.comp.jobs.length || !jobsRun d then d
    else
      let (b, d1) := jobFetch d
      match jobLane d1 b with
      | none => d
      | some (j, d2) => jobsStart k { d2 with comp := { d2.comp with jobs := d2.comp.jobs ++ [j] } }

/-- The lanes of jobs given back. -/
def jobLanesGive (d : Dev) (js : List CompJob) : Dev :=
  let d1 := lanesGive d ((js.filter (fun j => !j.dec)).map (·.lane))
  let decs := (js.filter (·.dec)).map (·.lane)
  { d1 with comp := { d1.comp with decs := d1.comp.decs.filter (fun l => !decs.contains l) } }

/-- With the unit OFF, queued jobs end with STATUS 5 (R444). -/
def jobsFlush (e : Env) : Nat → Dev → Dev
  | 0, d => d
  | k + 1, d =>
    if jobsWaiting d = 0 then d
    else
      let (b, d1) := jobFetch d
      jobsFlush e k (compJobEnd e d1 b 5 0 0 0 0)

/-- A write of JOB_TAIL (R440). -/
def jobTailWrite (e : Env) (d : Dev) (m : Master) (v : Int) : Dev :=
  d.asWrite m 0x1A04 3 v fun d =>
    let d1 := d.put 0x1A04 3 v
    (if d1.ustate 0x031 == .off then jobsFlush e (jobRingLen d1) d1 else jobsStart 32 d1).ended m stOK

/-- The source lines of a COMPRESS job, from line `i` on, and whether one was poisoned. -/
def jobSource (d : Dev) (src stride bits cols n : Nat) : List (List Nat) × Bool :=
  let rows := (List.range n).map (fun i => memRead d (src + i * stride) (ceilDiv (bits * cols) 8))
  (rows.map (fun r => unpackLsb bits cols r.1), rows.any (·.2))

/-- The most source lines whose stream fits a room (R442). -/
def linesFit (bits near cols : Nat) (samples : List Nat) (put room : Nat) (from_ : Nat) : Nat → Nat
  | 0 => from_
  | n + 1 =>
    if Config.jpegLsPut bits near cols samples (from_ + n + 1) - put ≤ room then from_ + n + 1
    else linesFit bits near cols samples put room from_ n

/-- COMPRESS (R428, R440 to R442). -/
def jobCompress (e : Env) (d : Dev) (b : List Byte) (lane : Nat) (mismatch : Bool) : Dev :=
  let resume := bit (leAt b 1 1) 0
  let src := leAt b 8 8
  let stride := leAt b 16 4
  let dst := leAt b 24 8
  let room := leAt b 32 8
  let ctx := leAt b 40 8
  let old := if resume then tabFind d.comp.ctxs ctx else none
  let near := match old with | some c => c.near | none => leAt b 2 1
  let bits := match old with | some c => c.bits | none => leAt b 3 1
  let cols := match old with | some c => c.cols | none => leAt b 4 2
  let lines := match old with | some c => c.lines | none => leAt b 6 2
  let bad := leAt b 1 1 > 1 || near > 15 || !([8, 10, 12, 14, 16].contains bits) || cols = 0 || 32768 < cols || lines = 0
    || ctx % 4096 ≠ 0 || stride < ceilDiv (bits * cols) 8 || (resume && old.isNone)
  if bad then compJobEnd e d b 5 0 0 0 0
  else
    let before := match old with | some c => c.done | none => 0
    let put := match old with | some c => c.put | none => 0
    let (rows, pois) := jobSource d src stride bits cols (lines - before)
    let poison := pois || (match old with | some c => c.poison | none => false)
    let samples := (match old with | some c => c.samples | none => []) ++ rows.flatten
    let seen := (List.range (lines - before)).foldl (fun d i => memSeen d (src + i * stride) (ceilDiv (bits * cols) 8)) d
    let d1 := engineAdd seen lane 2 rows.flatten.length
    let first := match old with | some c => c.dst | none => dst
    let h : BlockHead := { coding := 0, near := near, bits := bits, layout := 0, flags := 16 + 32 * b2n poison, wp := 0,
                           col := 0, cols := cols, lines := lines, origin := 0, bytes := 0 }
    let done (d : Dev) (coding out : Nat) : Dev := compJobEnd e d b 0 coding (lines - before) ((lines - before) * stride) out
    let stopAt (d : Dev) (head : Nat) : Dev :=
      let n := linesFit bits near cols samples put (room - head) before (lines - before)
      let code := Config.jpegLsCode bits near cols samples
      let upto := if n = before then put else Config.jpegLsPut bits near cols samples n
      let (v, d2) := d.fresh 32768
      let d3 := memWrite (memWrite (memWrite d2 dst (List.replicate (min head room) 0)) (dst + head) (slice code put (upto - put)))
        ctx (toLE 4096 v)
      let c : CompCtx := { dst := first, bits := bits, near := near, cols := cols, lines := lines, done := n,
                           samples := samples.take (n * cols), put := upto, poison := poison }
      compJobEnd e { d3 with comp := { d3.comp with ctxs := tabSet d3.comp.ctxs ctx c } } b 1 0 (n - before) ((n - before) * stride)
        (head + (upto - put))
    if !resume then
      let (blk, long) := makeBlock h samples false mismatch
      let d2 := if mismatch then verifyFail e d1 lane else if long then d1.incP 0x1A40 3 else d1
      if blk.length ≤ room then done (memWrite d2 dst blk) (leAt blk 3 1) blk.length else stopAt d1 32
    else
      let code := Config.jpegLsCode bits near cols samples
      let seen := if near = 0 then samples else (Config.jpegLsDecode bits near cols code).getD samples
      let tail := slice code put (code.length - put)
        ++ (padTo (toLE 4 (dataCrc seen)) (blockLen code.length - 32 - code.length) 0)
      if mismatch then compJobEnd e (verifyFail e d1 lane) b 3 0 0 0 0
      else if tail.length ≤ room then
        let d2 := memWrite (memWrite d1 dst tail) first ({ h with bytes := code.length }.put)
        done { d2 with comp := { d2.comp with ctxs := tabErase d2.comp.ctxs ctx } } 0 tail.length
      else stopAt d1 0

/-- DECOMPRESS (R441, R443); what a job that fails consumed and produced no rule says. -/
def jobDecompress (e : Env) (d0 : Dev) (b : List Byte) (lane : Nat) : Dev :=
  let d := memSeen d0 (leAt b 8 8) (leAt b 16 4)
  let src := leAt b 8 8
  let len := leAt b 16 4
  let dst := leAt b 24 8
  let room := leAt b 32 8
  let (blk, pois) := memRead d src len
  let fail (d : Dev) (st : Nat) : Dev :=
    let (lines, d1) := d.fresh 32
    let (inB, d2) := d1.fresh 64
    let (outB, d3) := d2.fresh 64
    compJobEnd e (memWrite d3 dst (List.replicate room 0)) b st 0 lines inB outB
  if leAt b 1 1 ≠ 0 || leAt b 40 8 % 4096 ≠ 0 then compJobEnd e d b 5 0 0 0 0
  else if pois then fail d 4
  else match BlockHead.get blk with
    | none => fail (d.incP 0x1A40 0x0D) 3
    | some h =>
      if room < h.cols * h.lines * 2 then compJobEnd e d b 5 0 0 0 0
      else if len < 36 + h.bytes then fail d 3
      else match blockSamples h (slice blk 32 h.bytes) (leAt blk (32 + h.bytes) 4) with
        | (0, l) => compJobEnd e (engineAdd (memWrite d dst (l.flatMap (toLE 2))) lane 3 l.length) b 0 h.coding h.lines
            (blockLen h.bytes) (2 * l.length)
        | (st, _) => fail d st

/-- JOB_COMPLETE (R441): the `k`-th running job ends, and waiting jobs start. -/
def jobComplete (e : Env) (d : Dev) (k : Nat) (mismatch : Bool) : Dev :=
  match d.comp.jobs[k]? with
  | none => d
  | some j =>
    let d1 := jobLanesGive { d with comp := { d.comp with jobs := d.comp.jobs.eraseIdx k } } [j]
    let op := leAt j.desc 0 1
    let d2 := if op = 1 then jobCompress e d1 j.desc j.lane mismatch
      else if op = 2 then jobDecompress e d1 j.desc (decEngine j.lane)
      else compJobEnd e d1 j.desc 5 0 0 0 0
    jobsStart 32 d2

/-! ### States and writes (R431, R439, R444) -/

/-- The unit enters a state (R444, R447). -/
def compEnter (e : Env) (d : Dev) (old new : UState) : Dev :=
  let runs (s : UState) : Bool := s == .inService || s == .shadow || s == .bypass
  let d1 := if new == .inService then
    d.clearSubs 0x1A40 [1, 2, 3, 7, 8, 9, 0x0A, 0x0B, 0x0C, 0x0D] else d
  let d2 := if runs old && runs new then d1
    else { d1 with comp := { d1.comp with work := [], rings := [], views := [], viewSent := [], ratio := [],
                                          lanes := (d1.comp.jobs.filter (fun j => !j.dec)).map (·.lane) } }
  let d3 := if new == .inService then d2
    else (d2.comp.crops).foldl (fun d c => cropFail e d c.src 0)
      (lanesGive { d2 with comp := { d2.comp with crops := [] } } (d2.comp.crops.flatMap (·.lanes)))
  if new == .off then
    let js := d3.comp.jobs
    let d4 := js.foldl (fun d j => compJobEnd e d j.desc 5 0 0 0 0)
      (jobLanesGive { d3 with comp := { d3.comp with jobs := [] } } js)
    jobsFlush e (jobRingLen d4) d4
  else jobsStart 32 d3

/-- Whether the rules of this chapter allow a write of a number (R431, R439, R440, R445). -/
def compWriteOk (e : Env) (d : Dev) (idx sub : Nat) (v : Int) : Bool :=
  if idx = 0x1A01 && sub = 3 && v = 1 then
    let rate := maxN ((rasterPorts d).map (lineRate16 e d))
    decide (rasterWidth d * (rasterPlanes d).length * rate * rasterBits d ≤ 96000000000 * 8 * 65536)
  else if 0x1A20 ≤ idx && idx < 0x1A28 && sub = 9 then v == 255 || (4 ≤ v && v ≤ 15)
  else if idx = 0x1A04 && sub = 2 then decide (16 ≤ v) && decide (v ≤ 65536) && popCount 17 v.toNat == 1
  else true

/-! ### Commands -/

/-- TILE_WRITTEN (R432). -/
def execTileWritten (t : Nat) (credit mismatch : Bool) (s : State) : Host.Outcome State Fault Refusal :=
  mainStep true t s fun e d => tileWritten e d credit mismatch

/-- CROP_START (R435). -/
def execCropStart (t : Nat) (s : State) : Host.Outcome State Fault Refusal :=
  mainStep true t s fun e d => cropStart e d

/-- CROP_DONE (R436). -/
def execCropDone (t : Nat) (mismatch : List Nat) (s : State) : Host.Outcome State Fault Refusal :=
  mainStep true t s fun e d => cropDone e d mismatch

/-- CROP_TIMEOUT (R435). -/
def execCropTimeout (t : Nat) (s : State) : Host.Outcome State Fault Refusal :=
  mainStep true t s fun e d => cropTimeout e d

/-- JOB_TAIL_WRITE (R440). -/
def execJobTailWrite (t : Nat) (m : Master) (v : Int) (s : State) : Host.Outcome State Fault Refusal :=
  mainStep (masterOk m) t s fun e d => jobTailWrite e d m v

/-- JOB_COMPLETE (R441). -/
def execJobComplete (t k : Nat) (mismatch : Bool) (s : State) : Host.Outcome State Fault Refusal :=
  mainStep true t s fun e d => jobComplete e d k mismatch

end Sys2Proof.Machine
end

