-- ==== Sys2Proof/Machine/Net.lean ====
section
/-! DEFINITION. Management ports and network time of units 0x005 and 0x006 (chapter 19): R449 to R468. The layouts of
Ethernet, ARP, IPv4, ICMP and IEEE 1588 messages are their standards' (PRESUMED, assumption log 77). -/

namespace Sys2Proof.Machine

/-! ### Frames (R449 to R453) -/

/-- The unit of a management port. -/
def uMg (g : Nat) : Nat := 0x005 + g
/-- The configuration, results and rings of a management port. -/
def mgCfg (g : Nat) : Nat := 0x1400 + g
/-- The result group of a management port. -/
def mgRes (g : Nat) : Nat := 0x1402 + g
/-- The ring objects of a management port. -/
def mgRing (g : Nat) : Nat := 0x1404 + g

/-- Whether a port takes frames (R463). -/
def mgTakes (d : Dev) (g : Nat) : Bool := d.ustate (uMg g) != .off && d.ustate (uMg g) != .test

/-- MAC_ADDR as bytes. -/
def macOf (d : Dev) (g : Nat) : List Byte := toBE 6 (d.gn (mgCfg g) 3)
/-- IP_ADDR as bytes. -/
def ipOf (d : Dev) (g : Nat) : List Byte := toBE 4 (d.gn (mgCfg g) 4)

/-- VLAN_ID as a tag; none when frames are untagged. -/
def vlanTag (d : Dev) (g : Nat) : List Byte :=
  let v := d.gn (mgCfg g) 7
  if v = 0xFFFF then [] else [0x81, 0x00] ++ toBE 2 v

/-- A frame of the device's own sent: destination, EtherType, payload (R450). -/
def sendFrame (d : Dev) (g : Nat) (dst : List Byte) (etype : Nat) (payload : List Byte) : Dev :=
  (d.emit (.frame g (padTo (dst ++ macOf d g ++ vlanTag d g ++ toBE 2 etype ++ payload) 60 0))).incP (mgRes g) 4

/-- The ones' complement sum of 16-bit words of the internet protocols. -/
def inetSum (b : List Byte) : Nat :=
  let s := sumN ((chunks b.length 2 b).map (fun p => beAt (padTo p 2 0) 0 2))
  let f (x : Nat) : Nat := x % 65536 + x / 65536
  65535 - f (f (f s))

/-- An IPv4 packet. -/
def ipPacket (src dst : List Byte) (proto : Nat) (payload : List Byte) : List Byte :=
  let h : List Byte := [0x45, 0] ++ toBE 2 (20 + payload.length) ++ [0, 0, 0x40, 0, 64] ++ toBE 1 proto
  let t := src ++ dst
  h ++ toBE 2 (inetSum (h ++ [0, 0] ++ t)) ++ t ++ payload

/-- A UDP datagram, its check sum not used. -/
def udpPacket (sport dport : Nat) (payload : List Byte) : List Byte :=
  toBE 2 sport ++ toBE 2 dport ++ toBE 2 (8 + payload.length) ++ [0, 0] ++ payload

/-- The destination MAC of an IPv4 multicast address. -/
def multiMac (ip : List Byte) : List Byte := [0x01, 0x00, 0x5E] ++ toBE 3 (beAt ip 1 3 % 8388608)

/-- A frame's EtherType and payload behind a VLAN tag where the port uses one. -/
def frameBody (d : Dev) (g : Nat) (b : List Byte) : Nat × List Byte :=
  if d.gn (mgCfg g) 7 ≠ 0xFFFF then (beAt b 16 2, b.drop 18) else (beAt b 12 2, b.drop 14)

/-- Whether VLAN_ID is set and the tag is missing or another (R450 row 2). -/
def vlanBad (d : Dev) (g : Nat) (b : List Byte) : Bool :=
  let v := d.gn (mgCfg g) 7
  v ≠ 0xFFFF && (beAt b 12 2 ≠ 0x8100 || beAt b 14 2 % 4096 ≠ v % 4096)

/-- A frame put into the host receive ring (R451). -/
def hostRx (d : Dev) (g : Nat) (flags stamp : Nat) (b : List Byte) : Dev :=
  let i := mgRing g
  let n := d.gn i 6
  let hd := d.gn i 7
  if n = 0 || (hd + 1) % n = d.gn i 8 % n || 1518 < b.length then d.incP (mgRes g) 7
  else
    let head := toLE 2 b.length ++ toLE 1 flags ++ List.replicate 5 0 ++ toLE 8 stamp ++ List.replicate 16 0
    (memWrite d (d.gn i 5 + 2048 * (hd % n)) (head ++ b)).put i 7 ((hd + 1) % n : Nat)

/-- A receive stamp (R452). -/
def rxStamp (e : Env) (d : Dev) (g : Nat) : Nat := wrapU 64 ((stampA e d e.raw : Int) - d.gi (mgCfg g) 8)
/-- A transmit stamp (R452). -/
def txStamp (e : Env) (d : Dev) (g : Nat) : Nat := wrapU 64 ((stampA e d e.raw : Int) + d.gi (mgCfg g) 9)

/-- Whether an IPv4 packet is whole and for a port's address. -/
def ipForUs (d : Dev) (g : Nat) (p : List Byte) : Bool := field (beAt p 0 1) 7 4 == 4 && slice p 16 4 == ipOf d g

/-- The payload of an IPv4 packet. -/
def ipBody (p : List Byte) : List Byte := slice p (4 * (beAt p 0 1 % 16)) (beAt p 2 2 - 4 * (beAt p 0 1 % 16))

/-- The UDP port a packet is for, where it is UDP. -/
def udpPort (p : List Byte) : Option Nat := if beAt p 9 1 = 17 then some (beAt (ipBody p) 2 2) else none

/-- The addresses of PTP over UDP (R454): 224.0.1.129 and 224.0.0.107. -/
def ptpGroups : List (List Byte) := [[224, 0, 1, 129], [224, 0, 0, 107]]

/-- A PTP message carried by a frame, and whether over IEEE 802.3. -/
def ptpOf (d : Dev) (g : Nat) (b : List Byte) : Option (Bool × List Byte) :=
  let (et, p) := frameBody d g b
  if et = 0x88F7 then some (true, p)
  else if et = 0x0800 && field (beAt p 0 1) 7 4 = 4 && (ptpGroups.contains (slice p 16 4) || slice p 16 4 == ipOf d g) then
    match udpPort p with
    | some 319 => some (false, (ipBody p).drop 8)
    | some 320 => some (false, (ipBody p).drop 8)
    | _ => none
  else none

/-- An ARP answer (R450 row 3). -/
def arpReply (d : Dev) (g : Nat) (src p : List Byte) : Dev :=
  sendFrame d g src 0x0806 (slice p 0 6 ++ [0, 2] ++ macOf d g ++ ipOf d g ++ slice p 8 10)

/-- An echo answer (R450 row 4), at most 100 per second. -/
def echoReply (e : Env) (d : Dev) (g : Nat) (src p : List Byte) : Dev :=
  let l := (tabGet d.net.echoes [] g).filter (fun t => e.raw < t + 16000000000)
  if 100 ≤ l.length then { d with net := { d.net with echoes := tabSet d.net.echoes g l } }
  else
    let q := ipBody p
    let r := [0, 0] ++ toBE 2 (inetSum ([0, 0, 0, 0] ++ q.drop 4)) ++ q.drop 4
    sendFrame { d with net := { d.net with echoes := tabSet d.net.echoes g (e.raw :: l) } } g src 0x0800
      (ipPacket (ipOf d g) (slice p 12 4) 1 r)

/-- Whether a destination is one of MCAST_FILTER. -/
def mcastOk (d : Dev) (g : Nat) (dst : List Byte) : Bool :=
  (chunks 16 8 (d.gB (mgCfg g) 0x0B)).any (fun c => leAt c 0 6 == beAt dst 0 6)

/-- The length of a message that a slot receives, without TLVs; none for another message (R454). -/
def ptpBase (ty : Nat) : Option Nat :=
  if ty = 0 || ty = 8 then some 44 else if ty = 2 || ty = 3 || ty = 9 || ty = 10 then some 54 else if ty = 11 then some 64 else none

/-- Whether a message carries TLVs other than those of Announce: it is discarded (R454). -/
def ptpTlv (msg : List Byte) : Bool :=
  let ty := beAt msg 0 1 % 16
  ty != 11 && (ptpBase ty).any (fun n => decide (n < beAt msg 2 2))

/-- The PTP slots that a message on a port belongs to (R454). -/
def slotsOf (d : Dev) (g : Nat) (l2 : Bool) (msg : List Byte) : List Nat :=
  [0, 1].filter (fun k => bit (d.gn 0x1340 1) k && d.gn (0x1341 + k) 2 == g && d.gb (0x1341 + k) 3 == l2
    && d.gn (0x1341 + k) 1 == beAt msg 4 1)

/-- FRAME_RX (R450, R463): a received frame by the first row that matches. FDP datagrams and PTP messages have their own
commands; here such a frame is counted and, if PTP_COPY asks for it, copied. -/
def frameRx (e : Env) (d : Dev) (g : Nat) (fcsOk : Bool) (b : List Byte) : Dev :=
  let long := 1518 < b.length
  if !mgTakes d g then d
  else if !fcsOk then d.incP (mgRes g) 5
  else if b.length < 60 || long || vlanBad d g b then d.incP (mgRes g) 6
  else
    let dst := slice b 0 6
    let src := slice b 6 6
    let (et, p) := frameBody d g b
    let cnt := d.incP (mgRes g) 3
    let stamp := rxStamp e d g
    let ip := et = 0x0800 && ipForUs d g p
    if et = 0x0806 && beAt p 6 2 = 1 && slice p 24 4 == ipOf d g then arpReply cnt g src p
    else if ip && beAt p 9 1 = 1 && beAt (ipBody p) 0 1 = 8 then echoReply e cnt g src p
    else if ip && udpPort p == some 47800 then cnt
    else match ptpOf d g b with
      | some (l2, msg) =>
        let ty := beAt msg 0 1 % 16
        let d1 := if (ty = 0x0C || ty = 0x0D) && beAt msg 1 1 % 16 = 2 then
          (slotsOf d g l2 msg).foldl (fun d k => d.incP (0x1344 + k) 0x0B) cnt else cnt
        if d.gb (mgCfg g) 0x0A then hostRx d1 g 1 stamp b else d1
      | none =>
        if dst == macOf d g || dst == List.replicate 6 0xFF || mcastOk d g dst then hostRx cnt g 0 stamp b else d

/-- An entry into the transmit stamp queue (R453). -/
def stampPut (e : Env) (d : Dev) (g id stamp : Nat) : Dev :=
  if 16 ≤ d.net.stamps.length then (d.inc 0x1410 3).raise e 0x286 g
  else
    let l := d.net.stamps ++ [(g, id, stamp)]
    ({ d with net := { d.net with stamps := l } }).put 0x1410 2 l.length

/-- The filled transmit slots are sent in order (R451), a poisoned one is not and counts in TX_BAD (R505); in TEST each returns to the receive ring (R463). -/
def txRun (e : Env) (g : Nat) : Nat → Dev → Dev
  | 0, d => d
  | k + 1, d =>
    let i := mgRing g
    let n := d.gn i 2
    let h := d.gn i 4
    let st := d.ustate (uMg g)
    let loop := st == .test
    if n = 0 || h % n = d.gn i 3 % n || !(loop || (st == .inService && d.gn (mgRes g) 1 == 1)) then d
    else
      let a := d.gn i 1 + 2048 * (h % n)
      let (hd, bad) := memRead d a 32
      let len := leAt hd 0 2
      let (b, lost) := memRead d (a + 32) len
      let d1 := (memSeen d a (32 + len)).put i 4 ((h + 1) % n : Nat)
      if bad || len < 14 || 1518 < len || lost then txRun e g k (d1.incP (mgRes g) 8)
      else
        let d2 := if bit (leAt hd 2 1) 0 then stampPut e d1 g (leAt hd 4 2) (txStamp e d1 g) else d1
        if loop then txRun e g k (hostRx d2 g 0 (rxStamp e d2 g) b)
        else txRun e g k ((d2.emit (.frame g (padTo b 60 0))).incP (mgRes g) 4)

/-- A write of TX_TAIL (R451). -/
def txTailWrite (e : Env) (d : Dev) (m : Master) (g : Nat) (v : Int) : Dev :=
  d.asWrite m (mgRing g) 3 v fun d =>
    let d1 := d.put (mgRing g) 3 v
    (txRun e g (d1.gn (mgRing g) 2) d1).ended m stOK

/-- A read of TS_POP (R453): the oldest entry, removed. -/
def tsPop (d : Dev) : List Byte × Dev :=
  match d.net.stamps with
  | [] => (List.replicate 16 0, d)
  | (g, id, stamp) :: r =>
    (toLE 1 (1 + 2 * g) ++ [0] ++ toLE 2 id ++ List.replicate 4 0 ++ toLE 8 stamp,
     ({ d with net := { d.net with stamps := r } }).put 0x1410 2 r.length)

/-- LINK_UP (R449): SPEED of the mode, or of the link word. -/
def linkCameUp (e : Env) (d : Dev) (g speed : Nat) : Dev :=
  let mode := d.gn (mgCfg g) 1
  if mode = 0 || d.ustate (uMg g) != .inService || d.gn (mgRes g) 1 = 1 then d
  else
    let sp : Nat := if mode = 1 || !d.gb (mgCfg g) 2 then 2 else min speed 2
    let d1 := ((d.inc (mgRes g) 9).pub (mgRes g) [(1, 1), (2, (sp : Int))]).raise e 0x280 g
    txRun e g (d1.gn (mgRing g) 2) d1

/-- LINK_DOWN (R449). -/
def linkWentDown (e : Env) (d : Dev) (g : Nat) : Dev :=
  if d.gn (mgRes g) 1 = 0 then d else ((d.inc (mgRes g) 9).pub (mgRes g) [(1, 0)]).raise e 0x281 g

/-! ### PTP times and messages (R454 to R456) -/

/-- A slot. -/
def Dev.slot (d : Dev) (k : Nat) : PtpSlot := tabGet d.net.slots {} k
/-- A slot written. -/
def Dev.setSlot (d : Dev) (k : Nat) (x : PtpSlot) : Dev := { d with net := { d.net with slots := tabSet d.net.slots k x } }
/-- The peer-delay exchange of a port. -/
def Dev.peer (d : Dev) (g : Nat) : PeerDelay := tabGet d.net.peers {} g
/-- The peer-delay exchange of a port written. -/
def Dev.setPeer (d : Dev) (g : Nat) (x : PeerDelay) : Dev := { d with net := { d.net with peers := tabSet d.net.peers g x } }
/-- Configuration of a slot. -/
def sCfg (k : Nat) : Nat := 0x1341 + k
/-- Results of a slot. -/
def sRes (k : Nat) : Nat := 0x1344 + k

/-- N(x) of a stamp (R456). -/
def ptpN (e : Env) (d : Dev) (x : Nat) : Int := (x : Int) + ((tuOf e d).epoch : Int) * 16000000000

/-- A PTP timestamp as tt (R456): 48 bits of seconds, 32 of nanoseconds. -/
def ptpTime (b : List Byte) (o : Nat) : Int := (beAt b o 6 : Int) * 16000000000 + (beAt b (o + 6) 4 : Int) * 16

/-- A time in tt as a PTP timestamp, and what its nanoseconds leave as a correctionField. -/
def ptpStampOf (n : Int) : List Byte × Nat :=
  let t := n.toNat
  (toBE 6 (t / 16000000000) ++ toBE 4 (t % 16000000000 / 16), t % 16 * 4096)

/-- The correctionField in tt, rounded toward zero (R456). -/
def ptpCorr (msg : List Byte) : Int := Int.tdiv (wrapI 64 (beAt msg 8 8)) 4096

/-- sequenceId of a message. -/
def ptpSeq (msg : List Byte) : Nat := beAt msg 30 2
/-- sourcePortIdentity of a message. -/
def ptpFrom (msg : List Byte) : Nat := beAt msg 20 10
/-- Whether a message is two-step. -/
def ptpTwoStep (msg : List Byte) : Bool := bit (beAt msg 6 1) 1
/-- 2^x seconds in tt. -/
def pow2Tt (x : Int) : Nat := if 0 ≤ x then 16000000000 * 2 ^ x.toNat else 16000000000 / 2 ^ (-x).toNat

/-- The port identity of a management port: the EUI-64 of its MAC address, port 1. -/
def ownPort (d : Dev) (g : Nat) : List Byte := (macOf d g).take 3 ++ [0xFF, 0xFE] ++ (macOf d g).drop 3 ++ [0, 1]

/-- A PTP message of this device. -/
def ptpMsg (d : Dev) (g k ty flags corr seq ctl : Nat) (logInt : Int) (body : List Byte) : List Byte :=
  toBE 1 ty ++ [0x12] ++ toBE 2 (34 + body.length) ++ toBE 1 (d.gn (sCfg k) 1) ++ [0] ++ toBE 2 flags ++ toBE 8 corr
    ++ List.replicate 4 0 ++ ownPort d g ++ toBE 2 seq ++ toBE 1 ctl ++ toBE 1 (wrapU 8 logInt) ++ body

/-- A PTP message sent on a slot's transport to a MAC and an IPv4 address: `event` on the event port. -/
def ptpSendTo (d : Dev) (g k : Nat) (mac ip : List Byte) (event : Bool) (msg : List Byte) : Dev :=
  if d.gb (sCfg k) 3 then sendFrame d g mac 0x88F7 msg
  else
    let port := if event then 319 else 320
    sendFrame d g mac 0x0800 (ipPacket (ipOf d g) ip 17 (udpPacket port port msg))

/-- A PTP message sent to its multicast address: `peer` to the peer-delay address (R454). -/
def ptpSend (d : Dev) (g k : Nat) (peer event : Bool) (msg : List Byte) : Dev :=
  let ip : List Byte := if peer then [224, 0, 0, 107] else [224, 0, 1, 129]
  let l2 : List Byte := if peer then [0x01, 0x80, 0xC2, 0, 0, 0x0E] else [0x01, 0x1B, 0x19, 0, 0, 0]
  ptpSendTo d g k (if d.gb (sCfg k) 3 then l2 else multiMac ip) ip event msg

/-- The addresses of the master that a slot follows, as its Announce came. -/
def masterFrom (d : Dev) (k : Nat) : List Byte :=
  match (d.slot k).foreign.find? (fun f => (d.slot k).master == some f.id) with
  | some f => padTo f.from_ 10 0
  | none => List.replicate 10 0

/-! ### Selection and TIME_STATE (R458 to R460) -/

/-- SLEW_REMAINING (R30). -/
def slewLeft (e : Env) (d : Dev) : Int :=
  match (tuOf e d).par.slew with
  | none => 0
  | some s => s.total - s.done e.raw

/-- SELECTED; none as none. -/
def ptpSelected (d : Dev) : Option Nat := let v := d.gn 0x1340 4; if v < 2 then some v else none

/-- Whether a slot is LOCKED. -/
def slotLocked (d : Dev) (k : Nat) : Bool := d.gn (sRes k) 1 == 3

/-- The selection moves to a slot (R458 to R460). -/
def ptpMove (e : Env) (d : Dev) (k : Nat) : Dev :=
  let x := d.slot k
  let rate := d.gi (sRes k) 6
  let d1 := (d.put 0x1340 4 k).raise e 0x284 k
  match (tuOf e d).state with
  | .free =>
    let a := nowA e d
    let off := d.gi (sRes k) 4
    let ep0 := (tuOf e d).epoch
    let master := (ptpN e d a - off) / 16000000000
    let ep := if ep0 = 0 then (master - (a / 16000000000 : Nat) - 1).toNat else ep0
    let want := (a : Int) - off - ((ep : Int) - ep0) * 16000000000
    let d2 := if ep0 = 0 then askTu d1 (.setEpoch ep) else d1
    askTu d2 (.lockFrom (want - edge16 e.raw) rate)
  | .held => askTu (askTu (askTu d1 (.setRate rate)) (.addSlew (-x.e))) .track
  | .tracking => askTu (askTu d1 (.setRate rate)) (.addSlew (-x.e))
  | .holdover => askTu (askTu (askTu d1 (.setRate rate)) (.addSlew (-x.e))) .track

/-- A slot has become LOCKED (R457, R458). -/
def ptpLocked (e : Env) (d : Dev) (k : Nat) : Dev :=
  let d1 := ((d.setSlot k { d.slot k with lockedAt := e.raw, was := true, step := false }).pub (sRes k) [(1, 3)]).raise e 0x282 k
  if (ptpSelected d1).isNone then ptpMove e d1 k else d1

/-- The selected slot was lost (R458, R459). -/
def ptpUnselect (e : Env) (d : Dev) (k : Nat) : Dev :=
  if ptpSelected d != some k then d
  else if slotLocked d (1 - k) then ptpMove e d (1 - k)
  else
    let d1 := d.put 0x1340 4 255
    if (tuOf e d1).state == .tracking then (askTu d1 .holdover).raise e 0x285 0 else d1

/-- A slot falls to another SLOT_STATE; a LOCKED one counts its loss (R457). -/
def ptpUnlock (e : Env) (d : Dev) (k state : Nat) : Dev :=
  let was := slotLocked d k
  let d1 := d.setSlot k { d.slot k with iNum := 0, iDen := 1, near := 0, far := 0 }
  let d2 := d1.put (sRes k) 1 state
  let d3 := if was then (d2.inc (sRes k) 0x0A).raise e 0x283 k else d2
  ptpUnselect e (d3.publish (sRes k)) k

/-! ### The servo (R456, R457) -/

/-- The value of an F32 object; where it is no number, an open value stands for it. -/
def f32Val (d : Dev) (idx sub : Nat) : Frac × Dev :=
  match f32.read (d.gn idx sub) with
  | some v => (v, d)
  | none =>
    let (n, d1) := d.fresh 64
    let (m, d2) := d1.fresh 32
    ({ n := wrapI 64 n, d := m + 1 }, d2)

/-- `2 ^ x` as a fraction. -/
def pow2F (x : Int) : Frac := if 0 ≤ x then { n := 2 ^ x.toNat } else { n := 1, d := 2 ^ (-x).toNat }

/-- One offset through a slot's servo (R457). -/
def ptpServo (e : Env) (d0 : Dev) (k : Nat) (off : Int) : Dev :=
  let (ki, da) := f32Val d0 (sCfg k) 0x0B
  let (kp, d) := f32Val da (sCfg k) 0x0A
  let x := d.slot k
  let er := off + slewLeft e d
  let ef := Frac.ofInt er
  let i := Frac.add { n := x.iNum, d := x.iDen } (ki.mul (ef.mul (pow2F x.logSync)))
  let rate := clampI (-112589990684) 112589990684 ((kp.mul ef).add i).neg.floor
  let inTh := er.natAbs ≤ d.gn (sCfg k) 0x0C
  let outTh := d.gn (sCfg k) 0x0E < er.natAbs
  let near := if inTh then x.near + 1 else 0
  let far := if outTh then x.far + 1 else 0
  let stepped := decide (16000000000 < off.natAbs) && x.was && !x.step && (tuOf e d).state != .free
  let d1 := (d.setSlot k { x with e := er, iNum := i.n, iDen := i.d, near := near, far := far, step := x.step || stepped }).pub
    (sRes k) [(4, off), (6, rate)]
  let d2 := if stepped then (d1.setFlag 0x1340 6 0).raise e 0x288 k else d1
  let d3 := if ptpSelected d2 = some k then askTu d2 (.setRate rate) else d2
  if slotLocked d3 k then if 4 ≤ far then ptpUnlock e d3 k 2 else d3
  else if d.gn (sCfg k) 0x0D ≤ near && 1 ≤ near then ptpLocked e d3 k
  else d3

/-- An offset measured (R456), once the path delay is known. -/
def ptpMeasure (e : Env) (d : Dev) (k : Nat) (t1 ms : Int) : Dev :=
  let d1 := d.setSlot k { d.slot k with ms := some ms, t1 := t1 }
  let m2 := if d.gn (sCfg k) 4 = 1 then (d1.peer (d.gn (sCfg k) 2)).mpd2 else (d1.slot k).mpd2
  match m2 with
  | none => d1
  | some m2 =>
    let off := (2 * ms - m2 - 2 * d.gi (sCfg k) 9) / 2
    ptpServo e (d1.put (sRes k) 5 (m2 / 2)) k off

/-- The slots that take a message of their master on a port, in the versions accepted (R454). -/
def slotsFor (d : Dev) (g : Nat) (l2 : Bool) (msg : List Byte) (ty : Nat) : List Nat :=
  if mgTakes d g && beAt msg 0 1 % 16 = ty && beAt msg 1 1 % 16 = 2 && beAt msg 1 1 / 16 ≤ 1 && !ptpTlv msg then
    slotsOf d g l2 msg
  else []

/-- A message with TLVs that is discarded counts in IGNORED of its slots (R454). -/
def ptpIgnored (d : Dev) (g : Nat) (l2 : Bool) (msg : List Byte) : Dev :=
  if mgTakes d g && beAt msg 1 1 % 16 = 2 && ptpTlv msg then
    (slotsOf d g l2 msg).foldl (fun d k => d.incP (sRes k) 0x0B) d
  else d

/-- Whether a message comes from the master a slot follows. -/
def fromMaster (d : Dev) (k : Nat) (msg : List Byte) : Bool := (d.slot k).master == some (ptpFrom msg)

/-- SYNC_RX (R456). -/
def syncRx (e : Env) (d : Dev) (g : Nat) (l2 : Bool) (msg : List Byte) : Dev :=
  ((slotsFor d g l2 msg 0).filter (fun k => fromMaster d k msg)).foldl (fun d k =>
    let x := d.slot k
    let lost := x.wait.isSome
    let t2 := ptpN e d (rxStamp e d g)
    let x1 := { x with syncAt := some e.raw, logSync := clampI (-7) 1 (wrapI 8 (beAt msg 33 1)), wait := none }
    let d1 := ((d.setSlot k x1).inc (sRes k) 7).publish (sRes k)
    let d2 := if lost then d1.incP (sRes k) 8 else d1
    if ptpTwoStep msg then d2.setSlot k { x1 with wait := some { seq := ptpSeq msg, t2 := t2, corr := ptpCorr msg } }
    else ptpMeasure e d2 k (ptpTime msg 34) (t2 - ptpTime msg 34 - ptpCorr msg)) d

/-- FOLLOW_UP_RX (R456). -/
def followUpRx (e : Env) (d : Dev) (g : Nat) (l2 : Bool) (msg : List Byte) : Dev :=
  ((slotsFor d g l2 msg 8).filter (fun k => fromMaster d k msg)).foldl (fun d k =>
    let x := d.slot k
    match x.wait with
    | none => d
    | some w =>
      if w.seq ≠ ptpSeq msg then d
      else ptpMeasure e (d.setSlot k { x with wait := none }) k (ptpTime msg 34)
        (w.t2 - ptpTime msg 34 - w.corr - ptpCorr msg)) d

/-- PTP_DELAY_RESP_RX (R456): sm of the exchange, and the mean path delay with the latest ms. -/
def ptpDelayResp (d : Dev) (g : Nat) (l2 : Bool) (msg : List Byte) : Dev :=
  ((slotsFor d g l2 msg 9).filter (fun k => fromMaster d k msg)).foldl (fun d k =>
    let x := d.slot k
    match x.req, x.ms with
    | some (seq, t3), some ms =>
      if seq ≠ ptpSeq msg || slice msg 44 10 != ownPort d g || d.gn (sCfg k) 4 = 1 then d
      else
        let m2 := ms + (ptpTime msg 34 - t3 - ptpCorr msg)
        (d.setSlot k { x with req := none, mpd2 := some m2 }).pub (sRes k) [(5, m2 / 2)]
    | _, _ => d) d

/-- Whether a dataset comes before another in the standard's comparison. -/
def setLt : List Nat → List Nat → Bool
  | a :: r, b :: s => if a < b then true else if b < a then false else setLt r s
  | _, _ => false

/-- The best of foreign masters. -/
def bestForeign : List Foreign → Option Foreign
  | [] => none
  | f :: r => match bestForeign r with | none => some f | some q => if setLt q.set f.set then some q else some f

/-- Foreign masters without the worst, while more than four (R454). -/
def keepForeign (l : List Foreign) : List Foreign :=
  if l.length ≤ 4 then l else (l.mergeSort (fun a b => !setLt b.set a.set)).take 4

/-- The master a slot follows from its foreign masters (R454, R457): a change of grandmaster unlocks it. -/
def ptpFollow (e : Env) (d : Dev) (k : Nat) : Dev :=
  let x := d.slot k
  match bestForeign x.foreign with
  | none =>
    let d1 := d.setSlot k { x with master := none, wait := none, req := none }
    if d.gn (sRes k) 1 = 1 then d1 else ptpUnlock e d1 k 1
  | some f =>
    let d1 := if x.master = some f.id then d
      else d.setSlot k { x with master := some f.id, wait := none, req := none, ms := none, mpd2 := none, syncAt := some e.raw }
    let d2 := if (ptpSelected d1).all (· == k) then d1.put 0x1340 5 f.utc else d1
    let d3 := if d.gn (sRes k) 1 = 1 || d.gn (sRes k) 2 ≠ f.gm then ptpUnlock e d2 k 2 else d2
    d3.pub (sRes k) [(2, (f.gm : Int)), (3, (f.cls : Int))]

/-- ANNOUNCE_RX (R454). -/
def announceRx (e : Env) (d : Dev) (g : Nat) (l2 : Bool) (src msg : List Byte) : Dev :=
  (slotsFor d g l2 msg 11).foldl (fun d k =>
    let x := d.slot k
    let f : Foreign :=
      { id := ptpFrom msg, from_ := src,
        set := [beAt msg 47 1, beAt msg 48 1, beAt msg 49 1, beAt msg 50 2, beAt msg 52 1, beAt msg 53 8, beAt msg 61 2, ptpFrom msg],
        gm := beAt msg 53 8, cls := beAt msg 48 1, utc := wrapI 16 (beAt msg 44 2),
        logInt := clampI (-3) 3 (wrapI 8 (beAt msg 33 1)), at_ := e.raw }
    ptpFollow e (d.setSlot k { x with foreign := keepForeign (f :: x.foreign.filter (fun q => q.id != f.id)) }) k) d

/-- PDELAY_REQ_RX (R455): Pdelay_Resp with the receive stamp, and its follow-up with its own transmit stamp. -/
def pdelayReq (e : Env) (d : Dev) (g : Nat) (l2 : Bool) (msg : List Byte) : Dev :=
  match (slotsFor d g l2 msg 2).filter (fun k => d.gn (sCfg k) 4 == 1) with
  | [] => d
  | k :: _ =>
    let (t2, c2) := ptpStampOf (ptpN e d (rxStamp e d g))
    let who := slice msg 20 10
    let resp := ptpMsg d g k 3 0x0200 (wrapU 64 (-(c2 : Int))) (ptpSeq msg) 5 0x7F (t2 ++ who)
    let (t3, c3) := ptpStampOf (ptpN e d (txStamp e d g))
    let fup := ptpMsg d g k 10 0 ((beAt msg 8 8 + c3) % 2 ^ 64) (ptpSeq msg) 5 0x7F (t3 ++ who)
    ptpSend (ptpSend d g k true true resp) g k true false fup

/-- PDELAY_RESP_RX (R456). -/
def pdelayResp (e : Env) (d : Dev) (g : Nat) (l2 : Bool) (msg : List Byte) : Dev :=
  let x := d.peer g
  match x.t1 with
  | none => d
  | some t1 =>
    if (slotsFor d g l2 msg 3).all (fun k => d.gn (sCfg k) 4 != 1) || x.seq ≠ ptpSeq msg || slice msg 44 10 != ownPort d g then d
    else
      let t4 := ptpN e d (rxStamp e d g)
      if ptpTwoStep msg then d.setPeer g { x with resp := some (t4, ptpTime msg 34, ptpCorr msg) }
      else d.setPeer g { x with t1 := none, resp := none, mpd2 := some (t4 - t1 - ptpCorr msg) }

/-- PDELAY_RESP_FOLLOW_UP_RX (R456). -/
def pdelayFollow (d : Dev) (g : Nat) (l2 : Bool) (msg : List Byte) : Dev :=
  let x := d.peer g
  match x.t1, x.resp with
  | some t1, some (t4, t2, c) =>
    if (slotsFor d g l2 msg 10).all (fun k => d.gn (sCfg k) 4 != 1) || x.seq ≠ ptpSeq msg || slice msg 44 10 != ownPort d g then d
    else
      let m2 := (t4 - t1) - (ptpTime msg 34 - t2) - (c + ptpCorr msg)
      let d1 := d.setPeer g { x with t1 := none, resp := none, mpd2 := some m2 }
      ([0, 1].filter (fun k => bit (d.gn 0x1340 1) k && d.gn (sCfg k) 2 == g && d.gn (sCfg k) 4 == 1)).foldl
        (fun d k => d.pub (sRes k) [(5, m2 / 2)]) d1
  | _, _ => d

/-- DELAY_REQ_PTP_SEND (R454, R455): the slot's next Delay_Req or Pdelay_Req. -/
def delayReqPtp (e : Env) (d : Dev) (k : Nat) : Dev :=
  let g := d.gn (sCfg k) 2
  let every := pow2Tt (d.gi (sCfg k) 6)
  let on := bit (d.gn 0x1340 1) k && d.ustate (uMg g) == .inService
  let n := ptpN e d (txStamp e d g)
  if !on then d
  else if d.gn (sCfg k) 4 = 1 then
    let x := d.peer g
    if e.raw < x.sentAt + every && x.sentAt ≠ 0 then d
    else
      let seq := (x.seq + 1) % 65536
      let m := ptpMsg d g k 2 0 0 seq 5 (d.gi (sCfg k) 6) (List.replicate 20 0)
      ptpSend (d.setPeer g { x with seq := seq, t1 := some n, resp := none, sentAt := e.raw }) g k true true m
  else
    let x := d.slot k
    if x.master.isNone || (e.raw < x.reqAt + every && x.reqAt ≠ 0) then d
    else
      let seq := (x.reqSeq + 1) % 65536
      let m := ptpMsg d g k 1 (if d.gb (sCfg k) 5 then 0x0400 else 0) 0 seq 1 0x7F (List.replicate 10 0)
      let d1 := d.setSlot k { x with reqSeq := seq, req := some (seq, n), reqAt := e.raw }
      if d.gb (sCfg k) 5 then ptpSendTo d1 g k ((masterFrom d k).take 6) ((masterFrom d k).drop 6) true m
      else ptpSend d1 g k false true m

/-- SYNC_TIMEOUT (R457). -/
def syncLost (e : Env) (d : Dev) (k : Nat) : Dev :=
  let x := d.slot k
  match x.syncAt with
  | none => d
  | some t =>
    if 2 ≤ d.gn (sRes k) 1 && t + d.gn (sCfg k) 8 * pow2Tt x.logSync ≤ e.raw then
      ptpUnlock e (d.setSlot k { x with syncAt := none, wait := none }) k 2 else d

/-- ANNOUNCE_TIMEOUT (R457): no Announce from the slot's master. -/
def announceLost (e : Env) (d : Dev) (k : Nat) : Dev :=
  let x := d.slot k
  match x.foreign.find? (fun f => x.master == some f.id) with
  | none => d
  | some f =>
    if f.at_ + d.gn (sCfg k) 7 * pow2Tt f.logInt ≤ e.raw then
      let d1 := (d.setSlot k { x with foreign := x.foreign.filter (fun q => q.id != f.id) }).incP (sRes k) 9
      ptpFollow e (ptpUnlock e d1 k 2) k
    else d

/-- The preferred slot (R458). -/
def ptpPreferred (d : Dev) : Nat :=
  match d.gn 0x1340 2 with
  | 0 => 0
  | 1 => 1
  | _ =>
    let best (k : Nat) : Option Foreign := (d.slot k).foreign.find? (fun f => (d.slot k).master == some f.id)
    match best 0, best 1 with
    | some a, some b => if setLt (b.set.take 6) (a.set.take 6) then 1 else 0
    | none, some _ => 1
    | _, none => 0

/-- SWITCH_HOLD_EXPIRED (R458). -/
def switchHold (e : Env) (d : Dev) : Dev :=
  let p := ptpPreferred d
  if ptpSelected d = some (1 - p) && slotLocked d p && (d.slot p).lockedAt + d.gn 0x1340 3 * 16000000000 ≤ e.raw then ptpMove e d p
  else d

/-- A write of PTP_ENABLE (R459, R467). -/
def ptpEnableWrite (e : Env) (d : Dev) (m : Master) (v : Int) : Dev :=
  d.asWrite m 0x1340 1 v fun d =>
    let n := v.toNat
    let old := d.gn 0x1340 1
    let d1 := d.put 0x1340 1 v
    let d2 := if n = 0 then askTu (d1.put 0x1340 4 255) .hold else d1
    let d3 := [0, 1].foldl (fun d k =>
      if bit old k && !bit n k then (ptpUnlock e d k 0).setSlot k {}
      else if !bit old k && bit n k then (d.setSlot k {}).pub (sRes k) [(1, 1)] else d) d2
    d3.ended m stOK

/-- A management port left IN_SERVICE for a state that takes no frames: its slots become UNLOCKED (R463). -/
def mgEnter (e : Env) (d : Dev) (g : Nat) (new : UState) : Dev :=
  if new == .off || new == .test then
    [0, 1].foldl (fun d k => if d.gn (sCfg k) 2 = g && 2 ≤ d.gn (sRes k) 1 then ptpUnlock e d k 2 else d) d
  else d

/-- Whether the rules of this chapter allow a write of a number (R451, R467). -/
def netWriteOk (d : Dev) (idx sub : Nat) (v : Int) : Bool :=
  if idx = 0x1341 || idx = 0x1342 then !bit (d.gn 0x1340 1) (idx - 0x1341)
  else if (idx = 0x1404 || idx = 0x1405) && (sub = 2 || sub = 6) then
    decide (16 ≤ v) && decide (v ≤ 4096) && popCount 16 v.toNat == 1
  else if (idx = 0x1400 || idx = 0x1401) && sub = 3 then decide (v < 281474976710656)
  else true

/-! ### Seconds pins (R461, R462) -/

/-- PPS_OUT_SECOND (R461): the edge at the ball lies at the second, moved by what PPS_OUT_LAT differs from the latency of the
characterised silicon, 48 tt, which is its default. -/
def ppsOut (e : Env) (d : Dev) : Dev :=
  let n := ptpN e d (nowA e d)
  let s := n / 16000000000
  if d.gb 0x1348 1 && (tuOf e d).state != .free && s ≠ d.net.ppsSec then
    let at_ := ((e.raw : Int) - n % 16000000000 + 48 - d.gi 0x1348 3).toNat
    let end_ := at_ + d.gn 0x1348 2
    (({ d with net := { d.net with ppsSec := s, ppsEnd := end_ } }).emit (.pin "PPS_OUT" 0 true at_)).emit
      (.pin "PPS_OUT" 0 false end_)
  else d

/-- PPS_OUT_EN cleared: the pin is low, and a pulse ends (R461). -/
def ppsFollow (e : Env) (d : Dev) : Dev :=
  if d.gb 0x1348 1 || d.net.ppsEnd ≤ e.raw then d
  else { d with net := { d.net with ppsEnd := 0 } }.emit (.pin "PPS_OUT" 0 false e.raw)

/-- PPS_IN_EDGE (R462). -/
def ppsIn (e : Env) (d : Dev) : Dev :=
  if !d.gb 0x1348 4 then d
  else
    let stamp := wrapU 64 ((stampA e d (ceilTo 16 e.raw) : Int) - d.gi 0x1348 5)
    let err := (ptpN e d stamp + 8000000000) % 16000000000 - 8000000000
    ((d.inc 0x1349 3).pub 0x1349 [(1, (stamp : Int)), (2, err)]).raise e 0x287 0

/-! ### Commands -/

/-- FRAME_RX (R450). -/
def execFrameRx (t g : Nat) (fcsOk : Bool) (b : List Byte) (s : State) : Host.Outcome State Fault Refusal :=
  mainStep (okMg g) t s fun e d => frameRx e d g fcsOk b

/-- TX_TAIL_WRITE (R451). -/
def execTxTailWrite (t : Nat) (m : Master) (g : Nat) (v : Int) (s : State) : Host.Outcome State Fault Refusal :=
  mainStep (masterOk m && okMg g) t s fun e d => txTailWrite e d m g v

/-- TS_POP (R453). -/
def execTsPop (t : Nat) (m : Master) (s : State) : Host.Outcome State Fault Refusal :=
  mainStep (masterOk m) t s fun _ d =>
    let (b, d1) := tsPop d
    { d1 with resp := { status := stOK, val := .blob b } }

/-- SYNC_RX (R456). -/
def execSyncRx (t g : Nat) (l2 : Bool) (msg : List Byte) (s : State) : Host.Outcome State Fault Refusal :=
  mainStep (okMg g) t s fun e d => syncRx e (ptpIgnored d g l2 msg) g l2 msg

/-- FOLLOW_UP_RX (R456). -/
def execFollowUpRx (t g : Nat) (l2 : Bool) (msg : List Byte) (s : State) : Host.Outcome State Fault Refusal :=
  mainStep (okMg g) t s fun e d => followUpRx e (ptpIgnored d g l2 msg) g l2 msg

/-- PTP_DELAY_RESP_RX (R456). -/
def execPtpDelayRespRx (t g : Nat) (l2 : Bool) (msg : List Byte) (s : State) : Host.Outcome State Fault Refusal :=
  mainStep (okMg g) t s fun _ d => ptpDelayResp (ptpIgnored d g l2 msg) g l2 msg

/-- ANNOUNCE_RX (R454). -/
def execAnnounceRx (t g : Nat) (way : PtpWay) (msg : List Byte) (s : State) : Host.Outcome State Fault Refusal :=
  mainStep (okMg g) t s fun e d => announceRx e d g way.l2 way.from_ msg

/-- PDELAY_REQ_RX (R455). -/
def execPdelayReqRx (t g : Nat) (l2 : Bool) (msg : List Byte) (s : State) : Host.Outcome State Fault Refusal :=
  mainStep (okMg g) t s fun e d => pdelayReq e (ptpIgnored d g l2 msg) g l2 msg

/-- PDELAY_RESP_RX (R456). -/
def execPdelayRespRx (t g : Nat) (l2 : Bool) (msg : List Byte) (s : State) : Host.Outcome State Fault Refusal :=
  mainStep (okMg g) t s fun e d => pdelayResp e (ptpIgnored d g l2 msg) g l2 msg

/-- PDELAY_RESP_FOLLOW_UP_RX (R456). -/
def execPdelayRespFollowUpRx (t g : Nat) (l2 : Bool) (msg : List Byte) (s : State) : Host.Outcome State Fault Refusal :=
  mainStep (okMg g) t s fun _ d => pdelayFollow (ptpIgnored d g l2 msg) g l2 msg

/-- DELAY_REQ_PTP_SEND (R454). -/
def execDelayReqPtpSend (t k : Nat) (s : State) : Host.Outcome State Fault Refusal :=
  mainStep (okSlot k) t s fun e d => delayReqPtp e d k

/-- SYNC_TIMEOUT (R457). -/
def execSyncTimeout (t k : Nat) (s : State) : Host.Outcome State Fault Refusal :=
  mainStep (okSlot k) t s fun e d => syncLost e d k

/-- ANNOUNCE_TIMEOUT (R457). -/
def execAnnounceTimeout (t k : Nat) (s : State) : Host.Outcome State Fault Refusal :=
  mainStep (okSlot k) t s fun e d => announceLost e d k

/-- SWITCH_HOLD_EXPIRED (R458). -/
def execSwitchHoldExpired (t : Nat) (s : State) : Host.Outcome State Fault Refusal :=
  mainStep true t s fun e d => switchHold e d

/-- PTP_ENABLE_WRITE (R459). -/
def execPtpEnableWrite (t : Nat) (m : Master) (v : Int) (s : State) : Host.Outcome State Fault Refusal :=
  mainStep (masterOk m) t s fun e d => ptpEnableWrite e d m v

/-- PPS_OUT_SECOND (R461). -/
def execPpsOutSecond (t : Nat) (s : State) : Host.Outcome State Fault Refusal :=
  mainStep true t s fun e d => ppsOut e d

/-- PPS_IN_EDGE (R462). -/
def execPpsInEdge (t : Nat) (s : State) : Host.Outcome State Fault Refusal :=
  mainStep true t s fun e d => ppsIn e d

/-- LINK_UP (R449). -/
def execLinkUp (t g speed : Nat) (s : State) : Host.Outcome State Fault Refusal :=
  mainStep (okMg g) t s fun e d => linkCameUp e d g speed

/-- LINK_DOWN (R449). -/
def execLinkDown (t g : Nat) (s : State) : Host.Outcome State Fault Refusal :=
  mainStep (okMg g) t s fun e d => linkWentDown e d g

end Sys2Proof.Machine
end

