-- ==== Sys2Proof/Machine/Cores.lean ====
section
/-! DEFINITION. What the cores share (chapter 21): the interrupt controller, mailboxes, doorbells and locks. -/

namespace Sys2Proof.Machine

/-- A read ended with a status and a value: MY_STATUS of its master (R498) and the response. -/
def Dev.readEnded (d : Dev) (m : Master) (st : Nat) (v : ObjVal) : Dev :=
  let r := { d.mrec m with notReady := st == stNotReady, denied := st == stDenied }
  { (d.setMrec m r) with resp := { status := st, val := v } }

/-! ### Mailboxes (R510 to R515) -/

/-- The identities of a mailbox's ends (R510, R511). -/
def mbEnd (d : Dev) (b side : Nat) : Nat :=
  if b = 31 && side = 0 then 17 else d.gn (0x1620 + b) (1 + side)

/-- A mailbox. -/
def Dev.mbox (d : Dev) (b : Nat) : Mbox := tabGet d.mboxes {} b

/-- The end that a master is, if it is one: an FDP session never is (R510). -/
def mbSide (d : Dev) (m : Master) (b : Nat) : Option Nat :=
  match m with
  | .fdp _ => none
  | _ => if masterId m = mbEnd d b 0 then some 0 else if masterId m = mbEnd d b 1 then some 1 else none

/-- The words on their way to an end. -/
def mbIn (d : Dev) (b side : Nat) : List Nat := if side = 0 then (d.mbox b).ba else (d.mbox b).ab

/-- The words on their way to an end, written. -/
def mbSetIn (d : Dev) (b side : Nat) (l : List Nat) : Dev :=
  { d with mboxes := tabSet d.mboxes b (if side = 0 then { d.mbox b with ba := l } else { d.mbox b with ab := l }) }

/-- MB_STATUS as it reads (R523). -/
def mbStatus (d : Dev) (b : Nat) : Nat :=
  let x := d.mbox b
  x.ab.length * 4096 + x.ba.length * 256 + b2n (x.ba.length == 8) * 2 + b2n (x.ab.length == 8)

/-- A SEND that is turned away (R511, R514): counted as a refused write and in MB_OVERFLOWS. -/
def mbRefuse (d : Dev) (m : Master) (b : Nat) : Dev := (d.inc (0x1620 + b) 6).reject m 0x1620

/-- A write of SEND (R512 to R515); `wake` commands a core that is OFF to IN_SERVICE. -/
def mbSend (wake : Env → Dev → Nat → Dev) (e : Env) (d : Dev) (m : Master) (b : Nat) (v : Int) : Dev :=
  if !ObjType.u32.holds v then d.badType m
  else
    match mbSide d m b with
    | none => d.ended m stDenied
    | some side =>
      let to_ := 1 - side
      if b = 31 && side = 1 then mbRefuse d m b
      else if (mbIn d b to_).length ≥ 8 then
        let d1 := (mbRefuse d m b).raise e 0x2A1 b
        { d1 with irqFlags := setBit d1.irqFlags 2 }
      else
        let d1 := (mbSetIn d b to_ (mbIn d b to_ ++ [v.toNat])).raise e 0x2A0 b
        let id := mbEnd d b to_
        let c := id % 8
        let d2 := if id < 16 && d1.ustate (0x100 + c) == .off && d1.gb (0x1618 + c) 2 then wake e d1 c else d1
        d2.ended m stOK

/-- A read of RECV (R512). -/
def mbRecv (d : Dev) (m : Master) (b : Nat) : Dev :=
  match mbSide d m b with
  | none => d.readEnded m stDenied (.num 0)
  | some side =>
    match mbIn d b side with
    | [] => d.readEnded m stOK (.num 0)
    | w :: r => (mbSetIn d b side r).readEnded m stOK (.num (w + 4294967296 : Nat))

/-- A write of END_A or END_B (R510): from the secure state, while both queues are empty, never the same identity twice,
and the metrology seam on mailbox 31 alone, where END_A is fixed. -/
def mbEndWrite (d : Dev) (m : Master) (b sub : Nat) (v : Int) : Dev :=
  if !isSecState m then d.ended m stDenied
  else
    let other := mbEnd d b (2 - sub)
    let x := d.mbox b
    if !x.ab.isEmpty || !x.ba.isEmpty || v.toNat = other || (v = 17 && !(b = 31 && sub = 1)) || (b = 31 && sub = 1 && v ≠ 17)
    then d.reject m 0x1620
    else (d.put (0x1620 + b) sub v).ended m stOK

/-! ### Doorbells (R516) -/

/-- The doorbells that are secure. -/
def dbSecure (d : Dev) : Nat := if d.gb 0x1608 4 then 0xFFFFFFFF00000000 else 0

/-- The doorbells that a master may ring, clear and read: over FDP the first half only. -/
def dbReach (d : Dev) (m : Master) : Nat :=
  match m with
  | .fdp _ => 0xFFFFFFFF
  | _ => if d.secureM m then 2 ^ 64 - 1 else 2 ^ 64 - 1 - dbSecure d

/-- DB_PENDING as it reads to a master. -/
def dbPending (d : Dev) (m : Master) : Nat :=
  d.gn 0x1608 2 &&& (if d.secureM m then 2 ^ 64 - 1 else 2 ^ 64 - 1 - dbSecure d)

/-- A write of DB_RING. -/
def dbRing (e : Env) (d : Dev) (m : Master) (v : Int) : Dev :=
  if !ObjType.u64.holds v then d.badType m
  else
    let may := match m with
      | .fdp _ => d.hasRole m .integrator
      | _ => d.hasRole m .service
    if !may then d.ended m stDenied
    else
      let bits := v.toNat &&& dbReach d m
      let old := d.gn 0x1608 2
      let d1 := (d.put 0x1608 2 (old ||| bits : Nat)).add 0x1608 3 (popCount 64 (old &&& bits))
      let d2 := match bitsOf 64 bits with
        | k :: _ => d1.raise e 0x2A2 k
        | [] => d1
      d2.ended m stOK

/-- A write of 1 to bits of DB_PENDING. -/
def dbClear (d : Dev) (m : Master) (v : Int) : Dev :=
  if !ObjType.u64.holds v then d.badType m
  else if !d.hasRole m .service then d.ended m stDenied
  else
    let old := d.gn 0x1608 2
    (d.put 0x1608 2 (old - (old &&& v.toNat &&& dbPending d m) : Nat)).ended m stOK

/-! ### Locks (R517 to R519) -/

/-- Whether a master has access to a lock (R517). -/
def lockAccess (d : Dev) (m : Master) (n : Nat) : Bool :=
  match m with
  | .fdp _ => false
  | _ => n < 96 || d.secureM m

/-- A read of a lock. -/
def lockRead (d : Dev) (m : Master) (n : Nat) : Dev :=
  if !lockAccess d m n then d.readEnded m stDenied (.num 0xFFFF)
  else
    match tabFind d.locks n with
    | none => ({ d with locks := tabSet d.locks n (masterId m + 1) }).readEnded m stOK (.num 0)
    | some o => d.readEnded m stOK (.num o)

/-- A write of a lock: 0 by its owner frees it, any other write is refused. -/
def lockWrite (d : Dev) (m : Master) (n : Nat) (v : Int) : Dev :=
  if !ObjType.u16.holds v then d.badType m
  else if !lockAccess d m n then d.ended m stDenied
  else if v = 0 && tabFind d.locks n = some (masterId m + 1) then ({ d with locks := tabErase d.locks n }).ended m stOK
  else d.reject m 0x1660

/-- Locks that are broken (R519): LOCKS_BROKEN and interrupt 163. -/
def locksBroken (d : Dev) (ns : List Nat) : Dev :=
  if ns.isEmpty then d
  else
    let d1 := d.add 0x1661 2 ns.length
    { d1 with locks := ns.foldl tabErase d1.locks, irqFlags := setBit d1.irqFlags 3 }

/-- Every lock of a core in either state freed. -/
def coreLocksFree (d : Dev) (c : Nat) : Dev :=
  locksBroken d ((d.locks.filter (fun p => p.2 == c + 1 || p.2 == c + 9)).map (·.1))

/-- A write of LOCK_BREAK. -/
def lockBreak (d : Dev) (m : Master) (v : Int) : Dev :=
  d.asWrite m 0x1661 1 v fun d =>
    (if (tabFind d.locks v.toNat).isSome then locksBroken d [v.toNat] else d).ended m stOK

/-! ### Interrupts (R506 to R508) -/

/-- INT_CFG of an interrupt as written. -/
def intCfg (d : Dev) (i : Nat) : Nat := d.gn (0x1640 + i / 128) (i % 128 + 1)

/-- Whether an identity is secure: the secure states of the cores, the unit firmware and the metrology seam. -/
def idSecure (id : Nat) : Bool := id < 8 || id == 16 || id == 17

/-- Whether an interrupt's condition holds, for its secure side or its non-secure one (R506). -/
def intPending (d : Dev) (i : Nat) (secure : Bool) : Bool :=
  if i < 64 then (d.task (0x100 + i)).work.isSome && secure == decide (32 ≤ i)
  else if i < 96 then
    [0, 1].any (fun side => !(mbIn d (i - 64) side).isEmpty && idSecure (mbEnd d (i - 64) side) == secure)
  else if i < 160 then bit (d.gn 0x1608 2) (i - 96) && secure == bit (dbSecure d) (i - 96)
  else if i < 164 then bit d.irqFlags (i - 160) && secure
  else false

/-- Whether an interrupt is secure to its configuration (R506, R522): a mailbox is as its ends. -/
def intSecure (d : Dev) (i : Nat) : Bool :=
  if i < 64 then decide (32 ≤ i)
  else if i < 96 then idSecure (mbEnd d (i - 64) 0) || idSecure (mbEnd d (i - 64) 1)
  else if i < 160 then bit (dbSecure d) (i - 96)
  else true

/-- INT_CFG as it reads (R522): ACTIVE and PENDING are live. -/
def intCfgRead (d : Dev) (i : Nat) : Nat :=
  let w := putBit (putBit (intCfg d i) 14 (tabFind d.irqActive i).isSome) 13 (intPending d i true || intPending d i false)
  w

/-- Whether an interrupt is enabled and targets a core (R507). -/
def intRouted (d : Dev) (c i : Nat) : Bool := bit (intCfg d i) 15 && bit (intCfg d i) c

/-- A core's secure or non-secure interrupt line (R507): a pending and enabled interrupt of that security targets it, and
its unit is IN_SERVICE. -/
def intLine (d : Dev) (c : Nat) (secure : Bool) : Bool :=
  d.inSvc (0x100 + c) && (List.range 164).any (fun i => intRouted d c i && intPending d i secure)

/-- Whether a core in a state may claim an interrupt (R508). -/
def intClaimable (d : Dev) (c : Nat) (secure : Bool) (i : Nat) : Bool :=
  intRouted d c i && (tabFind d.irqActive i).isNone && (intPending d i false || (secure && intPending d i true))

/-- The interrupt that a claim returns: the lowest PRIORITY value, then the lowest ID. -/
def intBest (d : Dev) (c : Nat) (secure : Bool) : Option Nat :=
  (List.range 164).foldl (fun b i =>
    if intClaimable d c secure i then
      match b with
      | none => some i
      | some j => if field (intCfg d i) 11 8 < field (intCfg d j) 11 8 then some i else b
    else b) none

/-- A read of INT_CLAIM (R508). -/
def intClaim (d : Dev) (m : Master) (c : Nat) : Dev :=
  match m with
  | .core k secure =>
    if k ≠ c then d.readEnded m stDenied (.num 0)
    else
      match intBest d c secure with
      | none => d.readEnded m stOK (.num 0xFFFF)
      | some i =>
        let d1 := { d with irqActive := tabSet d.irqActive i c }
        let d2 := if 160 ≤ i then { d1 with irqFlags := clrBit d1.irqFlags (i - 160) } else d1
        let d3 := match (d2.task (0x100 + i)).work with
          | some g => if i < 64 then (d2.put (0x1610 + c) 3 g.stamp).put (0x1610 + c) 4 g.data else d2
          | none => d2
        d3.readEnded m stOK (.num i)
  | _ => d.readEnded m stDenied (.num 0)

/-- A write of INT_COMPLETE (R508): a fabric input hands on its next held event (R364, R365). -/
def intComplete (h : TaskHook) (e : Env) (d : Dev) (m : Master) (c : Nat) (v : Int) : Dev :=
  if !ObjType.u16.holds v then d.badType m
  else
    match m with
    | .core k _ =>
      if k ≠ c then d.ended m stDenied
      else if tabFind d.irqActive v.toNat ≠ some c then d.reject m 0x1610
      else
        let d1 := { d with irqActive := tabErase d.irqActive v.toNat }
        (if v < 64 then taskFree h e d1 (0x100 + v.toNat) e.raw else d1).ended m stOK
    | _ => d.ended m stDenied

/-- A write of INT_CFG (R522). -/
def intCfgWrite (d : Dev) (m : Master) (i : Nat) (v : Int) : Dev :=
  let may := isSecState m || (!intSecure d i && (match m with | .core _ _ => true | _ => d.hasRole m .service))
  if may then (d.put (0x1640 + i / 128) (i % 128 + 1) (v.toNat &&& 0x8FFF : Nat)).ended m stOK else d.ended m stDenied

/-! ### Core power (R509) -/

/-- A core's unit has come up. -/
def coreUp (e : Env) (d : Dev) (c : Nat) : Dev := (d.inc (0x1618 + c) 3).raise e 0x2A3 c

/-- A core's unit has gone OFF: its locks are freed and its ACTIVE interrupts return to pending. -/
def coreDown (e : Env) (d : Dev) (c : Nat) : Dev :=
  let d1 := coreLocksFree d c
  ({ d1 with irqActive := d1.irqActive.filter (fun p => p.2 != c) }).raise e 0x2A4 c

/-! ### Commands -/

/-- MB_RECV (R512). -/
def execMbRecv (t : Nat) (m : Master) (b : Nat) (s : State) : Host.Outcome State Fault Refusal :=
  mainStep (masterOk m && okMbox b) t s fun _ d => mbRecv d m b

/-- DB_RING (R516). -/
def execDbRing (t : Nat) (m : Master) (v : Int) (s : State) : Host.Outcome State Fault Refusal :=
  mainStep (masterOk m) t s fun e d => dbRing e d m v

/-- DB_CLEAR (R516). -/
def execDbClear (t : Nat) (m : Master) (v : Int) (s : State) : Host.Outcome State Fault Refusal :=
  mainStep (masterOk m) t s fun _ d => dbClear d m v

/-- LOCK_ACQUIRE (R517). -/
def execLockAcquire (t : Nat) (m : Master) (n : Nat) (s : State) : Host.Outcome State Fault Refusal :=
  mainStep (masterOk m && okLock n) t s fun _ d => lockRead d m n

/-- LOCK_FREE (R517). -/
def execLockFree (t : Nat) (m : Master) (n : Nat) (v : Int) (s : State) : Host.Outcome State Fault Refusal :=
  mainStep (masterOk m && okLock n) t s fun _ d => lockWrite d m n v

/-- LOCK_BREAK (R519). -/
def execLockBreak (t : Nat) (m : Master) (v : Int) (s : State) : Host.Outcome State Fault Refusal :=
  mainStep (masterOk m) t s fun _ d => lockBreak d m v

/-- INT_CLAIM (R508). -/
def execIntClaim (t : Nat) (m : Master) (c : Nat) (s : State) : Host.Outcome State Fault Refusal :=
  mainStep (masterOk m && okCore c) t s fun _ d => intClaim d m c

end Sys2Proof.Machine
end

