-- ==== Sys2Proof/Machine/Monitor.lean ====
section
/-! DEFINITION. Monitors, temperature, and the rotation of the pipelines through their self-test (chapter 23): R548 to
R564. -/

namespace Sys2Proof.Machine

/-! ### Probes (R548) -/

/-- Whether PROBE names a probe that exists. -/
def probeOk (v : Nat) : Bool :=
  let n := v % 4096
  match v / 4096 with
  | 0 => n == 0
  | 1 => decide (n < 16)
  | 2 => n == 0
  | 3 => decide (n < 8)
  | 4 => decide (n < 24)
  | 5 => decide (n < 256)
  | 8 => decide (n ≤ 18) || (decide (32 ≤ n) && decide (n < 48))
  | 9 => decide (n < 144)
  | 10 => decide (n < 64)
  | 11 => decide (n < 16)
  | 12 => decide (n < 10)
  | _ => false

/-- The unit of a monitor, and the indices of its objects. -/
def uMon (k : Nat) : Nat := 0x070 + k
/-- Configuration of a monitor. -/
def mcIdx (k : Nat) : Nat := 0x1910 + k
/-- Results of a monitor. -/
def mrIdx (k : Nat) : Nat := 0x1930 + k

/-- A monitor's accumulators. -/
def Dev.mon (d : Dev) (k : Nat) : MonAcc := tabGet d.mons {} k
/-- A monitor's accumulators written. -/
def Dev.setMon (d : Dev) (k : Nat) (x : MonAcc) : Dev := { d with mons := tabSet d.mons k x }

/-! ### Windows (R550, R551) -/

/-- The histogram bin of a sample, and the linear bin before clamping where bins are linear (R550). -/
def monBin (log2 : Bool) (lo : Int) (bw : Nat) (x : Int) : Nat × Int :=
  if log2 then
    let v := x - lo
    (if v < bw then 0 else min 63 (flog2 (v.toNat / bw) + 1), 0)
  else
    let b := (x - lo) / (bw : Int)
    ((clampI 0 63 b).toNat, b)

/-- A sample taken into the accumulators (R550, R552). -/
def monTake (e : Env) (d : Dev) (k : Nat) (x : Int) : Dev :=
  let i := mcIdx k
  let a := d.mon k
  let lo := d.gi i 3
  let (b, lin) := monBin (d.gn i 2 == 1) lo (max 1 (d.gn i 4)) x
  let s := a.sum + x
  let s2 := clampI (-9223372036854775808) 9223372036854775807 s
  let h := padTo a.hist 64 0
  let n := nth h b 0
  let alarm := d.gb i 0x0A && (d.gi i 0x0B < x || x < d.gi i 0x0C)
  let a1 : MonAcc := { a with
    taken := a.taken + 1, count := a.count + 1, sum := s2, sumSat := a.sumSat || s != s2
    min := if a.count = 0 then x else Min.min a.min x
    max := if a.count = 0 then x else Max.max a.max x
    hist := h.set b (Min.min (n + 1) 4294967295), binSat := a.binSat || n == 4294967295
    under := a.under + b2n (x < lo), over_ := a.over_ + b2n (63 < lin)
    alarms := a.alarms + b2n alarm, alarmed := a.alarmed || alarm }
  let d1 := d.setMon k a1
  if alarm && !a.alarmed then d1.raise e 0x2C0 k else d1

/-- The window ends at a raw instant, with its stamp, and is published (R551). A unit in OFF publishes nothing (R553). -/
def monEndAt (e : Env) (d : Dev) (k at_ now : Nat) : Dev :=
  if d.ustate (uMon k) == .off then d
  else
    let a := d.mon k
    let i := mrIdx k
    let some_ := a.count ≠ 0
    let d1 := (d.putB i 9 ((padTo a.hist 64 0).flatMap (toLE 4))).pub i
      [(1, (a.start : Nat)), (2, (now : Nat)), (3, (a.count : Nat)), (4, a.sum), (5, if some_ then a.min else 0),
       (6, if some_ then a.max else 0), (7, (a.under % 4294967296 : Nat)), (8, (a.over_ % 4294967296 : Nat)),
       (0x0A, (a.skipped % 4294967296 : Nat)), (0x0B, (a.alarms % 4294967296 : Nat)),
       (0x0C, (b2n a.sumSat + 2 * b2n a.binSat : Nat))]
    let keep : MonAcc := if d.gb (mcIdx k) 8 then a else {}
    (d1.setMon k { keep with start := now, startRaw := at_, taken := 0, alarmed := false }).raise e 0x2C1 k

/-- The window ends now: PUBLISH, or a take at the capture task (R551). -/
def monPublish (e : Env) (d : Dev) (k : Nat) : Dev := monEndAt e d k e.raw (nowA e d)

/-- When WINDOW_MODE has ended the window by itself (R551): WINDOW_TIME after its beginning, or with its last sample taken;
none while it goes on. With WINDOW_COUNT = 0 no count ends it (DESIGN CHOICE, assumption log 124). -/
def monOver (e : Env) (d : Dev) (k : Nat) : Option Nat :=
  let i := mcIdx k
  let a := d.mon k
  let due := a.startRaw + d.gn i 6 * 16000
  match d.gn i 5 with
  | 1 => if due ≤ e.raw then some due else none
  | 2 => if 0 < d.gn i 7 && d.gn i 7 ≤ a.taken then some e.raw else none
  | _ => none

/-- A window that is over is published before the sample that follows it. -/
def monSettle (e : Env) (d : Dev) (k : Nat) : Dev :=
  match monOver e d k with
  | none => d
  | some at_ => monEndAt e d k at_ (if at_ = e.raw then nowA e d else stampA e d (edge16 at_))

/-- The sample of a probe whose value the device holds (R548): the horizontal EYE_MARGIN of a lane, a sensor's reading. The
other probes measure, and what they measure comes with the command. -/
def probeHeld (d : Dev) (probe : Nat) : Option Int :=
  let n := probe % 4096
  match probe / 4096 with
  | 9 => some (field (d.gn (laneRes n) 6) 15 8)
  | 11 => some (BitVec.ofNat 16 (leAt (d.gB 0x1950 1) (2 * n) 2)).toInt
  | _ => none

/-- The samples that a probe yields on one clock: the largest is taken, the rest count in SKIPPED (R549). A sample of PACE
also goes to the flow budget (R423). -/
def monSample (e : Env) (d : Dev) (k : Nat) (ys : List Int) : Dev :=
  let probe := d.gn (mcIdx k) 1
  match (if ys.isEmpty then [] else match probeHeld d probe with | some v => [v] | none => ys) with
  | [] => d
  | x :: r =>
    if probe / 4096 = 0 || !d.inSvc (uMon k) then d
    else
      let big := r.foldl Max.max x
      let d1 := monSettle e d k
      let d2 := d1.setMon k { d1.mon k with skipped := (d1.mon k).skipped + r.length }
      let d3 := monTake e d2 k big
      if probe / 4096 = 8 && probe % 4096 ≤ 16 then paceSample e d3 (probe % 4096) big.toNat else d3

/-- A write of TEST_FEED (R553): a sample in TEST. -/
def testFeed (e : Env) (d : Dev) (m : Master) (k : Nat) (v : Int) : Dev :=
  d.asWrite m (mcIdx k) 0x0D v fun d =>
    (if d.ustate (uMon k) == .test then monTake e (monSettle e d k) k v else d).ended m stOK

/-- A write of PUBLISH (R551). -/
def monPublishWrite (e : Env) (d : Dev) (m : Master) (k : Nat) (v : Int) : Dev :=
  d.asWrite m (mcIdx k) 9 v fun d => (if v = 1 then monPublish e d k else d).ended m stOK

/-- A monitor has left OFF: a window begins. -/
def monEnter (e : Env) (d : Dev) (k : Nat) : Dev := d.setMon k { start := nowA e d, startRaw := e.raw }

/-! ### Temperature (R554, R577) -/

/-- The sensors read (R554). -/
def tempRead (e : Env) (d : Dev) (temps : List Int) : Dev :=
  let warn := d.gi 0x1951 1
  let hyst := d.gi 0x1951 2
  let old := d.gn 0x1950 3
  let step (d : Dev) (k : Nat) : Dev :=
    let x := nth temps k 0
    let w := d.gn 0x1950 3
    if warn ≤ x then d.put 0x1950 3 (setBit w k)
    else if x < warn - hyst then d.put 0x1950 3 (clrBit w k) else d
  let d1 := (List.range 16).foldl step d
  let new := d1.gn 0x1950 3
  let hot := temps.foldl Max.max (nth temps 0 0)
  let d2 := (d1.putB 0x1950 1 (temps.flatMap (fun x => toLE 2 (wrapU 16 x)))).pub 0x1950 [(2, hot)]
  let d3 := ((List.range 16).filter (fun k => bit new k && !bit old k)).foldl (fun d k => d.raise e 0x2C2 k) d2
  let trip (t : Tab Nat) (k : Nat) : Tab Nat :=
    if 2160 ≤ nth temps k 0 then (match tabFind t k with | some _ => t | none => tabSet t k e.raw) else tabErase t k
  let p := { d3.pow with hot := (List.range 16).foldl trip d3.pow.hot }
  let cool := p.coolWait && p.boot == .step 1 && temps.all (fun x => x < warn)
  { d3 with pow := if cool then { p with coolWait := false, boot := .step 2 } else p }

/-! ### Rotation (R555 to R558) -/

/-- ROT_STATE and ROT_PIPE follow the rotation. -/
def rotShow (d : Dev) : Dev := (d.put 0x1960 5 d.rot.state).put 0x1960 6 d.rot.pipe

/-- The rotation written. -/
def setRot (d : Dev) (r : Rot) : Dev := rotShow { d with rot := r }

/-- Whether a step owns a pipeline or the spare (R557). -/
def rotOwns (d : Dev) (u : Nat) : Bool :=
  1 ≤ d.rot.state && d.rot.state ≤ 4 && (u == uPipe 16 || u == uPipe d.rot.pipe)

/-- The result group of a pipeline. -/
def pipeRes (k : Nat) : Nat := 0x1970 + k

/-- A pipeline starts its self-test in TEST (R556). -/
def bistStart (d : Dev) (k : Nat) : Dev :=
  { d with rot := { d.rot with bist := d.rot.bist.filter (fun x => x != k) ++ [k] } }

/-- A step is over: the next pipeline in ascending order, round after round. -/
def rotEnd (d : Dev) (n : Nat) : Dev :=
  let d1 := if n = 15 then d.inc 0x1960 7 else d
  let r := d1.rot
  setRot d1 { next := (n + 1) % 16, at_ := r.at_, bist := r.bist }

/-- A step starts on the next pipeline (R557), or waits: for the spare and its pace, and while a pipeline that does not serve
its IN_SERVICE port as IN_SERVICE would take the port's lines with it into TEST (DESIGN CHOICE, assumption log 124). -/
def rotBegin (e : Env) (d : Dev) : Dev :=
  let n := d.rot.next
  let r := d.rot
  let wait : Dev := { d with rot := { r with wanted := true } }
  if d.inSvc (uPort n) then
    if d.inSvc (uPipe n) && d.ustate (uPipe 16) == .off && demandOf e d n * (100 + d.gn 0x1800 1) ≤ tabGet d.paces 0 16 * 100 then
      setRot d { next := n, bist := r.bist, at_ := e.raw, state := 1, pipe := n, pending := 1 }
    else wait
  else
    let d1 := setRot d { next := n, bist := r.bist, at_ := e.raw, state := 2, pipe := n, back := d.ustate (uPipe n) }
    bistStart (unitMove e d1 (uPipe n) .test) n

/-- Whether the rotation is idle and has not stopped. -/
def rotFree (d : Dev) : Bool := d.rot.state == 0

/-- ROT_STEP_START (R557): every ROT_INTERVAL, or as soon as a step that waits may start. -/
def rotStep (e : Env) (d : Dev) (pace : Nat) : Dev :=
  let d1 := paceSample e d 16 pace
  if rotFree d1 && (d1.rot.wanted || (d1.gb 0x1960 1 && d1.rot.at_ + d1.gn 0x1960 2 * 16000000000 ≤ e.raw)) then rotBegin e d1
  else d1

/-- A pipeline takes a port over: TAKEOVERS. -/
def takeover (d : Dev) (k : Nat) : Dev := d.incP (pipeRes k) 7

/-- The spare goes OFF and pipeline `n` follows its port (R557). -/
def rotAbort (e : Env) (d : Dev) : Dev :=
  let n := d.rot.pipe
  if 1 ≤ d.rot.state && d.rot.state ≤ 4 then
    let was := d.rot.serves == some n
    let d1 := { d with rot := { d.rot with serves := none, shadow := none, bist := d.rot.bist.filter (fun k => k != n && k != 16) } }
    let idle := !was && d.rot.state = 2
    let st := if idle then d.rot.back else d.ustate (uPort n)
    let d2 := unitMove e d1 (uPipe n) st
    let d3 := unitMove e d2 (uPipe 16) .off
    rotEnd (if was then takeover d3 n else d3) n
  else d

/-- A port left IN_SERVICE (R557). -/
def rotPortMoved (e : Env) (d : Dev) (p : Nat) : Dev :=
  if d.rot.pipe = p && !d.inSvc (uPort p) && (d.rot.serves == some p || d.rot.shadow.isSome || d.rot.pending ≠ 0 || d.rot.state = 4)
  then rotAbort e d else d

/-- The self-test of the tested pipeline failed, or phase 3 differed twice (R558). -/
def rotDeploy (e : Env) (d : Dev) (n : Nat) : Dev :=
  let r := d.rot
  let d1 := setRot d { r with state := 5, shadow := none, pending := 0, retry := false, disagree := false }
  (unitMove e d1 (uPipe n) .off).raise e 0x2C6 n

/-- A line of a port is being committed, behind those that wait in ingress: the change of serving pipeline that waits for it
takes place (R557). -/
def rotLine (e : Env) (d : Dev) (p : Nat) : Dev :=
  let r := d.rot
  if r.pipe ≠ p || r.pending = 0 then d
  else
    let ahead := (d.pt p).ingress.length
    let d0 := { d with rot := { r with pending := 0, compared := 0, ahead := ahead } }
    match r.pending with
    | 1 => unitMove e (setRot d0 { d0.rot with shadow := some (16, p), state := 1 }) (uPipe 16) .shadow
    | 2 =>
      let d1 := unitMove e d0 (uPipe 16) .inService
      let d2 := setRot d1 { d1.rot with serves := some p, shadow := none, state := 2 }
      bistStart (unitMove e (takeover d2 16) (uPipe p) .test) p
    | 3 =>
      let d1 := setRot d0 { d0.rot with shadow := some (p, 16), state := 3 }
      unitMove e d1 (uPipe p) .shadow
    | 4 =>
      let d1 := unitMove e d0 (uPipe p) .inService
      let d2 := unitMove e { d1 with rot := { d1.rot with serves := none, shadow := none } } (uPipe 16) .off
      let d3 := (takeover d2 p).raise e 0x2C3 p
      let u := d3.unit (uPipe p)
      let d4 := if u.cmd.isSome then d3.setUnit (uPipe p) { u with cmd := none, status := .done } else d3
      rotEnd d4 p
    | _ =>
      let d1 := unitMove e d0 (uPipe p) .inService
      let d2 := unitMove e { d1 with rot := { d1.rot with serves := none, shadow := none } } (uPipe 16) .off
      rotEnd (takeover d2 p) p

/-- ROT_CMD = 2 (R563): a step that has given the port to the spare hands it back at the next committed line. -/
def rotAbortCmd (e : Env) (d : Dev) : Dev :=
  let n := d.rot.pipe
  if 1 ≤ d.rot.state && d.rot.state ≤ 4 then
    if d.rot.serves = some n && d.inSvc (uPort n) then
      { d with rot := { d.rot with pending := 5, shadow := none, bist := d.rot.bist.filter (fun k => k != n) } }
    else rotAbort e d
  else { d with rot := { d.rot with wanted := false } }

/-- A line that two pipelines completed, or that the shadowing one skipped (R416, R555, R558): `diff` is the first
differing column, 0xFFFF for runs or statistics. -/
def rotCompare (e : Env) (d : Dev) (p : Nat) (ln : CamLine) (skip : Bool) (diff : Option Nat) : Dev :=
  let r := d.rot
  match r.shadow with
  | none => d
  | some (a, b) =>
    if r.pipe ≠ p || r.pending ≠ 0 then d
    else if 0 < r.ahead then { d with rot := { r with ahead := r.ahead - 1 } }
    else if skip then d.incP (qIdx p) 9
    else
      let d1 := (d.incP (pipeRes a) 5).incP (pipeRes b) 5
      match diff with
      | none =>
        let n := r.compared + 1
        let over_ := d1.gn 0x1960 3 ≤ n
        { d1 with rot := { r with compared := n, pending := if over_ then (if r.state = 1 then 2 else 4) else 0 } }
      | some col =>
        let entry : Mismatch := { stamp := nowA e d, line := ln.line, pipe := p, phase := r.state, col := col % 65536 }
        let d2 := { d1 with mismatches := (entry :: d1.mismatches).take 16 }
        let d3 := (((d2.incP (pipeRes a) 6).incP (pipeRes b) 6)).raise e 0x2C4 p
        if r.state = 1 then
          bistStart (unitMove e (setRot d3 { r with state := 4, shadow := none, disagree := true }) (uPipe 16) .test) 16
        else if r.retry then rotDeploy e d3 p
        else bistStart (unitMove e (setRot d3 { r with state := 2, shadow := none, retry := true }) (uPipe p) .test) p

/-- MISMATCH_LOG as bytes (R563). -/
def mismatchBytes (d : Dev) : List Byte :=
  padTo (d.mismatches.flatMap (fun x =>
    toLE 8 x.stamp ++ toLE 4 x.line ++ [BitVec.ofNat 8 x.pipe, BitVec.ofNat 8 x.phase] ++ toLE 2 x.col)) 256 0

/-- BIST_DONE (R556, R558). -/
def bistDone (e : Env) (d : Dev) (k : Nat) (pass : Bool) : Dev :=
  if !d.rot.bist.contains k then d
  else
    let d0 := { d with rot := { d.rot with bist := d.rot.bist.filter (fun x => x != k) } }
    let i := pipeRes k
    let d1 := (((d0.put i 1 (if pass then 1 else 2)).put i 2 (nowA e d)).inc i 3).publish i
    let d2 := if pass then d1 else (d1.inc i 4).raise e 0x2C5 k
    let r := d2.rot
    if k = 16 then
      if r.state = 4 then
        if pass then { d2 with rot := { r with pending := 2 } }
        else unitMove e (setRot d2 { r with state := 6, shadow := none, disagree := false }) (uPipe 16) .off
      else d2
    else if r.pipe = k && r.state = 2 then
      if r.serves = some k then
        if pass then
          let d3 := if r.disagree then d2.inc 0x1960 8 else d2
          { d3 with rot := { d3.rot with pending := 3, disagree := false } }
        else rotDeploy e d2 k
      else rotEnd ((unitMove e d2 (uPipe k) r.back).raise e 0x2C3 k) k
    else if r.pipe = k && r.state = 5 then
      let u := d2.unit (uPipe k)
      if u.cmd.isNone then d2
      else if pass then { d2 with rot := { r with pending := 3, retry := false } }
      else
        let d3 := d2.setUnit (uPipe k) { u with cmd := none, status := .refused, cause := 2 }
        unitMove e d3 (uPipe k) .off
    else d2

/-! ### Commands -/

/-- MON_SAMPLE (R550). -/
def execMonSample (t k : Nat) (xs : List Int) (s : State) : Host.Outcome State Fault Refusal :=
  mainStep (okMbox k) t s fun e d => monSample e d k xs

/-- MON_WINDOW_END (R551). -/
def execMonWindowEnd (t k : Nat) (s : State) : Host.Outcome State Fault Refusal :=
  mainStep (okMbox k) t s fun e d => monSettle e d k

/-- MON_PUBLISH_WRITE (R551). -/
def execMonPublishWrite (t : Nat) (m : Master) (k : Nat) (v : Int) (s : State) : Host.Outcome State Fault Refusal :=
  mainStep (masterOk m && okMbox k) t s fun e d => monPublishWrite e d m k v

/-- TEST_FEED (R553). -/
def execTestFeed (t : Nat) (m : Master) (k : Nat) (v : Int) (s : State) : Host.Outcome State Fault Refusal :=
  mainStep (masterOk m && okMbox k) t s fun e d => testFeed e d m k v

/-- TEMP_READ (R554): the readings of the 16 sensors. -/
def execTempRead (t : Nat) (temps : List Int) (s : State) : Host.Outcome State Fault Refusal :=
  mainStep (temps.length == 16) t s fun e d => tempRead e d temps

/-- ROT_STEP_START (R557). -/
def execRotStepStart (t pace : Nat) (s : State) : Host.Outcome State Fault Refusal :=
  mainStep true t s fun e d => rotStep e d pace

/-- ROT_CMD_START (R563). -/
def execRotCmdStart (t : Nat) (m : Master) (s : State) : Host.Outcome State Fault Refusal :=
  mainStep (masterOk m) t s fun e d =>
    d.asWrite m 0x1960 4 1 fun d => (if rotFree d then rotBegin e d else d).ended m stOK

/-- ROT_CMD_ABORT (R563). -/
def execRotCmdAbort (t : Nat) (m : Master) (s : State) : Host.Outcome State Fault Refusal :=
  mainStep (masterOk m) t s fun e d => d.asWrite m 0x1960 4 2 fun d => (rotAbortCmd e d).ended m stOK

/-- BIST_DONE (R556). -/
def execBistDone (t k : Nat) (pass : Bool) (s : State) : Host.Outcome State Fault Refusal :=
  mainStep (okPipe k) t s fun e d => bistDone e d k pass

end Sys2Proof.Machine
end

