-- ==== Sys2Proof/Machine/Power.lean ====
section
/-! DEFINITION. The pace governor and its bus, and the heartbeat INSPECT_OK with its watchdog (chapter 24). -/

namespace Sys2Proof.Machine

/-! ### The governor (R570, R571) -/

/-- Whether the governor runs: boot has started it, in step 3, and nothing but failed memory halted boot since (R580). -/
def govRuns (d : Dev) : Bool :=
  match d.pow.boot with
  | .step n => decide (4 ≤ n)
  | .halted => d.gn 0x1230 4 == 3
  | .recovery _ => false

/-- The active stages, by their PACE instances (R548, R570). -/
def govStages (e : Env) (d : Dev) : List Nat :=
  (List.range 16).filter (fun p => d.inSvc (uPort p) && servedBy d p == p && portServed d p e.raw) ++
  (if d.rot.serves.isSome || d.rot.shadow.any (fun x => x.1 == 16) then [16] else []) ++
  (if d.inSvc 0x00A then [17] else []) ++ (if d.inSvc 0x00B then [18] else []) ++
  ((List.range 16).filter (fun s => d.inSvc (0x050 + s))).map (32 + ·)

/-- Samples per second times 2^16 that a port asks of its pipeline (R419). -/
def portDemand16 (e : Env) (d : Dev) (p : Nat) : Nat :=
  if d.inSvc (uPort p) then d.gn (0x2020 + 0x100 * p) 1 * planeCount d p * lineRate16 e d p else 0

/-- Raster planes times the highest commanded line rate, times 2^16 (R419). -/
def rasterRate16 (e : Env) (d : Dev) : Nat :=
  (rasterPlanes d).length * maxN (((List.range 16).filter (fun p => d.inSvc (uPort p))).map (lineRate16 e d))

/-- The demand of a stage in samples per second times 2^16 (R419): the spare's is that of the port it serves or of the
pipeline it shadows, the resampler's the sum over the ports (DESIGN CHOICE, assumption log 97), a slice's that of its columns. -/
def stageDemand16 (e : Env) (d : Dev) (s : Nat) : Nat :=
  if s < 16 then portDemand16 e d s
  else if s = 16 then
    match d.rot.serves with
    | some p => portDemand16 e d p
    | none => match d.rot.shadow with | some (_, k) => portDemand16 e d k | none => 0
  else if s = 17 then sumN ((List.range 16).map (portDemand16 e d))
  else if s = 18 then d.gn 0x1B00 1 * rasterRate16 e d
  else (let (a, b) := sliceSpan d (s - 32); (b - a) * rasterRate16 e d)

/-- r of a stage in Q4.12: its pace in Msample/s over its demand with PACE_MARGIN (R570), none without a demand. -/
def stageRatio (d : Dev) (pace demand : Nat) : Option Nat :=
  if demand = 0 then none else some (pace * 65536000000 * 100 * 4096 / (demand * (100 + d.gn 0x1800 1)))

/-- The least ratio with its stage, over stages with a sample in the period. -/
def leastRatio : List (Nat × Option Nat) → Option (Nat × Nat)
  | [] => none
  | (_, none) :: r => leastRatio r
  | (s, some x) :: r =>
    match leastRatio r with
    | some (s2, y) => if y < x then some (s2, y) else some (s, x)
    | none => some (s, x)

/-- The next command of the governor with the instant from which r has given headroom since (R570): `rose` says that a
demand rose by more than 5 %, `r` is the least ratio, none while no stage has a demand. -/
def govNext (e : Env) (d : Dev) (active rose : Bool) (r : Option Nat) : Nat × Option Nat :=
  let p := d.pow
  let vmin := d.gn 0x1200 2
  let vmax := d.gn 0x1200 3
  let good := match r with | none => true | some x => decide (4096 * (100 + d.gn 0x1200 7) ≤ 100 * x)
  let since := if good then some (p.goodSince.getD e.raw) else none
  if !d.gb 0x1200 1 then (vmax, none)
  else if !active then (vmin, none)
  else if rose then (vmax, none)
  else if r.any (fun x => x < 4096) then (min (p.vcmd + d.gn 0x1200 5) vmax, none)
  else
    match since with
    | some s =>
      if s + d.gn 0x1200 8 * 16000000 ≤ e.raw then (max (p.vcmd - d.gn 0x1200 6) vmin, some e.raw) else (p.vcmd, since)
    | none => (p.vcmd, none)

/-- AVS_FAULT is set and offered (R571, R584). -/
def avsFault (e : Env) (d : Dev) : Dev := ((d.setFlag 0x1201 6 0).publish 0x1201).raise e 0x2F0 0

/-- VDD_CORE as the SUPPLY probe reads it: 30 mV below the command for 1 ms is an AVS_FAULT, once (R571); never
where the bus is unused (R595). -/
def supplyWatch (e : Env) (d : Dev) (mv : Nat) : Dev :=
  let p := d.pow
  if p.avsOff then d
  else if mv + 30 < p.vcmd then
    match p.lowSince with
    | none => { d with pow := { p with lowSince := some (e.raw, false) } }
    | some (s, told) =>
      if s + 16000000 ≤ e.raw && !told then avsFault e { d with pow := { p with lowSince := some (s, true) } } else d
  else { d with pow := { p with lowSince := none } }

/-- A period of the governor (R570): the lowest PACE sample of each stage in the period, VDD_CORE as measured, and whether
the regulator reported the last command as reached before the period began. -/
def govPeriod (e : Env) (d0 : Dev) (paces : List (Nat × Nat)) (mv : Nat) (reached : Bool) : Dev :=
  if !govRuns d0 then d0
  else
    let d1 := supplyWatch e d0 mv
    if !(d1.pow.reached || reached) then d1
    else
      let stages := govStages e d1
      let d2 := stages.foldl (fun (d : Dev) (s : Nat) =>
        match paces.find? (fun x => x.1 == s) with
        | some x => if s < 17 then paceSample e d s x.2 else d
        | none => d) d1
      let dem := stages.map (fun s => (s, stageDemand16 e d2 s))
      let rose := dem.any (fun x => tabGet d2.pow.lastDemand 0 x.1 * 105 < x.2 * 100)
      let ratios : List (Nat × Option Nat) := dem.map (fun x =>
        (x.1, match paces.find? (fun q => q.1 == x.1) with
          | some q => stageRatio d2 q.2 x.2
          | none => none))
      let least := leastRatio ratios
      let (v, since) := govNext e d2 (!stages.isEmpty) rose (least.map (·.2))
      let p := { d2.pow with vcmd := v, reached := v == d2.pow.vcmd, goodSince := since, lastDemand := dem }
      let d3 := { d2 with pow := p }
      let flags := putBit (d3.gn 0x1201 6) 1 (v == d3.gn 0x1200 3)
      let d4 := d3.pub 0x1201 [(1, (v : Nat)), (2, (mv % 65536 : Nat)),
        (3, (min ((least.map (·.2)).getD 65535) 65535 : Nat)), (4, ((least.map (·.1)).getD 0 : Nat)), (6, (flags : Nat))]
      if d4.pow.avsOff then d4 else d4.emit (.avs v)

/-- A transaction on AVSBus ends (R571): a failure is counted and tried again up to three times; the fourth in a row is an
AVS_FAULT. -/
def avsDone (e : Env) (d : Dev) (ok : Bool) : Dev :=
  if !govRuns d || d.pow.avsOff then d
  else if ok then { d with pow := { d.pow with avsFails := 0 } }
  else
    let n := d.pow.avsFails + 1
    let d1 := d.incP 0x1201 5
    if n < 4 then ({ d1 with pow := { d1.pow with avsFails := n } }).emit (.avs d1.pow.vcmd)
    else avsFault e { d1 with pow := { d1.pow with avsFails := 0 } }

/-! ### The heartbeat (R22, R575, R576) -/

/-- A line boundary of R22: INSPECT_OK starts with a rising edge where every condition holds, and stops where one ended.
INSPECT_TIME takes the first edge after a reset. -/
def heartLine (e : Env) (d : Dev) : Dev :=
  let ok := inspectValid d && !d.pow.wdogMissed
  if d.pow.inspecting then (if ok then d else heartStop e d)
  else if ok then
    let d1 := if d.pow.firstEdge then d else d.put 0x1218 5 (nowA e d : Nat)
    let d2 := { d1 with pow := { d1.pow with inspecting := true, beat := e.raw, firstEdge := true } }
    ((d2.put 0x1218 1 1).emit (.pin "INSPECT_OK" 0 true e.raw)).raise e 0x2F2 0
  else d

/-- The watchdog is satisfied from this instant on. -/
def wdogKick (e : Env) (d : Dev) : Dev := { d with pow := { d.pow with kickAt := e.raw, wdogMissed := false } }

/-- A write of INSPECT_KICK (R576). -/
def inspectKick (e : Env) (d : Dev) (m : Master) (v : Int) : Dev :=
  d.asWrite m 0x1218 3 v fun d => (if v = 1 then wdogKick e d else d).ended m stOK

/-- A write of INSPECT_WDOG_TIME (R576): a value other than 0 is a kick, 0 satisfies the watchdog. -/
def inspectWdogTimeWrite (e : Env) (d : Dev) (m : Master) (v : Int) : Dev :=
  d.asWrite m 0x1218 2 v fun d => (wdogKick e (d.put 0x1218 2 v)).ended m stOK

/-- The instant at which the watchdog's interval ends (R576). -/
def wdogDue (d : Dev) : Nat := d.pow.kickAt + d.gn 0x1218 2 * 16000000

/-- An interval passes without a kick (R576): the toggling stops, and the loss counts once. -/
def inspectWdogExpired (e : Env) (d : Dev) : Dev :=
  if d.gn 0x1218 2 = 0 || d.pow.wdogMissed || e.raw < wdogDue d then d
  else
    heartStop e ({ d with pow := { d.pow with wdogMissed := true } }.inc 0x1218 4)

/-! ### The commands -/

/-- GOV_PERIOD (R570). -/
def execGovPeriod (t : Nat) (paces : List (Nat × Nat)) (mv : Nat) (reached : Bool) (s : State) :
    Host.Outcome State Fault Refusal :=
  mainStep true t s fun e d => govPeriod e d paces mv reached

/-- AVS_TRANSACTION_DONE (R571). -/
def execAvsTransactionDone (t : Nat) (ok : Bool) (s : State) : Host.Outcome State Fault Refusal :=
  mainStep true t s fun e d => avsDone e d ok

/-- INSPECT_KICK (R576). -/
def execInspectKick (t : Nat) (m : Master) (v : Int) (s : State) : Host.Outcome State Fault Refusal :=
  mainStep (masterOk m) t s fun e d => inspectKick e d m v

/-- INSPECT_WDOG_TIME_WRITE (R576). -/
def execInspectWdogTimeWrite (t : Nat) (m : Master) (v : Int) (s : State) : Host.Outcome State Fault Refusal :=
  mainStep (masterOk m) t s fun e d => inspectWdogTimeWrite e d m v

/-- INSPECT_WDOG_EXPIRED (R576). -/
def execInspectWdogExpired (t : Nat) (s : State) : Host.Outcome State Fault Refusal :=
  mainStep true t s fun e d => inspectWdogExpired e d

end Sys2Proof.Machine
end

