-- ==== Sys2Proof/Machine/Units.lean ====
section
/-! DEFINITION. The unit tree (R21, R485 to R489): its shape, the entry conditions of the chapters, commands and their
steps, and what each chapter does when its unit enters a state. -/

namespace Sys2Proof.Machine

/-! ### What the chapters do for the stitcher and for the lanes -/

/-- What follows a raster line, a side's loss and the packets of a side (R225 to R228). -/
def stitchHooks : StitchHooks where
  onRaster := fun e d r => compRaster e d r
  onSideLost := fun e d s => settleAdvance e (trackSideLost d s) false
  onContinue := fun e d s b => continueRx e d s b
  onSettle := fun e d s b => settleRx e d s b

/-- What follows a group's release, from a link that was not up or after a stop of its stream, and its stop: camera bring-up (R131)
and the packet in progress (R86), or the side's link (R226, R227). -/
def laneHooks : LaneHooks where
  onUp := fun e d g wasUp =>
    if g < 16 then (if wasUp then d else camStart e d g) else if g < 18 then nbLinkUp stitchHooks e d (g - 16) else d
  onStop := fun e d g =>
    if g < 16 then rewindOpen e d g else if g < 18 then nbLinkDown stitchHooks e d (g - 16) else d

/-! ### The tree (R21) -/

/-- PARENT of a unit, none for the device. -/
def parentOf (u : Nat) : Option Nat :=
  if u = 0 then none
  else if 0x100 ≤ u && u < 0x108 then some 0x004
  else if 0x280 ≤ u && u < 0x290 then some 0x008
  else if 0x050 ≤ u && u < 0x060 then some 0x00C
  else if 0x060 ≤ u && u < 0x068 then some 0x00F
  else if 0x200 ≤ u && u < 0x280 then some (0x010 + (u - 0x200) / 8)
  else if 0x068 ≤ u && u < 0x06C then some 0x031
  else if 0x0F0 ≤ u && u < 0x0FC then some 0x032
  else if 0x070 ≤ u && u < 0x090 then some 0x033
  else if (0x06C ≤ u && u < 0x070) || (0x090 ≤ u && u < 0x0F0) then some 0x034
  else if 0x290 ≤ u && u < 0x2F0 then some (0x0F0 + (u - 0x290) / 8)
  else some 0

/-- `n` numbers from `a` on. -/
def span (a n : Nat) : List Nat := (List.range n).map (a + ·)

/-- MEMBERS of a unit in member order, ascending. -/
def membersOf (u : Nat) : List Nat :=
  if u = 0 then span 1 0x34
  else if u = 0x004 then span 0x100 8
  else if u = 0x008 then span 0x280 16
  else if u = 0x00C then span 0x050 16
  else if u = 0x00F then span 0x060 8
  else if 0x010 ≤ u && u < 0x020 then span (0x200 + 8 * (u - 0x010)) 8
  else if u = 0x031 then span 0x068 4
  else if u = 0x032 then span 0x0F0 12
  else if u = 0x033 then span 0x070 32
  else if u = 0x034 then span 0x06C 4 ++ span 0x090 96
  else if 0x0F0 ≤ u && u < 0x0FC then span (0x290 + 8 * (u - 0x0F0)) 8
  else []

/-- The ancestors of a unit. -/
def ancestors (u : Nat) : List Nat :=
  match parentOf u with
  | none => []
  | some a => match parentOf a with
    | none => [a]
    | some b => match parentOf b with
      | none => [a, b]
      | some c => [a, b, c]

/-- ALLOWED of a unit (R421, R444, R463, R509, R553; every state where its chapter names none). -/
def allowedOf (u : Nat) : Nat :=
  if u = 0x004 then 0x02
  else if u = 0x003 || u = 0x032 || (0x100 ≤ u && u < 0x108) then 0x03
  else if u = 0x005 || u = 0x006 || u = 0x033 || (0x070 ≤ u && u < 0x090) then 0x0B
  else if 0x0F0 ≤ u && u < 0x0FC then 0x02
  else 0x1F

/-- Members that their own chapters move (R487): lanes, rank-channels, the spare pipeline; and the groups of the memory, which
take no state but IN_SERVICE (R401), so that a RESET of 0x032 can take place (R392; DEDUCED, assumption log 125). -/
def movesItself (u : Nat) : Bool := u == 0x030 || 0x200 ≤ u || (0x0F0 ≤ u && u < 0x0FC)

/-- The members of a unit that a command to it reaches (R487). -/
def reachedOf (u : Nat) : List Nat :=
  (membersOf u).filter (fun x => !movesItself x && !(u == 0 && ((4 ≤ x && x ≤ 7) || x == 0x032)))

/-- The units that a command reaches with their depth (R487). -/
def reach (u : Nat) : List (Nat × Nat) :=
  (0, u) :: (reachedOf u).flatMap (fun a =>
    (1, a) :: (if u = 0 then (reachedOf a).map (fun b => (2, b)) else []))

/-- The order of the steps (R487): members before the group, deepest first, for IN_SERVICE; else the group first and its
members in reverse order, deepest last. -/
def stepOrder (up : Bool) (l : List (Nat × Nat)) : List Nat :=
  let at_ (k : Nat) : List Nat := (l.filter (fun x => x.1 == k)).map (·.2)
  if up then at_ 2 ++ at_ 1 ++ at_ 0 else at_ 0 ++ (at_ 1).reverse ++ (at_ 2).reverse

/-- The code of a state (R485). -/
def stateCode : UState → Nat
  | .off => 0 | .inService => 1 | .shadow => 2 | .test => 3 | .bypass => 4

/-- The state of a code. -/
def stateOf : Nat → UState
  | 0 => .off | 1 => .inService | 2 => .shadow | 3 => .test | _ => .bypass

/-! ### Entry conditions of the chapters (R486) -/

/-- A core's command (R509). -/
def coreCheck (d : Dev) (m : Master) (c : Nat) (st : UState) (reset : Bool) : Bool :=
  match st with
  | .off => reset || ((match m with | .core k _ => k == c | _ => false) &&
      (List.range 8).any (fun k => k != c && d.inSvc (0x100 + k)))
  | _ => true

/-- A lane's command (R93, R104): the mask alone moves a lane into or out of IN_SERVICE; SHADOW and BYPASS need a lane that
is ALIGNED, for which a lane in TEST waits. -/
def laneCheck (d : Dev) (u : Nat) (st : UState) : Bool :=
  let from_ := d.ustate u
  from_ != .inService && st != .inService &&
  (st == .off || st == .test || from_ == .test || (d.lane (u - 0x200)).link == .aligned)

/-- A rank-channel's command (R401): TEST and BYPASS from OFF, and back. -/
def rankCheck (d : Dev) (u : Nat) (st : UState) : Bool :=
  let from_ := d.ustate u
  if st == .test || st == .bypass then from_ == .off else st == .off && (from_ == .test || from_ == .bypass)

/-- A port may enter IN_SERVICE (R131, R190, R207). -/
def portCheck (d : Dev) (p : Nat) : Bool × Dev :=
  let n := d.gn (0x3580 + p) 1
  let place := n < 64 && d.gn (0x3540 + n) 1 != d.gn 0x3000 1
  let d1 := if place then d.setFlag 0x3000 0x0B 0 else d
  let ports := configuredPorts d
  let bits (q : Nat) : Nat := d.gn (0x2040 + 0x100 * q) 1
  let rp := d.gn 0x1B00 3
  let stitch := ports.any (fun q => bits q != bits p) || d.gn (0x2040 + 0x100 * p) 2 &&& rp != rp
  let d2 := if stitch then d1.setFlag 0x1B00 8 0 else d1
  (!place && !stitch && (d.pt p).cam == .ready, d2)

/-- Whether a unit may take a state, by its own chapter, and what a refusal records. -/
def entryCheck (d : Dev) (m : Master) (u : Nat) (st : UState) (reset : Bool) : Bool × Dev :=
  if d.ustate u = st then (true, d)
  else if 0x010 ≤ u && u < 0x020 then (if st == .inService then portCheck d (u - 0x010) else (true, d))
  else if u = 0x030 then
    (match st with | .off => true | .test => true | .bypass => d.ustate u == .off | _ => false, d)
  else if u = 0x003 then
    (!(st == .off && ((span 0x00A 5 ++ span 0x010 0x21).any (fun x => d.inSvc x))), d)
  else if u = 0x00B then
    (st == .off || (1 ≤ rasterWidth d && d.gn 0x1B00 2 + rasterWidth d ≤ 536870912), d)
  else if u = 0x00C then (st == .off || d.ustate u != .off || sliceLayoutOk d, d)
  else if 0x050 ≤ u && u < 0x060 then
    (st == .off || d.ustate u != .off || d.ustate 0x00C == .off || sliceOwns d (u - 0x050), d)
  else if 0x060 ≤ u && u < 0x068 then
    (!(st == .inService || st == .shadow || st == .test) || d.gn (0x3650 + (u - 0x060)) 1 != 2, d)
  else if u = 0x032 then (reset && st == .off, d)
  else if 0x0F0 ≤ u && u < 0x0FC then (false, d)
  else if 0x100 ≤ u && u < 0x108 then (coreCheck d m (u - 0x100) st reset, d)
  else if 0x290 ≤ u then (rankCheck d u st, d)
  else if 0x200 ≤ u then (laneCheck d u st, d)
  else (true, d)

/-- Why a unit refuses a state (R485): 0 where it does not. -/
def refuseCause (d : Dev) (m : Master) (u : Nat) (st : UState) (reset : Bool) : Nat × Dev :=
  if d.ustate u = st then (0, d)
  else if !bit (allowedOf u) (stateCode st) || (u = 0x004 && !reset) then (1, d)
  else if rotOwns d u then (4, d)
  else
    let (ok, d1) := entryCheck d m u st reset
    (if ok then 0 else 2, d1)

/-! ### What a unit does when it enters a state -/

/-- A port enters a state (R74, R94, R131, R196, R423, R557). -/
def portEnter (e : Env) (d0 : Dev) (p : Nat) (old new : UState) : Dev :=
  let d := if old == .inService then trgIdle e d0 p else d0
  let d1 := if old == .off then groupOn e d p
    else if new == .off then camDown e (groupOff e d p) p else d
  let d2 := if new == .inService then budget e (placeEnter d1 p) p else d1
  rotPortMoved e d2 p

/-- The cascade enters a state (R220, R226). -/
def cascUnit (e : Env) (d : Dev) (old new : UState) : Dev :=
  if old == .off then
    cascEnter stitchHooks e ([16, 17, 18, 19].foldl (fun d g => if sideOn d (g % 2) then groupOn e d g else d) d)
  else if new == .off then [16, 17, 18, 19].foldl (fun d g => groupOff e d g) (cascLeave stitchHooks e d)
  else d

/-- A lane commanded on its own (R93). -/
def laneEnter (e : Env) (d : Dev) (l : Nat) (new : UState) : Dev := if new == .off then laneOff e d l else laneOn e d l

/-- What the chapter of a unit that moved does: `d0` is the device before the move. -/
def unitEnter (e : Env) (d0 d : Dev) (u : Nat) (old new : UState) : Dev :=
  if old = new then d
  else if u = 0x002 then fabricEnter e d new
  else if u = 0x005 || u = 0x006 then mgEnter e d (u - 0x005) new
  else if u = 0x008 then cascUnit e d old new
  else if u = 0x00A then
    (if old == .off then placerEnter d else d)
  else if u = 0x00B then (if old == .off then stitchEnter d else d)
  else if u = 0x00C then segEnter e d old new
  else if u = 0x00D then trackEnter d new
  else if u = 0x00E then settleEnter e d old new
  else if u = 0x00F || (0x060 ≤ u && u < 0x068) then markEnter e d0 d
  else if 0x010 ≤ u && u < 0x020 then portEnter e d (u - 0x010) old new
  else if 0x020 ≤ u && u ≤ 0x030 then
    (if new == .test then bistStart d (u - 0x020)
     else { d with rot := { d.rot with bist := d.rot.bist.filter (fun k => k != u - 0x020) } })
  else if u = 0x031 then compEnter e d old new
  else if u = 0x032 then (if new == .off then memWarm e d else d)
  else if 0x070 ≤ u && u < 0x090 then (if old == .off then monEnter e d (u - 0x070) else d)
  else if 0x100 ≤ u && u < 0x108 then (if new == .off then coreDown e d (u - 0x100) else coreUp e d (u - 0x100))
  else if 0x200 ≤ u && u < 0x290 then laneEnter e d (u - 0x200) new
  else d

/-- A unit moves with what its chapter does; at a stream unit's line boundary the heartbeat is judged (R22). -/
def unitTo (e : Env) (d : Dev) (u : Nat) (st : UState) : Dev :=
  let old := d.ustate u
  unitEnter e d (unitMove e d u st) u old st

/-! ### RESET (R489) -/

/-- The result groups of a unit that its RESET clears. -/
def resultsOf (u : Nat) : List Nat :=
  if 0x010 ≤ u && u < 0x020 then
    let b := 0x2000 + 0x100 * (u - 0x010)
    [b + 0x01, b + 0x21, b + 0x22, b + 0x26] ++ span (b + 0x10) 8 ++ [0x1820 + (u - 0x010)]
  else if 0x020 ≤ u && u < 0x030 then [0x2049 + 0x100 * (u - 0x020), 0x1970 + (u - 0x020)]
  else if u = 0x030 then [0x1980]
  else if u = 0x003 then span 0x1820 16 ++ span 0x1880 76
  else if u = 0x005 || u = 0x006 then [0x1402 + (u - 0x005)]
  else if u = 0x008 then [0x1B12, 0x1B13] ++ span 0x1B30 16
  else if u = 0x009 then span 0x3150 32
  else if u = 0x00A then span 0x3010 16
  else if u = 0x00B then [0x1B06]
  else if u = 0x00C then [0x3204]
  else if u = 0x00D then [0x3212, 0x3229]
  else if u = 0x00E then [0x3408]
  else if u = 0x00F then [0x3608]
  else if 0x060 ≤ u && u < 0x068 then [0x3650 + (u - 0x060)]
  else if u = 0x031 then [0x1A40]
  else if 0x068 ≤ u && u < 0x06C then [0x1A50 + (u - 0x068)]
  else if u = 0x033 then [0x1950]
  else if 0x06C ≤ u && u < 0x070 then [0x3504 + (u - 0x06C)]
  else if 0x070 ≤ u && u < 0x090 then [0x1930 + (u - 0x070)]
  else if 0x200 ≤ u && u < 0x280 then [0x2010 + 0x100 * ((u - 0x200) / 8) + u % 8]
  else if 0x280 ≤ u && u < 0x290 then [0x1B30 + (u - 0x280)]
  else []

/-- A result group cleared; the sequence number of a record (R313) is kept. -/
def groupClear (d : Dev) (idx : Nat) : Dev :=
  let d1 := d.clearSubs idx ((span 1 0x1F).filter (fun s => !(idx == 0x3408 && s == 1)))
  if d1.gn idx 0 = 0 then d1 else d1.publish idx

/-- A consumer unit reset empties its ring: committed lines not read yet are lost and counted in DROPS (R413), and each leaves a
hole (R15). -/
def pipeFlush (e : Env) (d : Dev) (p : Nat) : Dev :=
  let lost := (d.pt p).ingress
  if lost.isEmpty then d
  else
    let d1 := lost.foldl (fun d ln => placeLost e (giveBank d p ln.bank e.raw) p ln.line ln.arrival)
      (d.setPt p { d.pt p with ingress := [] })
    qDrop e d1 p 6 lost.length

/-- The time unit's compare units and stamp queues as after a reset (R31): what the units count and record reads its
default, and a TTO pulse under way ends. -/
def timeClear (e : Env) (d : Dev) : Dev :=
  let d1 := (List.range 32).foldl (fun d n => d.clearSubs (0x1310 + n) [6, 7, 8, 9]) (d.put 0x1410 2 0)
  ttoFollow e d { d1 with tcs := [], tto := [], net := { d1.net with stamps := [] } }

/-- A unit's results and counters cleared (R489), with what its chapter resets besides: the trigger counter of a port (R72),
whose TRGn goes idle (R74), compare units and stamps of the time unit (R31), the fabric (R373), the ingress that a pipeline
reads and the records that the marking engine and compression read (R413). -/
def unitClear (e : Env) (d0 : Dev) (u : Nat) : Dev :=
  let d := (resultsOf u).foldl groupClear d0
  if u = 0x001 then timeClear e d
  else if u = 0x002 then fabricReset e d
  else if 0x010 ≤ u && u < 0x020 then
    let p := u - 0x010
    ((trgIdle e d p).setTrig p {}).clearSubs (0x3580 + p) [6]
  else if u = 0x00F then recFlush e (d.setMarkQ []) 0x49 d.markQ.length
  else if u = 0x031 then recFlush e (d.setCropQ []) 0x4A d.cropQ.length
  else if 0x020 ≤ u && u < 0x030 && servedBy d (u - 0x020) = u - 0x020 then pipeFlush e d (u - 0x020)
  else d

/-! ### Commands (R486 to R489) -/

/-- A unit's command refused. -/
def unitRefuse (d : Dev) (u cause member : Nat) : Dev :=
  d.setUnit u { d.unit u with status := .refused, cause := cause, member := member }

/-- A pending command of a unit withdrawn. -/
def unitAbort (d : Dev) (u : Nat) (st : CmdStatus) : Dev :=
  let d1 := d.setUnit u { d.unit u with cmd := none, status := st }
  if 0x200 ≤ u && u < 0x290 then d1.setLane (u - 0x200) { d1.lane (u - 0x200) with leaveTest := none } else d1

/-- The first member that would refuse a state (R487): its own refusal, or its own command is PENDING. -/
def firstRefusal (d : Dev) (m : Master) (u : Nat) (st : UState) (reset : Bool) : List Nat → Option (Nat × Nat) × Dev
  | [] => (none, d)
  | x :: r =>
    let (c, d1) := refuseCause d m x st reset
    if c ≠ 0 then (some (x, c), d1)
    else if x ≠ u && (d.unit x).cmd.isSome then (some (x, 4), d1)
    else firstRefusal d m u st reset r

/-- One step of RESET counted and its results cleared, where it is a step to OFF. -/
def resetStep (e : Env) (d : Dev) (x : Nat) (reset : Bool) (st : UState) : Dev :=
  if reset && st == .off then
    unitClear e (d.setUnit x { d.unit x with resets := ((d.unit x).resets + 1) % 4294967296 }) x
  else d

/-- The steps of a command that find their unit in the target state are taken at once; with none left the command is
DONE. -/
def cmdSettle (e : Env) : Nat → Dev → Nat → Dev
  | 0, d, _ => d
  | f + 1, d, u =>
    match (d.unit u).cmd with
    | none => d
    | some c =>
      match c.steps with
      | [] => d.setUnit u { d.unit u with cmd := none, status := .done }
      | (x, st) :: rest =>
        if d.ustate x = st then
          let d1 := d.setUnit u { d.unit u with cmd := some { c with steps := rest } }
          cmdSettle e f (resetStep e d1 x c.reset st) u
        else d

/-- A command's steps begin. -/
def cmdStart (e : Env) (d : Dev) (u : Nat) (st : UState) (steps : List (Nat × UState)) (reset : Bool) : Dev :=
  let c : UnitCmd := { target := st, steps := steps, started := false, reset := reset, at_ := e.raw }
  cmdSettle e (steps.length + 1)
    (d.setUnit u { d.unit u with cmd := some c, status := .pending, cause := 0, member := 0xFFFF }) u

/-- A lane leaves TEST for SHADOW or BYPASS (R104): its test bits end at once, and the command waits for the lane. -/
def laneWait (e : Env) (d : Dev) (u : Nat) (st : UState) : Dev :=
  let l := u - 0x200
  let d1 := laneLeaveTest e d l
  let d2 := d1.setLane l { d1.lane l with leaveTest := some (stateCode st, e.raw + 320000000) }
  let c : UnitCmd := { target := st, steps := [], started := false, reset := false, at_ := e.raw }
  d2.setUnit u { d2.unit u with cmd := some c, status := .pending, cause := 0, member := 0xFFFF }

/-- The tested pipeline of a deployed spare is commanded back (R558): it runs its self-test first. -/
def deployedBack (e : Env) (d : Dev) (u : Nat) : Dev :=
  let c : UnitCmd := { target := .inService, steps := [], started := false, reset := false, at_ := e.raw }
  let d1 := unitMove e d u .test
  bistStart (d1.setUnit u { d1.unit u with cmd := some c, status := .pending, cause := 0, member := 0xFFFF }) (u - 0x020)

/-- A command of a state (R486 to R488). -/
def cmdState (e : Env) (d : Dev) (m : Master) (u : Nat) (st : UState) : Dev :=
  let rs := reach u
  if rs.all (fun x => d.ustate x.2 = st) then d.setUnit u { d.unit u with status := .done, cause := 0, member := 0xFFFF }
  else
    let (bad, d1) := firstRefusal d m u st false (stepOrder (st == .inService) rs)
    match bad with
    | some (x, c) => if x = u then unitRefuse d1 u c 0xFFFF else unitRefuse d1 u 3 x
    | none =>
      if 0x200 ≤ u && u < 0x290 && d1.ustate u == .test && (st == .shadow || st == .bypass) then laneWait e d1 u st
      else if d1.rot.state = 5 && u == uPipe d1.rot.pipe && st == .inService then deployedBack e d1 u
      else cmdStart e d1 u st ((stepOrder (st == .inService) rs).map (fun x => (x, st))) false

/-- RESET (R489): to OFF in the order of OFF, then back to the state each held in the order for IN_SERVICE. -/
def cmdReset (e : Env) (d : Dev) (m : Master) (u : Nat) : Dev :=
  let rs := reach u
  let (bad, d1) := firstRefusal d m u .off true (stepOrder false rs)
  match bad with
  | some (x, c) => if x = u then unitRefuse d1 u c 0xFFFF else unitRefuse d1 u 3 x
  | none =>
    let down := (stepOrder false rs).map (fun x => (x, UState.off))
    let up := ((stepOrder true rs).map (fun x => (x, d1.ustate x))).filter (fun x => x.2 != .off)
    cmdStart e d1 u .off (down ++ up) true

/-- CANCEL (R488). -/
def cmdCancel (d : Dev) (u : Nat) : Dev :=
  if (d.unit u).cmd.isSome then unitAbort d u .cancelled else d

/-- A command to a unit (R485 to R489): 0 to 4 a state, 5 RESET, 6 CANCEL. -/
def unitCmd (e : Env) (d : Dev) (m : Master) (u k : Nat) : Dev :=
  if (ancestors u).any (fun a => (d.unit a).cmd.isSome) then unitRefuse d u 5 0xFFFF
  else if k = 6 then cmdCancel d u
  else
    match (d.unit u).cmd with
    | some c =>
      if c.started then unitRefuse d u 4 0xFFFF
      else
        let d1 := unitAbort d u .idle
        if k = 5 then cmdReset e d1 m u else cmdState e d1 m u (stateOf k)
    | none => if k = 5 then cmdReset e d m u else cmdState e d m u (stateOf k)

/-- A write of COMMAND (R485). -/
def unitCmdWrite (e : Env) (d : Dev) (m : Master) (u : Nat) (k : Int) : Dev :=
  d.asWrite m (0x7000 + u) 6 k fun d => (unitCmd e d m u k.toNat).ended m stOK

/-- The next step of a unit's command takes effect (R486): at the line boundary that reaches the unit, or on its edge. -/
def unitStep (e : Env) (d : Dev) (u : Nat) : Dev :=
  match (d.unit u).cmd with
  | none => d
  | some c =>
    match c.steps with
    | [] => d
    | (x, st) :: rest =>
      let others := { c with steps := rest.filter (fun y => y.1 != x), started := true }
      let d1 := unitTo e (d.setUnit u { d.unit u with cmd := some others }) x st
      let d2 := match (d1.unit u).cmd with
        | none => d1
        | some c1 => d1.setUnit u { d1.unit u with cmd := some { c1 with steps := rest } }
      cmdSettle e (rest.length + 1) (resetStep e d2 x c.reset st) u

/-- Whether a unit's states take effect at a line boundary (R486). -/
def isStream (u : Nat) : Bool := (0x00A ≤ u && u ≤ 0x030) || (0x050 ≤ u && u < 0x060)

/-- UNIT_STATE_TAKES_EFFECT (R486): a stream unit's boundary is a line boundary of R22 too. -/
def unitEffect (e : Env) (d : Dev) (u : Nat) : Dev :=
  let line := match (d.unit u).cmd with
    | some c => (match c.steps with | (x, _) :: _ => isStream x | [] => false)
    | none => false
  let d1 := unitStep e d u
  if line then heartLine e d1 else d1

/-- A mailbox send wakes a core that is OFF (R515): the unit firmware commands it IN_SERVICE. -/
def coreWake (e : Env) (d : Dev) (c : Nat) : Dev := unitCmd e d .unitFw (0x100 + c) 1

/-- A port's stream has stopped for three alignment periods (R98): the port goes from IN_SERVICE to OFF by itself. -/
def portStopped (e : Env) (d : Dev) (p : Nat) : Dev :=
  if streamDead e d p && d.inSvc (uPort p) then unitTo e d (uPort p) .off else d

/-! ### The commands -/

/-- UNIT_CMD_OFF (R486). -/
def execUnitCmdOff (t : Nat) (m : Master) (u : Nat) (s : State) : Host.Outcome State Fault Refusal :=
  mainStep (masterOk m && okUnit u) t s fun e d => unitCmdWrite e d m u 0

/-- UNIT_CMD_IN_SERVICE (R486). -/
def execUnitCmdInService (t : Nat) (m : Master) (u : Nat) (s : State) : Host.Outcome State Fault Refusal :=
  mainStep (masterOk m && okUnit u) t s fun e d => unitCmdWrite e d m u 1

/-- UNIT_CMD_SHADOW (R486). -/
def execUnitCmdShadow (t : Nat) (m : Master) (u : Nat) (s : State) : Host.Outcome State Fault Refusal :=
  mainStep (masterOk m && okUnit u) t s fun e d => unitCmdWrite e d m u 2

/-- UNIT_CMD_TEST (R486). -/
def execUnitCmdTest (t : Nat) (m : Master) (u : Nat) (s : State) : Host.Outcome State Fault Refusal :=
  mainStep (masterOk m && okUnit u) t s fun e d => unitCmdWrite e d m u 3

/-- UNIT_CMD_BYPASS (R486). -/
def execUnitCmdBypass (t : Nat) (m : Master) (u : Nat) (s : State) : Host.Outcome State Fault Refusal :=
  mainStep (masterOk m && okUnit u) t s fun e d => unitCmdWrite e d m u 4

/-- UNIT_CMD_RESET (R489). -/
def execUnitCmdReset (t : Nat) (m : Master) (u : Nat) (s : State) : Host.Outcome State Fault Refusal :=
  mainStep (masterOk m && okUnit u) t s fun e d => unitCmdWrite e d m u 5

/-- UNIT_CMD_CANCEL (R488). -/
def execUnitCmdCancel (t : Nat) (m : Master) (u : Nat) (s : State) : Host.Outcome State Fault Refusal :=
  mainStep (masterOk m && okUnit u) t s fun e d => unitCmdWrite e d m u 6

/-- UNIT_STATE_TAKES_EFFECT (R486). -/
def execUnitStateTakesEffect (t u : Nat) (s : State) : Host.Outcome State Fault Refusal :=
  mainStep (okUnit u) t s fun e d => unitEffect e d u

/-- MB_SEND (R512, R515). -/
def execMbSend (t : Nat) (m : Master) (b : Nat) (v : Int) (s : State) : Host.Outcome State Fault Refusal :=
  mainStep (masterOk m && okMbox b) t s fun e d => mbSend coreWake e d m b v

/-- LOCK_LOSS (R83). -/
def execLockLoss (t l : Nat) (s : State) : Host.Outcome State Fault Refusal :=
  mainStep (okLane l) t s fun e d => lockLoss laneHooks e d l

/-- ALIGNMENT_BLOCK_SEND (R82, R85). -/
def execAlignmentBlockSend (t g : Nat) (s : State) : Host.Outcome State Fault Refusal :=
  mainStep (okGroup g) t s fun e d => alignSend laneHooks e d g

/-- ALIGNMENT_MISSING (R86). -/
def execAlignmentMissing (t l : Nat) (s : State) : Host.Outcome State Fault Refusal :=
  mainStep (okLane l) t s fun e d => alignMissing laneHooks e d l

/-- PORT_STREAM_STOPPED (R98). -/
def execPortStreamStopped (t p : Nat) (s : State) : Host.Outcome State Fault Refusal :=
  mainStep (okPort p) t s fun e d => portStopped e d p

/-- LANE_BLOCK_BAD (R80). -/
def execLaneBlockBad (t l : Nat) (blk : List Byte) (s : State) : Host.Outcome State Fault Refusal :=
  mainStep (okLane l) t s fun e d => laneBad laneHooks e d l blk

/-- NB_WAIT_EXPIRED (R228). -/
def execNbWaitExpired (t : Nat) (s : State) : Host.Outcome State Fault Refusal :=
  mainStep true t s fun e d => nbWaitExpired stitchHooks e d

/-- Whether a cascade packet is of a kind (R222). -/
def isKind (k : Nat) (b : List Byte) : Bool := field (beAt b 0 1) 5 0 == k

/-- EXPORT_RX (R225): a packet received on a side; its kind byte says which one it is. -/
def execExportRx (t side : Nat) (packet : List Byte) (s : State) : Host.Outcome State Fault Refusal :=
  mainStep (okSide side) t s fun e d => cascRx stitchHooks e d side packet

/-- HELLO_RX (R226). -/
def execHelloRx (t side : Nat) (packet : List Byte) (s : State) : Host.Outcome State Fault Refusal :=
  mainStep (okSide side) t s fun e d => cascRx stitchHooks e d side packet

/-- CONTINUE_RX (R286). -/
def execContinueRx (t side : Nat) (packet : List Byte) (s : State) : Host.Outcome State Fault Refusal :=
  mainStep (okSide side) t s fun e d => cascRx stitchHooks e d side packet

/-- SETTLE_PACKET_RX (R315). -/
def execSettlePacketRx (t side : Nat) (packet : List Byte) (s : State) : Host.Outcome State Fault Refusal :=
  mainStep (okSide side) t s fun e d => cascRx stitchHooks e d side packet

/-- TAP_PACKET_RX (R219). -/
def execTapPacketRx (t side : Nat) (packet : List Byte) (s : State) : Host.Outcome State Fault Refusal :=
  mainStep (okSide side) t s fun e d => cascRx stitchHooks e d side packet

end Sys2Proof.Machine
end

