-- ==== Sys2Proof/Machine/Metrology.lean ====
section
/-! DEFINITION. The sealed metrology domain (chapter 22): the legal count, rolls, the totalizer, the seal and the audit trail,
the one-way mailbox. Nothing here reads the main domain but the metrology mailbox's room (R527, R540). -/

namespace Sys2Proof.Machine

/-- What the domain does in one command: its state, the seam events it offers (R547) and what it drives. -/
structure MetRun where
  m : Met
  ev : List (Nat × Nat) := []
  out : List Out := []

/-- A seam event (R547). -/
def MetRun.offer (r : MetRun) (prod data : Nat) : MetRun := { r with ev := r.ev ++ [(prod, data)] }

/-- A pin of the domain driven. -/
def MetRun.drive (r : MetRun) (name : String) (v : Bool) (at_ : Nat) : MetRun := { r with out := r.out ++ [.pin name 0 v at_] }

/-! ### Values (R531, R533, R538, R539) -/

/-- The total length in nm (R531). -/
def metTotal (m : Met) : Int := m.l0 + m.c * m.par.scale / 1000

/-- The real-time clock in seconds at an instant; it reads 0 while it is not set (DEDUCED, assumption log 92). -/
def metRtc (m : Met) (now : Nat) : Nat :=
  match m.rtcAt with
  | none => 0
  | some (v, at_) => (v + (now - at_) / 16000000000) % 4294967296

/-- Whether the seal is open (R537). -/
def sealOpen (m : Met) : Bool := !m.sealPin.acc

/-- Whether the image hash differs from the approved one (R539). -/
def imageChanged (m : Met) : Bool := padTo m.imageHash 32 0 != padTo m.approved 32 0

/-- Whether the open roll has more quadrature errors than allowed (R533). -/
def quadLimit (m : Met) : Bool := decide (m.par.errMax < m.rollErrors)

/-- The condition of MET_OK (R533). -/
def metOk (m : Met) : Bool :=
  m.powered && !imageChanged m && !m.storeFault && !quadLimit m && m.rtcAt.isSome && !sealOpen m

/-- MET_STATUS (R544). -/
def metStatus (m : Met) : Nat :=
  b2n m.powered + 2 * b2n (sealOpen m) + 4 * b2n (imageChanged m) + 8 * b2n m.storeFault + 16 * b2n (quadLimit m) +
  32 * b2n m.rollGap + 64 * b2n (!m.queue.isEmpty) + 128 * b2n (metOk m) + 256 * b2n m.rtcAt.isNone

/-- SHORT_ID (R539): bytes 0 to 3 of IMAGE_HASH in the order in which they are shown (DEDUCED, assumption log 92). -/
def shortId (m : Met) : Nat := beAt (padTo m.imageHash 32 0) 0 4

/-- MET_OK follows its condition; its edges are offered (R533, R547). -/
def metSettle (now : Nat) (r : MetRun) : MetRun :=
  if metOk r.m = r.m.okOut then r
  else
    let v := metOk r.m
    (({ r with m := { r.m with okOut := v } }).offer (if v then 0x2E2 else 0x2E3) (if v then 0 else metStatus r.m)).drive
      "MET_OK" v now

/-! ### Slots, messages and the audit trail (R535 to R540) -/

/-- A totalizer slot written as the domain stands (R535); while VDD_MET is low nothing is written (R529). -/
def slotWrite (m : Met) (now : Nat) (powerFail : Bool) : Met :=
  if m.warned then m
  else
    let n := match m.slots with | [] => 1 | x :: _ => if x.seq = 4294967295 then 1 else x.seq + 1
    let x : MetSlot := { seq := n, roll := m.roll, l0 := m.l0, c := m.c, rollStart := m.rollStart, rtc := metRtc m now,
                         flags := b2n m.rollGap + 2 * b2n powerFail }
    { m with slots := (x :: m.slots).take 256 }

/-- The length of the domain's interval: 100 ms (R536, R540). -/
def metTick : Nat := 1600000000

/-- An extra slot, one in each 100 ms interval; the next regular one carries what finds it used (R536). With the regular
write of its own clock it forms one write, which holds what it brings: one that falls due carries it, one just made is made
again in its place. -/
def extraSlot (m : Met) (now : Nat) : Met :=
  if m.extraUsed || m.warned || m.tickAt + metTick ≤ now then m
  else if m.view.seq ≠ 0 && ceilTo 80 now = ceilTo 80 m.tickAt then
    match m.slots with
    | [] => m
    | x :: r => { m with slots := { x with roll := m.roll, l0 := m.l0, c := m.c, rollStart := m.rollStart, rtc := metRtc m now,
                                           flags := b2n m.rollGap } :: r }
  else { slotWrite m now false with extraUsed := true }

/-- A ROLL or PARAM message queued; a seventeenth is counted and lost (R540). -/
def msgQueue (m : Met) (x : MetMsg) : Met :=
  if m.queue.length < 16 then { m with queue := m.queue ++ [x], tryDue := true }
  else { m with msgSkipped := (m.msgSkipped + 1) % 4294967296 }

/-- A change under R537 and R538: counted, audited, in an extra slot, reported. `kind`, old and new value as the entry
holds them. -/
def metChange (now : Nat) (r : MetRun) (sub kind old new : Nat) : MetRun :=
  let m := r.m
  let n := min (m.eventCounter + 1) 4294967295
  let body := toLE 4 n ++ toLE 2 0x6010 ++ toLE 1 sub ++ toLE 1 kind ++ toLE 8 old ++ toLE 8 new ++ toLE 4 (metRtc m now)
  let m1 := { m with eventCounter := n, audit := ((body ++ toLE 4 (crc32c body)) :: m.audit).take 1024 }
  let m2 := msgQueue (extraSlot m1 now) { kind := 3, w1 := 0x6010 * 256 + sub, w2 := 0, w3 := m1.roll }
  ({ r with m := m2 }).offer 0x2E6 n

/-- A roll ends at this clock and the next one opens (R534). -/
def metRollEnd (now : Nat) (r : MetRun) : MetRun :=
  let m := r.m
  let tot := metTotal m
  let len := wrapU 64 (tot - m.rollStart)
  let flags := b2n m.rollGap + 2 * b2n (quadLimit m) + 4 * b2n (imageChanged m) + 8 * b2n (m.rollSeal || sealOpen m)
  let body := toLE 4 m.roll ++ toLE 8 len ++ toLE 4 m.rollRtc ++ toLE 4 (metRtc m now) ++ toLE 4 m.rollErrors ++
    toLE 2 flags ++ toLE 2 0
  let m1 := { m with rollLog := ((body ++ toLE 4 (crc32c body)) :: m.rollLog).take 64,
                     roll := (m.roll + 1) % 4294967296, rollStart := tot, rollRtc := metRtc m now, rollErrors := 0,
                     rollGap := false, rollSeal := sealOpen m }
  let m2 := msgQueue (extraSlot m1 now)
    { kind := 2, w1 := len % 4294967296, w2 := len / 4294967296, w3 := m.roll }
  ({ r with m := m2 }).offer 0x2E1 m.roll

/-! ### Counting (R530, R531) and the pulse (R532) -/

/-- The next pulse starts where one waits, at the earliest twice the width after the one before (R532). -/
def pulseStart (now : Nat) (r : MetRun) : MetRun :=
  let m := r.m
  if m.pulseEnd.isSome || m.pulsesDue = 0 then r
  else
    let w := m.par.pulseWidth * 16000
    let at_ := match m.pulseFrom with | none => now | some f => max now (f + 2 * w)
    ({ r with m := { m with pulsesDue := m.pulsesDue - 1, pulseFrom := some at_, pulseEnd := some (at_ + w) } }).drive
      "MET_PULSE" true at_

/-- Pulses that the total falls due for as it passes upward (R532): one for each multiple passed that lies above the highest
total pulsed; `before` is the total that it comes from. A length of 0 has no multiples. -/
def pulsesFor (now : Nat) (r : MetRun) (before : Int) : MetRun :=
  let m := r.m
  let step : Int := 1000 * m.par.pulseLen
  let k := metTotal m / step
  let past := max (m.pulsed / step) (before / step)
  if step = 0 || k ≤ past then r
  else
    let n := m.pulsesDue + (k - past).toNat
    pulseStart now { r with m := { m with pulsed := k * step, pulsesDue := min n 64,
                                          pulsesLost := (m.pulsesLost + (n - 64)) % 4294967296 } }

/-- A count up or down. -/
def metCount (now : Nat) (r : MetRun) (up : Bool) : MetRun :=
  pulsesFor now { r with m := { r.m with c := wrapI 64 (r.m.c + (if up then 1 else -1)) } } (metTotal r.m)

/-- An accepted edge of A or B (R49 with the domain's own objects). -/
def metEdge (now : Nat) (r : MetRun) (inA rising : Bool) : MetRun :=
  match quadCounts r.m.par.quadMult r.m.par.invert inA rising (if inA then r.m.pinB.acc else r.m.pinA.acc) with
  | none => r
  | some up => metCount now r up

/-- The filter clock that accepts a pin's level (R48 with MET_FILTER_N): clocks fall every 80 tt (DEDUCED, assumption log 92). -/
def metClock (m : Met) (p : PinFilter) : Nat := ceilTo 80 p.since + (m.par.filterN - 1) * 80

/-- Whether a pin has a level to accept. -/
def metPinDue (m : Met) (p : PinFilter) (now : Nat) : Bool := p.lvl != p.acc && decide (metClock m p ≤ now)

/-- A pin's level is accepted. -/
def metTakePin (now : Nat) (r : MetRun) (pin : EncPin) : MetRun :=
  let m := r.m
  let take (p : PinFilter) : PinFilter := { p with acc := p.lvl }
  match pin with
  | .a => metEdge now { r with m := { m with pinA := take m.pinA } } true m.pinA.lvl
  | .b => metEdge now { r with m := { m with pinB := take m.pinB } } false m.pinB.lvl
  | .z => { r with m := { m with pinZ := take m.pinZ,
                                 zCount := if m.pinZ.lvl then (m.zCount + 1) % 4294967296 else m.zCount } }

/-- A and B changed on one filter clock: nothing is counted but the error (R530). -/
def metQuadError (r : MetRun) : MetRun :=
  let m := r.m
  { r with m := { m with pinA := { m.pinA with acc := m.pinA.lvl }, pinB := { m.pinB with acc := m.pinB.lvl },
                         quadErrors := (m.quadErrors + 1) % 4294967296, rollErrors := min (m.rollErrors + 1) 4294967295 } }

/-- Levels that the filter accepts by now, in the order of their clocks (R530). -/
def metAccept (now : Nat) (r : MetRun) : MetRun :=
  let m := r.m
  let one (p : PinFilter) (k : EncPin) : List (Nat × EncPin) := if metPinDue m p now then [(metClock m p, k)] else []
  let due := (one m.pinA .a ++ one m.pinB .b ++ one m.pinZ .z).mergeSort (fun p q => p.1 ≤ q.1)
  let both := metPinDue m m.pinA now && metPinDue m m.pinB now && metClock m m.pinA == metClock m m.pinB
  if both then (due.filter (fun p => p.2 = .z)).foldl (fun r p => metTakePin now r p.2) (metQuadError r)
  else due.foldl (fun r p => metTakePin now r p.2) r

/-- A level change at a pin of the encoder, as the filter's samples see it (R48). -/
def metPinChange (now : Nat) (m : Met) (pin : EncPin) (level : Bool) : Met :=
  let ch (p : PinFilter) : PinFilter := if p.lvl = level then p else p.change (ceilTo 80 now) now level
  match pin with
  | .a => { m with pinA := ch m.pinA }
  | .b => { m with pinB := ch m.pinB }
  | .z => { m with pinZ := ch m.pinZ }

/-- MET_PULSE ends, and the next outstanding pulse may start (R532). -/
def metPulseOver (now : Nat) (r : MetRun) : MetRun :=
  match r.m.pulseEnd with
  | none => r
  | some t => if now < t then r else pulseStart now (({ r with m := { r.m with pulseEnd := none } }).drive "MET_PULSE" false t)

/-! ### What metrology sessions write (R537, R542, R545) -/

/-- The old value of a write that replaces none (APPROVE, RESTART): the spec states none, so it is open. -/
def noOld (m : Met) : Nat := Config.free m.eventCounter 64 % 2 ^ 64

/-- A metrology reset (R528): the processor starts again with its image; its sessions are gone; the counting block, the
real-time clock, MET_PULSE and the store go on. MET_OK falls until the image check (R574), which ends the
command. What waits to be sent is kept, and the image is the one of the power-on (DESIGN CHOICE, assumption log 93). -/
def metReset (now : Nat) (r : MetRun) : MetRun :=
  let m := { r.m with sessions := [] }
  if m.okOut then (({ r with m := { m with okOut := false } }).offer 0x2E3 (metStatus m - 128)).drive "MET_OK" false now
  else { r with m := m }

/-- A parameter's number. -/
def metParam (p : MetParams) : Nat → Nat
  | 1 => p.scale
  | 2 => p.quadMult
  | 3 => p.filterN
  | 4 => b2n p.invert
  | 5 => p.resUm
  | 6 => p.pulseLen
  | 7 => p.pulseWidth
  | 8 => p.errMax
  | _ => 0

/-- A parameter's number set. -/
def metParamSet (p : MetParams) (sub v : Nat) : MetParams :=
  match sub with
  | 1 => { p with scale := v }
  | 2 => { p with quadMult := v }
  | 3 => { p with filterN := v }
  | 4 => { p with invert := v != 0 }
  | 5 => { p with resUm := v }
  | 6 => { p with pulseLen := v }
  | 7 => { p with pulseWidth := v }
  | 8 => { p with errMax := v }
  | _ => p

/-- A number written to 0x6010 that the domain takes. A new scale ends the roll and restarts the count from its total
(R531). -/
def metNum (now : Nat) (r : MetRun) (sub v : Nat) : MetRun :=
  let m := r.m
  if sub = 0x0B then metChange now { r with m := { m with rtcAt := some (v, now) } } sub 3 (metRtc m now) v
  else if sub = 0x0C then
    if v = 0 then r else metChange now { r with m := { m with approved := m.imageHash } } sub 1 (noOld m) 1
  else if sub = 0x0D then
    if v = 0 then r
    else
      metReset now (metChange now r sub 4 (noOld m) 1)
  else if sub = 0x0E then if v = 0 then r else metRollEnd now r
  else
    let old := metParam m.par sub
    let r1 := if sub = 1 then
        let q := metRollEnd now r
        { q with m := { q.m with l0 := wrapI 64 (metTotal q.m), c := 0 } }
      else r
    metChange now { r1 with m := { r1.m with par := metParamSet r1.m.par sub v } } sub 0 old v

/-- A write to 0x6010 by a metrology session (R537): its STATUS and what the domain does. Type first, then the seal, then
the range. -/
def metOp (now : Nat) (r : MetRun) (op : MetOp) : Nat × MetRun :=
  let sub := match op with | .num s _ => s | .blob s _ => s | .session _ _ => 1
  match objInfo 0x6010 sub with
  | none => (stNoObject, r)
  | some o =>
    match op with
    | .num _ v =>
      if o.ty == .domain || !o.ty.holds v then (stBadType, r)
      else if sub ≠ 0x0E && !sealOpen r.m then (stDenied, r)
      else if !o.range.admits v || (o.ty == .bool && 1 < v) then (stRefused, r)
      else (stOK, metNum now r sub v.toNat)
    | .session k x => (stOK, { r with m := { r.m with sessions := if x.isOpen then tabSet r.m.sessions k x
                                                                   else tabErase r.m.sessions k } })
    | .blob _ b =>
      if o.ty != .domain then (stBadType, r)
      else if !sealOpen r.m then (stDenied, r)
      else if b.length ≠ 32 then (stRefused, r)
      else
        let p := r.m.par
        (stOK, metChange now { r with m := { r.m with par := if sub = 9 then { p with signKey := b }
                                                             else { p with roleKey := b } } } sub 2 0 0)

/-- The physical time of a command. -/
def Env.now (e : Env) : Nat := e.tu.rawBase + e.raw

/-- The domain after what the command in work has asked of it so far. -/
def metNow (e : Env) (d : Dev) : Met := (d.metOps.foldl (fun r op => (metOp e.now r op).2) ({ m := e.met } : MetRun)).m

/-- Whether a master is an open metrology session (R542). -/
def metSession (e : Env) (d : Dev) : Master → Bool
  | .fdp k => (tabGet (metNow e d).sessions {} k).isOpen
  | _ => false

/-- A write to 0x6010 (R537, R544): a metrology session's is asked of the domain, any other master's is DENIED. -/
def metWrite (e : Env) (d : Dev) (m : Master) (op : MetOp) : Dev :=
  if !metSession e d m then d.ended m stDenied
  else
    let (st, _) := metOp e.now { m := metNow e d } op
    (if st = stOK then { d with metOps := d.metOps ++ [op] } else d).ended m st

/-! ### Ticks, power and the seal -/

/-- The 100 ms tick (R536, R540, R544): a slot, a TOTAL due, the view published, a new interval. -/
def metTickNow (now : Nat) (r : MetRun) : MetRun :=
  let m := r.m
  if !m.powered || now < m.tickAt + metTick then r
  else
    let m1 : Met := { slotWrite m now false with
      tickAt := m.tickAt + (now - m.tickAt) / metTick * metTick, totalDue := true, tryDue := true, extraUsed := false,
      warnUsed := false }
    let s : Nat := if m.view.seq = 4294967295 then 1 else m.view.seq + 1
    { r with m := { m1 with view := { seq := s, total := wrapI 64 (metTotal m1), c := m1.c, roll := m1.roll,
                                      rollNm := wrapI 64 (metTotal m1 - m1.rollStart), status := metStatus m1, rtc := metRtc m1 now,
                                      zCount := m1.zCount } } }

/-- VDD_MET falls below its warning level (R529, R536): one slot, one in each interval, then the store is written no more. -/
def metWarning (now : Nat) (m : Met) : Met :=
  if !m.powered || m.warned then m
  else
    let m1 := if m.warnUsed then m else { slotWrite m now true with warnUsed := true }
    { m1 with warned := true, kept := some { rollLog := m1.rollLog, audit := m1.audit, eventCounter := m1.eventCounter,
                                             par := m1.par, approved := m1.approved } }

/-- VDD_MET is above its warning level again: the store is written again, with what came meanwhile (DESIGN CHOICE,
assumption log 93). -/
def metWarningEnd (m : Met) : Met := { m with warned := false, kept := none }

/-- VDD_MET powers up (R529, R536, R538, R539): the store is what it was, slots whose CRC fails are counted and left out, the
newest valid one is restored; levels at the pins are taken without a count. -/
def metPowerOn (now : Nat) (m : Met) (image version : List Byte) (bad : List Nat) : Met :=
  let valid := m.slots.filter (fun x => !bad.contains x.seq)
  let best := valid.foldl (fun (a : Option MetSlot) x => match a with
    | none => some x
    | some y => if y.seq < x.seq then some x else a) none
  let still (p : PinFilter) : PinFilter := { p with acc := p.lvl, since := now }
  let base : Met := { powered := true, pinA := still m.pinA, pinB := still m.pinB, pinZ := still m.pinZ,
                      sealPin := still m.sealPin, imageHash := sha256 image, version := version, tickAt := now,
                      slots := valid, rollLog := m.rollLog, audit := m.audit, eventCounter := m.eventCounter, par := m.par,
                      approved := m.approved, storeErrors := m.slots.length - valid.length }
  let b1 := match m.kept with
    | none => base
    | some k => { base with rollLog := k.rollLog, audit := k.audit, eventCounter := k.eventCounter, par := k.par,
                            approved := k.approved }
  let b2 := { b1 with rollSeal := sealOpen b1 }
  match best with
  | none => { b2 with storeFault := true }
  | some x =>
    let b3 := { b2 with l0 := x.l0, c := x.c, roll := x.roll, rollStart := x.rollStart, rollGap := true, powerGaps := 1,
                        rollRtc := Config.free x.seq 32 % 2 ^ 32 }
    { b3 with pulsed := metTotal b3 }

/-- MET_SEAL_N has held a level for 10 ms (R537, R547). -/
def metSeal (r : MetRun) (level : Bool) : MetRun :=
  let p : PinFilter := { r.m.sealPin with lvl := level, acc := level }
  if r.m.sealPin.acc = level then { r with m := { r.m with sealPin := p } }
  else
    let r1 : MetRun := { r with m := { r.m with sealPin := p, rollSeal := r.m.rollSeal || !level } }
    if r.m.powered then r1.offer (if level then 0x2E5 else 0x2E4) 0 else r1

/-! ### The one-way mailbox (R540, R541) -/

/-- The eight words of a message with its tag (R540, R541). -/
def metWords (m : Met) (x : MetMsg) : List Nat :=
  let w := [x.kind * 16777216 + m.msgSeq % 16777216, x.w1, x.w2, x.w3, m.eventCounter,
            shortId m % 65536 * 65536 + metStatus m]
  let tag := hmacSha256 (padTo m.par.signKey 32 0) (w.flatMap (toLE 4))
  w ++ [leAt tag 0 4, leAt tag 4 4]

/-- The message that goes next (R540): the oldest that waits, else the TOTAL that is due; and the domain without it. -/
def metNext (m : Met) : Option (MetMsg × Met) :=
  match m.queue with
  | x :: r => some (x, { m with queue := r })
  | [] =>
    if m.totalDue then
      let t := wrapU 64 (metTotal m)
      some ({ kind := 1, w1 := t % 4294967296, w2 := t / 4294967296, w3 := m.roll }, { m with totalDue := false })
    else none

/-- A message is tried (R527, R540). Where mailbox 31 is not empty a ROLL or PARAM waits and a TOTAL is skipped; where the
main domain's side of the seam is not IN_SERVICE the message is counted and lost. -/
def metSend (m : Met) (inService empty : Bool) : Met × Option (Nat × List Nat) :=
  if !m.tryDue then (m, none)
  else
    let m0 := { m with tryDue := false }
    match metNext m0 with
    | none => (m0, none)
    | some (x, m1) =>
      if !inService then ({ m1 with msgSkipped := (m1.msgSkipped + 1) % 4294967296 }, none)
      else if empty then ({ m1 with msgSeq := (m1.msgSeq + 1) % 16777216 }, some (x.kind, metWords m1 x))
      else if x.kind = 1 then ({ m1 with msgSkipped := (m1.msgSkipped + 1) % 4294967296 }, none)
      else (m0, none)

/-! ### The shape of the domain's steps -/

/-- Time passes to a command of the domain. -/
def metNowAt (t : Nat) (s : State) : Nat := max s.now t

/-- The main domain's side of what the domain did (R547): its events are offered unless a cold reset is held. -/
def metDeliver (s : State) (now : Nat) (r : MetRun) : State :=
  let d0 : Dev := { s.d with out := r.out, resp := {} }
  let raw := now - s.tu.rawBase
  let d1 := if s.d.pow.heldBy.isSome then d0
    else r.ev.foldl (fun d p => d.raiseFrom p.1 p.2 raw none) d0
  { s with now := now, met := r.m, d := d1 }

/-- A step of the metrology domain, which no reset of the main domain stops (R528). -/
def metStep (t : Nat) (s : State) (f : Nat → MetRun → MetRun) : Host.Outcome State Fault Refusal :=
  let now := metNowAt t s
  .next (metDeliver s now (metSettle now (f now { m := s.met })))

/-- A step that only a powered domain takes. -/
def metLive (t : Nat) (s : State) (f : Nat → MetRun → MetRun) : Host.Outcome State Fault Refusal :=
  metStep t s fun now r => if r.m.powered then f now r else r

/-- A message goes into mailbox 31 (R540): each word wakes its receiver (R511, R515), and the length of a TOTAL reaches a scale
measurement of source 2 (R180). -/
def metPost (e : Env) (d : Dev) (kind : Nat) (ws : List Nat) : Dev :=
  let d1 := (ws.foldl (fun d x => mbSend coreWake e d .metSeam 31 x) d).raise e 0x2E0 kind
  if kind = 1 then scaleLength e d1 (nth ws 1 0 + nth ws 2 0 * 4294967296) else d1

/-- A message is tried (R540): what it leaves of the domain and of the main domain's side. -/
def metSendStep (t : Nat) (s : State) : Host.Outcome State Fault Refusal :=
  let now := metNowAt t s
  let d0 : Dev := { s.d with out := [], resp := {} }
  let live := s.d.pow.heldBy.isNone && d0.inSvc 0x007
  if !s.met.powered then .next { s with now := now, d := d0 }
  else
    let (m1, w) := metSend s.met live (d0.mbox 31).ab.isEmpty
    let e : Env := { raw := now - s.tu.rawBase, tu := s.tu, met := m1 }
    let d1 := match w with
      | none => d0
      | some (k, ws) => metPost e d0 k ws
    .next { s with now := now, met := m1, d := { d1 with tuOps := [] } }

/-! ### What the main domain reads (R544 to R546) -/

/-- A number of the domain that the dictionary shows. -/
def metRead (m : Met) (idx sub : Nat) : Int :=
  match idx, sub with
  | 0x6000, 3 => shortId m
  | 0x6000, 5 => m.eventCounter
  | 0x6000, 6 => b2i (sealOpen m)
  | 0x6001, 0 => m.view.seq
  | 0x6001, 1 => m.view.total
  | 0x6001, 2 => m.view.c
  | 0x6001, 3 => m.view.roll
  | 0x6001, 4 => m.view.rollNm
  | 0x6001, 5 => m.view.status
  | 0x6001, 6 => m.view.rtc
  | 0x6001, 7 => m.view.zCount
  | 0x6010, s => metParam m.par s
  | 0x6022, 1 => m.quadErrors
  | 0x6022, 2 => m.msgSkipped
  | 0x6022, 3 => m.pulsesLost
  | 0x6022, 4 => m.powerGaps
  | 0x6022, 5 => m.storeErrors
  | _, _ => 0

/-- Bytes of the domain that the dictionary shows. -/
def metReadB (m : Met) (idx sub : Nat) : List Byte :=
  match idx, sub with
  | 0x6000, 1 => ("BLX16-MET ".toList.map (fun c => BitVec.ofNat 8 c.toNat)) ++ m.version
  | 0x6000, 2 => padTo m.imageHash 32 0
  | 0x6000, 4 => padTo m.approved 32 0
  | 0x6020, 1 => padTo m.rollLog.flatten 2048 0
  | 0x6021, 1 => padTo m.audit.flatten 32768 0
  | _, _ => []

/-! ### Steps -/

/-- MET_FILTER_ACCEPT (R530). -/
def execMetFilterAccept (t : Nat) (s : State) : Host.Outcome State Fault Refusal := metLive t s metAccept

/-- MET_PULSE_END (R532). -/
def execMetPulseEnd (t : Nat) (s : State) : Host.Outcome State Fault Refusal := metLive t s metPulseOver

/-- TOTALIZER_SLOT_WRITE (R536). -/
def execTotalizerSlotWrite (t : Nat) (s : State) : Host.Outcome State Fault Refusal := metLive t s metTickNow

/-- MET_MESSAGE_SEND (R540). -/
def execMetMessageSend (t : Nat) (s : State) : Host.Outcome State Fault Refusal := metSendStep t s

/-- SEAL_CHANGE (R537). -/
def execSealChange (t : Nat) (level : Bool) (s : State) : Host.Outcome State Fault Refusal :=
  metStep t s fun _ r => metSeal r level

/-- VDD_MET_WARNING (R529). -/
def execVddMetWarning (t : Nat) (s : State) : Host.Outcome State Fault Refusal :=
  metStep t s fun now r => { r with m := metWarning now r.m }

/-- VDD_MET_WARNING_END (R529). -/
def execVddMetWarningEnd (t : Nat) (s : State) : Host.Outcome State Fault Refusal :=
  metStep t s fun _ r => { r with m := metWarningEnd r.m }

/-- VDD_MET_POWER_ON (R529). -/
def execVddMetPowerOn (t : Nat) (image version : List Byte) (badSlots : List Nat) (s : State) :
    Host.Outcome State Fault Refusal :=
  metStep t s fun now r => { r with m := metPowerOn now r.m image version badSlots }

/-- MET_WATCHDOG (R528). -/
def execMetWatchdog (t : Nat) (s : State) : Host.Outcome State Fault Refusal :=
  metLive t s metReset

/-- MET_ENC_PIN_CHANGE (R530). -/
def execMetEncPinChange (t : Nat) (pin : EncPin) (level : Bool) (s : State) : Host.Outcome State Fault Refusal :=
  metStep t s fun now r => { r with m := metPinChange now r.m pin level }

end Sys2Proof.Machine
end

