-- ==== Sys2Proof/Machine/Rules.lean ====
section
/-! DEFINITION. The rules of the chapters that a written value must keep, beyond its type, its access, its role and its
table's range (R469): when static objects are taken, which objects guard one another, who may write what, and the lengths
of DOMAIN objects. -/

namespace Sys2Proof.Machine

/-! ### Static objects (R63, R105, R139, R159, R203, R230, R231, R271, R304, R324, R349, R402, R445, R464) -/

/-- Whether a static object of an index is taken now: its unit is OFF, its input's MODE is 0, or memory start-up is still
to come. -/
def staticOpen (d : Dev) (idx : Nat) : Bool :=
  let off (u : Nat) : Bool := d.ustate u == .off
  if 0x2000 ≤ idx && idx < 0x3000 then off (uPort ((idx - 0x2000) / 0x100))
  else if idx < 0x1500 then off (uMg (idx % 2))
  else if idx < 0x1800 then !d.inSvc 0x032
  else if idx < 0x1B00 then off 0x031
  else if idx < 0x1B10 then off 0x00B
  else if idx < 0x2000 then off 0x008
  else if idx < 0x3100 then off 0x00A
  else if idx < 0x3200 then true
  else if idx < 0x3210 then off 0x00C
  else if idx < 0x3300 then off 0x00D
  else if idx < 0x3500 then off 0x00E
  else if idx < 0x3600 then d.gn idx 1 == 0
  else off 0x00F

/-- Whether an object is static and cannot be written now. Chains follow their own rule (R243). -/
def staticShut (d : Dev) (idx sub : Nat) : Bool :=
  match objInfo idx sub with
  | none => false
  | some r => r.stat && !staticOpen d idx

/-! ### Rings and secure regions (R502) -/

/-- A ring or base that objects describe: the index, the subs of base and size, bytes per unit of the size. A size sub of 0
stands for one unit of the bytes. -/
structure RingDesc where
  base : Nat
  size : Nat
  unit : Nat

/-- The rings that an index describes. -/
def ringsOf (idx : Nat) : List RingDesc :=
  match objBase idx with
  | 0x2050 => [⟨3, 4, 1⟩]
  | 0x20a8 => [⟨3, 4, 1⟩]
  | 0x1b08 => [⟨3, 4, 1⟩]
  | 0x3208 => [⟨3, 4, 1⟩]
  | 0x3100 => [⟨3, 4, 1⟩]
  | 0x3401 => [⟨1, 2, 1⟩]
  | 0x3600 => [⟨6, 7, 1⟩, ⟨8, 0, 16384⟩]
  | 0x1a01 => [⟨4, 5, 1⟩, ⟨6, 7, 1⟩]
  | 0x1a02 => [⟨4, 5, 1⟩, ⟨6, 7, 1⟩]
  | 0x1a03 => [⟨1, 2, 1⟩]
  | 0x1a04 => [⟨1, 2, 64⟩, ⟨5, 2, 32⟩]
  | 0x1404 => [⟨1, 2, 2048⟩, ⟨5, 6, 2048⟩]
  | _ => []

/-- Whether a write of a ring or base object would make its ring overlap a secure region. -/
def ringInSecure (d : Dev) (idx sub : Nat) (v : Int) : Bool :=
  (ringsOf idx).any (fun r =>
    let pick (s : Nat) : Nat := if s = 0 then 1 else if s = sub then v.toNat else d.gn idx s
    let a := pick r.base
    let n := pick r.size * r.unit
    (r.base == sub || r.size == sub) && decide (0 < n) && (secureRegions d).any (fun q => a < q.2 && q.1 < a + n))

/-! ### Rules by chapter -/

/-- The lane of an index of the lane objects: camera lanes, or cascade lanes from 128 on. -/
def laneOfIdx (idx : Nat) : Nat := if idx < 0x2000 then 128 + idx % 16 else (idx - 0x2000) / 0x100 * 8 + idx % 8

/-- The port of an index of a port block. -/
def portOfIdx (idx : Nat) : Nat := (idx - 0x2000) / 0x100

/-- Rules of the time, position and trigger objects (R70, R74) and of the reference outputs (R77). -/
def clockWriteOk (d : Dev) (idx sub : Nat) (v : Int) : Bool :=
  if idx = 0x1220 then
    (List.range 4).all (fun k => bit v.toNat k == bit (d.gn 0x1220 sub) k ||
      (List.range 4).all (fun p => d.ustate (uPort (4 * k + p)) == .off))
  else if 0x3540 ≤ idx && idx < 0x3580 then cmpOwner d (idx - 0x3540) != 2
  else if 0x3580 ≤ idx && idx < 0x3590 && sub = 4 then decide (160 ≤ v) && decide (v + 160 ≤ d.gn idx 3)
  else if 0x3580 ≤ idx && idx < 0x3590 && sub = 3 then decide ((d.gn idx 4 : Int) + 160 ≤ v)
  else true

/-- Rules of the objects of a camera port: lanes (R100), correction banks (R151), taps (R157), geometry banks (R217). -/
def portWriteOk (d : Dev) (idx sub : Nat) (v : Int) : Bool :=
  match objBase idx with

  | 0x2044 => !bankLocked d (portOfIdx idx) (idx % 2)
  | 0x20a2 => !geoLocked d (portOfIdx idx) (idx % 2)
  | 0x2050 => if sub = 3 then v % 4096 == 0 else if sub = 4 then v % 4096 == 0 && decide (1048576 ≤ v) else true
  | 0x20a8 => if sub = 3 then v % 4096 == 0 else if sub = 4 then v % 4096 == 0 && decide (1048576 ≤ v) else true
  | 0x1b08 => if sub = 3 then v % 4096 == 0 else if sub = 4 then v % 4096 == 0 && decide (1048576 ≤ v) else true
  | 0x3208 => if sub = 3 then v % 4096 == 0 else if sub = 4 then v % 4096 == 0 && decide (1048576 ≤ v) else true
  | _ => true

/-- Rules of the grid, the raster and the marking engine (R202, R204, R207, R218, R340). -/
def gridWriteOk (d : Dev) (idx sub : Nat) (v : ObjVal) : Bool :=
  let n := v.int
  let cur (s : Nat) : Int := if s = sub then n else d.gi idx s
  if idx = 0x3000 && 7 ≤ sub && sub ≤ 9 then decide (cur 8 < cur 7) && decide (cur 9 < cur 8)
  else if idx = 0x3002 then !d.mdCoef.pending
  else if idx = 0x1B03 then !d.cdCoef.pending
  else if idx = 0x1B00 && sub ≤ 2 then decide (cur 1 + cur 2 ≤ 536870912)
  else if idx = 0x3640 && sub = 2 then trimOk v.bytes
  else true

/-- Rules of memory, monitors, cores and power (R385, R502, R548, R550, R579, R583, R595). -/
def sysWriteOk (d : Dev) (m : Master) (idx sub : Nat) (v : Int) : Bool :=
  let cur (s : Nat) : Int := if s = sub then v else d.gi idx s
  if idx = 0x1700 && (sub = 8 || sub = 9) then decide (cur 9 < cur 8)
  else if 0x1910 ≤ idx && idx < 0x1930 then
    if sub = 1 then probeOk v.toNat else if sub = 4 then decide (1 ≤ v) else true
  else if idx = 0x1602 then !d.gb 0x1602 9 || (sub = 9 && v == 1)
  else if idx = 0x1200 && sub = 1 then !(d.pow.avsOff && v == 1)
  else if idx = 0x1230 && sub = 6 then decide ((d.gn 0x1230 6 : Int) ≤ v)
  else if idx = 0x1230 && sub = 7 then v.toNat &&& d.gn 0x1230 7 == d.gn 0x1230 7
  else d.secureM m || !ringInSecure d idx sub v

/-- Whether an object's value keeps every rule of its chapter. -/
def writeRule (e : Env) (d : Dev) (m : Master) (idx sub : Nat) (v : ObjVal) : Bool :=
  let n := v.int
  !staticShut d idx sub && clockWriteOk d idx sub n && portWriteOk d idx sub n && gridWriteOk d idx sub v &&
  sysWriteOk d m idx sub n && chainWriteOk d idx sub n && segWriteOk d idx sub n && trackWriteOk d idx sub n &&
  settleWriteOk d idx sub n && compWriteOk e d idx sub n && netWriteOk d idx sub n

/-- A refused route sets ROUTE_LOOP (R314); other refusals leave no flag. -/
def ruleFlag (d : Dev) (idx sub : Nat) : Dev :=
  if idx = 0x3400 && (sub = 2 || sub = 3) && d.ustate 0x00E == .off then d.setFlag 0x3400 8 0 else d

/-- Objects that their table gives to a core in the secure state alone (R498, R502). -/
def secureOnly (idx sub : Nat) : Bool := (idx == 0x1104 && sub == 3) || (idx == 0x1602 && decide (sub ≤ 8))

/-! ### DOMAIN and VSTR values -/

/-- The greatest length of a DOMAIN that takes the length of each write (R469), none where the length is fixed. -/
def domBound (idx sub : Nat) : Option Nat :=
  match objBase idx, sub with
  | 0x1111, 1 => some 4096
  | 0x1400, 0x0B => some 128
  | 0x2086, 1 => some 384
  | 0x2024, 1 => some 1440
  | _, _ => none

/-- The bytes that a DOMAIN or VSTR object holds, before any live value. -/
def domBytes (d : Dev) (idx sub : Nat) : List Byte :=
  if objBase idx = 0x2044 then bankBytes d (portOfIdx idx) (idx % 2) sub else d.gB idx sub

/-- Whether a DOMAIN value has a length that its object takes. -/
def domLenOk (d : Dev) (idx sub : Nat) (b : List Byte) : Bool :=
  match domBound idx sub with
  | some n => decide (b.length ≤ n)
  | none => b.length == (domBytes d idx sub).length

end Sys2Proof.Machine
end

