-- ==== Sys2Proof/Machine/Overlays.lean ====
section
/-! DEFINITION. Overlays (R491 to R499): storing, activation and deactivation, and the boundaries at which their entries come
into and go out of force. -/

namespace Sys2Proof.Machine

/-- The index of overlay `k`'s objects (R499). -/
def oIdx (k : Nat) : Nat := 0x1110 + k

/-! ### Storing (R491) -/

/-- An entry's fields: index, sub, type code, and the value as it is extended (R475). -/
def readEntry (b : List Byte) : Nat × Nat × Nat × Nat := (leAt b 0 2, leAt b 2 1, leAt b 3 1, leAt b 8 8)

/-- Whether an object requests an action when written. -/
def isWo (idx sub : Nat) : Bool := match objInfo idx sub with | some r => r.acc == .wo | none => false

/-- The device with the rest of an overlay's values in force and no value waiting in a shadow. -/
def ovlTrial (d : Dev) (es : List OvlEntry) : Dev :=
  let put (t : Tab ObjVal) (x : OvlEntry) : Tab ObjVal := if isWo x.idx x.sub then t else tabSet t (okey x.idx x.sub) (.num x.val)
  { d with inForce := es.foldl put d.inForce, shadow := [] }

/-- Whether the fabric lets a domain write a channel's or the gate's object, and takes the value (R369 to R371). -/
def fabricTakes (e : Env) (d : Dev) (dom idx sub : Nat) (v : Nat) : Bool :=
  let m : Master := if dom = 1 then .core 0 true else if dom = 4 then .unitFw else if dom = 3 then .metSeam else .core 0 false
  if idx = 0x1503 then (gateSoftWrite e d m v).resp.status == stOK
  else (chanWrite d m dom (16 * (idx - 0x1540) + sub / 16) (sub % 16) v).resp.status == stOK

/-- Whether an object takes an entry's value from a domain, against the values in force (R491, R494). -/
def entryTakes (e : Env) (d : Dev) (dom : Nat) (x : OvlEntry) : Bool :=
  match objInfo x.idx x.sub with
  | none => false
  | some r =>
    r.ty.holds x.val && r.range.admits x.val && (r.ty != .bool || x.val == 0 || x.val == 1) &&
    (r.ty.signed || (x.val.toNat &&& objMask (objBase x.idx) x.sub) == x.val.toNat) &&
    writeRule e d .unitFw x.idx x.sub (.num x.val) &&
    (if x.idx = 0x1503 || (0x1540 ≤ x.idx && x.idx < 0x1550) then fabricTakes e d dom x.idx x.sub x.val.toNat else true)

/-- The entries that bytes spell, read without a check. -/
def readEntries (b : List Byte) : List OvlEntry :=
  (chunks 257 16 b).map (fun c =>
    let (i, s, _, v) := readEntry c
    let signed := match objInfo i s with | some r => r.ty.signed | none => false
    { idx := i, sub := s, val := if signed then wrapI 64 v else v })

/-- Whether an overlay may name an object: one that is shadow-capable (R491), or a limit of a port's jobs, which R175 has widened
through an overlay (DEDUCED, assumption log 114). -/
def ovlMay (idx : Nat) (r : ObjRow) : Bool := r.shadow || objBase idx == 0x2082

/-- Whether entry `i` of an overlay fails a check of R491. -/
def entryFails (e : Env) (d : Dev) (role dom : Nat) (cs : List (List Byte)) (es : List OvlEntry) (i : Nat) : Bool :=
  let c := nth cs i []
  let x := nth es i { idx := 0, sub := 0, val := 0 }
  match objInfo x.idx x.sub with
  | none => true
  | some r =>
    c.length != 16 || !ovlMay x.idx r || leAt c 3 1 != r.ty.code || (es.take i).any (fun y => y.idx == x.idx && y.sub == x.sub) ||
    decide (role < roleRank r.wr) || !entryTakes e (ovlTrial d es) dom x

/-- Compare unit `n` is armed one-shot at OVL_WP with LATE_FIRE, where it has OWNER 0 and is disarmed (R492). -/
def ovlArm (e : Env) (d : Dev) (k n : Nat) : Dev :=
  if 64 ≤ n || (d.cmp n).armed || cmpOwner d n ≠ 0 then d
  else
    let i := 0x3540 + n
    let d1 := ((d.put i 2 (d.gi (oIdx k) 7)).put i 3 0).put i 4 1
    cmpArmNow e (d1.put i 5 (putField (d1.gn i 5) 5 4 1 : Nat)) n

/-- A write of OVL_STORE (R491). -/
def ovlStore (e : Env) (d : Dev) (m : Master) (k : Nat) (v : Int) : Dev :=
  d.asWrite m (oIdx k) 2 v fun d =>
    let x := d.ovl k
    if v = 0 then d.ended m stOK
    else if x.state == .pendingOn || x.state == .active || x.state == .pendingOff then
      ((d.put (oIdx k) 0x0D 3).reject m (oIdx k)).ended m stBusy
    else
      let b := d.gB (oIdx k) 1
      let es := readEntries b
      let cs := chunks 257 16 b
      match (List.range cs.length).find? (entryFails e d (roleRank (d.roleOfM m)) (d.domOfM m) cs es) with
      | some i => ((d.put (oIdx k) 4 i).put (oIdx k) 0x0D 2).reject m (oIdx k)
      | none =>
        let st : OvlState := if es.isEmpty then .empty else .stored
        let d1 := d.setOvl k { state := st, entries := es, owner := d.domOfM m, role := d.roleOfM m }
        let d2 := ((d1.put (oIdx k) 3 es.length).put (oIdx k) 4 0xFFFF).put (oIdx k) 0x0D 0
        (if d2.gn (oIdx k) 5 = 2 then ovlArm e d2 k (d2.gn (oIdx k) 6) else d2).ended m stOK

/-! ### Values in force (R495) -/

/-- The values that applied entries put in force, the highest-numbered overlay's on top. -/
def ovlForce (d : Dev) : Dev :=
  let one (t : Tab ObjVal) (x : Ovl) : Tab ObjVal :=
    x.applied.foldl (fun (t : Tab ObjVal) i =>
      match x.entries[i]? with
      | some q => if isWo q.idx q.sub then t else tabSet t (okey q.idx q.sub) (.num q.val)
      | none => t) t
  { d with inForce := d.ovls.foldl (fun (t : Tab ObjVal) p => one t p.2) [] }

/-- What follows where the value in force of a clocked object changed: the enabled channels, a held offer of a channel that
is off, and the shadow of an armed compare unit's PERIOD (R66, R371). -/
def forceFollow (d : Dev) (x : OvlEntry) : Dev :=
  if 0x1540 ≤ x.idx && x.idx < 0x1550 && x.sub % 16 = 0x0A then
    let c := 16 * (x.idx - 0x1540) + x.sub / 16
    if chOn d c then { d with chanOn := ascPut d.chanOn c }
    else { latchClear d c with chanOn := d.chanOn.filter (· != c) }
  else if 0x3540 ≤ x.idx && x.idx < 0x3580 then cmpFieldWritten d (x.idx - 0x3540) x.sub
  else d

/-- The request that a wo entry makes (R472, R495). A bank swap of a port is made when its boundary line commits. -/
def ovlAct (d : Dev) (x : OvlEntry) : Dev :=
  let v := x.val.toNat
  if x.idx = 0x3001 then mdSwapRequest d v
  else if x.idx = 0x1B02 then cdSwapRequest d v
  else if 0x2000 ≤ x.idx && x.idx < 0x3000 && x.idx % 256 = 0xA0 then geoRequest d (portOfIdx x.idx) v
  else if 0x3110 ≤ x.idx && x.idx < 0x3130 && x.sub = 0x1A then (chainSwapRequest d (x.idx - 0x3110) v).1
  else if x.idx = 0x3200 && x.sub = 0x0F then if v = 1 then { d with seg := { d.seg with relearn := true } } else d
  else if x.idx = 0x3220 && x.sub = 1 then (treeSwapRequest d v).1
  else d

/-! ### Boundaries (R493) -/

/-- The unit at whose boundary an object's entry takes effect; 0 for clocked units off the stream. -/
def ovlUnit (idx : Nat) : Nat :=
  if 0x2000 ≤ idx && idx < 0x3000 then if idx % 256 < 0xA0 then uPipe (portOfIdx idx) else 0x00B
  else if 0x3000 ≤ idx && idx < 0x3100 then 0x00A
  else if 0x1B00 ≤ idx && idx < 0x2000 then 0x00B
  else if 0x3200 ≤ idx && idx < 0x3210 then 0x00C
  else if 0x3210 ≤ idx && idx < 0x3300 then 0x00D
  else if 0x3400 ≤ idx && idx < 0x3500 then 0x00E
  else if 0x3600 ≤ idx && idx < 0x3800 then 0x00F
  else if 0x1A00 ≤ idx && idx < 0x1B00 then 0x031
  else 0

/-- Whether the line that a unit takes next lies at or past a grid position; none stands for any line. -/
def lineReaches (d : Dev) (u : Nat) (w : Option Int) : Bool :=
  let at_ (n : Option Int) : Bool := match n with | none => false | some m => w.all (fun b => decide (b ≤ m))
  match u with
  | 0 => w.isNone || at_ (gridTop d)
  | 0x00A => w.isNone || at_ (gridTop d)
  | 0x00B => at_ (rasterNext d)
  | 0x031 => at_ (rasterNext d)
  | 0x00C => at_ (d.raster.head?.map (·.m))
  | 0x00D => at_ (d.classLines.head?.map (·.m))
  | 0x00E => at_ (d.classLines.head?.map (·.m))
  | _ =>
    match w, settleM d with
    | _, none => false
    | none, some _ => true
    | some b, some m => decide (gridWp d b ≤ m) && d.markQ.all (fun r => decide (gridWp d b ≤ r.key.1))

/-- Whether a port's next line lies at or past a boundary line. -/
def portReaches (d : Dev) (p : Nat) (lines : Tab Nat) : Bool :=
  match tabFind lines p, (d.pt p).ingress with
  | some n, l :: _ => lineAtOrAhead l.line n
  | _, _ => false

/-- Whether an overlay's boundary of activation, or of deactivation, has been reached at a unit. -/
def ovlReached (d : Dev) (x : Ovl) (u : Nat) (off : Bool) : Bool :=
  let going := x.offAt.isSome || x.offIdx.isSome
  if 0x020 ≤ u && u < 0x030 then portReaches d (u - 0x020) (if off then x.offLines else x.lines)
  else if off then going && lineReaches d u x.offIdx
  else lineReaches d u x.wIdx

/-- The entries of an overlay at a unit, as positions. -/
def entriesAt (x : Ovl) (u : Nat) : List Nat :=
  (List.range x.entries.length).filter (fun i => match x.entries[i]? with | some q => ovlUnit q.idx == u | none => false)

/-- W of an activation, and the boundary of an AFTER deactivation, once W is known (R492, R493). -/
def ovlW (d : Dev) (k : Nat) (w : Option Int) : Dev :=
  let x := d.ovl k
  match x.wIdx, w with
  | none, some m =>
    let d1 := (d.setOvl k { x with wIdx := some m }).put (oIdx k) 0x0F (gridWp d m)
    if d.gn (oIdx k) 8 = 4 && x.offAt.isNone then
      let b := gridCeil d (gridWp d m + d.gi (oIdx k) 0x0A)
      (d1.setOvl k { d1.ovl k with offIdx := some b }).put (oIdx k) 0x10 (gridWp d b)
    else d1
  | _, _ => d

/-- The first line that a unit has still to take. -/
def unitNext (d : Dev) (u : Nat) : Option Int :=
  match u with
  | 0x00A => gridTop d
  | 0x00B => rasterNext d
  | 0x031 => rasterNext d
  | 0x00C => d.raster.head?.map (·.m)
  | 0x00D => d.classLines.head?.map (·.m)
  | 0x00E => d.classLines.head?.map (·.m)
  | _ => none

/-- The entries of an overlay at a unit come into force (R493, R495): the first one makes it ACTIVE. -/
def ovlOnAt (e : Env) (d : Dev) (k u : Nat) : Dev :=
  let x := d.ovl k
  let ids := (entriesAt x u).filter (fun i => !x.applied.contains i)
  if ids.isEmpty || !(x.state == .pendingOn || x.state == .active || (x.state == .pendingOff && !x.removed)) ||
      !ovlReached d x u false then d
  else
    let qs := ids.filterMap (fun i => x.entries[i]?)
    let d1 := ovlW d k (unitNext d u)
    let y := d1.ovl k
    let first := y.state == .pendingOn
    let d2 := ovlForce (d1.setOvl k { y with applied := y.applied ++ ids, state := if first then .active else y.state })
    let d3 := qs.foldl (fun d q => forceFollow (if isWo q.idx q.sub then ovlAct d q else d) q) d2
    if first then
      let d4 := d3.inc (oIdx k) 0x13
      if d4.gn (oIdx k) 8 = 2 then ovlArm e d4 k (d4.gn (oIdx k) 9) else d4
    else d3

/-- The entries of an overlay at a unit go out of force (R495); with none left it reads STORED. -/
def ovlOffAt (d : Dev) (k u : Nat) : Dev :=
  let x := d.ovl k
  let ids := (entriesAt x u).filter (fun i => x.applied.contains i)
  if ids.isEmpty || !(x.state == .active || x.state == .pendingOff) || !ovlReached d x u true then d
  else
    let qs := ids.filterMap (fun i => x.entries[i]?)
    let left := x.applied.filter (fun i => !ids.contains i)
    let y : Ovl :=
      if left.isEmpty then { state := .stored, entries := x.entries, owner := x.owner, role := x.role, lines := x.lines }
      else { x with applied := left, state := .pendingOff, removed := true }
    let d1 := ovlForce (d.setOvl k y)
    qs.foldl forceFollow d1

/-- Every change that is due at a unit's boundary: deactivations first, each in ascending overlay number (R497). -/
def ovlSettle (e : Env) (d : Dev) (u : Nat) : Dev :=
  if d.ovls.isEmpty then d
  else
    let ks := d.ovls.map (·.1)
    ks.foldl (fun d k => ovlOnAt e d k u) (ks.foldl (fun d k => ovlOffAt d k u) d)

/-! ### Requests (R492, R494, R497) -/

/-- An activation request at the instant *t* (R492 to R494): `late` and `wp` of a POSITION, `sos` the port and line of a
STRIP. -/
def ovlOn (e : Env) (d : Dev) (k : Nat) (late : Bool) (wp : Option Int) (sos : Option (Nat × Nat)) : Dev :=
  let x := d.ovl k
  if x.state != .stored then d.inc 0x1100 5
  else if !x.entries.all (entryTakes e (ovlTrial d x.entries) x.owner) then d.put (oIdx k) 0x0D 2
  else
    let top := gridTop d
    let w := match wp, top with
      | some a, some b => some (max (gridCeil d a) b)
      | some a, none => some (gridCeil d a)
      | none, b => b
    let y : Ovl := { x with state := .pendingOn, applied := [], at_ := nowA e d, wIdx := none,
                            lines := (match sos with | some (p, n) => [(p, n)] | none => []),
                            offAt := none, offIdx := none, offLines := [], removed := false }
    let d1 := ((d.setOvl k y).put (oIdx k) 0x0D (if late then 1 else 0)).put (oIdx k) 0x0E (nowA e d : Nat)
    ovlW (ovlOnAt e d1 k 0) k w

/-- A deactivation request at the instant *t* (R492, R495). -/
def ovlOff (e : Env) (d : Dev) (k : Nat) (late : Bool) (wp : Option Int) (sos : Option (Nat × Nat)) : Dev :=
  let x := d.ovl k
  if x.state != .active then d.inc 0x1100 5
  else
    let top := gridTop d
    let w := match wp, top with
      | some a, some b => some (max (gridCeil d a) b)
      | some a, none => some (gridCeil d a)
      | none, b => b
    let y : Ovl := { x with state := .pendingOff, offAt := some (nowA e d), offIdx := w,
                            offLines := (match sos with | some (p, n) => [(p, n)] | none => []), removed := false }
    let d1 := (d.setOvl k y).put (oIdx k) 0x0D (if late then 1 else 0)
    let d2 := match w with | some b => d1.put (oIdx k) 0x10 (gridWp d b) | none => d1
    let z := { y with offIdx := none }
    let d3 := ovlOffAt (d2.setOvl k z) k 0
    if (d3.ovl k).state == .stored then d3 else d3.setOvl k { d3.ovl k with offIdx := w }

/-- OVL_CMD = 3 (R497): a change of which no entry has reached its boundary is cancelled. -/
def ovlCancel (d : Dev) (k : Nat) : Dev :=
  let x := d.ovl k
  match x.state with
  | .pendingOn => d.setOvl k { x with state := .stored }
  | .pendingOff =>
    if x.removed then d
    else
      let after := match x.wIdx with
        | some m => if d.gn (oIdx k) 8 = 4 then some (gridCeil d (gridWp d m + d.gi (oIdx k) 0x0A)) else none
        | none => none
      d.setOvl k { x with state := .active, offAt := none, offIdx := after, offLines := [] }
  | _ => d

/-- A write of OVL_CMD (R492, R499). -/
def ovlCmdWrite (e : Env) (d : Dev) (m : Master) (k : Nat) (v : Int) : Dev :=
  d.asWrite m (oIdx k) 0x0B v fun d =>
    (if v = 1 then ovlOn e d k false none none
     else if v = 2 then ovlOff e d k false none none
     else ovlCancel d k).ended m stOK

/-- The overlays for which a test holds, ascending. -/
def ovlsWith (d : Dev) (f : Nat → Ovl → Bool) : List Nat := (d.ovls.filter (fun p => f p.1 p.2)).map (·.1)

/-- A trigger of a kind with an argument comes (R492): deactivations first, then activations (R497). -/
def ovlTrigger (e : Env) (d : Dev) (kind arg : Nat) (late : Bool) (wp : Bool) (sos : Option (Nat × Nat)) : Dev :=
  let offs := ovlsWith d (fun k x => x.state == .active && d.gn (oIdx k) 8 == kind && d.gn (oIdx k) 9 == arg)
  let ons := ovlsWith d (fun k x => x.state == .stored && d.gn (oIdx k) 5 == kind && d.gn (oIdx k) 6 == arg)
  let pos (k : Nat) : Option Int := if wp then some (d.gi (oIdx k) 7) else none
  let d1 := offs.foldl (fun d k => ovlOff e d k late (pos k) sos) d
  ons.foldl (fun d k => ovlOn e d k late (pos k) sos) d1

/-- A grant at an overlay's task (R492): `on` for activation. -/
def ovlGrant (e : Env) (d : Dev) (k : Nat) (on : Bool) : Dev :=
  if on then if d.gn (oIdx k) 5 = 3 then ovlOn e d k false none none else d
  else if d.gn (oIdx k) 8 = 3 then ovlOff e d k false none none
  else d

/-- A line commits (R493): a STRIP trigger, then the boundary line of each overlay that waits for one on this port. A bank
swap entry is requested as its boundary line commits, so the line itself can be the boundary of the swap. -/
def ovlCommit (e : Env) (d : Dev) (p : Nat) (ln : CamLine) : Dev :=
  if d.ovls.isEmpty then d
  else
    let d1 := if bit ln.flags 7 then ovlTrigger e d 1 p false false (some (p, ln.line)) else d
    let free := d.gn (0x2020 + 0x100 * p) 5 == 1
    let past (at_ : Nat) : Bool := free || decide (0 < wrapI 64 ((ln.trigStamp : Int) - at_))
    d1.ovls.foldl (fun (d : Dev) q =>
      let k := q.1
      let x := d.ovl k
      let open_ := x.state == .pendingOn || x.state == .active
      let here := (tabFind x.lines p).isNone && open_ && past x.at_
      let mine := here || (open_ && tabFind x.lines p == some ln.line && bit ln.flags 7)
      let d2 := if here then d.setOvl k { x with lines := tabSet x.lines p ln.line } else d
      let swaps := x.entries.filter (fun z => mine && z.idx == cIdx p 2 && z.sub == 2)
      let d3 := swaps.foldl (fun d z => swapRequest d p z.val.toNat) d2
      let y := d3.ovl k
      let offNow := match y.offAt, y.offIdx with
        | some a, _ => past a
        | none, some b => (gridTop d3).any (fun m => decide (b < m))
        | none, none => false
      if (tabFind y.offLines p).isNone && offNow && (y.state == .active || y.state == .pendingOff) then
        d3.setOvl k { y with offLines := tabSet y.offLines p ln.line }
      else d3) d1

/-- OVL_STATE as its code (R499). -/
def ovlCode : OvlState → Nat
  | .empty => 0 | .stored => 1 | .pendingOn => 2 | .active => 3 | .pendingOff => 4

/-- Whether an overlay counts as ACTIVE for writes and reads (R496): its entry for the object is in force. -/
def overlaid (d : Dev) (idx sub : Nat) : Bool := (tabFind d.inForce (okey idx sub)).isSome

/-! ### The commands -/

/-- OVL_STORE (R491). -/
def execOvlStore (t : Nat) (m : Master) (k : Nat) (v : Int) (s : State) : Host.Outcome State Fault Refusal :=
  mainStep (masterOk m && okOvl k) t s fun e d => ovlStore e d m k v

/-- OVL_ACTIVATE (R492). -/
def execOvlActivate (t : Nat) (m : Master) (k : Nat) (s : State) : Host.Outcome State Fault Refusal :=
  mainStep (masterOk m && okOvl k) t s fun e d => ovlCmdWrite e d m k 1

/-- OVL_DEACTIVATE (R492). -/
def execOvlDeactivate (t : Nat) (m : Master) (k : Nat) (s : State) : Host.Outcome State Fault Refusal :=
  mainStep (masterOk m && okOvl k) t s fun e d => ovlCmdWrite e d m k 2

/-- OVL_CANCEL (R497). -/
def execOvlCancel (t : Nat) (m : Master) (k : Nat) (s : State) : Host.Outcome State Fault Refusal :=
  mainStep (masterOk m && okOvl k) t s fun e d => ovlCmdWrite e d m k 3

/-- OVL_BOUNDARY_REACHED (R493, R495, R497): the changes due at the unit's boundary, where this overlay's is one. -/
def execOvlBoundaryReached (t : Nat) (k u : Nat) (s : State) : Host.Outcome State Fault Refusal :=
  mainStep (okOvl k && okUnit u) t s fun e d =>
    if ovlReached d (d.ovl k) u true || ovlReached d (d.ovl k) u false then ovlSettle e d u else d

end Sys2Proof.Machine
end

