-- ==== Sys2Proof/Machine/Saved.lean ====
section
/-! DEFINITION. The configuration region of the boot flash (R490): what CONFIG_SAVE writes and how the region reads. -/

namespace Sys2Proof.Machine

/-- An entry of the region (R490): index, sub-index, type code, value bytes. -/
structure CfgEntry where
  idx : Nat
  sub : Nat
  ty : Nat
  val : List Byte
  deriving DecidableEq, Repr

/-- An entry as stored: padded to a 16-byte boundary. -/
def CfgEntry.bytes (x : CfgEntry) : List Byte :=
  let b := toLE 2 x.idx ++ toLE 1 x.sub ++ toLE 1 x.ty ++ toLE 4 x.val.length ++ x.val
  padTo b (ceilTo 16 b.length) 0

/-- A value as the region holds it, at its type's width. -/
def valBytes (t : ObjType) : ObjVal → List Byte
  | .num v => toLE t.bytes (wrapU (8 * t.bytes) v)
  | .blob b => b

/-- A number as its type reads bytes, least significant byte first. -/
def numOfBytes (t : ObjType) (b : List Byte) : Int :=
  if t.signed then wrapI (8 * t.bytes) (ofLE b) else ofLE b

/-- A value of a type from bytes. -/
def valOfBytes (t : ObjType) (b : List Byte) : ObjVal :=
  match t with
  | .vstr => .blob b
  | .domain => .blob b
  | _ => .num (numOfBytes t b)

/-- Banks of coefficients by index: the index of the bank that is saved in its place, the active one as bank 0 (R490); none
for bank 1. Other indices stand for themselves. -/
def bankSource (d : Dev) (idx : Nat) : Option Nat :=
  let pick (first active : Nat) : Option Nat := if idx = first then some (first + active) else none
  match objBase idx with
  | 0x2044 => pick (bankIdx (portOfIdx idx) 0) (activeBank d (portOfIdx idx))
  | 0x20a2 => pick (0x20A2 + 0x100 * portOfIdx idx) (geoBank d (portOfIdx idx))
  | 0x3180 => pick (kBank ((idx - 0x3180) / 2) 0) (kActive d ((idx - 0x3180) / 2))
  | _ => some idx

/-- The default against which a value is compared. -/
def savedDefault (d : Dev) (idx sub : Nat) : ObjVal :=
  if objBase idx = 0x2044 then .blob (bankIdent d (portOfIdx idx) sub) else objDflt idx sub

/-- The base values of rw objects as last written, by key: waiting shadows count, and the time unit's own. -/
def baseTable (e : Env) (d : Dev) : Tab ObjVal :=
  let u := tuOf e d
  let t := d.shadow.foldl (fun (t : Tab ObjVal) p => tabSet t p.1 p.2) d.o
  let own : List (Nat × Int) := [(3, u.par.offset), (4, u.par.rate), (8, u.slewLimit), (0x0A, u.epoch)]
  own.foldl (fun (t : Tab ObjVal) p => tabSet t (okey 0x1300 p.1) (.num p.2)) t

/-- The entry of an object where its base value differs from its default. -/
def cfgEntry (d : Dev) (t : Tab ObjVal) (idx sub : Nat) : Option CfgEntry :=
  match objInfo idx sub, bankSource d idx with
  | some r, some src =>
    if r.acc != .rw then none
    else
      match tabFind t (okey src sub) with
      | none => none
      | some v => if v = savedDefault d idx sub then none else some { idx := idx, sub := sub, ty := r.ty.code, val := valBytes r.ty v }
  | _, _ => none

/-- The keys to look at: every listed one, and bank 0 of each bank 1 that is listed. -/
def cfgKeys (t : Tab ObjVal) : List Nat :=
  (t.foldl (fun (k : Tab Unit) p =>
    let idx := p.1 / 256
    let b := objBase idx
    let k1 := tabSet k p.1 ()
    if b = 0x2044 || b = 0x20a2 || b = 0x3180 then tabSet k1 (okey (idx - idx % 2) (p.1 % 256)) () else k1) []).map (·.1)

/-- The entries of a stored overlay: the opener with the domain and role that stored it (DESIGN CHOICE, assumption log 105), then
its own. -/
def ovlCfg (k : Nat) (x : Ovl) : List CfgEntry :=
  if x.entries.isEmpty then []
  else
    { idx := 0xFFFF, sub := k, ty := 0x0E, val := toLE 1 x.owner ++ toLE 1 (roleCode x.role) } ::
      x.entries.map (fun q =>
        match objInfo q.idx q.sub with
        | some r => { idx := q.idx, sub := q.sub, ty := r.ty.code, val := valBytes r.ty (.num q.val) }
        | none => { idx := q.idx, sub := q.sub, ty := 0, val := [] })

/-- The region that a save writes (R490): the base, then the stored overlays, after the 16-byte header. -/
def configImage (e : Env) (d : Dev) : List Byte :=
  let t := baseTable e d
  let base := (cfgKeys t).filterMap (fun k => cfgEntry d t (k / 256) (k % 256))
  let all := base ++ d.ovls.flatMap (fun p => ovlCfg p.1 p.2)
  let body := all.flatMap CfgEntry.bytes
  toLE 4 0x42464731 ++ toLE 4 body.length ++ toLE 4 all.length ++ toLE 4 (crc32c body) ++ body

/-- The entries of a region's bytes. -/
def readCfg : Nat → List Byte → List CfgEntry
  | 0, _ => []
  | n + 1, b =>
    if b.length < 8 then []
    else
      let len := leAt b 4 4
      let x : CfgEntry := { idx := leAt b 0 2, sub := leAt b 2 1, ty := leAt b 3 1, val := (b.drop 8).take len }
      x :: readCfg n (b.drop (ceilTo 16 (8 + len)))

/-- Whether a region is whole: magic, length and CRC-32C (R490). -/
def cfgWhole (b : List Byte) : Bool :=
  let body := (b.drop 16).take (leAt b 4 4)
  decide (16 ≤ b.length) && leAt b 0 4 == 0x42464731 && body.length == leAt b 4 4 && crc32c body == leAt b 12 4

/-- CONFIG_SAVE (R490, R498): the region takes the configuration as it stands; a save that runs is not disturbed. -/
def configSaveWrite (e : Env) (d : Dev) (m : Master) (v : Int) : Dev :=
  d.asWrite m 0x1100 1 v fun d =>
    if v = 0 then d.ended m stOK
    else if d.saving then d.ended m stBusy
    else ({ d with saving := true, flash := configImage e d }.put 0x1100 2 1).ended m stOK

/-- A save completes (R490). -/
def configSaveDone (d : Dev) : Dev :=
  if d.saving then (({ d with saving := false }).put 0x1100 2 2).put 0x1100 3 (leAt d.flash 12 4) else d

/-- CONFIG_SAVE (R490). -/
def execConfigSave (t : Nat) (m : Master) (v : Int) (s : State) : Host.Outcome State Fault Refusal :=
  mainStep (masterOk m) t s fun e d => configSaveWrite e d m v

/-- CONFIG_SAVE_DONE (R490). -/
def execConfigSaveDone (t : Nat) (s : State) : Host.Outcome State Fault Refusal :=
  mainStep true t s fun _ d => configSaveDone d

end Sys2Proof.Machine
end

