-- ==== Sys2Proof/Machine/Objects.lean ====
section
/-! DEFINITION. Reads and writes of objects (R469 to R477): the value that each object shows, snapshots, the write of every
object, and the core aperture. -/

namespace Sys2Proof.Machine

/-! ### What objects show -/

/-- LINK_STATE (R107). -/
def linkCode : LinkState → Nat
  | .down => 0 | .hunt => 1 | .train => 2 | .locked => 3 | .aligned => 4 | .failed => 5

/-- PORT_LINK (R106). -/
def portCode : PortLink → Nat
  | .down => 0 | .training => 1 | .deskewing => 2 | .up => 3 | .upDegraded => 4 | .broken => 5

/-- CAMERA_STATE (R131). -/
def camCode : CameraState → Nat
  | .absent => 0 | .identifying => 1 | .configuring => 2 | .ready => 3 | .fault => 4

/-- CMD_STATUS (R485). -/
def cmdCode : CmdStatus → Nat
  | .idle => 0 | .pending => 1 | .done => 2 | .refused => 3 | .cancelled => 4

/-- The time unit's objects on the 1 GHz edge on which the read reaches it (R23, R27, R30, R32). -/
def timeRead (e : Env) (d : Dev) (sub : Nat) : Option Int :=
  let u := tuOf e d
  match sub with
  | 1 => some (nowA e d)
  | 2 => some (wrapU 64 (edge16 e.raw))
  | 3 => some (wrapI 64 u.par.offset)
  | 4 => some u.par.rate
  | 5 => some (wrapU 64 u.par.rawRef)
  | 6 => some (tsCode u.state)
  | 8 => some u.slewLimit
  | 9 => some (match u.par.slew with | none => 0 | some s => s.total - s.done (edge16 e.raw))
  | 0x0A => some u.epoch
  | _ => none

/-- The time snapshot's fields, all of one 1 GHz edge (R34). -/
def timeSnap (e : Env) (d : Dev) (sub : Nat) : Option Int :=
  let a := nowA e d
  match sub with
  | 1 => some a
  | 2 => some (wrapU 64 (edge16 e.raw))
  | 3 => some ((a / 16000000000 : Nat) : Int)
  | 4 => some ((a % 16000000000 / 16 : Nat) : Int)
  | 5 => some ((a % 16 : Nat) : Int)
  | 6 => some (tsCode (tuOf e d).state)
  | _ => none

/-- The view of a position input (R64). -/
def encView (e : Env) (d : Dev) (n sub : Nat) : Option Int :=
  let x := d.enc n
  match sub with
  | 1 => some (wrapI 64 x.pos)
  | 2 => some (wrapI 64 x.frontier)
  | 3 => some (wrapI 64 (encEst e d n))
  | 4 => some (wrapU 32 x.rev)
  | 5 => some (clampI (-2147483648) 2147483647 (encSpeed e d n))
  | 6 => some (x.lastStamp.getD 0)
  | 7 => some (clkA e d)
  | 8 => some (encStatus d n)
  | _ => none

/-- Live fields of a lane's results (R107). -/
def laneView (d : Dev) (l sub : Nat) : Option Int :=
  let x := d.lane l
  match sub with
  | 1 => some (linkCode x.link)
  | 2 => some (putBit (putBit (d.gn (laneRes l) 2) 1 x.locked) 0 x.locked)
  | 0x0B => some x.chk
  | _ => none

/-- Live fields of a port's link (R106). -/
def portView (d : Dev) (p sub : Nat) : Option Int :=
  let x := d.port p
  match sub with
  | 1 => some (portCode x.link)
  | 2 => some x.mask
  | 3 => some x.alignSeq
  | 4 => some (min x.skew 255)
  | 7 => some (payloadCapacity d p)
  | _ => none

/-- A unit's standard block (R485). -/
def unitView (d : Dev) (u sub : Nat) : Option Int :=
  let r := d.unit u
  match sub with
  | 1 => some u
  | 2 => some (match parentOf u with | none => 0xFFFF | some p => p)
  | 5 => some (stateCode r.state)
  | 7 => some (cmdCode r.status)
  | 8 => some r.cause
  | 9 => some r.member
  | 0x0A => some r.time
  | 0x0B => some r.changes
  | 0x0C => some (allowedOf u)
  | 0x0D => some r.resets
  | _ => none

/-- SLOT of a rank-channel (R405). -/
def slotView (d : Dev) (r : Nat) : Nat :=
  match slotOf d r with
  | some s => s % 7
  | none => if tabFind d.spares (r / 8) = some r then 0xFE else 0xFF

/-- CRC of a chain bank over its subindices 1 to 5 (R243), as it stands. -/
def chainCrcNow (d : Dev) (i : Nat) : Nat :=
  crc32c (d.gB i 1 ++ toLE 4 (d.gn i 2) ++ d.gB i 3 ++ toLE 4 (d.gn i 4) ++ d.gB i 5)

/-- BANK_CRC of a chain bank: as last computed. -/
def chainCrc (d : Dev) (i : Nat) : Nat :=
  match tabFind d.o (okey i 6) with
  | some v => v.int.toNat
  | none => chainCrcNow d i


/-- The bits of ACTIVE_OVERLAYS (R498). -/
def activeOvls (d : Dev) : Nat :=
  d.ovls.foldl (fun n p => if p.2.state == .active || p.2.state == .pendingOff then setBit n p.1 else n) 0

/-- The fields of a master's own view of its accesses (R498). -/
def masterView (d : Dev) (m : Master) (sub : Nat) : Option Int :=
  let r := d.mrec m
  match sub with
  | 1 => some ((b2n r.notReady + 2 * b2n r.refused + 4 * b2n r.overlaid + 8 * b2n r.denied + 256 * r.wstatus : Nat) : Int)
  | 2 => some (masterId m)
  | 4 => some r.held.length
  | _ => none

/-- The number an object shows where it is not the stored one. -/
def liveNum (e : Env) (d : Dev) (m : Master) (idx sub : Nat) : Option Int :=
  match objBase idx with
  | 0x1000 => none
  | 0x1100 => if sub = 4 then some (activeOvls d) else none
  | 0x1104 => masterView d m sub
  | 0x1111 =>
    let x := d.ovl (idx - 0x1110)
    if sub = 0x0C then some (ovlCode x.state) else if sub = 0x12 then some x.owner else none
  | 0x1300 => timeRead e d sub
  | 0x1301 => timeSnap e d sub
  | 0x1310 => if sub = 4 then some (putBit (d.gn idx 4) 0 (d.tc (idx - 0x1310)).armed) else none
  | 0x1530 => if sub % 16 = 6 then some (b2i (evpLevel d (16 * (idx - 0x1530) + sub / 16))) else none
  | 0x1540 =>
    let c := 16 * (idx - 0x1540) + sub / 16
    if bit (chGet d c 0x0A) 7 && !d.secureM m && sub % 16 ≠ 0x0C then
      some (if sub % 16 = 0x0A then 0x80 else 0)
    else none
  | 0x1608 => if sub = 2 then some (dbPending d m) else none
  | 0x1620 =>
    if sub = 1 then some (mbEnd d (idx - 0x1620) 0) else if sub = 5 then some (mbStatus d (idx - 0x1620)) else none
  | 0x1640 => some (intCfgRead d (128 * (idx - 0x1640) + (sub - 1)))
  | 0x1708 => if sub = 3 then some (spareState d (idx - 0x1708)) else none
  | 0x1780 => if sub = 1 then some (slotView d (idx - 0x1780)) else none
  | 0x1a01 => if sub = 8 then some (indexNext d 0) else none
  | 0x1a02 => if sub = 8 then some (indexNext d 1) else none
  | 0x1a03 => if sub = 3 then some (cropNext d) else none
  | 0x1b02 =>
    if sub = 5 then some (crc32c (d.gB 0x1B04 1)) else if sub = 6 then some (coefCrcLoad d cdObj 6) else none
  | 0x1b12 => if sub = 1 then some (nbCode (d.side (idx - 0x1B12)).state) else none
  | 0x1b30 => laneView d (laneOfIdx idx) sub
  | 0x2001 => portView d (portOfIdx idx) sub
  | 0x2010 => laneView d (laneOfIdx idx) sub
  | 0x2020 => if sub = 0x0A then some (rxLat d (portOfIdx idx)) else none
  | 0x2021 => if sub = 1 then some (camCode (d.pt (portOfIdx idx)).cam) else none
  | 0x2042 => if sub = 8 || sub = 9 then some (bankCrc d (portOfIdx idx) (sub - 8)) else none
  | 0x3001 =>
    if sub = 6 then some (crc32c (d.gB 0x3003 1)) else if sub = 7 then some (coefCrcLoad d mdObj 7) else none
  | 0x3100 => if sub = 5 then some (chainNext d) else none
  | 0x3110 => if sub = 0x1D then some (chainStatus d (idx - 0x3110)) else none
  | 0x3180 => if sub = 6 then some (chainCrc d idx) else none
  | 0x3206 => if sub = 0 then none else some (bgRead d sub)
  | 0x3220 =>
    if sub = 6 then some (crc32c (d.gB 0x3222 1)) else if sub = 7 then some (treeCrcLoad d) else none
  | 0x3401 => if sub = 4 then some (recNext d) else none
  | 0x3504 => encView e d (idx - 0x3504) sub
  | 0x3508 => if sub = 1 then some (encStatus d (idx - 0x3508)) else none
  | 0x3540 =>
    let w := d.cmp (idx - 0x3540)
    if sub = 5 then some (putBit (d.gn idx 5) 0 w.armed) else if sub = 0x0B then some (wrapI 64 (cmpTarget w)) else none
  | 0x7000 => unitView d (idx - 0x7000) sub
  | _ =>
    if 0x1580 ≤ idx && idx < 0x1599 && sub % 16 = 2 then
      some (putBit (d.gn idx sub) 1 (!(d.task (16 * (idx - 0x1580) + sub / 16)).held.isEmpty))
    else if 0x6000 ≤ idx && idx < 0x7000 then some (metRead (metNow e d) idx sub)
    else none

/-- A unit's name (R485): ports and pipelines as the spec's examples write names, the others open. -/
def unitName (u : Nat) : List Byte :=
  if 0x010 ≤ u && u < 0x020 then (("P" ++ toString (u - 0x010)).toList.map (fun c => BitVec.ofNat 8 c.toNat))
  else if 0x090 ≤ u && u < 0x0D0 then (("C" ++ toString (u - 0x090)).toList.map (fun c => BitVec.ofNat 8 c.toNat))
  else Config.unitName u

/-- The settings table as its object shows it (R130, R139). -/
def settingsBytes (l : List Settings) : List Byte :=
  padTo (l.flatMap (fun x => toLE 4 x.id ++ toLE 4 x.expDelay ++ toLE 4 x.exposure ++ toLE 4 0)) 256 0

/-- DOMAIN_STATE (R569, R584): a byte for each domain. -/
def domainBytes (e : Env) (d : Dev) : List Byte :=
  (List.range 48).map (fun k => BitVec.ofNat 8 (b2n (if k = 1 then (metNow e d).powered else bit d.domains k)))

/-- The bytes that a DOMAIN or VSTR object shows. -/
def liveBytes (e : Env) (d : Dev) (idx sub : Nat) : List Byte :=
  match objBase idx with
  | 0x1111 => if sub = 0x11 then (List.range 16).flatMap (fun p => toLE 4 (tabGet (d.ovl (idx - 0x1110)).lines 0 p)) else d.gB idx sub
  | 0x1240 => domainBytes e d
  | 0x1702 => if sub = 1 then memLogBytes d.memErrs else padTo (d.memLost.flatMap (toLE 8)) 512 0
  | 0x1708 =>
    match tabFind d.slots (idx - 0x1708) with
    | some l => l.map (BitVec.ofNat 8)
    | none => d.gB idx sub
  | 0x1960 => if sub = 9 then mismatchBytes d else d.gB idx sub
  | 0x2023 => dropLogBytes (d.pt (portOfIdx idx)).dropLog
  | 0x2025 => settingsBytes (d.pt (portOfIdx idx)).settings
  | 0x3229 => if sub = 4 then tracksBytes d else d.gB idx sub
  | 0x7000 =>
    if sub = 3 then unitName (idx - 0x7000)
    else if sub = 4 then (membersOf (idx - 0x7000)).flatMap (toLE 2) else []
  | _ =>
    if 0x6000 ≤ idx && idx < 0x7000 then metReadB (metNow e d) idx sub else domBytes d idx sub

/-- The value an object shows to a master; a wo object reads 0 (R7). -/
def objVal (e : Env) (d : Dev) (m : Master) (idx sub : Nat) : ObjVal :=
  match objInfo idx sub with
  | none => .num 0
  | some r =>
    if r.ty == .domain || r.ty == .vstr then
      .blob (if r.acc == .wo then List.replicate (domBytes d idx sub).length 0 else liveBytes e d idx sub)
    else if r.acc == .wo then .num 0
    else .num ((liveNum e d m idx sub).getD (d.gi idx sub))

/-! ### Snapshots (R473, R474) -/

/-- The subindices of a group. -/
def groupSubs (idx : Nat) : List Nat :=
  match objGroup idx with
  | none => []
  | some g => g.rows.flatMap (fun r => (List.range r.nsub).map (fun k => r.sub + k))

/-- Groups whose fields are read live at the latch, which is their publication (DESIGN CHOICE, assumption log 82). -/
def latchPublishes (idx : Nat) : Bool := idx == 0x1301 || idx == 0x3206 || (0x3504 ≤ idx && idx < 0x3508)

/-- A latch of a result group for a reader (R473): the values of every subindex, none where SEQ is 0. At most sixteen groups
are held (R474). -/
def latch (e : Env) (d : Dev) (m : Master) (idx : Nat) : Dev :=
  let b := objBase idx
  let d1 := if latchPublishes idx then d.publish idx
    else if b = 0x2010 || b = 0x1b30 then chkSettle e d (laneOfIdx idx) else d
  let s := (objVal e d1 m idx 0).int.toNat
  let vals := if s = 0 then [] else (groupSubs idx).map (fun k => (k, objVal e d1 m idx k))
  let r := d1.mrec m
  let kept := r.held.filter (fun h => h.idx != idx) ++ [{ idx := idx, seq := s, vals := vals }]
  d1.setMrec m { r with held := kept.drop (kept.length - 16) }

/-- The group that a reader holds. -/
def heldOf (d : Dev) (m : Master) (idx : Nat) : Option Held := (d.mrec m).held.find? (fun h => h.idx == idx)

/-- A zero of an object's type: what a group without a result reads (R474). -/
def zeroVal (d : Dev) (idx sub : Nat) : ObjVal :=
  match objInfo idx sub with
  | some r => if r.ty == .domain then .blob (List.replicate (domBytes d idx sub).length 0) else if r.ty == .vstr then .blob [] else .num 0
  | none => .num 0

/-- A read in a result group (R473, R474): the status and the value, with the latch it may take. -/
def groupRead (e : Env) (d : Dev) (m : Master) (idx sub : Nat) : Dev × Nat × ObjVal :=
  let d1 := if sub = 0 || (heldOf d m idx).isNone then latch e d m idx else d
  match heldOf d1 m idx with
  | none => (d1, stNotReady, zeroVal d1 idx sub)
  | some h =>
    if sub = 0 then (d1, stOK, .num h.seq)
    else if h.seq = 0 then (d1, stNotReady, zeroVal d1 idx sub)
    else match h.vals.find? (fun p => p.1 == sub) with
      | some p => (d1, stOK, p.2)
      | none => (d1, stOK, zeroVal d1 idx sub)

/-! ### Reads -/

/-- A read that shows an object and, for rc, clears it (R7, R471). -/
def plainRead (e : Env) (d : Dev) (m : Master) (idx sub : Nat) (r : ObjRow) : Dev :=
  let v := objVal e d m idx sub
  let d1 := if r.acc == .rc then d.put idx sub 0 else d
  if idx = 0x1104 && (sub = 1 || sub = 2 || sub = 4) then { d1 with resp := { status := stOK, val := v } }
  else d1.readEnded m stOK v

/-- A read of an object by a master (R469 to R477): its effect, MY_STATUS and the value in the response. Over the aperture a
slot with no object answers with a bus error (R475). -/
def objRead (e : Env) (d : Dev) (m : Master) (idx sub : Nat) : Dev :=
  match objInfo idx sub with
  | none => if onAperture m then busError d else d.readEnded m stNoObject (.num 0)
  | some r =>
    if isResultGroup idx then
      let (d1, st, v) := groupRead e d m idx sub
      d1.readEnded m st v
    else if 0x1610 ≤ idx && idx < 0x1618 && sub = 1 then intClaim d m (idx - 0x1610)
    else if 0x1620 ≤ idx && idx < 0x1640 && sub = 4 then mbRecv d m (idx - 0x1620)
    else if idx = 0x1660 then lockRead d m (sub - 1)
    else if idx = 0x1410 && sub = 1 then
      let (b, d1) := tsPop d
      d1.readEnded m stOK (.blob b)
    else if idx = 0x6010 && (sub = 9 || sub = 0x0A) then d.readEnded m stDenied (.num 0)
    else plainRead e d m idx sub r

/-! ### Writes -/

/-- What a take does at the task inputs of later chapters (R358): overlays (R492) and monitor captures (R551). -/
def taskHook : TaskHook := fun e d k _ _ =>
  if 0xD1 ≤ k && k < 0xF0 then ovlGrant e d (k - 0xD0) true
  else if 0x171 ≤ k && k < 0x190 then ovlGrant e d (k - 0x170) false
  else if 0x140 ≤ k && k < 0x160 then monPublish e d (k - 0x140)
  else d

/-- Numbers written to objects of the time, position and trigger units that have a step of their own. -/
def clockOwn (e : Env) (d : Dev) (m : Master) (idx sub : Nat) (v : Int) : Option Dev :=
  if idx = 0x1300 then
    match sub with
    | 3 => some (offsetWrite e d m v)
    | 4 => some (rateWrite e d m v)
    | 7 => some (declareValidWrite d m v)
    | 8 => some (slewLimitWrite d m v)
    | 0x0A => some (epochWrite e d m v)
    | _ => none
  else if 0x1310 ≤ idx && idx < 0x1330 && sub = 4 then
    some (d.asWrite m idx 4 v fun d => (tcControl e d (idx - 0x1310) v.toNat).ended m stOK)
  else if idx = 0x1340 && sub = 1 then some (ptpEnableWrite e d m v)
  else if 0x1404 ≤ idx && idx < 0x1406 && sub = 3 then some (txTailWrite e d m (idx - 0x1404) v)
  else if 0x3500 ≤ idx && idx < 0x3504 then
    if sub = 1 then some (encModeWrite e d m (idx - 0x3500) v)
    else if sub = 0x0C then some (indexArmWrite d m (idx - 0x3500) v) else none
  else if 0x350C ≤ idx && idx < 0x3510 then
    if sub = 1 then some (setValueWrite d m (idx - 0x350C) v) else some (setCmdWrite d m (idx - 0x350C) v)
  else if 0x3540 ≤ idx && idx < 0x3580 && sub = 5 then
    some (d.asWrite m idx 5 v fun d => cmpControl e d m (idx - 0x3540) v.toNat)
  else none

/-- Commands of a lane, camera or cascade (R100 to R104, R107). -/
def laneOwn (e : Env) (d : Dev) (m : Master) (idx sub : Nat) (v : Int) : Option Dev :=
  let b := objBase idx
  let l := laneOfIdx idx
  if b = 0x2008 || b = 0x1b20 then
    match sub with
    | 5 => some (if v = 1 then trainStartWrite e d m l else if v = 2 then trainAbortWrite e d m l
                 else d.asWrite m idx 5 v fun d => d.reject m idx)
    | 8 => some (laneClearWrite e d m l v)
    | _ => none
  else if b = 0x2018 || b = 0x1b40 then
    match sub with
    | 1 => some (d.asWrite m idx 1 v fun d => laneTestWrite e d m l 1 v)
    | 4 => some (d.asWrite m idx 4 v fun d => laneTestWrite e d m l 4 v)
    | 5 => some (d.asWrite m idx 5 v fun d => laneTestWrite e d m l 5 v)
    | 6 => some (if 1 ≤ v && v ≤ 3 then injectWrite e d m l v.toNat else d.asWrite m idx 6 v fun d => d.reject m idx)
    | _ => none
  else none

/-- Commands of a camera port (R95, R128, R139, R151 to R158, R170 to R176, R217). -/
def portOwn (e : Env) (d : Dev) (m : Master) (idx sub : Nat) (v : Int) : Option Dev :=
  let p := portOfIdx idx
  match objBase idx, sub with
  | 0x2002, 1 => some (mapRequestWrite e d m p v)
  | 0x2020, 0x0B => some (transClearWrite d m p v)
  | 0x2042, 2 => some (swapWrite d m p v)
  | 0x2042, 7 => some (bankCopyWrite d m p v)
  | 0x2050, 0x0E => some (tapArm d m idx v)
  | 0x20a8, 0x0E => some (tapArm d m idx v)
  | 0x1b08, 0x0E => some (tapArm d m idx v)
  | 0x3208, 0x0E => some (tapArm d m idx v)
  | 0x2080, 1 => some (jobStartWrite e d m p v)
  | 0x2080, 7 => some (commitWrite d m p v)
  | 0x2080, 8 => some (jobAbortWrite e d m p v)
  | 0x2080, 0x0E => some (deadResetWrite d m p v)
  | 0x20a0, 2 => some (geoSwapWrite d m p v)
  | 0x20a0, 6 => some (geoCopyWrite d m p v)
  | _, _ => none

/-- Commands of the grid, the chains, the segmenter, the tracker and the marking engine. -/
def gridOwn (e : Env) (d : Dev) (m : Master) (idx sub : Nat) (v : Int) : Option Dev :=
  match objBase idx, sub with
  | 0x3001, 1 => some (mdSwapWrite d m v)
  | 0x3001, 5 => some (mdCopyWrite d m v)
  | 0x1b02, 1 => some (cdSwapWrite d m v)
  | 0x1b02, 4 => some (cdCopyWrite d m v)
  | 0x3110, 0x0F => some (if v = 1 then chainRun d m (idx - 0x3110) else if v = 2 then chainStop d m (idx - 0x3110)
                          else d.asWrite m idx 0x0F v fun d => d.reject m idx)
  | 0x3110, 0x19 => some (detClear d m (idx - 0x3110) v)
  | 0x3110, 0x1A => some (chainSwapWrite d m (idx - 0x3110) v)
  | 0x3200, 0x0F => some (relearnWrite d m v)
  | 0x3210, 7 => some (squallWrite d m v)
  | 0x3220, 1 => some (treeSwapWrite d m v)
  | 0x3220, 5 => some (treeCopyWrite d m v)
  | 0x3600, 1 => some (headPowerWrite e d m v)
  | 0x3800, 6 => some (sacrNextWrite d m v)
  | 0x3802, 6 => some (scaleStartWrite d m v)
  | _, _ => none

/-- Objects of the event fabric (R369 to R377). -/
def fabricOwn (e : Env) (d : Dev) (m : Master) (idx sub : Nat) (v : Int) : Option Dev :=
  if idx = 0x1502 && sub = 2 then some (swFire e d m v)
  else if idx = 0x1503 then some (d.asWrite m idx sub v fun d => gateSoftWrite e d m v)
  else if idx = 0x1504 then some (d.asWrite m idx sub v fun d => (taskSelect d v.toNat).ended m stOK)
  else if 0x1540 ≤ idx && idx < 0x1550 then
    let c := 16 * (idx - 0x1540) + sub / 16
    if sub % 16 = 0x0C then
      match objInfo idx sub with
      | some r => some (if !r.ty.holds v then d.badType m else ownerWrite d m c v)
      | none => none
    else some (d.asWrite m idx sub v fun d => chanWrite d m (d.domOfM m) c (sub % 16) v.toNat)
  else if 0x1580 ≤ idx && idx < 0x1599 then
    some (d.asWrite m idx sub v fun d => taskWrite d m (16 * (idx - 0x1580) + sub / 16) (sub % 16) v.toNat)
  else none

/-- Objects of cores, mailboxes, memory, queues, compression, monitors and power that have a step of their own. -/
def sysOwn (e : Env) (d : Dev) (m : Master) (idx sub : Nat) (v : Int) : Option Dev :=
  match objBase idx, sub with
  | 0x1100, 1 => some (configSaveWrite e d m v)
  | 0x1111, 2 => some (ovlStore e d m (idx - 0x1110) v)
  | 0x1111, 0x0B => some (ovlCmdWrite e d m (idx - 0x1110) v)
  | 0x1210, 1 => some (d.asWrite m idx 1 v fun d => ({ d with warmAsk := d.warmAsk || v == 1 }).ended m stOK)
  | 0x1218, 2 => some (inspectWdogTimeWrite e d m v)
  | 0x1218, 3 => some (inspectKick e d m v)
  | 0x1608, 1 => some (dbRing e d m v)
  | 0x1608, 2 => some (dbClear d m v)
  | 0x1610, 2 => some (intComplete taskHook e d m (idx - 0x1610) v)
  | 0x1620, 1 => some (d.asWrite m idx 1 v fun d => mbEndWrite d m (idx - 0x1620) 1 v)
  | 0x1620, 2 => some (d.asWrite m idx 2 v fun d => mbEndWrite d m (idx - 0x1620) 2 v)
  | 0x1620, 3 => some (mbSend coreWake e d m (idx - 0x1620) v)
  | 0x1640, s => some (d.asWrite m idx s v fun d => intCfgWrite d m (128 * (idx - 0x1640) + (s - 1)) v)
  | 0x1660, s => some (lockWrite d m (s - 1) v)
  | 0x1661, 1 => some (lockBreak d m v)
  | 0x1700, 0x0E => some (migrateCmdWrite e d m v)
  | 0x1800, 3 => some (queueClearWrite d m v)
  | 0x1910, 9 => some (monPublishWrite e d m (idx - 0x1910) v)
  | 0x1910, 0x0D => some (testFeed e d m (idx - 0x1910) v)
  | 0x1960, 4 => some (d.asWrite m idx 4 v fun d =>
      if v = 1 then (if rotFree d then rotBegin e d else d).ended m stOK
      else if v = 2 then (rotAbortCmd e d).ended m stOK else d.reject m idx)
  | 0x1a04, 3 => some (jobTailWrite e d m v)
  | 0x7000, 6 => some (unitCmdWrite e d m (idx - 0x7000) v)
  | _, _ => none

/-- Whether a number's write has a step of its own. -/
def ownNum (e : Env) (d : Dev) (m : Master) (idx sub : Nat) (v : Int) : Option Dev :=
  (((((clockOwn e d m idx sub v).or (laneOwn e d m idx sub v)).or (portOwn e d m idx sub v)).or (gridOwn e d m idx sub v)).or
    (fabricOwn e d m idx sub v)).or (sysOwn e d m idx sub v)

/-- Bytes written to objects that have a step of their own: camera commands, FEED, FIRE_TEST, the nozzle map. -/
def ownBytes (e : Env) (d : Dev) (m : Master) (idx sub : Nat) (b : List Byte) : Option Dev :=
  match objBase idx, sub with
  | 0x2024, 1 => some (cmdRequestWrite e d m (portOfIdx idx) b)
  | 0x31c0, 1 => some (feedWrite e d m (idx - 0x31C0) b)
  | 0x3610, 0x11 => some (fireTestWrite e d m (idx - 0x3610) b)
  | 0x3640, 1 => some (remapWrite e d m b)
  | _, _ => none

/-- Checksums that a write leaves as they were until they are computed again (R151, R202, R218, R243, R295). -/
def crcHold (d : Dev) (idx : Nat) : Dev :=
  match objBase idx with
  | 0x2044 => bankTouch d (portOfIdx idx) (idx % 2)
  | 0x3002 => coefTouch d mdObj 7
  | 0x1b03 => coefTouch d cdObj 6
  | 0x3180 => d.put idx 6 (chainCrc d idx : Nat)
  | 0x3221 => d.put 0x3220 7 (treeCrcLoad d : Nat)
  | _ => d

/-- What follows a value that is now in force, against the device before it (R42, R46, R66, R153, R178, R265, R372). -/
def follow (e : Env) (old d : Dev) (idx sub : Nat) : Dev :=
  match objBase idx with
  | 0x2020 => if sub = 1 || sub = 2 || sub = 4 then bankReset d (portOfIdx idx) else d
  | 0x2018 => if sub = 2 then genFollow e old d (laneOfIdx idx) else d
  | 0x1b40 => if sub = 2 then genFollow e old d (laneOfIdx idx) else d
  | 0x2084 => if sub = 1 then trimMoved e d (portOfIdx idx) else d
  | 0x3201 => if sub = 1 then edgeSidesWritten e d else d
  | 0x1530 => if sub % 16 = 1 || sub % 16 = 3 then evpFollow e old d (16 * (idx - 0x1530) + sub / 16) else d
  | 0x1310 => tcFieldWritten d (idx - 0x1310) sub
  | 0x1330 => ttoSourced e old d (sub - 1)
  | 0x1348 => if sub = 1 then ppsFollow e d else d
  | 0x3540 => cmpFieldWritten d (idx - 0x3540) sub
  | _ => d

/-- Whether a direct write of an object waits in its shadow (R472): PERIOD of a compare unit keeps its own copy. -/
def shadows (idx : Nat) (r : ObjRow) : Bool := r.shadow && !(0x3540 ≤ idx && idx < 0x3580)

/-- Whether a write of an object is taken and changes nothing: the budget of a real-time port is fixed (R407; DEDUCED, assumption
log 73), and REMOTE_TX_TRAIN of a cascade lane ignores writes (R231). -/
def writeIgnored (idx sub : Nat) : Bool :=
  (0x1720 ≤ idx && idx < 0x1732 && sub == 3) || (0x1B20 ≤ idx && idx < 0x1B30 && sub == 4)

/-- A taken value put where it belongs (R472, R496): under an overlay into the base, else into the shadow or into force. -/
def putObj (e : Env) (d : Dev) (idx sub : Nat) (r : ObjRow) (v : ObjVal) : Dev :=
  if writeIgnored idx sub then d
  else if overlaid d idx sub then { d.putV idx sub v with shadow := tabErase d.shadow (okey idx sub) }
  else if shadows idx r then { d with shadow := tabSet d.shadow (okey idx sub) v }
  else follow e d ((crcHold d idx).putV idx sub v) idx sub

/-- STATUS of a write that is taken (R496). -/
def takenStatus (d : Dev) (idx sub : Nat) : Nat := if overlaid d idx sub then stOverlaid else stOK

/-- A write that has passed type, access, role and range is judged by its chapter's rules and stored (R469). The base under
an overlay is judged without it. -/
def ruledPut (e : Env) (d : Dev) (m : Master) (idx sub : Nat) (r : ObjRow) (v : ObjVal) : Dev :=
  let judged := if overlaid d idx sub then { d with inForce := [] } else d
  if !writeRule e judged m idx sub v then (ruleFlag d idx sub).reject m idx
  else (putObj e d idx sub r v).ended m (takenStatus d idx sub)

/-- A number written to an object without a step of its own (R469). A w1c object clears the bits that are 1; a wo object
takes nothing else. -/
def plainNum (e : Env) (d : Dev) (m : Master) (idx sub : Nat) (r : ObjRow) (v : Int) : Dev :=
  d.asWrite m idx sub v fun d =>
    if r.acc == .w1c then
      if !writeRule e d m idx sub (.num v) then d.reject m idx
      else (d.put idx sub (w1cWrite (d.gn idx sub) v.toNat (liveBits (objBase idx) sub) : Nat)).ended m stOK
    else if r.acc == .wo then d.ended m stOK
    else ruledPut e d m idx sub r (.num v)

/-- Bytes written to an object without a step of its own (R469). -/
def plainBytes (e : Env) (d : Dev) (m : Master) (idx sub : Nat) (r : ObjRow) (b : List Byte) : Dev :=
  if r.acc == .ro || r.acc == .const || r.acc == .rc then d.ended m stReadOnly
  else if !d.hasRole m r.wr then d.ended m stDenied
  else if !domLenOk d idx sub b then d.reject m idx
  else ruledPut e d m idx sub r (.blob b)

/-- A step of an object's own under an overlay that names the object: the base takes it (R496). -/
def underOverlay (d : Dev) (m : Master) (idx sub : Nat) (f : Dev → Option Dev) : Option Dev :=
  if overlaid d idx sub then
    (f { d with inForce := [] }).map (fun x =>
      let y := { x with inForce := d.inForce }
      if y.resp.status = stOK then y.ended m stOverlaid else y)
  else f d

/-- A write of an object by a master (R469 to R477, R496, R544). -/
def objWrite (e : Env) (d : Dev) (m : Master) (idx sub : Nat) (v : ObjVal) : Dev :=
  match objInfo idx sub with
  | none => d.ended m stNoObject
  | some r =>
    let bytes := r.ty == .domain || r.ty == .vstr
    match v with
    | .num n =>
      if bytes || !r.ty.holds n then d.badType m
      else if 0x6000 ≤ idx && idx < 0x7000 then
        if idx = 0x6010 then metWrite e d m (.num sub n) else d.ended m stReadOnly
      else if secureOnly idx sub && !isSecState m then d.ended m stDenied
      else (underOverlay d m idx sub (fun d => ownNum e d m idx sub n)).getD (plainNum e d m idx sub r n)
    | .blob b =>
      if !bytes then d.badType m
      else if 0x6000 ≤ idx && idx < 0x7000 then
        if idx = 0x6010 then metWrite e d m (.blob sub b) else d.ended m stReadOnly
      else (ownBytes e d m idx sub b).getD (plainBytes e d m idx sub r b)

/-- A write as it travels (R469): the type code must be the object's. -/
def typedWrite (e : Env) (d : Dev) (m : Master) (idx sub ty : Nat) (v : ObjVal) : Dev :=
  match objInfo idx sub with
  | none => d.ended m stNoObject
  | some r => if ty ≠ r.ty.code then d.badType m else objWrite e d m idx sub v

/-! ### Parts of DOMAIN and VSTR objects (R469, R476, R481) -/

/-- The bytes that an object shows, for partial access. -/
def objBytes (e : Env) (d : Dev) (m : Master) (idx sub : Nat) : List Byte := (objVal e d m idx sub).bytes

/-- DOMAINs that are commands: how many bytes make one (R128, R253, R348), judged from the bytes so far; none for others. -/
def cmdLen (idx sub : Nat) (b : List Byte) : Option Nat :=
  match objBase idx, sub with
  | 0x2024, 1 => let n := beAt b 1 1
                 some (if n < 1 || 32 < n then 8 else 6 + 8 * n)
  | 0x31c0, 1 => some 16
  | 0x3610, 0x11 => some 24
  | _, _ => none

/-- A part of a DOMAIN written at an offset inside its length `len`: the rest stays as it is, and the whole is judged as one
write. A command's parts gather unseen until its last byte is written, and then it is given (DESIGN CHOICE, assumption
log). -/
def partWrite (e : Env) (d : Dev) (m : Master) (idx sub off len : Nat) (b : List Byte) : Dev :=
  match objInfo idx sub with
  | none => d.ended m stNoObject
  | some r =>
    let whole := (patch (padTo (domBytes d idx sub) len 0) off b).take len
    if r.ty != .domain then d.badType m
    else
      match cmdLen idx sub whole with
      | some n =>
        if !d.hasRole m r.wr then d.ended m stDenied
        else if off + b.length < n then (d.putB idx sub whole).ended m stOK
        else objWrite e (d.putB idx sub []) m idx sub (.blob (whole.take n))
      | none => objWrite e d m idx sub (.blob whole)

/-! ### The core aperture (R475, R476) -/

/-- Whether an object has the aperture's offset register and data port. -/
def hasPort (idx sub : Nat) : Bool :=
  match objInfo idx sub with
  | some r => r.ty == .domain || r.ty == .vstr
  | none => false

/-- The offset register of a master for a slot set (R476). -/
def apOffset (d : Dev) (m : Master) (idx sub off : Nat) : Dev :=
  if !hasPort idx sub || !onAperture m then busError d
  else
    let r := d.mrec m
    (d.setMrec m { r with offsets := tabSet r.offsets (okey idx sub) off }).ended m stOK

/-- The bytes that a data port serves: a result group's from the snapshot (R473), others as they stand. -/
def portBytes (e : Env) (d : Dev) (m : Master) (idx sub : Nat) : Dev × Nat × List Byte :=
  if isResultGroup idx then
    let (d1, st, v) := groupRead e d m idx sub
    (d1, st, v.bytes)
  else if idx = 0x1410 && sub = 1 then
    if tabGet (d.mrec m).offsets 0 (okey idx sub) = 0 then
      let (b, d1) := tsPop d
      (d1.putB 0x1410 1 b, stOK, b)
    else (d, stOK, d.gB 0x1410 1)
  else (d, stOK, objBytes e d m idx sub)

/-- A data port read (R476): 8 bytes at the offset, zeros past the end; the offset advances. -/
def apRead (e : Env) (d : Dev) (m : Master) (idx sub : Nat) : Dev :=
  if !hasPort idx sub || !onAperture m then busError d
  else
    let off := tabGet (d.mrec m).offsets 0 (okey idx sub)
    let (d1, st, b) := portBytes e d m idx sub
    let r := d1.mrec m
    (d1.setMrec m { r with offsets := tabSet r.offsets (okey idx sub) (off + 8) }).readEnded m st
      (.num (leAt (padTo ((b.drop off).take 8) 8 0) 0 8))

/-- The length to which a DOMAIN extends when bytes up to `end_` are written: fixed, but for those whose writes set it and for
commands, which grow to hold them up to their bound (R469). -/
def partLen (d : Dev) (idx sub end_ : Nat) : Nat :=
  let old := (domBytes d idx sub).length
  match domBound idx sub with
  | some n => min n (max old end_)
  | none => match cmdLen idx sub [] with | some _ => max old (min end_ 24) | none => old

/-- A data port write (R476): 8 bytes stored at the offset, those past the end discarded; the offset advances. -/
def apWrite (e : Env) (d : Dev) (m : Master) (idx sub v : Nat) : Dev :=
  if !hasPort idx sub || !onAperture m then busError d
  else
    let off := tabGet (d.mrec m).offsets 0 (okey idx sub)
    let len := partLen d idx sub (off + 8)
    let d1 := if len ≤ off then d.ended m stOK else partWrite e d m idx sub off len (toLE 8 v)
    let r := d1.mrec m
    d1.setMrec m { r with offsets := tabSet r.offsets (okey idx sub) (off + 8) }

/-! ### Steps -/

/-- SNAPSHOT_LATCH (R473): a read of subindex 0 of a result group. -/
def execSnapshotLatch (t : Nat) (m : Master) (idx : Nat) (s : State) : Host.Outcome State Fault Refusal :=
  mainStep (masterOk m) t s fun e d => objRead e d m idx 0

/-- APERTURE_PORT_READ (R476). -/
def execAperturePortRead (t : Nat) (m : Master) (idx sub : Nat) (s : State) : Host.Outcome State Fault Refusal :=
  mainStep (masterOk m) t s fun e d => apRead e d m idx sub

/-- APERTURE_OFFSET_WRITE (R476). -/
def execApertureOffsetWrite (t : Nat) (m : Master) (idx sub off : Nat) (s : State) : Host.Outcome State Fault Refusal :=
  mainStep (masterOk m) t s fun _ d => apOffset d m idx sub off

/-- INT_COMPLETE (R508). -/
def execIntComplete (t : Nat) (m : Master) (c : Nat) (v : Int) (s : State) : Host.Outcome State Fault Refusal :=
  mainStep (masterOk m && okCore c) t s fun e d => intComplete taskHook e d m c v

end Sys2Proof.Machine
end

