-- ==== Sys2Proof/Machine/Fdp.lean ====
section
/-! DEFINITION. FDP (R478 to R484, R500, R542): sessions, the services of items, requests and their responses, streams. -/

namespace Sys2Proof.Machine

/-! ### Sessions: sixteen numbers, of which the metrology domain runs its own (R480, R542) -/

/-- A session by its number: the main domain's, or the metrology domain's where that one is open. -/
def sessOf (e : Env) (d : Dev) (k : Nat) : Session :=
  let x := tabGet (metNow e d).sessions {} k
  if x.isOpen then x else d.session k

/-- Whether a session is the metrology domain's. -/
def sessMet (e : Env) (d : Dev) (k : Nat) : Bool := (tabGet (metNow e d).sessions {} k).isOpen

/-- The session numbers that are open. -/
def openSessions (e : Env) (d : Dev) : List Nat := (List.range 16).filter (fun k => (sessOf e d k).isOpen)

/-- A main-domain session written. -/
def Dev.setSession (d : Dev) (k : Nat) (x : Session) : Dev := { d with sessions := tabSet d.sessions k x }

/-- A session written where it lives. -/
def putSess (e : Env) (d : Dev) (k : Nat) (x : Session) : Dev :=
  if sessMet e d k then { d with metOps := d.metOps ++ [.session k x] } else d.setSession k x

/-- SESSIONS_OPEN as it stands. -/
def showOpen (e : Env) (d : Dev) : Dev := d.put 0x1420 6 (openSessions e d).length

/-- The role key of a role (R479, R500, R542). -/
def roleKey (e : Env) (d : Dev) (role : Nat) : List Byte :=
  if role = 4 then padTo (metNow e d).par.roleKey 32 0
  else if role = 0 && d.gb 0x1420 3 then List.replicate 32 0
  else d.gB 0x1421 (role + 1)

/-- A session ID that no open session has: the first from a free value on (DEDUCED, assumption log 83). -/
def freeId (e : Env) (d : Dev) (f : Nat) : Nat :=
  let ids := (openSessions e d).map (fun k => (sessOf e d k).id)
  let cand := (List.range 18).map (fun i => (f + i) % 4294967296)
  (cand.find? (fun x => x != 0 && !ids.contains x)).getD 1

/-- A stream closed (R484). -/
def streamShut (d : Dev) (n : Nat) : Dev :=
  ({ d with streams := tabErase d.streams n }).pub (0x1440 + n) [(1, 0), (2, 0xFF), (3, 0)]

/-- A session closed with its streams and snapshots (R480). -/
def sessClose (e : Env) (d : Dev) (k : Nat) : Dev :=
  if !(sessOf e d k).isOpen then d
  else
    let d1 := (d.streams.filter (fun p => p.2.isOpen && p.2.owner == k)).foldl (fun d p => streamShut d p.1) d
    let d2 : Dev := { d1 with masters := tabErase d1.masters (32 + k) }
    let d3 := (putSess e d2 k {}).pub (0x1430 + k) [(1, 0), (2, 0), (3, 0), (4, 0)]
    showOpen e d3

/-! ### Services (R481) -/

/-- What a service answers: STATUS and data. -/
structure Answer where
  status : Nat
  data : List Byte := []

/-- A value at its type's width, most significant byte first; bytes as they are stored (R10, R481). -/
def wireValue (t : ObjType) (v : ObjVal) : List Byte :=
  match v with
  | .blob b => b
  | .num _ => (valBytes t v).reverse

/-- READ (R481). -/
def itemRead (e : Env) (d : Dev) (k idx sub : Nat) : Dev × Answer :=
  match objInfo idx sub with
  | none => (d.readEnded (.fdp k) stNoObject (.num 0), { status := stNoObject })
  | some r =>
    if r.ty == .domain && 1024 < (objBytes e d (.fdp k) idx sub).length then
      (d.readEnded (.fdp k) stTooBig (.num 0), { status := stTooBig })
    else
      let d1 := objRead e d (.fdp k) idx sub
      let st := d1.resp.status
      if st = stOK || st = stNotReady then
        let b := wireValue r.ty d1.resp.val
        (d1, { status := st, data := [BitVec.ofNat 8 r.ty.code, 0] ++ toBE 2 b.length ++ b })
      else (d1, { status := st })

/-- A travelled value as its object takes it; none where its width is not the type's (R469). -/
def travelled (t : ObjType) (b : List Byte) : Option ObjVal :=
  match t with
  | .domain => some (.blob b)
  | .vstr => some (.blob b)
  | _ => if b.length = t.bytes then some (.num (numOfBytes t b.reverse)) else none

/-- WRITE (R481). -/
def itemWrite (e : Env) (d : Dev) (k idx sub ty : Nat) (b : List Byte) : Dev × Answer :=
  let m : Master := .fdp k
  let d1 := match objInfo idx sub with
    | none => d.ended m stNoObject
    | some r =>
      match travelled r.ty b with
      | none => d.ended m stBadType
      | some v => typedWrite e d m idx sub ty v
  (d1, { status := d1.resp.status })

/-- READ_SEG (R481): part of a DOMAIN or VSTR. -/
def itemReadSeg (e : Env) (d : Dev) (k idx sub off count : Nat) : Dev × Answer :=
  let m : Master := .fdp k
  let fail (st : Nat) : Dev × Answer := (d.readEnded m st (.num 0), { status := st })
  if (objInfo idx sub).isNone then fail stNoObject
  else if !hasPort idx sub then fail stBadType
  else if 1024 < count || (objBytes e d m idx sub).length < off + count then fail stRange
  else
    let (d1, st, b) :=
      if isResultGroup idx then
        let (d1, st, v) := groupRead e d m idx sub
        (d1, st, v.bytes)
      else if idx = 0x1410 && sub = 1 then
        let (b, d1) := tsPop d
        (d1, stOK, b)
      else if idx = 0x6010 then (d, stDenied, [])
      else (d, stOK, objBytes e d m idx sub)
    (d1.readEnded m st (.blob ((b.drop off).take count)),
     { status := st, data := if st = stDenied then [] else toBE 4 b.length ++ (b.drop off).take count })

/-- WRITE_SEG (R469, R481): part of a DOMAIN, nothing where it reaches past the end. -/
def itemWriteSeg (e : Env) (d : Dev) (k idx sub off : Nat) (b : List Byte) : Dev × Answer :=
  let m : Master := .fdp k
  let old := (domBytes d idx sub).length
  let bound := match domBound idx sub with
    | some n => n
    | none => match cmdLen idx sub [] with | some n => n | none => old
  let d1 :=
    if (objInfo idx sub).isNone then d.ended m stNoObject
    else if bound < off + b.length then d.ended m stRange
    else partWrite e d m idx sub off (partLen d idx sub (off + b.length)) b
  (d1, { status := d1.resp.status })

/-- The roles that may write an object, bit by role (R470, R481). -/
def writeRoles (idx : Nat) (r : ObjRow) : Nat :=
  if r.acc == .ro || r.acc == .const || r.acc == .rc then 0
  else if 0x6000 ≤ idx && idx < 0x7000 then 0x10
  else
    let up := (List.range 4).foldl (fun n k => if roleRank r.wr ≤ k then setBit n k else n) 0
    if roleRank r.wr = 0 then setBit up 4 else up

/-- Keys of the metrology domain, which nobody may read (R544). -/
def sealedKey (idx sub : Nat) : Bool := idx == 0x6010 && (sub == 9 || sub == 0x0A)

/-- DESCRIBE (R481). -/
def itemDescribe (e : Env) (d : Dev) (k idx sub : Nat) : Dev × Answer :=
  match objInfo idx sub with
  | none => (d.readEnded (.fdp k) stNoObject (.num 0), { status := stNoObject })
  | some r =>
    let len := if hasPort idx sub then (objBytes e d (.fdp k) idx sub).length else r.ty.bytes
    let flags := b2n r.shadow + 2 * b2n r.stat + 4 * b2n (secureOnly idx sub)
    (d.readEnded (.fdp k) stOK (.num 0),
     { status := stOK,
       data := [BitVec.ofNat 8 r.ty.code, BitVec.ofNat 8 r.acc.code, BitVec.ofNat 8 (if sealedKey idx sub then 0 else 0x1F),
                BitVec.ofNat 8 (writeRoles idx r)] ++ toBE 4 len ++ [BitVec.ofNat 8 flags] })

/-- KEEPALIVE (R481). -/
def itemKeepalive (e : Env) (d : Dev) : Dev × Answer :=
  (d, { status := stOK, data := toBE 8 (nowA e d) ++ [BitVec.ofNat 8 (tsCode (tuOf e d).state)] })

/-- STREAM_OPEN (R484): the writing roles may, on a stream that no other session has open. -/
def itemStreamOpen (e : Env) (d : Dev) (k n ip port : Nat) : Dev × Answer :=
  let x := d.stream n
  if 16 ≤ n then (d, { status := stRange })
  else if roleRank (d.session k).role < 2 || (x.isOpen && x.owner != k) then (d, { status := stDenied })
  else
    let dest := ip % 4294967296 * 65536 + port % 65536
    let y : Stream := { isOpen := true, owner := k, dest := dest, port := (sessOf e d k).port }
    (({ d with streams := tabSet d.streams n y }).pub (0x1440 + n) [(1, 1), (2, k), (3, dest), (4, 0), (5, 0)], { status := stOK })

/-- STREAM_CLOSE (R484). -/
def itemStreamClose (d : Dev) (k n : Nat) : Dev × Answer :=
  let x := d.stream n
  if 16 ≤ n then (d, { status := stRange })
  else if x.isOpen && x.owner != k then (d, { status := stDenied })
  else (if x.isOpen then streamShut d n else d, { status := stOK })

/-- CLOSE (R480). -/
def itemClose (e : Env) (d : Dev) (k : Nat) : Dev × Answer := (sessClose e d k, { status := stOK })

/-! ### Requests (R478 to R483) -/

/-- A request item: OP and its parameters. -/
structure Item where
  op : Nat
  par : List Byte

/-- The items of a body; one whose length runs past the body ends it. -/
def readItems : Nat → List Byte → List Item
  | 0, _ => []
  | n + 1, b =>
    let len := beAt b 2 2
    if b.length < 4 || b.length < 4 + len then [] else ⟨beAt b 0 1, (b.drop 4).take len⟩ :: readItems n (b.drop (4 + len))

/-- The bytes of an item's response data, where it succeeds (R481). -/
def itemSize (e : Env) (d : Dev) (k : Nat) (x : Item) : Nat :=
  let idx := beAt x.par 0 2
  let sub := beAt x.par 2 1
  match x.op with
  | 1 => match objInfo idx sub with
    | none => 0
    | some r =>
      let n := if hasPort idx sub then (objBytes e d (.fdp k) idx sub).length else r.ty.bytes
      if 1024 < n then 0 else 4 + n
  | 3 => 4 + beAt x.par 8 2
  | 5 => 9
  | 8 => 9
  | _ => 0

/-- An item executed. An unknown OP, an OPEN in a session and parameters too short are REFUSED (DESIGN CHOICE, assumption
log). -/
def itemRun (e : Env) (d : Dev) (k : Nat) (x : Item) : Dev × Answer :=
  let p := x.par
  let idx := beAt p 0 2
  let sub := beAt p 2 1
  let need (n : Nat) (f : Dev × Answer) : Dev × Answer := if p.length < n then (d, { status := stRefused }) else f
  match x.op with
  | 1 => need 4 (itemRead e d k idx sub)
  | 2 => need 4 (itemWrite e d k idx sub (beAt p 3 1) (p.drop 4))
  | 3 => need 10 (itemReadSeg e d k idx sub (beAt p 4 4) (beAt p 8 2))
  | 4 => need 8 (itemWriteSeg e d k idx sub (beAt p 4 4) (p.drop 8))
  | 5 => need 4 (itemDescribe e d k idx sub)
  | 7 => itemClose e d k
  | 8 => itemKeepalive e d
  | 9 => need 10 (itemStreamOpen e d k (beAt p 0 1) (beAt p 4 4) (beAt p 8 2))
  | 0x0A => need 1 (itemStreamClose d k (beAt p 0 1))
  | _ => (d, { status := stRefused })

/-- A response item (R481). -/
def answerItem (op : Nat) (a : Answer) : List Byte :=
  [BitVec.ofNat 8 op, BitVec.ofNat 8 a.status] ++ toBE 2 a.data.length ++ a.data

/-- The items of a request executed in order (R483): `ended` once one has stopped the rest; `used` bytes of the response so
far. Room is kept for the heads of the items that follow (DEDUCED, assumption log 83). After a CLOSE the session is gone and
nothing more is executed. -/
def runItems (e : Env) (k : Nat) (stop : Bool) : List Item → Dev → Bool → List Byte → Dev × List Byte
  | [], d, _, out => (d, out)
  | x :: r, d, ended, out =>
    if ended then runItems e k stop r d true (out ++ answerItem x.op { status := stNotExec })
    else if 1440 < out.length + 4 + itemSize e d k x + 4 * r.length then
      runItems e k stop r d true (out ++ answerItem x.op { status := stTooBig })
    else
      let (d1, a) := itemRun e d k x
      let halt := (stop && a.status != stOK && a.status != stNotReady) || x.op == 7
      runItems e k stop r d1 halt (out ++ answerItem x.op a)

/-- Whether FDP is served on a port (R500). -/
def fdpOn (d : Dev) (g : Nat) : Bool := mgTakes d g && bit (d.gn 0x1420 1) g

/-- A number that a new session of a role can take: one of sixteen, and at most two of the metrology role (R480, R542). -/
def freeSession (e : Env) (d : Dev) (role : Nat) : Option Nat :=
  if role = 4 && 2 ≤ ((List.range 16).filter (fun k => sessMet e d k)).length then none
  else (List.range 16).find? (fun k => !(sessOf e d k).isOpen)

/-- OPEN (R479, R480): a session with its ID, key and response. A role that does not exist is REFUSED, and without room the
answer is BUSY; a metrology session needs its domain powered. -/
def fdpOpen (e : Env) (d : Dev) (g peer role : Nat) (nonce : List Byte) : Dev :=
  let answer (st : Nat) : Dev :=
    ({ d with resp := { status := st, val := .num 0 } }).emit
      (.datagram 16 (fdpHead 2 role 0 0 4 ++ answerItem 6 { status := st } ++ List.replicate 16 0))
  if !fdpOn d g then d
  else if 4 < role then answer stRefused
  else if role = 4 && !(metNow e d).powered then d
  else
    match freeSession e d role with
    | none => answer stBusy
    | some k =>
      let (f, d1) := d.fresh 32
      let id := freeId e d1 f
      let dn := padTo ((Config.deviceNonce d1.nonce).take 16) 16 0
      let key := hmacSha256 (roleKey e d1 role)
        (([0x46, 0x44, 0x50, 0x31] : List Byte) ++ padTo (nonce.take 16) 16 0 ++ dn ++ toBE 4 id)
      let body := answerItem 6 { status := stOK, data := dn ++ toBE 4 (d1.gn 0x1420 2) }
      let out := fdpDatagram 2 role id 0 key body
      let x : Session := { isOpen := true, id := id, role := roleOf role, port := g, peer := peer, key := key,
                           lastAt := e.now, lastResp := out }
      let d2 : Dev := { d1 with nonce := d1.nonce + 1, resp := { status := stOK, val := .num k } }
      let d3 := if role = 4 then { d2 with metOps := d2.metOps ++ [.session k x] } else d2.setSession k x
      (showOpen e (d3.pub (0x1430 + k)
        [(1, 1), (2, role), (3, g), (4, (peer % 2 ^ 48 : Nat)), (5, (nowA e d : Nat)), (6, 0)])).emit (.datagram k out)

/-- A new request of a session executed and answered (R480, R483). -/
def fdpExecute (e : Env) (d : Dev) (k seq flags : Nat) (body : List Byte) : Dev :=
  let x := sessOf e d k
  let (d1, out) := runItems e k (bit flags 0) (readItems 361 body) d false []
  let reply := fdpDatagram 2 (roleCode x.role) x.id seq x.key out
  let d2 :=
    if (sessOf e d1 k).isOpen then
      (putSess e d1 k { x with last := seq, lastAt := e.now, lastResp := reply, requests := x.requests + 1 }).incP (0x1430 + k) 6
    else d1
  d2.emit (.datagram k reply)

/-- A datagram that arrives for FDP (R478 to R480, R542): discarded where it is no request or its tag or role is wrong;
answered again where it repeats the last one. -/
def fdpRequest (e : Env) (d : Dev) (g peer : Nat) (b : List Byte) : Dev :=
  let len := beAt b 6 2
  let role := beAt b 5 1
  let id := beAt b 8 4
  let seq := beAt b 12 4
  let shape := decide (32 ≤ b.length) && b.length == 32 + len && decide (len ≤ 1440) && beAt b 0 2 == 0x4644 &&
    beAt b 2 1 == 1 && beAt b 3 1 == 1
  let body := (b.drop 16).take len
  let tag := b.drop (16 + len)
  if !fdpOn d g || !shape then d
  else if id = 0 then
    if tag != List.replicate 16 0 then d.inc 0x1420 4
    else
      match readItems 361 body with
      | [x] => if x.op = 6 && x.par.length = 20 && seq = 0 && beAt x.par 0 1 = role then
          fdpOpen e d g peer role (x.par.drop 4) else d
      | _ => d
  else
    match (openSessions e d).find? (fun k => (sessOf e d k).id == id) with
    | none => d.inc 0x1420 4
    | some k =>
      let x := sessOf e d k
      if role ≠ roleCode x.role || tag != (hmacSha256 x.key (b.take (16 + len))).take 16 then d.inc 0x1420 4
      else if seq = x.last then (putSess e d k { x with lastAt := e.now }).emit (.datagram k x.lastResp)
      else if wrapI 32 ((seq : Int) - x.last) ≤ 0 then d.inc 0x1420 5
      else fdpExecute e d k seq (beAt b 4 1) body

/-- A session without a valid request for SESSION_TIMEOUT closes (R480). -/
def sessTimeout (e : Env) (d : Dev) (k : Nat) : Dev :=
  let x := sessOf e d k
  if x.isOpen && decide (x.lastAt + d.gn 0x1420 2 * 16000000000 ≤ e.now) then sessClose e d k else d

/-- An item of an open session on its own: its effect, with STATUS and, for a read, the value in the response. -/
def oneItem (e : Env) (d : Dev) (k : Nat) (f : Dev → Dev × Answer) : Dev :=
  if !(sessOf e d k).isOpen then { d with resp := { status := stDenied, val := .num 0 } }
  else
    let (d1, a) := f d
    { d1 with resp := { status := a.status, val := .blob a.data } }

end Sys2Proof.Machine
end

