-- ==== Sys2Proof/Machine/Reset.lean ====
section
/-! DEFINITION. Reset kinds, straps, boot and recovery (chapter 24, R572 to R582), and the shape of the commands whose writes
can reach the sealed domain or ask for a warm reset. -/

namespace Sys2Proof.Machine

/-! ### What a reset keeps (R572) -/

/-- Values of objects that a reset keeps. -/
def keepObjs (d : Dev) (keys : List Nat) : Tab ObjVal :=
  keys.foldl (fun (t : Tab ObjVal) k => match tabFind d.o k with | some v => tabSet t k v | none => t) []

/-- What is fused in the part (R583). -/
def fusedKeys : List Nat := [okey 0x1230 6, okey 0x1230 7]

/-- The reset log (R572). -/
def logKeys : List Nat := [okey 0x1210 2, okey 0x1210 3]

/-- What else a warm reset keeps: the straps as sampled, what memory start-up found (R392, R572), the counters that are
cumulative from it (R403), and the counts that their tables give since power-on: position sets, calibration log entries and
power-ups of cores (R63, R186, R521). -/
def warmKeys : List Nat :=
  [okey 0x1000 4, okey 0x1230 1, okey 0x1700 2, okey 0x1700 3, okey 0x3801 2] ++
    [1, 2, 3, 4, 0x0B].map (okey 0x1701) ++ (List.range 8).map (fun c => okey (0x1618 + c) 3) ++
    (List.range 4).map (fun n => okey (0x3508 + n) 7)

/-- The level at an input's ball stays what it is. -/
def PinFilter.level (p : PinFilter) : PinFilter := { lvl := p.lvl, acc := p.lvl, runLvl := p.lvl }

/-- The position inputs after a reset; a warm reset keeps the counters (R54), from which the frontiers start anew (DESIGN
CHOICE, assumption log 110). -/
def encsAfter (d : Dev) (warm : Bool) : Tab Enc :=
  d.encs.map (fun (q : Nat × Enc) =>
    let x := q.2
    let b : Enc := { pinA := x.pinA.level, pinB := x.pinB.level, pinZ := x.pinZ.level }
    (q.1, if warm then { b with pos := x.pos, frontier := x.pos } else b))

/-- Event pins after a reset: levels at the balls. -/
def evpsAfter (d : Dev) : Tab EvPin := d.evps.map (fun (p : Nat × EvPin) => (p.1, { lvl := p.2.lvl }))

/-- The main domain with nothing but its defaults, the given objects, the flash and what lies at the pins. -/
def blank (d : Dev) (o : Tab ObjVal) (warm : Bool) : Dev :=
  { o := o, freeN := d.freeN, nonce := d.nonce, flash := d.flash, encs := encsAfter d warm, evps := evpsAfter d,
    out := d.out, resp := d.resp }

/-- Outputs that a reset drives low, with how many there are of each (R574). -/
def lowPins : List (String × Nat) :=
  [("REFOUT", 4), ("TRG", 16), ("TTO", 8), ("PPS_OUT", 1), ("HD_CLK", 8), ("HD_DAT", 8), ("HD_LAT", 8), ("HD_FIRE", 8),
   ("HD_HEAT", 8), ("HEAD_PWR_EN", 1), ("INSPECT_OK", 1)]

/-- The pins in a reset (R574). -/
def pinsLow (d : Dev) (raw : Nat) : Dev :=
  { d with out := d.out ++ lowPins.flatMap (fun q => (List.range q.2).map (fun k => Out.pin q.1 k false raw)) }

/-! ### The reset log (R572, R573) -/

/-- The bit of a cause that falls into a reset in progress. -/
def causeAdd (d : Dev) (bit : Nat) : Dev := d.setFlag 0x1210 2 bit

/-- The cause of a reset that is taken: RESET_CAUSE, and its count. -/
def causeTaken (d : Dev) (bit : Nat) : Dev :=
  let b := padTo (d.gB 0x1210 3) 28 0
  (d.put 0x1210 2 (2 ^ bit : Nat)).putB 0x1210 3
    (b.take (4 * bit) ++ toLE 4 ((leAt b (4 * bit) 4 + 1) % 4294967296) ++ b.drop (4 * bit + 4))

/-- VDD_CORE stays at its last voltage, and the bus unused stays unused (R574, R595). -/
def powKeep (d old : Dev) : Dev :=
  let d1 : Dev := { d with pow := { d.pow with vcmd := old.pow.vcmd, avsOff := old.pow.avsOff } }
  let d2 := if old.pow.vcmd = 720 then d1 else d1.put 0x1201 1 old.pow.vcmd
  if old.pow.avsOff then d2.put 0x1200 1 0 else d2

/-! ### Boot (R578 to R580) -/

/-- Boot begins after a reset: reserved straps halt it, a hot part waits in step 1, else step 1 passes (R577, R578). -/
def bootBegin (d : Dev) : Dev :=
  if 6 ≤ d.gn 0x1230 1 then ({ d with pow := { d.pow with boot := .halted } }).put 0x1230 4 2
  else { d with pow := { d.pow with boot := .step (if d.pow.coolWait then 1 else 2) } }

/-- Whether an image is valid (R579); one marked as a recovery image only in recovery. -/
def imageValid (d : Dev) (b : List Byte) (recovery : Bool) : Bool :=
  let n := leAt b 12 4
  let payload := (b.drop 192).take n
  let key := (b.drop 64).take 64
  decide (192 ≤ b.length) && leAt b 0 4 == 0xB1160B00 && leAt b 4 2 == 1 && (recovery || !bit (leAt b 6 2) 0) &&
  decide (n ≤ 983040) && payload.length == n &&
  (List.range 4).any (fun k => sha256 key == Config.fusedKeyHash k && !bit (d.gn 0x1230 7) k) &&
  sha256 payload == (b.drop 32).take 32 &&
  Config.ecdsaOk key ((b.drop 128).take 64) (sha256 (b.take 64 ++ payload)) &&
  decide (d.gn 0x1230 6 ≤ leAt b 8 4)

/-- The slot that boots (R579): the valid one of higher VERSION, A on a tie. -/
def chooseSlot (d : Dev) (a b : List Byte) : Option (Nat × List Byte) :=
  match imageValid d a false, imageValid d b false with
  | true, true => if leAt a 8 4 < leAt b 8 4 then some (1, b) else some (0, a)
  | true, false => some (0, a)
  | false, true => some (1, b)
  | false, false => none

/-- A value of the configuration region put in force (R490): no lock, owner or rule of use stands in its way, and what
follows from the value follows. Fused bits only rise; an unused AVSBus keeps GOV_EN at 0. OFFSET and RATE, which a warm reset
does not touch, are set after a power-on or cold reset alone (R27, R31). -/
def cfgPut (e : Env) (d : Dev) (idx sub : Nat) (v : ObjVal) : Dev :=
  let n := v.int
  let plain := follow e d (d.putV idx sub v) idx sub
  let fresh := d.gn 0x1210 2 % 16 != 0
  match objBase idx, sub with
  | 0x1300, 3 => if fresh then askTu d (.setOffset n) else d
  | 0x1300, 4 => if fresh then askTu d (.setRate n) else d
  | 0x1300, 8 => askTu d (.setSlewLimit n.toNat)
  | 0x1300, 0x0A => askTu d (.setEpoch n.toNat)
  | 0x1200, 1 => if d.pow.avsOff then d else plain
  | 0x1218, 2 => wdogKick e plain
  | 0x1230, 6 => d.peak 0x1230 6 n
  | 0x1230, 7 => d.put 0x1230 7 (d.gn 0x1230 7 ||| n.toNat : Nat)
  | 0x3640, 1 => deadCounts plain
  | 0x1340, 1 => ([0, 1].filter (fun k => bit n.toNat k)).foldl (fun d k => d.pub (sRes k) [(1, 1)]) plain
  | 0x3500, 1 =>
    let k := idx - 0x3500
    let x := d.enc k
    let un (p : PinFilter) : PinFilter := { p with primed := false, acc := p.lvl }
    plain.setEnc k { x with pinA := un x.pinA, pinB := un x.pinB, pinZ := un x.pinZ, onSince := e.raw }
  | 0x1540, s =>
    if s % 16 = 0x0A then
      let c := 16 * (idx - 0x1540) + s / 16
      { plain with chanOn := if bit n.toNat 0 then ascPut d.chanOn c else d.chanOn.filter (· != c) }
    else plain
  | _, _ => plain

/-- An overlay of the configuration region is stored again (R490, R491). -/
def cfgOvl (e : Env) (d : Dev) (k : Nat) (who : List Byte) (es : List CfgEntry) : Dev :=
  let entries : List OvlEntry := es.filterMap (fun x =>
    match objInfo x.idx x.sub with
    | some r => some { idx := x.idx, sub := x.sub, val := numOfBytes r.ty x.val }
    | none => none)
  let x : Ovl := { state := .stored, entries := entries, owner := leAt who 0 1, role := roleOf (leAt who 1 1) }
  let d1 := (((d.setOvl k x).put (oIdx k) 3 entries.length).put (oIdx k) 4 0xFFFF).put (oIdx k) 0x0D 0
  if d1.gn (oIdx k) 5 = 2 then ovlArm e d1 k (d1.gn (oIdx k) 6) else d1

/-- The entries of the region in the order saved: objects, then each overlay with what follows its opener. -/
def cfgRun (e : Env) : List CfgEntry → Option (Nat × List Byte × List CfgEntry) → Dev → Dev
  | [], none, d => d
  | [], some (k, w, es), d => cfgOvl e d k w es
  | x :: r, o, d =>
    if x.idx = 0xFFFF then
      let d1 := match o with | some (k, w, es) => cfgOvl e d k w es | none => d
      cfgRun e r (if okOvl x.sub then some (x.sub, x.val, []) else none) d1
    else
      match o with
      | some (k, w, es) => cfgRun e r (some (k, w, es ++ [x])) d
      | none =>
        let d1 := match objInfo x.idx x.sub with
          | some row => if row.acc == .rw && row.ty.code == x.ty then cfgPut e d x.idx x.sub (valOfBytes row.ty x.val) else d
          | none => d
        cfgRun e r none d1

/-- Boot applies the configuration region (R490, R580): one whose CRC fails is not applied and CONFIG_STATUS reads FAILED;
of a flash that holds none nothing is applied (DEDUCED, assumption log 104). -/
def cfgApply (e : Env) (d : Dev) : Dev :=
  if d.flash.isEmpty then d
  else if !cfgWhole d.flash then d.put 0x1100 2 3
  else (cfgRun e (readCfg (leAt d.flash 8 4) ((d.flash.drop 16).take (leAt d.flash 4 4))) none d).put 0x1100 3 (leAt d.flash 12 4)

/-- After a warm reset the memory leaves self refresh without training: its units return to what the slot maps say
(R392). -/
def memBack (e : Env) (d : Dev) : Dev :=
  let d1 := (List.range 96).foldl (fun d r =>
    unitMove e d (0x290 + r)
      (if (slotOf d r).isSome then .inService else if tabFind d.spares (r / 8) = some r then .shadow else .off)) d
  unitMove e ((List.range 12).foldl (fun d g => unitMove e d (0x0F0 + g) .inService) d1) 0x032 .inService

/-- Steps 3 and 4 with an image that is valid (R579, R580): it starts on core 0, the governor begins with GOV_VMAX, and the
configuration is applied; memory that a warm reset kept is back at once, else its start-up is awaited. -/
def bootImage (e : Env) (d : Dev) (slot : Nat) (image : List Byte) : Dev :=
  let d1 := (d.put 0x1230 2 slot).put 0x1230 3 (leAt image 8 4 : Nat)
  let d2 := unitTo e { d1 with pow := { d1.pow with boot := .step 4, vcmd := 720, reached := d1.pow.vcmd == 720, recv := [],
                                                    announceAt := none } } 0x100 .inService
  let d3 := d2.pub 0x1201 [(1, 720)]
  let d4 := if d3.pow.avsOff then d3 else d3.emit (.avs 720)
  let d5 := if d4.gn 0x1230 1 = 5 then d4 else cfgApply e d4
  if d5.slots.isEmpty then d5
  else let d6 := memBack e d5; { d6 with pow := { d6.pow with boot := .step 5 } }

/-- Step 2 ends and step 3 is taken (R578 to R580). -/
def bootMet (e : Env) (d : Dev) (report : Bool) (a b : List Byte) : Dev :=
  if d.pow.boot != .step 2 then d
  else
    let d1 := d.put 0x1230 5 (b2i !(report && e.met.powered))
    let mode := d1.gn 0x1230 1
    let rec_ (d : Dev) (g : Nat) : Dev := { d with pow := { d.pow with boot := .recovery g, recv := [], announceAt := none } }
    if 1 ≤ mode && mode ≤ 4 then rec_ d1 ((mode - 1) / 2)
    else match chooseSlot d1 a b with
      | some (slot, image) => bootImage e d1 slot image
      | none => rec_ (d1.put 0x1230 4 1) 0

/-- Memory start-up in step 4 (R391, R580): failed memory halts boot while the main image keeps running. -/
def bootMemory (e : Env) (d : Dev) (density : Nat) (failed : List Nat) : Dev :=
  if d.pow.boot != .step 4 then d
  else
    let (ok, d1) := memStartup e d density failed
    if ok then { d1 with pow := { d1.pow with boot := .step 5 } }
    else ({ d1 with pow := { d1.pow with boot := .halted } }).put 0x1230 4 3

/-! ### Recovery (R581) -/

/-- The locally administered address of the boot ROM. -/
def recoveryMac (d : Dev) : List Byte := toBE 4 0x02B11600 ++ toBE 2 (d.gn 0x1000 4 % 1024)

/-- A frame of the boot ROM. -/
def recoverySend (d : Dev) (g : Nat) (dst payload : List Byte) : Dev :=
  d.emit (.frame g (padTo (dst ++ recoveryMac d ++ toBE 2 0x88B5 ++ payload) 60 0))

/-- Whether a frame is one of recovery for this device: its EtherType, its message, its address or the broadcast. -/
def recoveryFor (d : Dev) (g : Nat) (b : List Byte) (msg : Nat) : Bool :=
  d.pow.boot == .recovery g && beAt b 12 2 == 0x88B5 && beAt b 14 1 == msg &&
  (b.take 6 == recoveryMac d || b.take 6 == List.replicate 6 255)

/-- ACK to the host that sent a frame. -/
def recoveryAck (d : Dev) (g : Nat) (b : List Byte) : Dev :=
  recoverySend d g ((b.drop 6).take 6) (toBE 1 3 ++ toBE 4 d.pow.recv.length)

/-- ANNOUNCE every second. -/
def recoveryHello (e : Env) (d : Dev) : Dev :=
  match d.pow.boot with
  | .recovery g =>
    if d.pow.announceAt.any (fun a => e.raw < a + 16000000000) then d
    else recoverySend { d with pow := { d.pow with announceAt := some e.raw } } g (List.replicate 6 255)
      (toBE 1 1 ++ toBE 2 (d.gn 0x1000 4) ++ toBE 1 (d.gn 0x1230 4))
  | _ => d

/-- DATA: taken at the expected offset alone, answered with ACK in every case. -/
def recoveryTake (d : Dev) (g : Nat) (b : List Byte) : Dev :=
  if !recoveryFor d g b 2 then d
  else
    let len := beAt b 19 2
    let data := (b.drop 21).take len
    let ok := 1 ≤ len && len ≤ 1400 && data.length == len && beAt b 15 4 == d.pow.recv.length
    recoveryAck (if ok then { d with pow := { d.pow with recv := d.pow.recv ++ data } } else d) g b

/-- GO: an image that passes is run; else ACK with offset 0, and the port waits again. -/
def recoveryStart (e : Env) (d : Dev) (g : Nat) (b : List Byte) : Dev :=
  if !recoveryFor d g b 4 then d
  else if d.pow.recv.length = beAt b 15 4 && imageValid d d.pow.recv true then bootImage e d 2 d.pow.recv
  else recoveryAck { d with pow := { d.pow with recv := [] } } g b

/-! ### Resets taken (R572, R573) -/

/-- A reset's step: time passes to it. -/
def resetAt (t : Nat) (s : State) (f : Nat → State → State) : Host.Outcome State Fault Refusal :=
  let now := max s.now t
  .next (f now { s with now := now, d := { s.d with out := [], resp := {} } })

/-- A power-on reset (R572): everything outside PD_MET, the reset log included; the raw counter at 0. -/
def powerOn (now : Nat) (s : State) : State :=
  let d := pinsLow (blank s.d (keepObjs s.d fusedKeys) false) 0
  { s with tu := { rawBase := now }, d := { d.put 0x1210 2 1 with pow := { heldBy := some 0 } } }

/-- A cold reset (R572): everything outside PD_MET but the reset log; held until COLD_RESET_RELEASE. A cause that falls into
a cold or power-on reset in progress adds its bit (R573). -/
def coldReset (bit now : Nat) (s : State) : State :=
  if s.d.pow.heldBy.isSome then { s with d := causeAdd s.d bit }
  else
    let d0 := pinsLow (blank s.d (keepObjs s.d (fusedKeys ++ logKeys)) false) 0
    let d1 := causeTaken d0 bit
    { s with tu := { rawBase := now }, d := powKeep { d1 with pow := { heldBy := some bit } } s.d }

/-- A power-on or cold reset ends (R23, R572, R578): the straps are sampled and boot starts. -/
def coldRelease (dev mode : Nat) (avs : Bool) (now : Nat) (s : State) : State :=
  if s.d.pow.heldBy.isNone then s
  else
    let p : PowerD := { s.d.pow with heldBy := none, avsOff := !avs }
    let d1 := (({ s.d with pow := p }).put 0x1000 4 (dev % 1024 : Nat)).put 0x1230 1 (mode % 8 : Nat)
    { s with tu := { rawBase := now }, d := bootBegin (if avs then d1.clearSubs 0x1200 [1] else d1.put 0x1200 1 0) }

/-- A warm reset (R572): cores, units and their objects, the event fabric, queues and SECREG; the time unit, position
counters, memory with its training, the straps and the reset log stay. -/
def warmReset (bit : Nat) (s : State) : State :=
  let raw := s.now - s.tu.rawBase
  let old := memWarm { raw := raw, tu := s.tu, met := s.met } s.d
  let d0 := blank old (keepObjs old (fusedKeys ++ logKeys ++ warmKeys)) true
  let d1 : Dev := { d0 with mem := old.mem, poison := old.poison, slots := old.slots, spares := old.spares, migs := old.migs,
                            mig := old.mig, domains := putBit 1 29 (Nat.testBit old.domains 29), scrubFrom := raw }
  let d2 := powKeep { d1 with pow := { kickAt := raw, coolWait := bit == 6 } } old
  { s with d := bootBegin (causeTaken (pinsLow d2 raw) bit) }

/-- A warm cause: a stronger reset in progress takes its bit alone (R573). -/
def warmCause (bit : Nat) (s : State) : State :=
  if s.d.pow.heldBy.isSome then { s with d := causeAdd s.d bit } else warmReset bit s

/-- Whether a sensor has read at or above TEMP_TRIP for 1 ms (R577). -/
def tripDue (s : State) : Bool :=
  s.d.pow.hot.any (fun q => q.2 + 16000000 ≤ s.now - s.tu.rawBase)

/-! ### Commands whose writes reach the sealed domain or ask for a warm reset -/

/-- The sealed domain does what a session's writes have asked of it (R537, R542, R547). -/
def metDrain (s : State) : State :=
  match s.d.metOps with
  | [] => s
  | ops =>
    let r := metSettle s.now (ops.foldl (fun r op => (metOp s.now r op).2) ({ m := s.met } : MetRun))
    let raw := s.now - s.tu.rawBase
    let d1 : Dev := { s.d with metOps := [], out := s.d.out ++ r.out }
    { s with met := r.m, d := r.ev.foldl (fun d p => d.raiseFrom p.1 p.2 raw none) d1 }

/-- A warm reset asked for is taken (R572). -/
def warmAsked (s : State) : State := if s.d.warmAsk then warmReset 4 s else s

/-- A command of the main domain that may write objects of every kind. -/
def mainFull (ok : Bool) (t : Nat) (s : State) (f : Env → Dev → Dev) : Host.Outcome State Fault Refusal :=
  if ok then .next (warmAsked (metDrain (runMain tcJudgeAll t s f))) else .fault .noInstance

/-! ### Resets and boot: the commands -/

/-- POWER_ON_RESET (R572): where every condition of the release holds at once, it ends at once. -/
def execPowerOnReset (t : Nat) (ready : Bool) (dev mode : Nat) (avs : Bool) (s : State) :
    Host.Outcome State Fault Refusal :=
  resetAt t s fun now s => let s1 := powerOn now s; if ready then coldRelease dev mode avs now s1 else s1

/-- RESET_N_LOW (R572). -/
def execResetNLow (t : Nat) (s : State) : Host.Outcome State Fault Refusal := resetAt t s (coldReset 1)

/-- BROWNOUT (R567). -/
def execBrownout (t : Nat) (s : State) : Host.Outcome State Fault Refusal := resetAt t s (coldReset 2)

/-- CLOCK_LOSS (R568). -/
def execClockLoss (t : Nat) (s : State) : Host.Outcome State Fault Refusal := resetAt t s (coldReset 3)

/-- COLD_RESET_RELEASE (R566, R567, R572). -/
def execColdResetRelease (t dev mode : Nat) (avs : Bool) (s : State) : Host.Outcome State Fault Refusal :=
  resetAt t s (coldRelease dev mode avs)

/-- WARM_RESET (R572). -/
def execWarmReset (t : Nat) (m : Master) (v : Int) (s : State) : Host.Outcome State Fault Refusal :=
  mainFull (masterOk m) t s fun e d => objWrite e d m 0x1210 1 (.num v)

/-- FW_WATCHDOG (R572). -/
def execFwWatchdog (t : Nat) (s : State) : Host.Outcome State Fault Refusal := resetAt t s fun _ s => warmCause 5 s

/-- THERMAL_TRIP (R577). -/
def execThermalTrip (t : Nat) (s : State) : Host.Outcome State Fault Refusal :=
  resetAt t s fun _ s => if tripDue s then warmCause 6 s else s

/-- BOOT_MET_CHECK (R580). -/
def execBootMetCheck (t : Nat) (report : Bool) (slotA slotB : List Byte) (s : State) : Host.Outcome State Fault Refusal :=
  mainStep true t s fun e d => bootMet e d report slotA slotB

/-- MEMORY_STARTUP (R391). -/
def execMemoryStartup (t density : Nat) (failed : List Nat) (s : State) : Host.Outcome State Fault Refusal :=
  mainStep true t s fun e d => bootMemory e d density failed

/-- RECOVERY_ANNOUNCE (R581). -/
def execRecoveryAnnounce (t : Nat) (s : State) : Host.Outcome State Fault Refusal :=
  mainStep true t s fun e d => recoveryHello e d

/-- RECOVERY_DATA (R581). -/
def execRecoveryData (t g : Nat) (frame : List Byte) (s : State) : Host.Outcome State Fault Refusal :=
  mainStep (okMg g) t s fun _ d => recoveryTake d g frame

/-- RECOVERY_GO (R581). -/
def execRecoveryGo (t g : Nat) (frame : List Byte) (s : State) : Host.Outcome State Fault Refusal :=
  mainStep (okMg g) t s fun e d => recoveryStart e d g frame

/-! ### Writes and FDP: the commands -/

/-- OBJECT_WRITE (R469): a number or, for a DOMAIN or VSTR, bytes. -/
def execObjectWrite (t : Nat) (m : Master) (idx sub ty : Nat) (v : Int) (data : List Byte) (s : State) :
    Host.Outcome State Fault Refusal :=
  mainFull (masterOk m) t s fun e d =>
    let bytes : Bool := match objInfo idx sub with | some r => r.ty == .domain || r.ty == .vstr | none => false
    typedWrite e d m idx sub ty (if bytes then .blob data else .num v)

/-- APERTURE_PORT_WRITE (R476). -/
def execAperturePortWrite (t : Nat) (m : Master) (idx sub v : Nat) (s : State) : Host.Outcome State Fault Refusal :=
  mainFull (masterOk m) t s fun e d => apWrite e d m idx sub v

/-- ROLL_END (R534). -/
def execRollEnd (t : Nat) (m : Master) (v : Int) (s : State) : Host.Outcome State Fault Refusal :=
  mainFull (masterOk m) t s fun e d => objWrite e d m 0x6010 0x0E (.num v)

/-- MET_PARAM_WRITE (R537). -/
def execMetParamWrite (t : Nat) (m : Master) (sub : Nat) (v : Int) (data : List Byte) (s : State) :
    Host.Outcome State Fault Refusal :=
  mainFull (masterOk m && okMetPar sub) t s fun e d =>
    objWrite e d m 0x6010 sub (if sub = 9 || sub = 0x0A then .blob data else .num v)

/-- APPROVE (R539). -/
def execApprove (t : Nat) (m : Master) (v : Int) (s : State) : Host.Outcome State Fault Refusal :=
  mainFull (masterOk m) t s fun e d => objWrite e d m 0x6010 0x0C (.num v)

/-- MET_RESTART (R528). -/
def execMetRestart (t : Nat) (m : Master) (v : Int) (s : State) : Host.Outcome State Fault Refusal :=
  mainFull (masterOk m) t s fun e d => objWrite e d m 0x6010 0x0D (.num v)

/-- RTC_SET (R538). -/
def execRtcSet (t : Nat) (m : Master) (v : Int) (s : State) : Host.Outcome State Fault Refusal :=
  mainFull (masterOk m) t s fun e d => objWrite e d m 0x6010 0x0B (.num v)

/-- FDP_READ (R481). -/
def execFdpRead (t k idx sub : Nat) (s : State) : Host.Outcome State Fault Refusal :=
  mainFull (okSess k) t s fun e d => oneItem e d k fun d => itemRead e d k idx sub

/-- FDP_WRITE (R481). -/
def execFdpWrite (t k idx sub ty : Nat) (value : List Byte) (s : State) : Host.Outcome State Fault Refusal :=
  mainFull (okSess k) t s fun e d => oneItem e d k fun d => itemWrite e d k idx sub ty value

/-- FDP_READ_SEG (R481). -/
def execFdpReadSeg (t k idx sub off count : Nat) (s : State) : Host.Outcome State Fault Refusal :=
  mainFull (okSess k) t s fun e d => oneItem e d k fun d => itemReadSeg e d k idx sub off count

/-- FDP_WRITE_SEG (R481). -/
def execFdpWriteSeg (t k idx sub off : Nat) (data : List Byte) (s : State) : Host.Outcome State Fault Refusal :=
  mainFull (okSess k) t s fun e d => oneItem e d k fun d => itemWriteSeg e d k idx sub off data

/-- FDP_DESCRIBE (R481). -/
def execFdpDescribe (t k idx sub : Nat) (s : State) : Host.Outcome State Fault Refusal :=
  mainFull (okSess k) t s fun e d => oneItem e d k fun d => itemDescribe e d k idx sub

/-- FDP_OPEN (R479). -/
def execFdpOpen (t g peer role : Nat) (nonce : List Byte) (s : State) : Host.Outcome State Fault Refusal :=
  mainFull (okMg g) t s fun e d => fdpOpen e d g peer role nonce

/-- FDP_CLOSE (R480). -/
def execFdpClose (t k : Nat) (s : State) : Host.Outcome State Fault Refusal :=
  mainFull (okSess k) t s fun e d => oneItem e d k fun d => itemClose e d k

/-- FDP_KEEPALIVE (R481). -/
def execFdpKeepalive (t k : Nat) (s : State) : Host.Outcome State Fault Refusal :=
  mainFull (okSess k) t s fun e d => oneItem e d k fun d => itemKeepalive e d

/-- FDP_STREAM_OPEN (R484). -/
def execFdpStreamOpen (t k n ip port : Nat) (s : State) : Host.Outcome State Fault Refusal :=
  mainFull (okSess k) t s fun e d => oneItem e d k fun d => itemStreamOpen e d k n ip port

/-- FDP_STREAM_CLOSE (R484). -/
def execFdpStreamClose (t k n : Nat) (s : State) : Host.Outcome State Fault Refusal :=
  mainFull (okSess k) t s fun e d => oneItem e d k fun d => itemStreamClose d k n

/-- FDP_REQUEST (R483). -/
def execFdpRequest (t g peer : Nat) (dgram : List Byte) (s : State) : Host.Outcome State Fault Refusal :=
  mainFull (okMg g) t s fun e d => fdpRequest e d g peer dgram

/-- SESSION_TIMEOUT (R480). -/
def execSessionTimeout (t k : Nat) (s : State) : Host.Outcome State Fault Refusal :=
  mainFull (okSess k) t s fun e d => sessTimeout e d k

end Sys2Proof.Machine
end

