-- ==== Sys2Proof/Machine/Joins.lean ====
section
/-! DEFINITION. Commands in which several chapters take part: counts, fires, packets, corrected and placed lines, channels,
and the lines on which overlay boundaries fall. -/

namespace Sys2Proof.Machine

/-! ### Position (chapters 3, 7, 8, 10, 12, 13) -/

/-- What other chapters do with a count and with a position set (R62). -/
def posHooks : PosHooks where
  onCount := fun e d n _ stamp => lullCount e d n stamp
  onRef := fun _ d _ => d
  onSet := fun e d n dist => settleSet e (trackSet (chainSet (lullSet (placeSet d n dist) n dist) n dist) n dist) n dist

/-- A fire of a position compare unit (R66): the row of its head, the overlays it triggers (R492), and the rows that its
skips lose (R335). -/
def cmpFired (e : Env) (d : Dev) (n : Nat) : Dev :=
  if !cmpDue e d n then d
  else
    let before := d.gn (0x3540 + n) 8
    let h := headOf d n
    let late := (d.cmp n).late
    markSkips e (cmpFireNow (fun e d n => ovlTrigger e (markFire e d n) 2 n late true none) e d n) n before h

/-- A fire of a time compare unit (R41): its chains take a sample at the fire's target (R234). -/
def tcFired (e : Env) (d : Dev) (n : Nat) : Dev :=
  if (d.tc n).armed && tcReached (nowA e d) (d.tc n).target then chainTick e (tcFireNow e d n) n (d.tc n).target else d

/-! ### Transport (chapters 5 to 8, 20, 23, 24) -/

/-- A line that commits: a handover of its pipeline, overlays whose boundary it is, a bank swap, the lulls, its place in
the placer's queue, and the heartbeat (R22). -/
def onCommit (e : Env) (d : Dev) (p : Nat) (ln : CamLine) : CamLine × Dev :=
  let d1 := ovlCommit e (rotLine e d p) p ln
  let (ln1, d2) := swapCommit d1 p ln
  let (ln2, d3) := lullCommit e d2 p ln1
  let d4 := placeCommit d3 p ln2 (sacrificed d3 p ln2)
  (ln2, heartLine e d4)

/-- What other chapters do with lines and strips as they arrive. -/
def transHooks : TransHooks where
  onCommit := onCommit
  onSos := sacrSos
  onStripEnd := fun e d p st flags => sacrStripEnd e (statStripEnd e d p st flags) p
  onUnselected := tap0Unselected

/-- Whether the port's last SOS line was dropped by what just happened: it is in the drop log and was still ahead. -/
def sosDropped (e : Env) (d d1 : Dev) (p : Nat) : Bool :=
  (d1.pt p).dropLog != (d.pt p).dropLog && ((d1.pt p).dropLog.take 2).any (fun x =>
    x.stamp == stampA e d1 e.raw && (d1.pt p).sosAt == some x.line && (d.pt p).lastLine.all (fun l => lineAhead x.line l))

/-- A dropped SOS line is no boundary for a swap that waits for it (R153). -/
def afterRx (e : Env) (d d1 : Dev) (p : Nat) : Dev := if sosDropped e d d1 p then swapSosDropped d1 p else d1

/-- A packet off a port's stream. -/
def packetIn (e : Env) (d : Dev) (p head : Nat) (b : List Byte) : Dev := afterRx e d (packetRx transHooks e d p head b) p

/-! ### A line that is both corrected and placed (R154, R174, R234) -/

/-- A line corrected and placed: the delay measurement takes it, and the chains where the resampler accepted it (R235). -/
def onBoth (e : Env) (d : Dev) (p : Nat) (c : CorrLine) (mid : Nat) (wp : Int) (accepted : Bool) : Dev :=
  let d1 := delayLine e d p c wp
  if accepted then chainLine e d1 p c.cam.line mid wp c.means else d1

/-- A corrected line: its means are the latest (R154), its job takes it, and it meets its placement where that came first. A
line that nobody will place is not kept. -/
def onLine (e : Env) (d : Dev) (p : Nat) (w : LineWork) : Dev :=
  let c := w.out
  let same (line arrival : Nat) : Bool := line == c.cam.line && arrival == c.cam.arrival
  let d1 := jobLine e (chainSignal d p { target := bit c.cam.flags 6, means := c.means }) p w
  let l := tabGet d1.placed [] p
  let d2 := match l.find? (fun q => same q.line q.arrival) with
    | some q =>
      onBoth e { d1 with placed := tabSet d1.placed p (l.filter (fun q => !same q.line q.arrival)) } p c q.mid q.wp q.accepted
    | none => d1
  let x := d2.pl p
  let kept := x.queue.any (fun q => same q.cam.line q.cam.arrival) || x.acc.any (fun a => same a.line a.arrival)
  let d3 := if kept then d2
    else { d2 with corr := tabSet d2.corr p ((tabGet d2.corr [] p).filter (fun y => !same y.cam.line y.cam.arrival)) }
  commitSettle e d3 p

/-- What other chapters do with a corrected line. -/
def pixHooks : PixHooks where
  onLine := onLine
  onCompare := rotCompare

/-- LINE_CORRECT with the overlay boundaries of the port's line before it. -/
def correctNext (e : Env) (d : Dev) (p : Nat) (skip : Bool) (diff : Option Nat) : Dev :=
  lineCorrect pixHooks e (ovlSettle e d (uPipe p)) p skip diff

/-- A placed line waits for its correction; the newest 64 are kept. -/
def placeHooks : PlaceHooks where
  onPlaced := fun _ d p ln mid wp _ =>
    let l := tabGet d.placed [] p ++ [{ line := ln.line, arrival := ln.arrival, mid := mid, wp := wp }]
    { d with placed := tabSet d.placed p (l.drop (l.length - 64)) }

/-- A line is placed, and meets its corrected self where that came first. -/
def placeJoin (e : Env) (d : Dev) (p : Nat) (full hold : Bool) : Dev :=
  let d1 := placeNext placeHooks e d p full hold
  let l := tabGet d1.placed [] p
  if l = tabGet d.placed [] p then d1
  else
    match l.getLast? with
    | none => d1
    | some q =>
      let acc := (d1.pl p).acc.getLast?.any (fun a => a.line == q.line && a.arrival == q.arrival)
      match (tabGet d1.corr [] p).find? (fun c => c.cam.line == q.line && c.cam.arrival == q.arrival) with
      | some c => onBoth e { d1 with placed := tabSet d1.placed p l.dropLast } p c q.mid q.wp acc
      | none => { d1 with placed := tabSet d1.placed p (l.dropLast ++ [{ q with accepted := acc }]) }

/-- A checksum recomputed (R151, R202, R218, R243, R295): of a pixel bank, a chain's bank, the MD or CD coefficients, the tree. -/
def crcUpdate (d : Dev) (kind n b : Nat) : Dev :=
  match kind with
  | 0 => bankCrcUpdate d n b
  | 1 => d.put (kBank n b) 6 (chainCrcNow d (kBank n b) : Nat)
  | 2 => d.put 0x3001 7 (crc32c (d.gB 0x3002 1) : Nat)
  | 3 => d.put 0x1B02 6 (crc32c (d.gB 0x1B03 1) : Nat)
  | _ => d.put 0x3220 7 (crc32c (d.gB 0x3221 1) : Nat)

/-! ### The commands -/

/-- ENC_FILTER_ACCEPT (R48). -/
def execEncFilterAccept (t n : Nat) (s : State) : Host.Outcome State Fault Refusal :=
  mainStep (okEnc n) t s fun e d => encAccept posHooks e d n

/-- CMP_FIRE (R66). -/
def execCmpFire (t n : Nat) (s : State) : Host.Outcome State Fault Refusal :=
  mainStep (okCmp n) t s fun e d => cmpFired e d n

/-- TC_FIRE (R41): on an edge at which an armed unit's target is reached, it fires. -/
def execTcFire (t n : Nat) (s : State) : Host.Outcome State Fault Refusal :=
  mainStep (okTc n) t s fun e d => tcFired e d n

/-- ALIGNMENT_BLOCK_RX (R85); a retraining of the port goes on where its lanes are aligned again (R186). -/
def execAlignmentBlockRx (t l : Nat) (blk : List Byte) (bip : Nat) (s : State) : Host.Outcome State Fault Refusal :=
  mainStep (okLane l) t s fun e d =>
    let d1 := alignRx laneHooks e d l blk bip
    if l < 128 then retrainAdvance e d1 (l / 8) else d1

/-- LINE_PACKET_RX (R132). -/
def execLinePacketRx (t p head : Nat) (packet : List Byte) (s : State) : Host.Outcome State Fault Refusal :=
  mainStep (okPort p) t s fun e d => packetIn e d p head packet

/-- BAD_BLOCK_RX (R110). -/
def execBadBlockRx (t p : Nat) (blk opened : Option (List Byte)) (s : State) :
    Host.Outcome State Fault Refusal :=
  mainStep (okPort p) t s fun e d => afterRx e d (badBlock transHooks e d p blk opened) p

/-- RESPONSE_RX (R128): a packet of VC2, taken by its own header. -/
def execResponseRx (t p : Nat) (packet : List Byte) (s : State) : Host.Outcome State Fault Refusal :=
  mainStep (okPort p) t s fun e d => packetIn e d p e.raw packet

/-- STATUS_MSG_RX (R121): a packet of VC2, taken by its own header. -/
def execStatusMsgRx (t p : Nat) (packet : List Byte) (s : State) : Host.Outcome State Fault Refusal :=
  mainStep (okPort p) t s fun e d => packetIn e d p e.raw packet

/-- USER_DATA_RX (R116): a packet of VC3, taken by its own header. -/
def execUserDataRx (t p : Nat) (packet : List Byte) (s : State) : Host.Outcome State Fault Refusal :=
  mainStep (okPort p) t s fun e d => packetIn e d p e.raw packet

/-- DELAY_RESP_RX (R125): `head` is the raw instant of the packet's first block. -/
def execDelayRespRx (t p head : Nat) (packet : List Byte) (s : State) : Host.Outcome State Fault Refusal :=
  mainStep (okPort p) t s fun e d => packetIn e d p head packet

/-- LINE_CORRECT (R142). -/
def execLineCorrect (t p : Nat) (skip : Bool) (diff : Option Nat) (s : State) : Host.Outcome State Fault Refusal :=
  mainStep (okPort p) t s fun e d => correctNext e d p skip diff

/-- BANK_CRC_UPDATE (R151). -/
def execBankCrcUpdate (t kind n b : Nat) (s : State) : Host.Outcome State Fault Refusal :=
  mainStep (okBank kind n b) t s fun _ d => crcUpdate d kind n b

/-- LINE_PLACE (R192). -/
def execLinePlace (t p : Nat) (full : Bool) (s : State) : Host.Outcome State Fault Refusal :=
  mainStep (okPort p) t s fun e d => placeJoin e d p full false

/-- LINE_HOLD (R192). -/
def execLineHold (t p : Nat) (full : Bool) (s : State) : Host.Outcome State Fault Refusal :=
  mainStep (okPort p) t s fun e d => placeJoin e d p full true

/-- GRID_LINE_EMIT (R196). -/
def execGridLineEmit (t p : Nat) (poison : List (Nat × Nat × Nat)) (s : State) : Host.Outcome State Fault Refusal :=
  mainStep (okPort p) t s fun e d => gridEmitSend e (ovlSettle e (ovlSettle e d 0x00A) 0) p poison

/-- RASTER_LINE_MAKE (R215). -/
def execRasterLineMake (t : Nat) (s : State) : Host.Outcome State Fault Refusal :=
  mainStep true t s fun e d => rasterLine stitchHooks e (ovlSettle e (ovlSettle e d 0x00B) 0x031)

/-- CLASS_LINE (R258). -/
def execClassLine (t : Nat) (s : State) : Host.Outcome State Fault Refusal :=
  mainStep true t s fun e d => classLine e (ovlSettle e (segBefore d) 0x00C)

/-- CLASS_LINE_TRACK (R277). -/
def execClassLineTrack (t : Nat) (s : State) : Host.Outcome State Fault Refusal :=
  mainStep true t s fun e d => trackLine e (ovlSettle e (ovlSettle e d 0x00D) 0x00E)

/-- MARK_ACCEPT (R339). -/
def execMarkAccept (t : Nat) (s : State) : Host.Outcome State Fault Refusal :=
  mainStep true t s fun e d => markAccept e (ovlSettle e d 0x00F)

/-- EVENT_OFFER (R359). -/
def execEventOffer (t c delay : Nat) (s : State) : Host.Outcome State Fault Refusal :=
  mainStep (okChan c) t s fun e d => eventOffer taskHook e d c delay

/-- HANDSHAKE_COMPLETE (R360). -/
def execHandshakeComplete (t c : Nat) (s : State) : Host.Outcome State Fault Refusal :=
  mainStep (okChan c) t s fun e d => handshakeDone taskHook e d c

/-- TASK_ACTION_END (R364). -/
def execTaskActionEnd (t k : Nat) (s : State) : Host.Outcome State Fault Refusal :=
  mainStep (okTask k) t s fun e d => taskActionEnd taskHook e d k

end Sys2Proof.Machine
end

