-- ==== Sys2Proof/Machine/Dispatch.lean ====
section
/-! DEFINITION. What each command does: one arm per command of the table. -/

namespace Sys2Proof.Machine

/-- The effect of a command on everything but the queue. -/
def exec (i : Instr) (s : State) : Host.Outcome State Fault Refusal :=
  match i with
  | .offsetWrite t m v => Sys2Proof.Machine.execOffsetWrite t m v s
  | .rateWrite t m v => Sys2Proof.Machine.execRateWrite t m v s
  | .declareValid t m v => Sys2Proof.Machine.execDeclareValid t m v s
  | .slewLimitWrite t m v => Sys2Proof.Machine.execSlewLimitWrite t m v s
  | .epochPtpSWrite t m v => Sys2Proof.Machine.execEpochPtpSWrite t m v s
  | .slewEnd t => Sys2Proof.Machine.execSlewEnd t s
  | .tcArm t m n ctl => Sys2Proof.Machine.execTcArm t m n ctl s
  | .tcDisarm t m n ctl => Sys2Proof.Machine.execTcDisarm t m n ctl s
  | .tcFire t n => Sys2Proof.Machine.execTcFire t n s
  | .ttoPulseEnd t k => Sys2Proof.Machine.execTtoPulseEnd t k s
  | .encPinChange t n pin level => Sys2Proof.Machine.execEncPinChange t n pin level s
  | .encFilterAccept t n => Sys2Proof.Machine.execEncFilterAccept t n s
  | .standstill t n => Sys2Proof.Machine.execStandstill t n s
  | .encModeWrite t m n v => Sys2Proof.Machine.execEncModeWrite t m n v s
  | .indexArm t m n v => Sys2Proof.Machine.execIndexArm t m n v s
  | .setValueWrite t m n v => Sys2Proof.Machine.execSetValueWrite t m n v s
  | .setAtNextCount t m n => Sys2Proof.Machine.execSetAtNextCount t m n s
  | .setAtPosSetGrant t m n => Sys2Proof.Machine.execSetAtPosSetGrant t m n s
  | .cmpArm t m n ctl => Sys2Proof.Machine.execCmpArm t m n ctl s
  | .cmpDisarm t m n ctl => Sys2Proof.Machine.execCmpDisarm t m n ctl s
  | .cmpFire t n => Sys2Proof.Machine.execCmpFire t n s
  | .trgPulseEnd t p => Sys2Proof.Machine.execTrgPulseEnd t p s
  | .blockLockAcquired t l => Sys2Proof.Machine.execBlockLockAcquired t l s
  | .lockLoss t l => Sys2Proof.Machine.execLockLoss t l s
  | .alignmentBlockRx t l blk bip => Sys2Proof.Machine.execAlignmentBlockRx t l blk bip s
  | .alignmentMissing t l => Sys2Proof.Machine.execAlignmentMissing t l s
  | .portStreamStopped t p => Sys2Proof.Machine.execPortStreamStopped t p s
  | .laneBlockBad t l blk => Sys2Proof.Machine.execLaneBlockBad t l blk s
  | .trainingRequestRx t l blk => Sys2Proof.Machine.execTrainingRequestRx t l blk s
  | .trainingStatusRx t l blk => Sys2Proof.Machine.execTrainingStatusRx t l blk s
  | .trainTimeout t l => Sys2Proof.Machine.execTrainTimeout t l s
  | .trainStepDone t l margin vert => Sys2Proof.Machine.execTrainStepDone t l margin vert s
  | .trainStart t m l => Sys2Proof.Machine.execTrainStart t m l s
  | .trainAbort t m l => Sys2Proof.Machine.execTrainAbort t m l s
  | .mapRequest t m p mask => Sys2Proof.Machine.execMapRequest t m p mask s
  | .laneMapAckRx t l blk => Sys2Proof.Machine.execLaneMapAckRx t l blk s
  | .mapNoAck t p => Sys2Proof.Machine.execMapNoAck t p s
  | .laneShadowTimeout t l => Sys2Proof.Machine.execLaneShadowTimeout t l s
  | .injectSingle t m l => Sys2Proof.Machine.execInjectSingle t m l s
  | .injectBurst t m l => Sys2Proof.Machine.execInjectBurst t m l s
  | .injectHeader t m l => Sys2Proof.Machine.execInjectHeader t m l s
  | .chkLock t l => Sys2Proof.Machine.execChkLock t l s
  | .chkRelock t l errors => Sys2Proof.Machine.execChkRelock t l errors s
  | .laneClearCounts t m l v => Sys2Proof.Machine.execLaneClearCounts t m l v s
  | .linePacketRx t p head packet => Sys2Proof.Machine.execLinePacketRx t p head packet s
  | .badBlockRx t p blk opened => Sys2Proof.Machine.execBadBlockRx t p blk opened s
  | .responseRx t p packet => Sys2Proof.Machine.execResponseRx t p packet s
  | .statusMsgRx t p packet => Sys2Proof.Machine.execStatusMsgRx t p packet s
  | .userDataRx t p packet => Sys2Proof.Machine.execUserDataRx t p packet s
  | .delayRespRx t p head packet => Sys2Proof.Machine.execDelayRespRx t p head packet s
  | .beaconSend t p => Sys2Proof.Machine.execBeaconSend t p s
  | .delayReqSend t p => Sys2Proof.Machine.execDelayReqSend t p s
  | .delayLost t p => Sys2Proof.Machine.execDelayLost t p s
  | .cmdRequest t m p payload => Sys2Proof.Machine.execCmdRequest t m p payload s
  | .cmdResend t p => Sys2Proof.Machine.execCmdResend t p s
  | .cmdTimeout t p => Sys2Proof.Machine.execCmdTimeout t p s
  | .cameraBusyRetry t p => Sys2Proof.Machine.execCameraBusyRetry t p s
  | .transportClearCounts t m p v => Sys2Proof.Machine.execTransportClearCounts t m p v s
  | .lineCorrect t p skip diff => Sys2Proof.Machine.execLineCorrect t p skip diff s
  | .swapNextLine t m p => Sys2Proof.Machine.execSwapNextLine t m p s
  | .swapNextSos t m p => Sys2Proof.Machine.execSwapNextSos t m p s
  | .swapAtLine t m p => Sys2Proof.Machine.execSwapAtLine t m p s
  | .swapCancel t m p => Sys2Proof.Machine.execSwapCancel t m p s
  | .bankCopy t m p v => Sys2Proof.Machine.execBankCopy t m p v s
  | .bankCopyDone t p => Sys2Proof.Machine.execBankCopyDone t p s
  | .bankCrcUpdate t kind n b => Sys2Proof.Machine.execBankCrcUpdate t kind n b s
  | .tapArm t m p k v => Sys2Proof.Machine.execTapArm t m p k v s
  | .stopLullOpen t => Sys2Proof.Machine.execStopLullOpen t s
  | .sacrificeNext t m v => Sys2Proof.Machine.execSacrificeNext t m v s
  | .calTriggerFire t => Sys2Proof.Machine.execCalTriggerFire t s
  | .jobStartDark t m p => Sys2Proof.Machine.execJobStartDark t m p s
  | .jobStartGain t m p => Sys2Proof.Machine.execJobStartGain t m p s
  | .jobStartGeometryEdge t m p => Sys2Proof.Machine.execJobStartGeometryEdge t m p s
  | .jobStartGeometryFull t m p => Sys2Proof.Machine.execJobStartGeometryFull t m p s
  | .jobStartColour t m p => Sys2Proof.Machine.execJobStartColour t m p s
  | .jobStartDelay t m p => Sys2Proof.Machine.execJobStartDelay t m p s
  | .illumSettleExpired t p => Sys2Proof.Machine.execIllumSettleExpired t p s
  | .delayRefGrant t k => Sys2Proof.Machine.execDelayRefGrant t k s
  | .jobComputeDone t p => Sys2Proof.Machine.execJobComputeDone t p s
  | .acqTimeout t p => Sys2Proof.Machine.execAcqTimeout t p s
  | .commit t m p v => Sys2Proof.Machine.execCommit t m p v s
  | .jobAbort t m p v => Sys2Proof.Machine.execJobAbort t m p v s
  | .deadReset t m p v => Sys2Proof.Machine.execDeadReset t m p v s
  | .jobCommitProceed t p crcOk => Sys2Proof.Machine.execJobCommitProceed t p crcOk s
  | .scaleStart t m v => Sys2Proof.Machine.execScaleStart t m v s
  | .scaleDone t => Sys2Proof.Machine.execScaleDone t s
  | .retrainStart t l => Sys2Proof.Machine.execRetrainStart t l s
  | .linePlace t p full => Sys2Proof.Machine.execLinePlace t p full s
  | .lineHold t p full => Sys2Proof.Machine.execLineHold t p full s
  | .gridLineEmit t p poison => Sys2Proof.Machine.execGridLineEmit t p poison s
  | .coefSwap t m => Sys2Proof.Machine.execCoefSwap t m s
  | .coefSwapCancel t m => Sys2Proof.Machine.execCoefSwapCancel t m s
  | .coefCopy t m v => Sys2Proof.Machine.execCoefCopy t m v s
  | .rasterLineMake t => Sys2Proof.Machine.execRasterLineMake t s
  | .nbWaitExpired t => Sys2Proof.Machine.execNbWaitExpired t s
  | .exportRx t side packet => Sys2Proof.Machine.execExportRx t side packet s
  | .helloRx t side packet => Sys2Proof.Machine.execHelloRx t side packet s
  | .helloSend t => Sys2Proof.Machine.execHelloSend t s
  | .continueRx t side packet => Sys2Proof.Machine.execContinueRx t side packet s
  | .settlePacketRx t side packet => Sys2Proof.Machine.execSettlePacketRx t side packet s
  | .tapPacketRx t side packet => Sys2Proof.Machine.execTapPacketRx t side packet s
  | .geoSwapAtPlaced t m p => Sys2Proof.Machine.execGeoSwapAtPlaced t m p s
  | .geoSwapAtWp t m p => Sys2Proof.Machine.execGeoSwapAtWp t m p s
  | .geoSwapCancel t m p => Sys2Proof.Machine.execGeoSwapCancel t m p s
  | .geoCopy t m p v => Sys2Proof.Machine.execGeoCopy t m p v s
  | .cdCoefSwap t m => Sys2Proof.Machine.execCdCoefSwap t m s
  | .cdCoefSwapCancel t m => Sys2Proof.Machine.execCdCoefSwapCancel t m s
  | .cdCoefCopy t m v => Sys2Proof.Machine.execCdCoefCopy t m v s
  | .chainSample t c => Sys2Proof.Machine.execChainSample t c s
  | .chainRun t m c => Sys2Proof.Machine.execChainRun t m c s
  | .chainStop t m c => Sys2Proof.Machine.execChainStop t m c s
  | .feed t m c data => Sys2Proof.Machine.execFeed t m c data s
  | .chainSwapNext t m c => Sys2Proof.Machine.execChainSwapNext t m c s
  | .chainSwapAtTime t m c => Sys2Proof.Machine.execChainSwapAtTime t m c s
  | .chainSwapCancel t m c => Sys2Proof.Machine.execChainSwapCancel t m c s
  | .detClear t m c v => Sys2Proof.Machine.execDetClear t m c v s
  | .classLine t => Sys2Proof.Machine.execClassLine t s
  | .relearn t m v => Sys2Proof.Machine.execRelearn t m v s
  | .classLineTrack t => Sys2Proof.Machine.execClassLineTrack t s
  | .lineEntryWaitExpired t => Sys2Proof.Machine.execLineEntryWaitExpired t s
  | .squallCmdEnter t m => Sys2Proof.Machine.execSquallCmdEnter t m s
  | .squallCmdExit t m => Sys2Proof.Machine.execSquallCmdExit t m s
  | .treeSwap t m => Sys2Proof.Machine.execTreeSwap t m s
  | .treeSwapCancel t m => Sys2Proof.Machine.execTreeSwapCancel t m s
  | .treeCopy t m v => Sys2Proof.Machine.execTreeCopy t m v s
  | .recordsReadyTimer t => Sys2Proof.Machine.execRecordsReadyTimer t s
  | .markAccept t => Sys2Proof.Machine.execMarkAccept t s
  | .rowFire t h => Sys2Proof.Machine.execRowFire t h s
  | .firePulseEnd t h => Sys2Proof.Machine.execFirePulseEnd t h s
  | .headIdReadDone t h regs => Sys2Proof.Machine.execHeadIdReadDone t h regs s
  | .rcheckStart t h => Sys2Proof.Machine.execRcheckStart t h s
  | .rcheckResult t h reply => Sys2Proof.Machine.execRcheckResult t h reply s
  | .headPower t m v => Sys2Proof.Machine.execHeadPower t m v s
  | .headPwrSettled t => Sys2Proof.Machine.execHeadPwrSettled t s
  | .fireTest t m h data => Sys2Proof.Machine.execFireTest t m h data s
  | .remapWrite t m data => Sys2Proof.Machine.execRemapWrite t m data s
  | .eventOffer t c delay => Sys2Proof.Machine.execEventOffer t c delay s
  | .handshakeComplete t c => Sys2Proof.Machine.execHandshakeComplete t c s
  | .taskActionEnd t k => Sys2Proof.Machine.execTaskActionEnd t k s
  | .evpEdge t k level => Sys2Proof.Machine.execEvpEdge t k level s
  | .evpPulseEnd t k => Sys2Proof.Machine.execEvpPulseEnd t k s
  | .swFire t m v => Sys2Proof.Machine.execSwFire t m v s
  | .channelOwnerWrite t m c v => Sys2Proof.Machine.execChannelOwnerWrite t m c v s
  | .memRequestAccept t port addr len ask => Sys2Proof.Machine.execMemRequestAccept t port addr len ask s
  | .memReadDone t port kind symbol rank slot => Sys2Proof.Machine.execMemReadDone t port kind symbol rank slot s
  | .refreshDue t r trackLimit => Sys2Proof.Machine.execRefreshDue t r trackLimit s
  | .gustEnd t r => Sys2Proof.Machine.execGustEnd t r s
  | .mr4Read t r v => Sys2Proof.Machine.execMr4Read t r v s
  | .calmEntry t r => Sys2Proof.Machine.execCalmEntry t r s
  | .migrateCmd t m v => Sys2Proof.Machine.execMigrateCmd t m v s
  | .migrationStart t => Sys2Proof.Machine.execMigrationStart t s
  | .migrationDone t => Sys2Proof.Machine.execMigrationDone t s
  | .scrubRead t kind blk symbol => Sys2Proof.Machine.execScrubRead t kind blk symbol s
  | .memoryStartup t density failed => Sys2Proof.Machine.execMemoryStartup t density failed s
  | .budgetRecompute t p => Sys2Proof.Machine.execBudgetRecompute t p s
  | .paceShort t p => Sys2Proof.Machine.execPaceShort t p s
  | .queueClearCounts t m v => Sys2Proof.Machine.execQueueClearCounts t m v s
  | .tileWritten t credit mismatch => Sys2Proof.Machine.execTileWritten t credit mismatch s
  | .cropStart t => Sys2Proof.Machine.execCropStart t s
  | .cropDone t mismatch => Sys2Proof.Machine.execCropDone t mismatch s
  | .cropTimeout t => Sys2Proof.Machine.execCropTimeout t s
  | .jobTailWrite t m v => Sys2Proof.Machine.execJobTailWrite t m v s
  | .jobComplete t k mismatch => Sys2Proof.Machine.execJobComplete t k mismatch s
  | .frameRx t g fcsOk frame => Sys2Proof.Machine.execFrameRx t g fcsOk frame s
  | .txTailWrite t m g v => Sys2Proof.Machine.execTxTailWrite t m g v s
  | .tsPop t m => Sys2Proof.Machine.execTsPop t m s
  | .syncRx t g l2 msg => Sys2Proof.Machine.execSyncRx t g l2 msg s
  | .followUpRx t g l2 msg => Sys2Proof.Machine.execFollowUpRx t g l2 msg s
  | .ptpDelayRespRx t g l2 msg => Sys2Proof.Machine.execPtpDelayRespRx t g l2 msg s
  | .announceRx t g way msg => Sys2Proof.Machine.execAnnounceRx t g way msg s
  | .pdelayReqRx t g l2 msg => Sys2Proof.Machine.execPdelayReqRx t g l2 msg s
  | .pdelayRespRx t g l2 msg => Sys2Proof.Machine.execPdelayRespRx t g l2 msg s
  | .pdelayRespFollowUpRx t g l2 msg => Sys2Proof.Machine.execPdelayRespFollowUpRx t g l2 msg s
  | .delayReqPtpSend t k => Sys2Proof.Machine.execDelayReqPtpSend t k s
  | .syncTimeout t k => Sys2Proof.Machine.execSyncTimeout t k s
  | .announceTimeout t k => Sys2Proof.Machine.execAnnounceTimeout t k s
  | .switchHoldExpired t => Sys2Proof.Machine.execSwitchHoldExpired t s
  | .ptpEnableWrite t m v => Sys2Proof.Machine.execPtpEnableWrite t m v s
  | .ppsOutSecond t => Sys2Proof.Machine.execPpsOutSecond t s
  | .ppsInEdge t => Sys2Proof.Machine.execPpsInEdge t s
  | .fdpRead t k idx sub => Sys2Proof.Machine.execFdpRead t k idx sub s
  | .fdpWrite t k idx sub ty value => Sys2Proof.Machine.execFdpWrite t k idx sub ty value s
  | .fdpReadSeg t k idx sub off count => Sys2Proof.Machine.execFdpReadSeg t k idx sub off count s
  | .fdpWriteSeg t k idx sub off data => Sys2Proof.Machine.execFdpWriteSeg t k idx sub off data s
  | .fdpDescribe t k idx sub => Sys2Proof.Machine.execFdpDescribe t k idx sub s
  | .fdpOpen t g peer role nonce => Sys2Proof.Machine.execFdpOpen t g peer role nonce s
  | .fdpClose t k => Sys2Proof.Machine.execFdpClose t k s
  | .fdpKeepalive t k => Sys2Proof.Machine.execFdpKeepalive t k s
  | .fdpStreamOpen t k n ip port => Sys2Proof.Machine.execFdpStreamOpen t k n ip port s
  | .fdpStreamClose t k n => Sys2Proof.Machine.execFdpStreamClose t k n s
  | .fdpRequest t g peer dgram => Sys2Proof.Machine.execFdpRequest t g peer dgram s
  | .sessionTimeout t k => Sys2Proof.Machine.execSessionTimeout t k s
  | .unitCmdOff t m u => Sys2Proof.Machine.execUnitCmdOff t m u s
  | .unitCmdInService t m u => Sys2Proof.Machine.execUnitCmdInService t m u s
  | .unitCmdShadow t m u => Sys2Proof.Machine.execUnitCmdShadow t m u s
  | .unitCmdTest t m u => Sys2Proof.Machine.execUnitCmdTest t m u s
  | .unitCmdBypass t m u => Sys2Proof.Machine.execUnitCmdBypass t m u s
  | .unitCmdReset t m u => Sys2Proof.Machine.execUnitCmdReset t m u s
  | .unitCmdCancel t m u => Sys2Proof.Machine.execUnitCmdCancel t m u s
  | .unitStateTakesEffect t u => Sys2Proof.Machine.execUnitStateTakesEffect t u s
  | .ovlStore t m k v => Sys2Proof.Machine.execOvlStore t m k v s
  | .ovlActivate t m k => Sys2Proof.Machine.execOvlActivate t m k s
  | .ovlDeactivate t m k => Sys2Proof.Machine.execOvlDeactivate t m k s
  | .ovlCancel t m k => Sys2Proof.Machine.execOvlCancel t m k s
  | .ovlBoundaryReached t k u => Sys2Proof.Machine.execOvlBoundaryReached t k u s
  | .configSave t m v => Sys2Proof.Machine.execConfigSave t m v s
  | .configSaveDone t => Sys2Proof.Machine.execConfigSaveDone t s
  | .snapshotLatch t m idx => Sys2Proof.Machine.execSnapshotLatch t m idx s
  | .apertureOffsetWrite t m idx sub off => Sys2Proof.Machine.execApertureOffsetWrite t m idx sub off s
  | .aperturePortRead t m idx sub => Sys2Proof.Machine.execAperturePortRead t m idx sub s
  | .aperturePortWrite t m idx sub v => Sys2Proof.Machine.execAperturePortWrite t m idx sub v s
  | .objectWrite t m idx sub ty v data => Sys2Proof.Machine.execObjectWrite t m idx sub ty v data s
  | .intClaim t m c => Sys2Proof.Machine.execIntClaim t m c s
  | .intComplete t m c v => Sys2Proof.Machine.execIntComplete t m c v s
  | .mbSend t m b v => Sys2Proof.Machine.execMbSend t m b v s
  | .mbRecv t m b => Sys2Proof.Machine.execMbRecv t m b s
  | .dbRing t m v => Sys2Proof.Machine.execDbRing t m v s
  | .dbClear t m v => Sys2Proof.Machine.execDbClear t m v s
  | .lockAcquire t m n => Sys2Proof.Machine.execLockAcquire t m n s
  | .lockFree t m n v => Sys2Proof.Machine.execLockFree t m n v s
  | .lockBreak t m v => Sys2Proof.Machine.execLockBreak t m v s
  | .metFilterAccept t => Sys2Proof.Machine.execMetFilterAccept t s
  | .metPulseEnd t => Sys2Proof.Machine.execMetPulseEnd t s
  | .rollEnd t m v => Sys2Proof.Machine.execRollEnd t m v s
  | .metParamWrite t m sub v data => Sys2Proof.Machine.execMetParamWrite t m sub v data s
  | .approve t m v => Sys2Proof.Machine.execApprove t m v s
  | .metRestart t m v => Sys2Proof.Machine.execMetRestart t m v s
  | .rtcSet t m v => Sys2Proof.Machine.execRtcSet t m v s
  | .totalizerSlotWrite t => Sys2Proof.Machine.execTotalizerSlotWrite t s
  | .metMessageSend t => Sys2Proof.Machine.execMetMessageSend t s
  | .sealChange t level => Sys2Proof.Machine.execSealChange t level s
  | .vddMetWarning t => Sys2Proof.Machine.execVddMetWarning t s
  | .vddMetPowerOn t image version badSlots => Sys2Proof.Machine.execVddMetPowerOn t image version badSlots s
  | .metWatchdog t => Sys2Proof.Machine.execMetWatchdog t s
  | .monSample t k xs => Sys2Proof.Machine.execMonSample t k xs s
  | .monWindowEnd t k => Sys2Proof.Machine.execMonWindowEnd t k s
  | .monPublishWrite t m k v => Sys2Proof.Machine.execMonPublishWrite t m k v s
  | .testFeed t m k v => Sys2Proof.Machine.execTestFeed t m k v s
  | .tempRead t temps => Sys2Proof.Machine.execTempRead t temps s
  | .rotStepStart t pace => Sys2Proof.Machine.execRotStepStart t pace s
  | .rotCmdStart t m => Sys2Proof.Machine.execRotCmdStart t m s
  | .rotCmdAbort t m => Sys2Proof.Machine.execRotCmdAbort t m s
  | .bistDone t k pass => Sys2Proof.Machine.execBistDone t k pass s
  | .govPeriod t paces mv reached => Sys2Proof.Machine.execGovPeriod t paces mv reached s
  | .avsTransactionDone t ok => Sys2Proof.Machine.execAvsTransactionDone t ok s
  | .powerOnReset t ready dev mode avs => Sys2Proof.Machine.execPowerOnReset t ready dev mode avs s
  | .resetNLow t => Sys2Proof.Machine.execResetNLow t s
  | .brownout t => Sys2Proof.Machine.execBrownout t s
  | .clockLoss t => Sys2Proof.Machine.execClockLoss t s
  | .warmReset t m v => Sys2Proof.Machine.execWarmReset t m v s
  | .fwWatchdog t => Sys2Proof.Machine.execFwWatchdog t s
  | .thermalTrip t => Sys2Proof.Machine.execThermalTrip t s
  | .recoveryAnnounce t => Sys2Proof.Machine.execRecoveryAnnounce t s
  | .recoveryData t g frame => Sys2Proof.Machine.execRecoveryData t g frame s
  | .recoveryGo t g frame => Sys2Proof.Machine.execRecoveryGo t g frame s
  | .inspectKick t m v => Sys2Proof.Machine.execInspectKick t m v s
  | .inspectWdogTimeWrite t m v => Sys2Proof.Machine.execInspectWdogTimeWrite t m v s
  | .inspectWdogExpired t => Sys2Proof.Machine.execInspectWdogExpired t s
  | .laneMapRequestRx t l blk => Sys2Proof.Machine.execLaneMapRequestRx t l blk s
  | .alignmentBlockSend t g => Sys2Proof.Machine.execAlignmentBlockSend t g s
  | .linkUp t g speed => Sys2Proof.Machine.execLinkUp t g speed s
  | .linkDown t g => Sys2Proof.Machine.execLinkDown t g s
  | .metEncPinChange t pin level => Sys2Proof.Machine.execMetEncPinChange t pin level s
  | .coldResetRelease t dev mode avs => Sys2Proof.Machine.execColdResetRelease t dev mode avs s
  | .bootMetCheck t report slotA slotB => Sys2Proof.Machine.execBootMetCheck t report slotA slotB s
  | .vddMetWarningEnd t => Sys2Proof.Machine.execVddMetWarningEnd t s

end Sys2Proof.Machine
end

