-- ==== Sys2Proof/Machine/Operands.lean ====
section
/-! DEFINITION. The operands that commands share: the physical instant at which each takes place, and the master that makes it
where it is a write or read of the dictionary. Operands of one command alone are read by its meaning. -/

namespace Sys2Proof.Machine

/-- The physical instant of a command, in tt. -/
def instrTime : Instr → Nat
  | .offsetWrite t _ _ => t
  | .rateWrite t _ _ => t
  | .declareValid t _ _ => t
  | .slewLimitWrite t _ _ => t
  | .epochPtpSWrite t _ _ => t
  | .slewEnd t => t
  | .tcArm t _ _ _ => t
  | .tcDisarm t _ _ _ => t
  | .tcFire t _ => t
  | .ttoPulseEnd t _ => t
  | .encPinChange t _ _ _ => t
  | .encFilterAccept t _ => t
  | .standstill t _ => t
  | .encModeWrite t _ _ _ => t
  | .indexArm t _ _ _ => t
  | .setValueWrite t _ _ _ => t
  | .setAtNextCount t _ _ => t
  | .setAtPosSetGrant t _ _ => t
  | .cmpArm t _ _ _ => t
  | .cmpDisarm t _ _ _ => t
  | .cmpFire t _ => t
  | .trgPulseEnd t _ => t
  | .blockLockAcquired t _ => t
  | .lockLoss t _ => t
  | .alignmentBlockRx t _ _ _ => t
  | .alignmentMissing t _ => t
  | .portStreamStopped t _ => t
  | .laneBlockBad t _ _ => t
  | .trainingRequestRx t _ _ => t
  | .trainingStatusRx t _ _ => t
  | .trainTimeout t _ => t
  | .trainStepDone t _ _ _ => t
  | .trainStart t _ _ => t
  | .trainAbort t _ _ => t
  | .mapRequest t _ _ _ => t
  | .laneMapAckRx t _ _ => t
  | .mapNoAck t _ => t
  | .laneShadowTimeout t _ => t
  | .injectSingle t _ _ => t
  | .injectBurst t _ _ => t
  | .injectHeader t _ _ => t
  | .chkLock t _ => t
  | .chkRelock t _ _ => t
  | .laneClearCounts t _ _ _ => t
  | .linePacketRx t _ _ _ => t
  | .badBlockRx t _ _ _ => t
  | .responseRx t _ _ => t
  | .statusMsgRx t _ _ => t
  | .userDataRx t _ _ => t
  | .delayRespRx t _ _ _ => t
  | .beaconSend t _ => t
  | .delayReqSend t _ => t
  | .delayLost t _ => t
  | .cmdRequest t _ _ _ => t
  | .cmdResend t _ => t
  | .cmdTimeout t _ => t
  | .cameraBusyRetry t _ => t
  | .transportClearCounts t _ _ _ => t
  | .lineCorrect t _ _ _ => t
  | .swapNextLine t _ _ => t
  | .swapNextSos t _ _ => t
  | .swapAtLine t _ _ => t
  | .swapCancel t _ _ => t
  | .bankCopy t _ _ _ => t
  | .bankCopyDone t _ => t
  | .bankCrcUpdate t _ _ _ => t
  | .tapArm t _ _ _ _ => t
  | .stopLullOpen t => t
  | .sacrificeNext t _ _ => t
  | .calTriggerFire t => t
  | .jobStartDark t _ _ => t
  | .jobStartGain t _ _ => t
  | .jobStartGeometryEdge t _ _ => t
  | .jobStartGeometryFull t _ _ => t
  | .jobStartColour t _ _ => t
  | .jobStartDelay t _ _ => t
  | .illumSettleExpired t _ => t
  | .delayRefGrant t _ => t
  | .jobComputeDone t _ => t
  | .acqTimeout t _ => t
  | .commit t _ _ _ => t
  | .jobAbort t _ _ _ => t
  | .deadReset t _ _ _ => t
  | .jobCommitProceed t _ _ => t
  | .scaleStart t _ _ => t
  | .scaleDone t => t
  | .retrainStart t _ => t
  | .linePlace t _ _ => t
  | .lineHold t _ _ => t
  | .gridLineEmit t _ _ => t
  | .coefSwap t _ => t
  | .coefSwapCancel t _ => t
  | .coefCopy t _ _ => t
  | .rasterLineMake t => t
  | .nbWaitExpired t => t
  | .exportRx t _ _ => t
  | .helloRx t _ _ => t
  | .helloSend t => t
  | .continueRx t _ _ => t
  | .settlePacketRx t _ _ => t
  | .tapPacketRx t _ _ => t
  | .geoSwapAtPlaced t _ _ => t
  | .geoSwapAtWp t _ _ => t
  | .geoSwapCancel t _ _ => t
  | .geoCopy t _ _ _ => t
  | .cdCoefSwap t _ => t
  | .cdCoefSwapCancel t _ => t
  | .cdCoefCopy t _ _ => t
  | .chainSample t _ => t
  | .chainRun t _ _ => t
  | .chainStop t _ _ => t
  | .feed t _ _ _ => t
  | .chainSwapNext t _ _ => t
  | .chainSwapAtTime t _ _ => t
  | .chainSwapCancel t _ _ => t
  | .detClear t _ _ _ => t
  | .classLine t => t
  | .relearn t _ _ => t
  | .classLineTrack t => t
  | .lineEntryWaitExpired t => t
  | .squallCmdEnter t _ => t
  | .squallCmdExit t _ => t
  | .treeSwap t _ => t
  | .treeSwapCancel t _ => t
  | .treeCopy t _ _ => t
  | .recordsReadyTimer t => t
  | .markAccept t => t
  | .rowFire t _ => t
  | .firePulseEnd t _ => t
  | .headIdReadDone t _ _ => t
  | .rcheckStart t _ => t
  | .rcheckResult t _ _ => t
  | .headPower t _ _ => t
  | .headPwrSettled t => t
  | .fireTest t _ _ _ => t
  | .remapWrite t _ _ => t
  | .eventOffer t _ _ => t
  | .handshakeComplete t _ => t
  | .taskActionEnd t _ => t
  | .evpEdge t _ _ => t
  | .evpPulseEnd t _ => t
  | .swFire t _ _ => t
  | .channelOwnerWrite t _ _ _ => t
  | .memRequestAccept t _ _ _ _ => t
  | .memReadDone t _ _ _ _ _ => t
  | .refreshDue t _ _ => t
  | .gustEnd t _ => t
  | .mr4Read t _ _ => t
  | .calmEntry t _ => t
  | .migrateCmd t _ _ => t
  | .migrationStart t => t
  | .migrationDone t => t
  | .scrubRead t _ _ _ => t
  | .memoryStartup t _ _ => t
  | .budgetRecompute t _ => t
  | .paceShort t _ => t
  | .queueClearCounts t _ _ => t
  | .tileWritten t _ _ => t
  | .cropStart t => t
  | .cropDone t _ => t
  | .cropTimeout t => t
  | .jobTailWrite t _ _ => t
  | .jobComplete t _ _ => t
  | .frameRx t _ _ _ => t
  | .txTailWrite t _ _ _ => t
  | .tsPop t _ => t
  | .syncRx t _ _ _ => t
  | .followUpRx t _ _ _ => t
  | .ptpDelayRespRx t _ _ _ => t
  | .announceRx t _ _ _ => t
  | .pdelayReqRx t _ _ _ => t
  | .pdelayRespRx t _ _ _ => t
  | .pdelayRespFollowUpRx t _ _ _ => t
  | .delayReqPtpSend t _ => t
  | .syncTimeout t _ => t
  | .announceTimeout t _ => t
  | .switchHoldExpired t => t
  | .ptpEnableWrite t _ _ => t
  | .ppsOutSecond t => t
  | .ppsInEdge t => t
  | .fdpRead t _ _ _ => t
  | .fdpWrite t _ _ _ _ _ => t
  | .fdpReadSeg t _ _ _ _ _ => t
  | .fdpWriteSeg t _ _ _ _ _ => t
  | .fdpDescribe t _ _ _ => t
  | .fdpOpen t _ _ _ _ => t
  | .fdpClose t _ => t
  | .fdpKeepalive t _ => t
  | .fdpStreamOpen t _ _ _ _ => t
  | .fdpStreamClose t _ _ => t
  | .fdpRequest t _ _ _ => t
  | .sessionTimeout t _ => t
  | .unitCmdOff t _ _ => t
  | .unitCmdInService t _ _ => t
  | .unitCmdShadow t _ _ => t
  | .unitCmdTest t _ _ => t
  | .unitCmdBypass t _ _ => t
  | .unitCmdReset t _ _ => t
  | .unitCmdCancel t _ _ => t
  | .unitStateTakesEffect t _ => t
  | .ovlStore t _ _ _ => t
  | .ovlActivate t _ _ => t
  | .ovlDeactivate t _ _ => t
  | .ovlCancel t _ _ => t
  | .ovlBoundaryReached t _ _ => t
  | .configSave t _ _ => t
  | .configSaveDone t => t
  | .snapshotLatch t _ _ => t
  | .apertureOffsetWrite t _ _ _ _ => t
  | .aperturePortRead t _ _ _ => t
  | .aperturePortWrite t _ _ _ _ => t
  | .objectWrite t _ _ _ _ _ _ => t
  | .intClaim t _ _ => t
  | .intComplete t _ _ _ => t
  | .mbSend t _ _ _ => t
  | .mbRecv t _ _ => t
  | .dbRing t _ _ => t
  | .dbClear t _ _ => t
  | .lockAcquire t _ _ => t
  | .lockFree t _ _ _ => t
  | .lockBreak t _ _ => t
  | .metFilterAccept t => t
  | .metPulseEnd t => t
  | .rollEnd t _ _ => t
  | .metParamWrite t _ _ _ _ => t
  | .approve t _ _ => t
  | .metRestart t _ _ => t
  | .rtcSet t _ _ => t
  | .totalizerSlotWrite t => t
  | .metMessageSend t => t
  | .sealChange t _ => t
  | .vddMetWarning t => t
  | .vddMetPowerOn t _ _ _ => t
  | .metWatchdog t => t
  | .monSample t _ _ => t
  | .monWindowEnd t _ => t
  | .monPublishWrite t _ _ _ => t
  | .testFeed t _ _ _ => t
  | .tempRead t _ => t
  | .rotStepStart t _ => t
  | .rotCmdStart t _ => t
  | .rotCmdAbort t _ => t
  | .bistDone t _ _ => t
  | .govPeriod t _ _ _ => t
  | .avsTransactionDone t _ => t
  | .powerOnReset t _ _ _ _ => t
  | .resetNLow t => t
  | .brownout t => t
  | .clockLoss t => t
  | .warmReset t _ _ => t
  | .fwWatchdog t => t
  | .thermalTrip t => t
  | .recoveryAnnounce t => t
  | .recoveryData t _ _ => t
  | .recoveryGo t _ _ => t
  | .inspectKick t _ _ => t
  | .inspectWdogTimeWrite t _ _ => t
  | .inspectWdogExpired t => t
  | .laneMapRequestRx t _ _ => t
  | .alignmentBlockSend t _ => t
  | .linkUp t _ _ => t
  | .linkDown t _ => t
  | .metEncPinChange t _ _ => t
  | .coldResetRelease t _ _ _ => t
  | .bootMetCheck t _ _ _ => t
  | .vddMetWarningEnd t => t

/-- The master that makes a command, none where it is an event of the block or of what lies outside it (R21, R477). -/
def instrMaster : Instr → Option Master
  | .offsetWrite _ m _ => some m
  | .rateWrite _ m _ => some m
  | .declareValid _ m _ => some m
  | .slewLimitWrite _ m _ => some m
  | .epochPtpSWrite _ m _ => some m
  | .slewEnd _ => none
  | .tcArm _ m _ _ => some m
  | .tcDisarm _ m _ _ => some m
  | .tcFire _ _ => none
  | .ttoPulseEnd _ _ => none
  | .encPinChange _ _ _ _ => none
  | .encFilterAccept _ _ => none
  | .standstill _ _ => none
  | .encModeWrite _ m _ _ => some m
  | .indexArm _ m _ _ => some m
  | .setValueWrite _ m _ _ => some m
  | .setAtNextCount _ m _ => some m
  | .setAtPosSetGrant _ m _ => some m
  | .cmpArm _ m _ _ => some m
  | .cmpDisarm _ m _ _ => some m
  | .cmpFire _ _ => none
  | .trgPulseEnd _ _ => none
  | .blockLockAcquired _ _ => none
  | .lockLoss _ _ => none
  | .alignmentBlockRx _ _ _ _ => none
  | .alignmentMissing _ _ => none
  | .portStreamStopped _ _ => none
  | .laneBlockBad _ _ _ => none
  | .trainingRequestRx _ _ _ => none
  | .trainingStatusRx _ _ _ => none
  | .trainTimeout _ _ => none
  | .trainStepDone _ _ _ _ => none
  | .trainStart _ m _ => some m
  | .trainAbort _ m _ => some m
  | .mapRequest _ m _ _ => some m
  | .laneMapAckRx _ _ _ => none
  | .mapNoAck _ _ => none
  | .laneShadowTimeout _ _ => none
  | .injectSingle _ m _ => some m
  | .injectBurst _ m _ => some m
  | .injectHeader _ m _ => some m
  | .chkLock _ _ => none
  | .chkRelock _ _ _ => none
  | .laneClearCounts _ m _ _ => some m
  | .linePacketRx _ _ _ _ => none
  | .badBlockRx _ _ _ _ => none
  | .responseRx _ _ _ => none
  | .statusMsgRx _ _ _ => none
  | .userDataRx _ _ _ => none
  | .delayRespRx _ _ _ _ => none
  | .beaconSend _ _ => none
  | .delayReqSend _ _ => none
  | .delayLost _ _ => none
  | .cmdRequest _ m _ _ => some m
  | .cmdResend _ _ => none
  | .cmdTimeout _ _ => none
  | .cameraBusyRetry _ _ => none
  | .transportClearCounts _ m _ _ => some m
  | .lineCorrect _ _ _ _ => none
  | .swapNextLine _ m _ => some m
  | .swapNextSos _ m _ => some m
  | .swapAtLine _ m _ => some m
  | .swapCancel _ m _ => some m
  | .bankCopy _ m _ _ => some m
  | .bankCopyDone _ _ => none
  | .bankCrcUpdate _ _ _ _ => none
  | .tapArm _ m _ _ _ => some m
  | .stopLullOpen _ => none
  | .sacrificeNext _ m _ => some m
  | .calTriggerFire _ => none
  | .jobStartDark _ m _ => some m
  | .jobStartGain _ m _ => some m
  | .jobStartGeometryEdge _ m _ => some m
  | .jobStartGeometryFull _ m _ => some m
  | .jobStartColour _ m _ => some m
  | .jobStartDelay _ m _ => some m
  | .illumSettleExpired _ _ => none
  | .delayRefGrant _ _ => none
  | .jobComputeDone _ _ => none
  | .acqTimeout _ _ => none
  | .commit _ m _ _ => some m
  | .jobAbort _ m _ _ => some m
  | .deadReset _ m _ _ => some m
  | .jobCommitProceed _ _ _ => none
  | .scaleStart _ m _ => some m
  | .scaleDone _ => none
  | .retrainStart _ _ => none
  | .linePlace _ _ _ => none
  | .lineHold _ _ _ => none
  | .gridLineEmit _ _ _ => none
  | .coefSwap _ m => some m
  | .coefSwapCancel _ m => some m
  | .coefCopy _ m _ => some m
  | .rasterLineMake _ => none
  | .nbWaitExpired _ => none
  | .exportRx _ _ _ => none
  | .helloRx _ _ _ => none
  | .helloSend _ => none
  | .continueRx _ _ _ => none
  | .settlePacketRx _ _ _ => none
  | .tapPacketRx _ _ _ => none
  | .geoSwapAtPlaced _ m _ => some m
  | .geoSwapAtWp _ m _ => some m
  | .geoSwapCancel _ m _ => some m
  | .geoCopy _ m _ _ => some m
  | .cdCoefSwap _ m => some m
  | .cdCoefSwapCancel _ m => some m
  | .cdCoefCopy _ m _ => some m
  | .chainSample _ _ => none
  | .chainRun _ m _ => some m
  | .chainStop _ m _ => some m
  | .feed _ m _ _ => some m
  | .chainSwapNext _ m _ => some m
  | .chainSwapAtTime _ m _ => some m
  | .chainSwapCancel _ m _ => some m
  | .detClear _ m _ _ => some m
  | .classLine _ => none
  | .relearn _ m _ => some m
  | .classLineTrack _ => none
  | .lineEntryWaitExpired _ => none
  | .squallCmdEnter _ m => some m
  | .squallCmdExit _ m => some m
  | .treeSwap _ m => some m
  | .treeSwapCancel _ m => some m
  | .treeCopy _ m _ => some m
  | .recordsReadyTimer _ => none
  | .markAccept _ => none
  | .rowFire _ _ => none
  | .firePulseEnd _ _ => none
  | .headIdReadDone _ _ _ => none
  | .rcheckStart _ _ => none
  | .rcheckResult _ _ _ => none
  | .headPower _ m _ => some m
  | .headPwrSettled _ => none
  | .fireTest _ m _ _ => some m
  | .remapWrite _ m _ => some m
  | .eventOffer _ _ _ => none
  | .handshakeComplete _ _ => none
  | .taskActionEnd _ _ => none
  | .evpEdge _ _ _ => none
  | .evpPulseEnd _ _ => none
  | .swFire _ m _ => some m
  | .channelOwnerWrite _ m _ _ => some m
  | .memRequestAccept _ _ _ _ _ => none
  | .memReadDone _ _ _ _ _ _ => none
  | .refreshDue _ _ _ => none
  | .gustEnd _ _ => none
  | .mr4Read _ _ _ => none
  | .calmEntry _ _ => none
  | .migrateCmd _ m _ => some m
  | .migrationStart _ => none
  | .migrationDone _ => none
  | .scrubRead _ _ _ _ => none
  | .memoryStartup _ _ _ => none
  | .budgetRecompute _ _ => none
  | .paceShort _ _ => none
  | .queueClearCounts _ m _ => some m
  | .tileWritten _ _ _ => none
  | .cropStart _ => none
  | .cropDone _ _ => none
  | .cropTimeout _ => none
  | .jobTailWrite _ m _ => some m
  | .jobComplete _ _ _ => none
  | .frameRx _ _ _ _ => none
  | .txTailWrite _ m _ _ => some m
  | .tsPop _ m => some m
  | .syncRx _ _ _ _ => none
  | .followUpRx _ _ _ _ => none
  | .ptpDelayRespRx _ _ _ _ => none
  | .announceRx _ _ _ _ => none
  | .pdelayReqRx _ _ _ _ => none
  | .pdelayRespRx _ _ _ _ => none
  | .pdelayRespFollowUpRx _ _ _ _ => none
  | .delayReqPtpSend _ _ => none
  | .syncTimeout _ _ => none
  | .announceTimeout _ _ => none
  | .switchHoldExpired _ => none
  | .ptpEnableWrite _ m _ => some m
  | .ppsOutSecond _ => none
  | .ppsInEdge _ => none
  | .fdpRead _ _ _ _ => none
  | .fdpWrite _ _ _ _ _ _ => none
  | .fdpReadSeg _ _ _ _ _ _ => none
  | .fdpWriteSeg _ _ _ _ _ _ => none
  | .fdpDescribe _ _ _ _ => none
  | .fdpOpen _ _ _ _ _ => none
  | .fdpClose _ _ => none
  | .fdpKeepalive _ _ => none
  | .fdpStreamOpen _ _ _ _ _ => none
  | .fdpStreamClose _ _ _ => none
  | .fdpRequest _ _ _ _ => none
  | .sessionTimeout _ _ => none
  | .unitCmdOff _ m _ => some m
  | .unitCmdInService _ m _ => some m
  | .unitCmdShadow _ m _ => some m
  | .unitCmdTest _ m _ => some m
  | .unitCmdBypass _ m _ => some m
  | .unitCmdReset _ m _ => some m
  | .unitCmdCancel _ m _ => some m
  | .unitStateTakesEffect _ _ => none
  | .ovlStore _ m _ _ => some m
  | .ovlActivate _ m _ => some m
  | .ovlDeactivate _ m _ => some m
  | .ovlCancel _ m _ => some m
  | .ovlBoundaryReached _ _ _ => none
  | .configSave _ m _ => some m
  | .configSaveDone _ => none
  | .snapshotLatch _ m _ => some m
  | .apertureOffsetWrite _ m _ _ _ => some m
  | .aperturePortRead _ m _ _ => some m
  | .aperturePortWrite _ m _ _ _ => some m
  | .objectWrite _ m _ _ _ _ _ => some m
  | .intClaim _ m _ => some m
  | .intComplete _ m _ _ => some m
  | .mbSend _ m _ _ => some m
  | .mbRecv _ m _ => some m
  | .dbRing _ m _ => some m
  | .dbClear _ m _ => some m
  | .lockAcquire _ m _ => some m
  | .lockFree _ m _ _ => some m
  | .lockBreak _ m _ => some m
  | .metFilterAccept _ => none
  | .metPulseEnd _ => none
  | .rollEnd _ m _ => some m
  | .metParamWrite _ m _ _ _ => some m
  | .approve _ m _ => some m
  | .metRestart _ m _ => some m
  | .rtcSet _ m _ => some m
  | .totalizerSlotWrite _ => none
  | .metMessageSend _ => none
  | .sealChange _ _ => none
  | .vddMetWarning _ => none
  | .vddMetPowerOn _ _ _ _ => none
  | .metWatchdog _ => none
  | .monSample _ _ _ => none
  | .monWindowEnd _ _ => none
  | .monPublishWrite _ m _ _ => some m
  | .testFeed _ m _ _ => some m
  | .tempRead _ _ => none
  | .rotStepStart _ _ => none
  | .rotCmdStart _ m => some m
  | .rotCmdAbort _ m => some m
  | .bistDone _ _ _ => none
  | .govPeriod _ _ _ _ => none
  | .avsTransactionDone _ _ => none
  | .powerOnReset _ _ _ _ _ => none
  | .resetNLow _ => none
  | .brownout _ => none
  | .clockLoss _ => none
  | .warmReset _ m _ => some m
  | .fwWatchdog _ => none
  | .thermalTrip _ => none
  | .recoveryAnnounce _ => none
  | .recoveryData _ _ _ => none
  | .recoveryGo _ _ _ => none
  | .inspectKick _ m _ => some m
  | .inspectWdogTimeWrite _ m _ => some m
  | .inspectWdogExpired _ => none
  | .laneMapRequestRx _ _ _ => none
  | .alignmentBlockSend _ _ => none
  | .linkUp _ _ _ => none
  | .linkDown _ _ => none
  | .metEncPinChange _ _ _ => none
  | .coldResetRelease _ _ _ _ => none
  | .bootMetCheck _ _ _ _ => none
  | .vddMetWarningEnd _ => none

end Sys2Proof.Machine
end

