-- ==== Sys2Proof/Safety.lean ====
section
/-! DEFINITION. What statements about runs speak of: when the main domain takes commands, what a step may never touch, and what
every state keeps. -/

namespace Sys2Proof.Machine

/-- No cold or power-on reset holds the main domain (R567, R568, R572). -/
def Awake (s : State) : Prop := s.d.pow.heldBy = none

/-- Inspection is valid (R22). -/
def Inspecting (s : State) : Prop := inspectValid s.d = true

/-- Nothing is left over from a command: no request to the time unit or the sealed domain, no warm reset asked for. -/
def Between (s : State) : Prop := s.d.tuOps = [] ∧ s.d.metOps = [] ∧ s.d.warmAsk = false

/-- The parameters of applied time speak of no edge of the time unit's clock that is still to come (R24, R25, R30). -/
def TimeParams.NotAhead (p : TimeParams) (raw : Nat) : Prop :=
  p.rawRef ≤ raw ∧ ∀ x, p.slew = some x → x.start ≤ raw

/-- What every step keeps of time: the raw counter began in the past, and no parameter set lies ahead (R23 to R35). -/
def TimeSound (s : State) : Prop :=
  let edge := edge16 (s.now - s.tu.rawBase)
  s.tu.rawBase ≤ s.now ∧ s.tu.par.NotAhead edge ∧ ∀ q ∈ s.tu.past, q.1 ≤ edge ∧ q.2.NotAhead edge

/-- Commands that end or begin a cold or power-on reset: the only ones at which the raw counter starts again (R23). -/
def restarts : Instr → Bool
  | .powerOnReset .. => true
  | .resetNLow .. => true
  | .brownout .. => true
  | .clockLoss .. => true
  | .coldResetRelease .. => true
  | _ => false

/-! ### The vocabulary of statements about single commands -/

/-- The state after a command that asked nothing of the time unit or the sealed domain: time has come to its instant, `d` is the
main domain, and the queue, the time unit and the sealed domain are as they were. -/
def State.moved (s : State) (t : Nat) (d : Dev) : State := { s with now := max s.now t, d := d }

/-- Whether the dictionary lets a master's write of a number come to the object's own rules: the object exists, its type holds
the number, it can be written, the master has the right, and the range admits the number (R469, R470, R482). -/
def Dev.accepts (d : Dev) (m : Master) (idx sub : Nat) (v : Int) : Bool :=
  match objInfo idx sub with
  | none => false
  | some r =>
    r.ty.holds v && !(r.acc == .ro || r.acc == .const || r.acc == .rc) && d.hasRole m r.wr &&
      (r.range.admits v && (r.ty != .bool || v == 0 || v == 1) &&
        (r.ty.signed || (v.toNat &&& objMask (objBase idx) sub) == v.toNat))

/-- Every object but those listed holds what it held. -/
def SameObjs (d d' : Dev) (but : List (Nat × Nat)) : Prop :=
  ∀ k, (∀ q ∈ but, k ≠ okey q.1 q.2) → tabFind d'.o k = tabFind d.o k

/-- A pin of a position input. -/
def Enc.pin (x : Enc) : EncPin → PinFilter
  | .a => x.pinA
  | .b => x.pinB
  | .z => x.pinZ

/-- A pin of a position input written. -/
def Enc.setPin (x : Enc) (p : PinFilter) : EncPin → Enc
  | .a => { x with pinA := p }
  | .b => { x with pinB := p }
  | .z => { x with pinZ := p }

/-- Commands of the sealed domain itself, and those by which a session's datagrams or writes can reach it (R527, R542). -/
def touchesSealed : Instr → Bool
  | .metFilterAccept .. => true
  | .metPulseEnd .. => true
  | .rollEnd .. => true
  | .metParamWrite .. => true
  | .approve .. => true
  | .metRestart .. => true
  | .rtcSet .. => true
  | .totalizerSlotWrite .. => true
  | .metMessageSend .. => true
  | .sealChange .. => true
  | .vddMetWarning .. => true
  | .vddMetWarningEnd .. => true
  | .vddMetPowerOn .. => true
  | .metWatchdog .. => true
  | .metEncPinChange .. => true
  | .objectWrite .. => true
  | .aperturePortWrite .. => true
  | .warmReset .. => true
  | .fdpRead .. => true
  | .fdpWrite .. => true
  | .fdpReadSeg .. => true
  | .fdpWriteSeg .. => true
  | .fdpDescribe .. => true
  | .fdpOpen .. => true
  | .fdpClose .. => true
  | .fdpKeepalive .. => true
  | .fdpStreamOpen .. => true
  | .fdpStreamClose .. => true
  | .fdpRequest .. => true
  | .sessionTimeout .. => true
  | _ => false

/-- Commands that no held reset of the main domain stops: those of resets and of the sealed domain (R528, R572). -/
def sleepless : Instr → Bool
  | .fwWatchdog .. => true
  | .thermalTrip .. => true
  | .metFilterAccept .. => true
  | .metPulseEnd .. => true
  | .totalizerSlotWrite .. => true
  | .metMessageSend .. => true
  | .sealChange .. => true
  | .vddMetWarning .. => true
  | .vddMetWarningEnd .. => true
  | .vddMetPowerOn .. => true
  | .metWatchdog .. => true
  | .metEncPinChange .. => true
  | c => restarts c

/-- What the sealed domain keeps of its store and its queues (R532, R534, R536, R538, R540). -/
def MetSound (m : Met) : Prop :=
  m.slots.length ≤ 256 ∧ m.rollLog.length ≤ 64 ∧ m.audit.length ≤ 1024 ∧ m.queue.length ≤ 16 ∧ m.pulsesDue ≤ 64 ∧
  m.eventCounter ≤ 4294967295 ∧ m.msgSeq < 16777216 ∧
  ∀ k, m.kept = some k → k.rollLog.length ≤ 64 ∧ k.audit.length ≤ 1024 ∧ k.eventCounter ≤ 4294967295

/-! ### What is in force and when -/

/-- Applied time on the 1 GHz edge on which a command reaches the time unit, under the parameters that it finds in force (R23, R24). -/
def State.applied (s : State) (t : Nat) : Nat := s.tu.par.applied (edge16 (rawAt t s))

/-- Applied time on the 200 MHz edge on which a command reaches the position inputs (R61). -/
def State.clocked (s : State) (t : Nat) : Nat := s.tu.par.applied (clk200 (rawAt t s))

/-- No overlay holds a value for the object: its base value is in force (R495). -/
def Dev.plain (d : Dev) (idx sub : Nat) : Prop := tabFind d.inForce (okey idx sub) = none

/-- The state after a command whose effect `d` re-based the time unit to `tu` without a step of applied time: stamps of instants
still to come follow the parameters where they changed (R35). -/
def State.retimed (s : State) (t : Nat) (tu : TimeUnit) (d : Dev) : State :=
  { s with now := max s.now t, tu := tu, d := if tu.par = s.tu.par then d else restamp tu (edge16 (rawAt t s)) d }

/-- A packet of kind `k` that a side of the cascade takes (R118, R221, R222): its header and payload check sums are right, its reserved bits
are 0, it is not over-long, and its group is up. -/
def Dev.takesCascade (d : Dev) (side k : Nat) (b : List Byte) : Bool :=
  headerOk b && beAt b 0 1 == k && beAt b 1 1 == 0 && b.length == 20 + 4 * beAt b 2 2 &&
    decide (beAt b 2 2 ≤ if k = 5 then 65535 else 5115) &&
    crc32c (slice b 16 (4 * beAt b 2 2)) == beAt b (16 + 4 * beAt b 2 2) 4 && d.ustate 0x008 != .off &&
    linkUp d (if k = 5 then spGroup side else exGroup side)

/-- An access of `n` bytes that reaches the memory controller: a core's, on port 20, where its map says DRAM and no bus error
stops it (R501, R502). -/
def Dev.reachesDram (d : Dev) (p a n : Nat) (wr nonSecure : Bool) : Prop :=
  p = 20 → physArea a = some .dram ∧ coreBusError d a n wr nonSecure = false

/-- The reads that wait in the channel of an address, and its writes (R385). -/
def Dev.queuedAt (d : Dev) (p a n : Nat) : List MemReq × List MemReq :=
  let c := (reqPlace d { port := p, addr := a, len := n, at_ := 0 }).1
  (chanReads d c, (d.memChan c).writes)

/-- A command's own instant as applied time, under the parameters in force at it (R35, R452). -/
def State.stamped (s : State) (t : Nat) : Nat := (s.tu.paramsAt (rawAt t s)).applied (rawAt t s)

/-- Whether an object's number is kept as it is written: it can be read and written, the master is in a security state that may,
no command of its own, no check sum, no pin, no generator and no working copy hangs on it, and the rules of its chapter take the value (R469). -/
def Dev.keepsNumber (d : Dev) (e : Env) (m : Master) (idx sub : Nat) (v : Int) : Bool :=
  match objInfo idx sub with
  | none => false
  | some r =>
    r.acc == .rw && !(r.ty == .domain || r.ty == .vstr) && !(0x6000 ≤ idx && idx < 0x7000) && !writeIgnored idx sub &&
    (!secureOnly idx sub || isSecState m) && (ownNum e d m idx sub v).isNone && writeRule e d m idx sub (.num v) &&
    !([0x2018, 0x1b40, 0x2020, 0x2084, 0x3201, 0x1530, 0x1310, 0x1330, 0x1348, 0x3540, 0x2044, 0x3002, 0x1b03, 0x3180, 0x3221] :
      List Nat).contains (objBase idx)

/-- Whether a read of an object shows it and does no more than clear a count (R7, R471). -/
def readsPlainly (idx : Nat) : Bool :=
  !isResultGroup idx && !(0x1610 ≤ idx && idx < 0x1640) && idx != 0x1660 && idx != 0x1410 && idx != 0x1104 && idx != 0x6010

end Sys2Proof.Machine
end

