-- ==== Sys2Proof/Certificates/Slice0/Obligations.lean ====
section
/-! DEFINITION. The statements about the model. -/

open Sys2Proof Sys2Proof.Machine

/-- A step carries out the command at the front of the queue with the rest left waiting; the queue is first in, first out. On an empty
queue the block idles: the model's choice, assumption log 1. -/
def Obligations.StepRunsFront : Prop :=
  (∀ (c : Instr) (r : List Instr) (s : State), step { s with pending := c :: r } = exec c { s with pending := r }) ∧
  ∀ s : State, s.pending = [] → step s = .next s

/-- A well-formed command completes: time comes to its instant and never turns back, and the queue stays as it was. A command that
names an instance the part does not have ends in the fault noInstance (the model's choice, assumption log 6), which is the only stop:
no command is refused. -/
def Obligations.WellFormedCompletes : Prop :=
  (∀ (c : Instr) (s : State), wellFormed c = true →
    ∃ s', exec c s = .next s' ∧ s'.now = max s.now (instrTime c) ∧ s'.pending = s.pending) ∧
  (∀ (c : Instr) (s : State), wellFormed c = false → exec c s = .fault .noInstance)

/-- What every step keeps of time (R23, R24, R25, R30, R35): with nothing left over for the time unit, the raw counter began in the
past, and no parameter set in force or kept speaks of an instant still to come. -/
def Obligations.TimeSoundKept : Prop :=
  ∀ s s' : State, s.d.tuOps = [] → TimeSound s → step s = .next s' → s'.d.tuOps = [] ∧ TimeSound s'

/-- The raw counter restarts at 0 only at a power-on reset or a cold reset (R23), and no other command steps or pauses it; only those
resets lead back to FREE (R28), and a warm reset (R31) leaves the time unit alone. -/
def Obligations.RawCounterRestartsOnlyAtResets : Prop :=
  ∀ (c : Instr) (s s' : State), exec c s = .next s' →
    s.now ≤ s'.now ∧
    (restarts c = false → s'.tu.rawBase = s.tu.rawBase ∧ (s.tu.state ≠ .free → s'.tu.state ≠ .free)) ∧
    (restarts c = true → s'.tu = s.tu ∨ (s'.tu = { rawBase := s'.now } ∧ s'.now - s'.tu.rawBase = 0)) ∧
    ((∃ t, c = .fwWatchdog t) ∨ (∃ t, c = .thermalTrip t) → s'.tu = s.tu)

/-- What every step keeps of the sealed domain (R532, R534, R536, R538, R540): the store's bounds, the newest 64 rolls and 1,024 changes,
at most 16 messages waiting and 64 pulses outstanding, and EVENT_COUNTER a U32. No command but a power-up of VDD_MET, which restores
the store, ever makes EVENT_COUNTER smaller (R538). -/
def Obligations.SealedDomainKeepsItsBounds : Prop :=
  (∀ s s' : State, MetSound s.met → step s = .next s' → MetSound s'.met) ∧
  (∀ (c : Instr) (s s' : State), MetSound s.met → (∀ t image version bad, c ≠ .vddMetPowerOn t image version bad) →
    exec c s = .next s' → s.met.eventCounter ≤ s'.met.eventCounter)

/-- No command of the main domain reaches the sealed domain (R527, R528): whatever it is and whatever the state, the counting block, the
store and every message of the sealed domain are as they were, resets of every kind but the session's own writes included. -/
def Obligations.MainDomainNeverReachesSealed : Prop :=
  ∀ (c : Instr) (s s' : State), touchesSealed c = false → exec c s = .next s' → s'.met = s.met

/-- The sealed domain learns nothing from the main domain (R527): at its pins, its power and its own timers, what it makes of itself
depends on the instant and on its own state alone, and the time unit and the queue are untouched (R528). -/
def Obligations.SealedDomainSeesOnlyItsPins : Prop :=
  ∀ (c : Instr) (s u : State), touchesSealed c = true → sleepless c = true → (∀ t, c ≠ .metMessageSend t) →
    s.met = u.met → s.now = u.now →
    ∃ s' u', exec c s = .next s' ∧ exec c u = .next u' ∧ s'.met = u'.met ∧ s'.tu = s.tu ∧ u'.tu = u.tu ∧
      s'.d.o = s.d.o ∧ s'.d.units = s.d.units ∧ s'.d.mem = s.d.mem

/-- While a cold or power-on reset is held (R567, R568, R572), a command of the main domain finds it in reset: only time passes. That
every such command then acts on nothing is the model's reading, assumption log 7. -/
def Obligations.HeldResetStopsMainDomain : Prop :=
  ∀ (c : Instr) (s : State), ¬ Awake s → sleepless c = false → wellFormed c = true → Between s →
    exec c s = .next { s with now := max s.now (instrTime c) }

/-- The state after power-on as the spec gives it: TIME_STATE is FREE with OFFSET, RATE and no slew (R27, R33), every position counter
at 0 (R54), no compare unit armed, every lane DOWN, every mailbox empty, no lock held, and no overlay active (R491); nothing has been
sent and no command waits. -/
def Obligations.ResetLeavesWhatTheRulesSay : Prop :=
  let s := State.reset
  s.tu.state = .free ∧ s.tu.par.offset = 0 ∧ s.tu.par.rate = 0 ∧ s.tu.par.slew = none ∧
  (∀ n, (s.d.enc n).pos = 0 ∧ (s.d.cmp n).armed = false ∧ (s.d.tc n).armed = false) ∧
  (∀ l, (s.d.lane l).link = .down ∧ (s.d.lane l).locked = false) ∧
  (∀ b, (s.d.mbox b).ab = [] ∧ (s.d.mbox b).ba = []) ∧ s.d.locks = [] ∧ s.d.inForce = [] ∧
  s.d.out = [] ∧ s.pending = []

/-- The invariants hold at reset. -/
def Obligations.ResetIsSound : Prop :=
  TimeSound State.reset ∧ Between State.reset ∧ MetSound State.reset.met

/-- Commands of the time unit complete with the effect of their rules. OFFSET_WRITE in FREE replaces the offset at once (R29), in
HELD it re-bases the slew and adds the written value less the re-based offset to it (R30); RATE_WRITE re-bases the rate (R25);
DECLARE_VALID in FREE enters HELD and is ignored elsewhere (R28, R33); SLEW_LIMIT_WRITE re-bases a running slew or waits for the
next (R30); EPOCH_PTP_S_WRITE in FREE is taken (R29); SLEW_END folds a slew that has run into the offset (R30). The queue, the
sealed domain and, but for the step of applied time in FREE (R41) and for stamps of instants still to come (R35), everything of
the main domain but its answer stay. Requests take effect on the 1 GHz edge at or after the command (R23), and OFFSET and what
remains of a slew are I64s (R33).
Where the rules leave a corner open, a clause states the model's choice: assumption log 3. -/
def Obligations.TimeUnitCommandsTakeEffect : Prop :=
  (∀ (t : Nat) (m : Master) (v : Int) (s : State), masterOk m = true → Awake s → s.d.accepts m 0x1300 3 v = true →
    s.tu.state = .free →
    ∃ s', exec (.offsetWrite t m v) s = .next s' ∧ s'.now = max s.now t ∧ s'.pending = s.pending ∧ s'.met = s.met ∧
      s'.tu = s.tu.setPar (edge16 (rawAt t s)) { s.tu.par with offset := v } ∧ s'.d.resp.status = stOK ∧
      ∀ i k, k < 256 → ¬ (0x1310 ≤ i ∧ i < 0x1330 ∧ (k = 6 ∨ k = 8)) → ¬ (0x3580 ≤ i ∧ i < 0x3590 ∧ k = 8) → (i, k) ≠ (0x1505, 2) →
        s'.d.get i k = s.d.get i k) ∧
  (∀ (t : Nat) (m : Master) (v : Int) (s : State), masterOk m = true → Awake s → s.d.accepts m 0x1300 3 v = true →
    s.tu.state = .held →
    let raw := edge16 (rawAt t s)
    let ran := s.tu.par.slewed raw
    let total := match s.tu.par.slew with | none => 0 | some x => x.total
    let left := wrapI 64 (total - ran + (v - (s.tu.par.offset + ran)))
    exec (.offsetWrite t m v) s = .next
      (s.retimed t (s.tu.setPar raw { s.tu.par with
        offset := wrapI 64 (s.tu.par.offset + ran),
        slew := if left = 0 then none else some { total := left, start := raw, limit := s.tu.slewLimit } })
        ((begun s.d).ended m stOK))) ∧
  (∀ (t : Nat) (m : Master) (v : Int) (s : State), masterOk m = true → Awake s → s.d.accepts m 0x1300 4 v = true →
    (s.tu.state = .free ∨ s.tu.state = .held) →
    let raw := edge16 (rawAt t s)
    exec (.rateWrite t m v) s = .next
      (s.retimed t (s.tu.setPar raw { s.tu.par with
        offset := wrapI 64 (s.tu.par.offset + s.tu.par.rate * ((raw : Int) - s.tu.par.rawRef) / 2 ^ 48), rawRef := raw, rate := v })
        ((begun s.d).ended m stOK))) ∧
  (∀ (t : Nat) (m : Master) (s : State), masterOk m = true → Awake s → s.d.accepts m 0x1300 7 1 = true →
    exec (.declareValid t m 1) s = .next
      { s with now := max s.now t, d := (begun s.d).ended m stOK,
               tu := if s.tu.state = .free then { s.tu with state := .held } else s.tu }) ∧
  (∀ (t : Nat) (m : Master) (v : Int) (s : State), masterOk m = true → Awake s → s.d.accepts m 0x1300 8 v = true →
    let raw := edge16 (rawAt t s)
    let tu1 : TimeUnit := { s.tu with slewLimit := v.toNat }
    exec (.slewLimitWrite t m v) s = .next
      (s.retimed t (match s.tu.par.slew with
        | none => tu1
        | some x =>
          let left := wrapI 64 (x.total - s.tu.par.slewed raw)
          tu1.setPar raw { s.tu.par with
            offset := wrapI 64 (s.tu.par.offset + s.tu.par.slewed raw),
            slew := if left = 0 then none else some { total := left, start := raw, limit := v.toNat } })
        ((begun s.d).ended m stOK))) ∧
  (∀ (t : Nat) (m : Master) (v : Int) (s : State), masterOk m = true → Awake s → s.d.accepts m 0x1300 0x0A v = true →
    s.tu.state = .free →
    exec (.epochPtpSWrite t m v) s = .next
      { s with now := max s.now t, d := (begun s.d).ended m stOK, tu := { s.tu with epoch := v.toNat } }) ∧
  (∀ (t : Nat) (s : State) (x : Slew), Awake s → s.tu.par.slew = some x →
    x.total.natAbs ≤ x.limit * (edge16 (rawAt t s) - x.start) / 1000000000 →
    exec (.slewEnd t) s = .next
      (s.retimed t (s.tu.setPar (edge16 (rawAt t s)) { s.tu.par with offset := wrapI 64 (s.tu.par.offset + x.total), slew := none })
        (begun s.d)))

/-- The time compare units. TC_ARM of a unit whose settings keep R44 takes TARGET, PERIOD and REPEAT into the working copy and waits
(R42); a target that applied time has reached fires late under LATE_FIRE, and under DROP or CATCH_UP is skipped with every target
behind it, each counted in MISSED_COUNT and toward REPEAT (R43, R44); an arm that breaks R44 or names the reserved LATE sets BAD_ARM
alone. A write that turns POLARITY turns the level of the unit's pins (R45, R46). TC_DISARM disarms at once (R45). TC_FIRE of a
reached target drives its TTO pins, early by TTO_OUT_LAT of the 48 tt that the output takes (R37), keeps the target in LAST_FIRE,
counts, sets FIRED (and LATE), offers its event where EVENT_EN is set, moves on as R42 and R44 say, and gives the chains that it
clocks their sample (R41, R46, R234). A next target that a shadow set or that follows a late one is judged as at an arming: where it
is reached it fires late under LATE_FIRE and is skipped otherwise (R42, R43). TTO_PULSE_END returns the pin to its idle level, low
where the pin has no source (R46).
Where the rules leave a corner open, a clause states the model's choice: assumption log 18 to 20 and 109. -/
def Obligations.TimeCompareUnitsFollowTheirRules : Prop :=
  (∀ (t : Nat) (m : Master) (n ctl : Nat) (s : State), masterOk m = true → okTc n = true → Awake s →
    s.d.accepts m (0x1310 + n) 4 ctl = true → s.d.plain (0x1310 + n) 4 → bit ctl 0 = true → bit ctl 1 = false →
    let i := 0x1310 + n
    let per := s.d.gn i 2
    let wide := s.d.gn i 5
    let late := field ctl 5 4
    let target := s.d.gn i 1
    let now := s.applied t
    let d0 := ttoFollow (envOf t s) (begun s.d) ((begun s.d).put i 4 (ctl &&& 0x3C : Nat))
    let w : TcWork := { armed := true, target := target, period := per, left := repeatLeft (s.d.gn i 3) }
    let sound := (per = 0 ∨ (320 ≤ per ∧ wide < per)) ∧ 160 ≤ wide ∧ late ≠ 3
    (¬ sound → exec (.tcArm t m n ctl) s = .next (s.moved t ((d0.setFlag i 6 4).ended m stOK))) ∧
    (sound → tcReached now target = false →
      exec (.tcArm t m n ctl) s = .next (s.moved t ((d0.setTc n w).ended m stOK))) ∧
    (sound → tcReached now target = true → late = 1 →
      exec (.tcArm t m n ctl) s = .next (s.moved t ((d0.setTc n { w with late := true }).ended m stOK))) ∧
    (sound → tcReached now target = true → late ≠ 1 → per = 0 →
      exec (.tcArm t m n ctl) s = .next
        (s.moved t ((((d0.setTc n { w with armed := false }).setFlag i 6 3).add i 8 1).ended m stOK))) ∧
    (sound → target ≤ now → now < 2 ^ 63 → per < 2 ^ 63 → late ≠ 1 → per ≠ 0 →
      let behind := (now - target) / per + 1
      let rep := s.d.gn i 3
      (rep = 0 ∨ behind < rep →
        exec (.tcArm t m n ctl) s = .next
          (s.moved t ((((d0.setTc n { w with
              target := target + behind * per,
              left := if rep = 0 then none else some (rep - behind) }).setFlag i 6 3).add i 8 behind).ended m stOK))) ∧
      (rep ≠ 0 → rep ≤ behind → ∃ x : TcWork, x.armed = false ∧ x.left = some 0 ∧
        exec (.tcArm t m n ctl) s = .next (s.moved t ((((d0.setTc n x).setFlag i 6 3).add i 8 rep).ended m stOK))))) ∧
  (∀ (t : Nat) (m : Master) (n ctl : Nat) (s : State), masterOk m = true → okTc n = true → Awake s →
    s.d.accepts m (0x1310 + n) 4 ctl = true → bit ctl 1 = true →
    let d0 := ttoFollow (envOf t s) (begun s.d) ((begun s.d).put (0x1310 + n) 4 (ctl &&& 0x3C : Nat))
    exec (.tcDisarm t m n ctl) s = .next
      (s.moved t ((d0.setTc n { s.d.tc n with armed := false, late := false }).ended m stOK))) ∧
  (∀ (t n : Nat) (s : State), okTc n = true → Awake s → (s.d.tc n).armed = true →
    tcReached (s.applied t) (s.d.tc n).target = true →
    let w := s.d.tc n
    let i := 0x1310 + n
    let fireAt := if w.late then s.applied t else w.target
    let per := if w.shPeriod then s.d.gn i 2 else w.period
    let d1 := ((List.range 8).filter (fun k => s.d.gn 0x1330 (k + 1) == n)).foldl (fun d k =>
      { (d.emit (.pin "TTO" k (true != bit (s.d.gn i 4) 3) (wrapU 64 ((fireAt : Int) + 48 - s.d.gi 0x1302 4)))) with
        tto := tabSet d.tto k (wrapU 64 ((fireAt : Int) + s.d.gn i 5)) }) (begun s.d)
    let d2 := ((d1.put i 9 w.target).inc i 7).setFlag i 6 1
    let d3 := if w.late then d2.setFlag i 6 2 else d2
    let d4 := if bit (s.d.gn i 4) 2 then d3.raise (envOf t s) n 0 else d3
    let w2 : TcWork := if w.period = 0 then { w with armed := false, late := false }
      else if w.left = some 1 then { w with armed := false, late := false, left := some 0 }
      else { armed := true, period := per,
             target := if w.shTarget then s.d.gn i 1 else wrapU 64 ((w.target : Int) + per),
             left := if w.shRepeat then (if s.d.gn i 3 = 0 then none else some (s.d.gn i 3)) else w.left.map (· - 1) }
    let judged := (w.late || w.shTarget || w.shPeriod) && w2.armed && tcReached (s.applied t) w2.target
    let fired (d : Dev) : Prop := exec (.tcFire t n) s = .next (s.moved t (chainTick (envOf t s) d n w.target))
    (judged = false → fired (d4.setTc n { w2 with late := false })) ∧
    (judged = true → field (s.d.gn i 4) 5 4 = 1 → fired (d4.setTc n { w2 with late := true })) ∧
    (judged = true → field (s.d.gn i 4) 5 4 ≠ 1 → per = 0 →
      fired (((d4.setTc n { w2 with armed := false, late := false }).setFlag i 6 3).add i 8 1))) ∧
  (∀ (t k stop : Nat) (s : State), okTto k = true → Awake s → tabFind s.d.tto k = some stop →
    tcReached (s.applied t) stop = true →
    let d := begun s.d
    let src := s.d.gn 0x1330 (k + 1)
    let idle := decide (src < 32) && bit (s.d.gn (0x1310 + src) 4) 3
    exec (.ttoPulseEnd t k) s = .next (s.moved t
      { (d.emit (.pin "TTO" k idle (wrapU 64 ((stop : Int) + 48 - s.d.gi 0x1302 4)))) with tto := tabErase d.tto k }))

/-- Writes of the position inputs (R47, R48, R55, R62). ENC_MODE_WRITE stores MODE; where it leaves OFF each pin takes its present
level as accepted and waits for its first stable level, and STANDSTILL is measured from then. INDEX_ARM arms ONCE mode.
SET_VALUE_WRITE stores a whole number of wp; one with fraction bits keeps the value held before, sets SET_REFUSED and is refused.
SET_AT_NEXT_COUNT and SET_AT_POS_SET_GRANT schedule a set to SET_VALUE for the next count, or for a POS_SET grant and then the next count;
while REVERSE is set they are refused. A later command replaces an earlier one.
Where the rules leave a corner open, a clause states the model's choice: assumption log 22 and 110. -/
def Obligations.PositionInputWritesTakeEffect : Prop :=
  (∀ (t : Nat) (m : Master) (n : Nat) (v : Int) (s : State), masterOk m = true → okEnc n = true → Awake s →
    s.d.accepts m (0x3500 + n) 1 v = true →
    let x := s.d.enc n
    let un (p : PinFilter) : PinFilter := { p with primed := false, acc := p.lvl }
    let x1 : Enc := { x with pinA := un x.pinA, pinB := un x.pinB, pinZ := un x.pinZ, onSince := rawAt t s, standstill := false }
    exec (.encModeWrite t m n v) s = .next (s.moved t
      (((if s.d.gn (0x3500 + n) 1 = 0 ∧ v ≠ 0 then (begun s.d).setEnc n x1 else begun s.d).put (0x3500 + n) 1 v).ended m stOK))) ∧
  (∀ (t : Nat) (m : Master) (n : Nat) (s : State), masterOk m = true → okEnc n = true → Awake s →
    s.d.accepts m (0x3500 + n) 0x0C 1 = true →
    exec (.indexArm t m n 1) s = .next (s.moved t (((begun s.d).setEnc n { s.d.enc n with onceArmed := true }).ended m stOK))) ∧
  (∀ (t : Nat) (m : Master) (n : Nat) (v : Int) (s : State), masterOk m = true → okEnc n = true → Awake s →
    s.d.accepts m (0x350C + n) 1 v = true →
    (v % 65536 = 0 →
      exec (.setValueWrite t m n v) s = .next (s.moved t (((begun s.d).put (0x350C + n) 1 v).ended m stOK))) ∧
    (v % 65536 ≠ 0 →
      exec (.setValueWrite t m n v) s = .next
        (s.moved t ((((begun s.d).setFlag (0x3508 + n) 1 7).inc (0x3508 + n) 8).ended m stRefused)))) ∧
  (∀ (t : Nat) (m : Master) (n : Nat) (s : State), masterOk m = true → okEnc n = true → Awake s →
    let sched (grant : Bool) : State := s.moved t (((begun s.d).setEnc n { s.d.enc n with
      setPend := some { waitGrant := grant } }).ended m stOK)
    let refused : State := s.moved t ((((begun s.d).setFlag (0x3508 + n) 1 7).inc (0x3508 + n) 8).ended m stRefused)
    (s.d.accepts m (0x350C + n) 2 1 = true → (s.d.enc n).reverse = false →
      exec (.setAtNextCount t m n) s = .next (sched false)) ∧
    (s.d.accepts m (0x350C + n) 2 2 = true → (s.d.enc n).reverse = false →
      exec (.setAtPosSetGrant t m n) s = .next (sched true)) ∧
    (s.d.accepts m (0x350C + n) 2 1 = true → (s.d.enc n).reverse = true →
      exec (.setAtNextCount t m n) s = .next refused) ∧
    (s.d.accepts m (0x350C + n) 2 2 = true → (s.d.enc n).reverse = true →
      exec (.setAtPosSetGrant t m n) s = .next refused))

/-- What happens at the pins of a position input (R48, R49, R54, R60). ENC_PIN_CHANGE of an input keeps the pin's new level with its
instant, but a level that is back on the filter clock that first saw it go is held since it began, and touches nothing else. ENC_FILTER_ACCEPT of a level of pin A that has been stable for FILTER_N clocks, in QUADRATURE mode
at ×4 with no other pin due, no position set waiting and no lull that a count would close, accepts the level and moves the position counter by exactly 1.0, up when A
leads B (INVERT_DIR swaps), with the stamp of the level's first instant; nothing moves the other inputs. STANDSTILL after
STANDSTILL_TIME without a count marks the input and offers its event.
Where the rules leave a corner open, a clause states the model's choice: assumption log 22, 23 and 110. -/
def Obligations.PositionPinsCount : Prop :=
  (∀ (t n : Nat) (pin : EncPin) (level : Bool) (s : State), okEnc n = true → Awake s →
    ∃ p : PinFilter, exec (.encPinChange t n pin level) s = .next
        (s.moved t ((begun s.d).setEnc n ((s.d.enc n).setPin p pin))) ∧
      p.lvl = level ∧ (((s.d.enc n).pin pin).lvl = level → p = (s.d.enc n).pin pin) ∧
      (((s.d.enc n).pin pin).lvl ≠ level →
        let q := (s.d.enc n).pin pin
        let back := q.cell = clk200 ((rawAt t s : Int) + s.d.gi 0x1302 1).toNat ∧ q.runLvl = level
        (back → p.since = q.runSince) ∧ (¬ back → p.since = rawAt t s) ∧
        (((s.d.enc n).pin pin).primed = true → p.acc = ((s.d.enc n).pin pin).acc ∧ p.primed = true))) ∧
  (∀ (t n : Nat) (s : State), okEnc n = true → Awake s →
    let x := s.d.enc n
    let up := (x.pinA.lvl != x.pinB.acc) != s.d.gb (0x3500 + n) 5
    s.d.gn (0x3500 + n) 1 = 2 → s.d.gn (0x3500 + n) 3 = 4 → x.pinA.primed = true → x.setPend = none →
    s.d.lulls.stop = false → s.d.lulls.splice = none →
    pinDue s.d n x x.pinA (rawAt t s) = true → pinDue s.d n x x.pinB (rawAt t s) = false →
    pinDue s.d n x x.pinZ (rawAt t s) = false →
    ∃ s', exec (.encFilterAccept t n) s = .next s' ∧ s'.now = max s.now t ∧ s'.pending = s.pending ∧ s'.met = s.met ∧
      s'.tu = s.tu ∧ (s'.d.enc n).pos = x.pos + (if up then 65536 else -65536) ∧
      (s'.d.enc n).pinA = { x.pinA with acc := x.pinA.lvl } ∧ (s'.d.enc n).standstill = false ∧
      (s'.d.enc n).lastStamp = some ((s.tu.paramsAt x.pinA.since).applied x.pinA.since) ∧
      ∀ k, k ≠ n → s'.d.enc k = s.d.enc k) ∧
  (∀ (t n : Nat) (s : State), okEnc n = true → Awake s → s.d.gn (0x3500 + n) 1 ≠ 0 → (s.d.enc n).standstill = false →
    max (s.d.enc n).lastClock (s.d.enc n).onSince + s.d.gn (0x3500 + n) 0x11 * 16000 ≤ rawAt t s →
    exec (.standstill t n) s = .next (s.moved t
      (((begun s.d).setEnc n { s.d.enc n with standstill := true, stillAt := rawAt t s, stillStamp := s.applied t }).raise (envOf t s) (0x020 + 8 * n + 6) 0)))

/-- The position compare units (R66 to R74). CMP_ARM of a unit that the marking engine does not own takes TARGET, PERIOD and REPEAT,
the target in Q48.32, and waits while its target is ahead of the estimate; a reserved code or an input with MODE 0 sets BAD_ARM
alone; LATE is forced to CATCH_UP for a line-trigger unit, and a unit of the marking engine refuses the write. CMP_DISARM disarms at
once. CMP_FIRE of a unit that no head and no overlay uses records LAST_FIRE_POS, LAST_FIRE_TIME, FIRE_COUNT and FIRED, offers its
event under EVENT_EN, moves on as R42 says in steps of PERIOD in Q32.32, and, where OWNER is 1, gives each port that names it its
trigger, but not in a STOP lull to a port whose job acquires in it (R167). TRG_PULSE_END returns TRGn to its idle level.
Where the rules leave a corner open, a clause states the model's choice: assumption log 18 to 20 and 25. -/
def Obligations.CompareUnitsFollowTheirRules : Prop :=
  (∀ (t : Nat) (m : Master) (n ctl : Nat) (s : State), masterOk m = true → okCmp n = true → Awake s →
    s.d.accepts m (0x3540 + n) 5 ctl = true → s.d.plain (0x3540 + n) 5 → bit ctl 0 = true → bit ctl 1 = false →
    let i := 0x3540 + n
    let owner := field ctl 7 6
    let late := if owner = 1 then 2 else field ctl 5 4
    let d0 := (begun s.d).put i 5 (putField (ctl &&& 0xC4) 5 4 late : Nat)
    let w : CmpWork := { armed := true, target := s.d.gi i 2 * 65536, period := s.d.gn i 3, left := repeatLeft (s.d.gn i 4) }
    let inp := s.d.gn i 1
    let sound := late ≠ 3 ∧ owner ≠ 3 ∧ s.d.gn (0x3500 + inp) 1 ≠ 0
    (field (s.d.gn i 5) 7 6 = 2 ∨ owner = 2 →
      exec (.cmpArm t m n ctl) s = .next (s.moved t (((begun s.d).inc 0x3590 2).ended m stRefused))) ∧
    (field (s.d.gn i 5) 7 6 ≠ 2 → owner ≠ 2 → ¬ sound →
      exec (.cmpArm t m n ctl) s = .next (s.moved t ((d0.setFlag i 6 3).ended m stOK))) ∧
    (field (s.d.gn i 5) 7 6 ≠ 2 → owner ≠ 2 → sound → wrapI 64 (encEst (envOf t s) (begun s.d) inp - s.d.gi i 2) < 0 →
      exec (.cmpArm t m n ctl) s = .next (s.moved t ((d0.setCmp n w).ended m stOK)))) ∧
  (∀ (t : Nat) (m : Master) (n ctl : Nat) (s : State), masterOk m = true → okCmp n = true → Awake s →
    s.d.accepts m (0x3540 + n) 5 ctl = true → bit ctl 1 = true → field (s.d.gn (0x3540 + n) 5) 7 6 ≠ 2 → field ctl 7 6 ≠ 2 →
    let late := if field ctl 7 6 = 1 then 2 else field ctl 5 4
    exec (.cmpDisarm t m n ctl) s = .next (s.moved t
      ((((begun s.d).put (0x3540 + n) 5 (putField (ctl &&& 0xC4) 5 4 late : Nat)).setCmp n
        { s.d.cmp n with armed := false, late := false }).ended m stOK))) ∧
  (∀ (t n : Nat) (s : State), okCmp n = true → Awake s → headOf s.d n = none → s.d.ovls = [] →
    let i := 0x3540 + n
    let w := s.d.cmp n
    let est := encEst (envOf t s) (begun s.d) (s.d.gn i 1)
    let clk := clk200 (rawAt t s)
    let per := if w.shPeriod then s.d.gn i 3 else w.period
    let w2 : CmpWork := if w.period = 0 then { w with armed := false, late := false }
      else if w.left = some 1 then { w with armed := false, late := false, left := some 0 }
      else { armed := true, period := per,
             target := if w.shTarget then s.d.gi i 2 * 65536 else w.target + per,
             left := if w.shRepeat then (if s.d.gn i 4 = 0 then none else some (s.d.gn i 4)) else w.left.map (· - 1) }
    let d1 := ((((begun s.d).put i 9 (w.target / 65536)).put i 0x0A (s.clocked t : Nat)).inc i 7).setFlag i 6 0
    let d2 := if w.late then d1.setFlag i 6 1 else d1
    let d3 := if bit (s.d.gn i 5) 2 then d2.raise (envOf t s) (0x040 + 2 * n) 0 else d2
    let d4 := d3.setCmp n { w2 with lastClk := some clk }
    let d5 := if field (s.d.gn i 5) 7 6 = 1 then
        ((List.range 16).filter (fun p => s.d.gn (0x3580 + p) 1 == n && !(s.d.lulls.stop && stopJob s.d p))).foldl (fun d p => triggerSend (envOf t s) d p clk false) d4
      else d4
    w.armed = true → 0 ≤ wrapI 64 (est - w.target / 65536) → w.lastClk ≠ some clk →
      (w2.armed = true → wrapI 64 (est - w2.target / 65536) < 0) →
    exec (.cmpFire t n) s = .next (s.moved t d5)) ∧
  (∀ (t p stop : Nat) (s : State), okPort p = true → Awake s → (s.d.trig p).pulseEnd = some stop → stop ≤ rawAt t s →
    exec (.trgPulseEnd t p) s = .next (s.moved t
      (((begun s.d).setTrig p { s.d.trig p with pulseEnd := none }).emit
        (.pin "TRG" p (s.d.gb (0x3580 + p) 5) stop))))

/-- Block lock and alignment of a lane (R82 to R86, R98). BLOCK_LOCK_ACQUIRED gives a powered lane block lock; a hunting lane is then
LOCKED, or in the bring-up of its group is trained, beginning with PRESET under a new sequence number, which is repeated for 2 µs.
LOCK_LOSS of a lane outside the active mask of a released group that no degrade mask names drops the lock, counts it, sets LOCK_LOST, and a LOCKED or ALIGNED lane hunts. ALIGNMENT_BLOCK_RX of a
good first block keeps its sequence number, mask and arrival; the third good block in a row of a lane, while another lane of the mask
is not yet ALIGNED, makes it ALIGNED; in loop 3 a block leaves again (R100). ALIGNMENT_MISSING counts an error and a miss; the third in a row makes an ALIGNED lane LOCKED and
sets its flag. LANE_BLOCK_BAD of another block than an alignment block counts an error. ALIGNMENT_BLOCK_SEND sends the next sequence number on every
powered lane of the group that sees its ball, each with the BIP-8 of what the lane has sent since the alignment block before, in the fixed
slot of 16,384 (R82, R113). PORT_STREAM_STOPPED takes a port from IN_SERVICE to OFF: its mask is empty and its lanes are idle.
Where the rules leave a corner open, a clause states the model's choice: assumption log 26, 28, 30 and 111. -/
def Obligations.LaneLockAndAlignmentFollowTheirRules : Prop :=
  (∀ (t l : Nat) (s : State), okLane l = true → Awake s → (s.d.lane l).powered = true → (s.d.lane l).locked = false →
    let x := s.d.lane l
    let r := laneRes l
    let x1 : Lane := { x with locked := true, run := 0, missed := 0, seq := none }
    let d1 := ((begun s.d).setLane l x1).publish r
    let g := laneGroup s.d l
    let training := bringingUp s.d g && bit (groupLanes s.d g) (laneIx l)
    let sq := (x.reqSeq + 1) % 256
    let d2 := d1.put r 2 (clrBit (clrBit (clrBit (d1.gn r 2) 7) 6) 5 : Nat)
    let d3 := ((d2.setLane l { x1 with link := .train }).publish r).setLane l { x1 with
      link := .train, reqSeq := sq, training := some { start := rawAt t s, seq := sq, req := 0x80, sentAt := rawAt t s } }
    (x.link ≠ .hunt → exec (.blockLockAcquired t l) s = .next (s.moved t d1)) ∧
    (x.link = .hunt → training = false →
      exec (.blockLockAcquired t l) s = .next (s.moved t ((d1.setLane l { x1 with link := .locked }).publish r))) ∧
    (x.link = .hunt → training = true → exec (.blockLockAcquired t l) s = .next (s.moved t
      (laneSend (envOf t s) (txStop (envOf t s) d3 g 0xA8 (some l)) l (laneBlk [0xA8, BitVec.ofNat 8 sq, 0x80]) (rawAt t s + 32000))))) ∧
  (∀ (t l : Nat) (s : State), okLane l = true → Awake s → (s.d.lane l).locked = true →
    let x := s.d.lane l
    let r := laneRes l
    let x1 : Lane := { x with locked := false, run := 0, seq := none }
    let d1 := ((((begun s.d).setLane l x1).incP r 3).setFlag r 2 2).publish r
    (linkUp s.d (laneGroup s.d l) && bit (s.d.port (laneGroup s.d l)).mask (laneIx l)) = false →
    ((s.d.port (laneGroup s.d l)).stoppedAt = none ∨ ∀ c ∈ (s.d.port (laneGroup s.d l)).change, bit c.mask (laneIx l) = false) →
    exec (.lockLoss t l) s = .next (s.moved t
      (if x.link = .aligned ∨ x.link = .locked then (d1.setLane l { x1 with link := .hunt }).publish r else d1))) ∧
  (∀ (t l bip : Nat) (blk : List Byte) (s : State), okLane l = true → Awake s → s.d.retrains = [] →
    let x := s.d.lane l
    let g := laneGroup s.d l
    let sq := blkAt blk 2
    x.locked = true → x.link = .locked → x.leaveTest = none → blkOk blk = true → blkAt blk 0 = 0xA5 → blkAt blk 3 = bip % 256 →
    field (blkAt blk 1) 3 0 = laneIx l → (∀ y ∈ otherMask s.d g l sq, y = blkAt blk 4) → hearsBall s.d l = true →
    (x.seq = none → bit (blkAt blk 4) (laneIx l) = true →
      exec (.alignmentBlockRx t l blk bip) s = .next (s.moved t
        (let d1 := (begun s.d).setLane l { x with seq := some sq, mask := blkAt blk 4, arrived := rawAt t s, run := 0, missed := 0 }
         farEnd (envOf t s)
           (if (s.d.port g).alignSeq = sq then d1 else groupPub (d1.setPort g { s.d.port g with alignSeq := sq }) g) l blk))) ∧
    (∀ q i, x.seq = some q → (q + 1) % 256 = sq → 1 ≤ x.run → i < 8 → bit (blkAt blk 4) i = true → groupBase g + i ≠ l →
      (s.d.lane (groupBase g + i)).link ≠ .aligned →
      ∃ d, exec (.alignmentBlockRx t l blk bip) s = .next (s.moved t d) ∧
        d.lane l = { x with seq := some sq, mask := blkAt blk 4, arrived := rawAt t s, run := 2, missed := 0, link := .aligned } ∧
        (d.port g).alignSeq = sq ∧ ∀ k, k ≠ l → d.lane k = s.d.lane k)) ∧
  (∀ (t l : Nat) (s : State), okLane l = true → Awake s → (s.d.lane l).locked = true →
    let x := s.d.lane l
    let r := laneRes l
    let d1 := (begun s.d).incP r 5
    let sq := x.seq.map (fun q => (q + 1) % 256)
    (x.link = .locked →
      exec (.alignmentMissing t l) s = .next (s.moved t (d1.setLane l { x with missed := x.missed + 1, seq := sq, run := 0 }))) ∧
    (x.link = .aligned → x.missed < 2 →
      exec (.alignmentMissing t l) s = .next (s.moved t (d1.setLane l { x with missed := x.missed + 1, seq := sq }))) ∧
    (x.link = .aligned → 2 ≤ x.missed →
      (linkUp s.d (laneGroup s.d l) && bit (s.d.port (laneGroup s.d l)).mask (laneIx l)) = false →
      ((s.d.port (laneGroup s.d l)).stoppedAt = none ∨ ∀ c ∈ (s.d.port (laneGroup s.d l)).change, bit c.mask (laneIx l) = false) →
      exec (.alignmentMissing t l) s = .next (s.moved t
        ((((d1.setLane l { x with missed := 0, run := 0, seq := none, link := .locked }).publish r).setFlag r 2 4).publish r)))) ∧
  (∀ (t l : Nat) (blk : List Byte) (s : State), okLane l = true → Awake s → (s.d.lane l).locked = true →
    field (blkAt blk 0) 7 4 = 0xA → blkAt blk 0 ≠ 0xA5 → blkOk blk = false → hearsBall s.d l = true →
    exec (.laneBlockBad t l blk) s = .next (s.moved t ((begun s.d).incP (laneRes l) 5))) ∧
  (∀ (t g : Nat) (s : State), okGroup g = true → Awake s →
    let pt := s.d.port g
    let on := ((List.range 8).map (fun i => groupBase g + i)).filter (fun l => laneGroup s.d l == g && (s.d.lane l).powered)
    let slot := if pt.txAt.isSome then pt.alignSlot + 16384 else max pt.txSlot (slotFrom s.d g (rawAt t s))
    let d0 := txUpTo (begun s.d) g (blocksTt s.d g slot)
    on ≠ [] → g < 16 → pt.txChange = none → (∀ l ∈ on, hearsBall s.d l = true) →
    (∀ a ∈ pt.txAt, a + alignPeriod s.d g ≤ rawAt t s) →
    ∃ d, exec (.alignmentBlockSend t g) s = .next (s.moved t d) ∧ d.o = s.d.o ∧ d.freeN = s.d.freeN ∧
      d.port g = { d0.port g with txSeq := ((d0.port g).txSeq + 1) % 256, txAt := some (rawAt t s), alignSlot := slot,
                                  txSlot := max (d0.port g).txSlot (slot + 1), txMask := 0 } ∧
      (∀ k, k ∉ on → d.lane k = d0.lane k) ∧
      ∀ l ∈ on, (d.lane l).bip = 0 ∧ (d.lane l).lastSlot = slot ∧
        Out.laneBlock l (laneBlk [0xA5, BitVec.ofNat 8 (laneIx l), BitVec.ofNat 8 pt.txSeq, BitVec.ofNat 8 (laneBip (d0.lane l) slot),
          BitVec.ofNat 8 (if pt.mask = 0 then groupLanes s.d g else pt.mask), BitVec.ofNat 8 (groupRate s.d g)]) (rawAt t s) ∈ d.out) ∧
  (∀ (t p a : Nat) (s : State), okPort p = true → Awake s → (s.d.port p).stoppedAt = some a →
    a + 3 * alignPeriod s.d p ≤ rawAt t s → s.d.ustate (uPort p) = .inService → (s.d.pt p).cam = .absent → s.d.rot.pipe ≠ p →
    ∃ d, exec (.portStreamStopped t p) s = .next (s.moved t d) ∧ d.ustate (uPort p) = .off ∧
      (d.port p).mask = 0 ∧ (d.port p).link = .down ∧ (d.port p).stoppedAt = none ∧
      ∀ i, i < 8 → (d.lane (8 * p + i)).powered = false ∧ d.ustate (uLane (8 * p + i)) = .off)

/-- Training of a lane (R87 to R92). TRAIN_START of a lane in TEST or SHADOW outside the active mask begins with PRESET under a new
sequence number, repeated for 2 µs unless its answer comes before (R89), and is refused otherwise; TRAIN_ABORT goes back to the best taps seen. TRAINING_REQUEST_RX is applied once and
answered each time: PRESET sets the taps, a sequence number seen already gives the same answer. TRAINING_STATUS_RX that matches the
request begins the measurement, ends the training after RX_READY, and is ignored while no answer is due. TRAIN_TIMEOUT repeats the request, and after the eighth
the lane FAILED. TRAIN_STEP_DONE at the target asks RX_READY, and below it asks one more step of at most one tap, which the spec leaves
open.
Where the rules leave a corner open, a clause states the model's choice: assumption log 26, 27 and 111. -/
def Obligations.LaneTrainingFollowsItsRules : Prop :=
  (∀ (t : Nat) (m : Master) (l : Nat) (s : State), masterOk m = true → okLane l = true → Awake s →
    s.d.accepts m (laneCfg l) 5 1 = true →
    let x := s.d.lane l
    let free := (s.d.ustate (uLane l) = .test ∨ s.d.ustate (uLane l) = .shadow) ∧
      bit (s.d.port (laneGroup s.d l)).mask (laneIx l) = false
    let sq := (x.reqSeq + 1) % 256
    let sends (d : Dev) (b : List Byte) : Dev :=
      laneSend (envOf t s) (txStop (envOf t s) d (laneGroup s.d l) 0xA8 (some l)) l b (rawAt t s + 32000)
    let r := laneRes l
    let d1 := (begun s.d).put r 2 (clrBit (clrBit (clrBit (s.d.gn r 2) 7) 6) 5 : Nat)
    let d2 := if x.link = .train then d1 else (d1.setLane l { x with link := .train }).publish r
    (free → exec (.trainStart t m l) s = .next (s.moved t ((sends (d2.setLane l { x with
      link := .train, reqSeq := sq, training := some { start := rawAt t s, seq := sq, req := 0x80, sentAt := rawAt t s } })
        (laneBlk [0xA8, BitVec.ofNat 8 sq, 0x80])).ended m stOK))) ∧
    (¬ free → exec (.trainStart t m l) s = .next (s.moved t ((begun s.d).reject m (laneCfg l))))) ∧
  (∀ (t : Nat) (m : Master) (l : Nat) (tr : Training) (s : State), masterOk m = true → okLane l = true → Awake s →
    s.d.accepts m (laneCfg l) 5 2 = true → (s.d.lane l).training = some tr →
    let x := s.d.lane l
    let best := tr.best.getD (tr.taps, tr.margin)
    let sq := (x.reqSeq + 1) % 256
    let tr1 : Training := { tr with margin := best.2, seq := sq, req := (stepTowards tr.taps best.1).getD 0x40, timeouts := 0, sentAt := rawAt t s, phase := if (stepTowards tr.taps best.1).isNone then .ready else .returning }
    let sends (d : Dev) (b : List Byte) : Dev :=
      laneSend (envOf t s) (txStop (envOf t s) d (laneGroup s.d l) 0xA8 (some l)) l b (rawAt t s + 32000)
    exec (.trainAbort t m l) s = .next (s.moved t
      ((sends ((begun s.d).setLane l { x with reqSeq := sq, training := some tr1 })
        (laneBlk [0xA8, BitVec.ofNat 8 sq, BitVec.ofNat 8 tr1.req])).ended m stOK))) ∧
  (∀ (t l : Nat) (blk : List Byte) (s : State), okLane l = true → Awake s → (s.d.lane l).powered = true → blkOk blk = true →
    blkAt blk 0 = 0xA8 → hearsBall s.d l = true →
    let x := s.d.lane l
    let c := laneCfg l
    let sq := blkAt blk 1
    let answer (d : Dev) (ans : Nat) : Dev :=
      laneSend (envOf t s) (d.setLane l { x with remoteSeq := some sq, remoteAns := ans }) l (laneBlk ([0xA9, BitVec.ofNat 8 sq,
        BitVec.ofNat 8 ans, 0] ++ toBE 2 (tapsWord (d.gn c 1) (d.gn c 2) (d.gn c 3)))) 0
    let d0 := farEnd (envOf t s) (begun s.d) l blk
    (x.remoteSeq = some sq → exec (.trainingRequestRx t l blk) s = .next (s.moved t (answer d0 x.remoteAns))) ∧
    (x.remoteSeq ≠ some sq → (128 ≤ l ∨ s.d.gb c 4 = true) → bit (blkAt blk 2) 7 = true →
      exec (.trainingRequestRx t l blk) s = .next (s.moved t
        (answer (((d0.put c 1 0).put c 2 48).put c 3 0) (1 + 4 * 1 + 16 * 1))))) ∧
  (∀ (t l : Nat) (blk : List Byte) (tr : Training) (s : State), okLane l = true → Awake s → s.d.retrains = [] →
    (s.d.lane l).powered = true → blkOk blk = true → blkAt blk 0 = 0xA9 → (s.d.lane l).training = some tr → blkAt blk 1 = tr.seq →
    hearsBall s.d l = true →
    let x := s.d.lane l
    let r := laneRes l
    let st := blkAt blk 2
    let lim := 2 ≤ field st 5 4 ∨ 2 ≤ field st 3 2 ∨ 2 ≤ field st 1 0
    let taps := beAt blk 4 2 % 32768
    let d0 := farEnd (envOf t s) (begun s.d) l blk
    let d1 := (txStop (envOf t s) d0 (laneGroup s.d l) 0xA8 (some l)).pub r [(7, taps)]
    let d2 := if lim then (d1.setFlag r 2 5).publish r else d1
    (tr.phase = .asked → exec (.trainingStatusRx t l blk) s = .next (s.moved t (d2.setLane l { d2.lane l with training := some { tr with taps := taps, limit := lim, timeouts := 0, phase := .measuring, sentAt := rawAt t s } }))) ∧
    (tr.phase = .ready → x.link = .train → (s.d.port (laneGroup s.d l)).link ≠ .training →
      ∃ d, exec (.trainingStatusRx t l blk) s = .next (s.moved t d) ∧
        d.lane l = { d2.lane l with training := none, run := 0, seq := none, trainedAt := rawAt t s, link := if tr.margin < eyeMin s.d l then .failed else if x.locked then .locked else .hunt } ∧
        ∀ k, k ≠ l → d.lane k = d2.lane k) ∧
    (tr.phase = .measuring → exec (.trainingStatusRx t l blk) s = .next (s.moved t d0))) ∧
  (∀ (t l : Nat) (tr : Training) (s : State), okLane l = true → Awake s → s.d.retrains = [] →
    (s.d.lane l).training = some tr → tr.phase ≠ .measuring → tr.sentAt + 32000 ≤ rawAt t s →
    let x := s.d.lane l
    let r := laneRes l
    let d1 := (begun s.d).incP r 0x0A
    let sends (d : Dev) (b : List Byte) : Dev :=
      laneSend (envOf t s) (txStop (envOf t s) d (laneGroup s.d l) 0xA8 (some l)) l b (rawAt t s + 32000)
    (tr.timeouts < 7 → exec (.trainTimeout t l) s = .next (s.moved t
      (sends (d1.setLane l { x with training := some { tr with timeouts := tr.timeouts + 1, sentAt := rawAt t s } })
        (laneBlk [0xA8, BitVec.ofNat 8 tr.seq, BitVec.ofNat 8 tr.req])))) ∧
    (7 ≤ tr.timeouts → x.link = .train → exec (.trainTimeout t l) s = .next (s.moved t
      (((((d1.setLane l { x with training := none }).setFlag r 2 6).publish r).setLane l
        { x with training := none, link := .failed }).publish r)))) ∧
  (∀ (t l margin vert : Nat) (tr : Training) (s : State), okLane l = true → Awake s → (s.d.lane l).training = some tr →
    tr.phase = .measuring → tr.sentAt + 544000 ≤ rawAt t s →
    let x := s.d.lane l
    let d1 := (begun s.d).pub (laneRes l) [(6, (min margin 255 * 256 + min vert 255 : Nat))]
    let sq := (x.reqSeq + 1) % 256
    let best := match tr.best with | none => (tr.taps, margin) | some b => if b.2 < margin then (tr.taps, margin) else b
    let tr1 : Training := { tr with margin := margin, best := some best, seq := sq, timeouts := 0, sentAt := rawAt t s }
    let sends (d : Dev) (b : List Byte) : Dev :=
      laneSend (envOf t s) (txStop (envOf t s) d (laneGroup s.d l) 0xA8 (some l)) l b (rawAt t s + 32000)
    let asks (d : Dev) (tr2 : Training) : Dev :=
      sends (d.setLane l { x with reqSeq := sq, training := some tr2 }) (laneBlk [0xA8, BitVec.ofNat 8 sq, BitVec.ofNat 8 tr2.req])
    (trainTarget s.d l ≤ margin → exec (.trainStepDone t l margin vert) s =
      .next (s.moved t (asks d1 { tr1 with req := 0x40, phase := .ready }))) ∧
    (margin < trainTarget s.d l → tr.steps < 512 → ∃ req ∈ [1, 2, 4, 8, 16, 32],
      exec (.trainStepDone t l margin vert) s = .next (s.moved t
        (asks { d1 with freeN := s.d.freeN + 1 } { tr1 with req := req, phase := .asked, steps := tr.steps + 1 }))))

/-- Map changes, the neighbour's map requests, and the test objects of lanes (R95 to R99, R101 to R104, R107). MAP_REQUEST of an accepted
mask is PENDING with the earliest target two sequence numbers on and goes out on every lane of the mask in use, 8 times more, every 64
blocks, until it is answered (R96); another mask ends
REFUSED, and one while a change is pending is refused and counted; LANE_MAP_ACK_RX that matches is kept; MAP_NO_ACK ends the change
NO_ACK and its repeats; LANE_MAP_REQUEST_RX on a cascade lane of the higher device takes the camera's part. LANE_SHADOW_TIMEOUT ends the command with
PRECONDITION. Injections act only in TEST, where the generator stands as they need, on its next word, and wait else; CHK_LOCK locks a seeking checker, CHK_RELOCK counts
the errors and the relock and seeks; LANE_CLEAR_COUNTS clears the counters and LOCK_LOST.
Where the rules leave a corner open, a clause states the model's choice: assumption log 29, 31 and 111. -/
def Obligations.LaneMapsAndTestsFollowTheirRules : Prop :=
  (∀ (t : Nat) (m : Master) (p : Nat) (mask : Int) (s : State), masterOk m = true → okPort p = true → Awake s →
    s.d.accepts m (0x2002 + 0x100 * p) 1 mask = true →
    let pt := s.d.port p
    let o := 0x2002 + 0x100 * p
    let tgt := (pt.alignSeq + 2) % 256
    (pt.change ≠ none → exec (.mapRequest t m p mask) s = .next (s.moved t (((begun s.d).inc (0x2000 + 0x100 * p) 7).ended m stRefused))) ∧
    (pt.change = none → maskOk s.d p mask.toNat = false →
      exec (.mapRequest t m p mask) s = .next (s.moved t (((begun s.d).put o 2 3).ended m stOK))) ∧
    (pt.change = none → maskOk s.d p mask.toNat = true →
      let d1 := ((begun s.d).setPort p { pt with change := some { mask := mask.toNat, target := tgt, sentAt := rawAt t s } }).put o 2 1
      exec (.mapRequest t m p mask) s = .next (s.moved t ((sendOnMask (envOf t s) (txStop (envOf t s) d1 p 0xAC none) p
        (laneBlk [0xAC, 0, BitVec.ofNat 8 tgt, BitVec.ofNat 8 mask.toNat]) (rawAt t s + blocksTt s.d p 513)).ended m stOK)))) ∧
  (∀ (t l : Nat) (blk : List Byte) (c : MapChange) (s : State), okLane l = true → Awake s → (s.d.lane l).locked = true →
    blkOk blk = true → blkAt blk 0 = 0xAC → bit (blkAt blk 1) 7 = true → hearsBall s.d l = true →
    let g := laneGroup s.d l
    let d1 := txStop (envOf t s) (farEnd (envOf t s) (begun s.d) l blk) g 0xAC none
    (s.d.port g).change = some c → blkAt blk 3 = c.mask → (blkAt blk 2 = c.target ∨ blkAt blk 2 = (c.target + 1) % 256) →
    exec (.laneMapAckRx t l blk) s = .next (s.moved t
      (d1.setPort g { d1.port g with change := some { c with acked := some (blkAt blk 2) } }))) ∧
  (∀ (t p : Nat) (c : MapChange) (s : State), okPort p = true → Awake s → (s.d.port p).change = some c → c.acked = none →
    c.sentAt + blocksTt s.d p 512 + 32000 ≤ rawAt t s →
    exec (.mapNoAck t p) s = .next (s.moved t
      (((begun s.d).setPort p { s.d.port p with
        change := none, txq := (s.d.port p).txq.filter (fun x => nth x.bytes 0 0 != 0xAC#8) }).put (0x2002 + 0x100 * p) 2 4))) ∧
  (∀ (t l : Nat) (blk : List Byte) (s : State), okLane l = true → Awake s → 128 ≤ l → (s.d.lane l).locked = true →
    blkOk blk = true → blkAt blk 0 = 0xAC → bit (blkAt blk 1) 7 = false → hearsBall s.d l = true →
    let g := laneGroup s.d l
    let pt := s.d.port g
    let t0 := blkAt blk 2
    let tgt := if (pt.txSeq + 256 - t0 - 1) % 256 < 128 then (t0 + 1) % 256 else t0
    s.d.gn (0x1B12 + g % 2) 2 ≤ s.d.gn 0x1000 4 →
    exec (.laneMapRequestRx t l blk) s = .next (s.moved t
      (sendOnMask (envOf t s) ((farEnd (envOf t s) (begun s.d) l blk).setPort g { pt with txChange := some (blkAt blk 3, tgt) }) g
        (laneBlk [0xAC, 0x80, BitVec.ofNat 8 tgt, BitVec.ofNat 8 (blkAt blk 3)]) 0))) ∧
  (∀ (t l tgt dl : Nat) (s : State), okLane l = true → Awake s → (s.d.lane l).leaveTest = some (tgt, dl) → dl ≤ rawAt t s →
    exec (.laneShadowTimeout t l) s = .next (s.moved t
      (((begun s.d).setLane l { s.d.lane l with leaveTest := none }).setUnit (uLane l)
        { s.d.unit (uLane l) with cmd := none, status := .refused, cause := 2 }))) ∧
  (∀ (t : Nat) (m : Master) (l : Nat) (s : State), masterOk m = true → okLane l = true → Awake s →
    s.d.ustate (uLane l) = .test →
    let o := laneTst l
    let x := s.d.lane l
    let looped := (s.d.gn o 1 = 1 ∨ s.d.gn o 1 = 2) ∧ x.chk = 2
    let gen := s.d.gb o 4 && s.d.gn o 1 != 3
    let word (k n : Nat) : Nat := if k = 3 then 0 else genWord s.d l (rawAt t s) ^^^ ((2 ^ n - 1) * 2 ^ (64 - n))
    let sent (k n : Nat) : Dev := (begun s.d).emit (.inject l k n (word k n))
    let inj (k n : Nat) : Dev := if looped then ((sent k n).add (laneRes l) 0x0D n).publish (laneRes l) else sent k n
    let wait (k n : Nat) : Dev := (begun s.d).setLane l { x with inject := some (k, n) }
    (s.d.accepts m o 6 1 = true →
      exec (.injectSingle t m l) s = .next (s.moved t ((if gen then inj 1 1 else wait 1 1).ended m stOK))) ∧
    (s.d.accepts m o 6 2 = true →
      exec (.injectBurst t m l) s = .next (s.moved t ((if gen then inj 2 (s.d.gn o 7) else wait 2 (s.d.gn o 7)).ended m stOK))) ∧
    (s.d.accepts m o 6 3 = true →
      exec (.injectHeader t m l) s = .next (s.moved t
        ((if gen then wait 3 (s.d.gn o 7) else sent 3 (s.d.gn o 7)).ended m stOK)))) ∧
  (∀ (t l : Nat) (s : State), okLane l = true → Awake s →
    let r := laneRes l
    let x := s.d.lane l
    (x.chk = 1 → exec (.chkLock t l) s = .next (s.moved t
      (((begun s.d).setLane l { x with chk := 2, chkFrom := rawAt t s }).publish r))) ∧
    (∀ errors, x.chk = 2 → exec (.chkRelock t l errors) s = .next (s.moved t
      ((((((begun s.d).add r 0x0C (bitsIn s.d (laneGroup s.d l) (rawAt t s - x.chkFrom))).add r 0x0D errors).inc r 0x0E).setLane l
          { x with chk := 1 }).publish r)))) ∧
  (∀ (t : Nat) (m : Master) (l : Nat) (s : State), masterOk m = true → okLane l = true → Awake s →
    s.d.accepts m (laneCfg l) 8 1 = true →
    exec (.laneClearCounts t m l 1) s = .next (s.moved t
      (((((chkSettle (envOf t s) (begun s.d) l).clearSubs (laneRes l) [3, 4, 5, 0x0A, 0x0C, 0x0D, 0x0E]).clrFlag (laneRes l) 2 2).publish (laneRes l)).ended m stOK)))

/-- Packets off a port's stream (R110, R116, R121, R124, R125, R127, R132, R138). LINE_PACKET_RX of a header whose CRC is wrong drops it: the
counter, the newest of 16 drop log entries, LINE_DROP, the line sequence stays, and an open line is broken; one that passes every check commits its line,
with its own metadata, behind the lines that wait in ingress. BAD_BLOCK_RX outside a packet counts a data block and a type that
is not one of a camera's, and a START in a packet without a whole header rewinds it. RESPONSE_RX to software's command ends it DONE
with the response, and a bring-up step that waited for its end goes out; STATUS_MSG_RX and USER_DATA_RX wait in their rings; DELAY_RESP_RX that answers a request records the turnaround and a
sample of half the remaining time.
Where the rules leave a corner open, a clause states the model's choice: assumption log 32 to 34, 37, 38, 40 and 112. -/
def Obligations.PacketsFollowTheirRules : Prop :=
  (∀ (t p head : Nat) (b : List Byte) (s : State), okPort p = true → Awake s → streamRuns s.d p = true → headerOk b = false →
    (s.d.pt p).sosAt = none →
    let k := readHeader b
    let pt := s.d.pt p
    let ent : DropEntry := { stamp := (s.tu.paramsAt (rawAt t s)).applied (rawAt t s), line := 0, check := 1, vcType := k.vcType, trig := k.trig }
    exec (.linePacketRx t p head b) s = .next (s.moved t
      ((((begun s.d).incP (0x2022 + 0x100 * p) 3).setPt p { pt with
          dropLog := (ent :: pt.dropLog).take 16, planes := pt.planes.map (fun x => { x with broken := true }) }).raise
        (envOf t s) (0x0C0 + 8 * p) 0))) ∧
  (∀ (t p head : Nat) (b : List Byte) (s : State), okPort p = true → Awake s → streamRuns s.d p = true → packetFault b = none →
    let k := readHeader b
    let pt := s.d.pt p
    k.vc < 2 → k.sos = false → selected s.d p k = true → planeList s.d p = [k.plane] → lineFault s.d p k head false = none →
    pt.planes = none → pt.strip = none → pt.lastSettings = some k.settings → s.d.ovls = [] → s.d.gn (0x2020 + 0x100 * p) 5 ≠ 1 →
    ∃ s', exec (.linePacketRx t p head b) s = .next s' ∧ s'.now = max s.now t ∧ s'.pending = s.pending ∧ s'.met = s.met ∧
      (s'.d.pt p).ingress.length = pt.ingress.length + 1 ∧ (s'.d.pt p).lastLine = some k.line ∧
      ((s'.d.pt p).ingress.getLast?.map fun ln => (ln.line, ln.settings, ln.trig, ln.planes, ln.arrival)) =
        some (k.line, k.settings, k.trig, [(k.plane, k.payload)], (s.tu.paramsAt head).applied head)) ∧
  (∀ (t p : Nat) (blk : Option (List Byte)) (s : State), okPort p = true → Awake s → streamRuns s.d p = true →
    let ty := blkAt (blk.getD []) 0
    let known := ty = 0x80 ∨ ty = 0x84 ∨ (0x88 ≤ ty ∧ ty ≤ 0x8F) ∨ field ty 7 4 = 0xA
    exec (.badBlockRx t p blk none) s = .next (s.moved t
      (if blk ≠ none ∧ known then begun s.d else (begun s.d).incP (0x2022 + 0x100 * p) 0x0E))) ∧
  (∀ (t p : Nat) (blk b : List Byte) (s : State), okPort p = true → Awake s → streamRuns s.d p = true → blkAt blk 0 = 0x84 →
    headerOk b = false →
    exec (.badBlockRx t p (some blk) (some b)) s = .next (s.moved t (qRewind ((begun s.d).incP (0x2022 + 0x100 * p) 5) p))) ∧
  (∀ (t p : Nat) (b : List Byte) (c : CamCmd) (s : State), okPort p = true → Awake s → streamRuns s.d p = true →
    packetFault b = none →
    let k := readHeader b
    let o := 0x2024 + 0x100 * p
    k.vcType = 0x83 → 2 ≤ k.words → k.words = 2 + beAt k.payload 3 1 → (s.d.pt p).cmd = some c → beAt k.payload 0 2 = c.seq →
    c.step = 0 → c.opcode ≠ 3 →
    exec (.responseRx t p b) s = .next (s.moved t
      (camNext (envOf t s) ((((begun s.d).setPt p { s.d.pt p with cmd := none }).put o 2 2).putB o 3 k.payload) p))) ∧
  (∀ (t p : Nat) (b : List Byte) (s : State), okPort p = true → Awake s → streamRuns s.d p = true → packetFault b = none →
    let k := readHeader b
    let kept (r : Nat) : Dev := { begun s.d with vcRings := tabSet s.d.vcRings (2 * p + r) (tabGet s.d.vcRings [] (2 * p + r) ++ [b]) }
    (k.vcType = 0x84 → 1 ≤ k.words → exec (.statusMsgRx t p b) s = .next (s.moved t (kept 0))) ∧
    (k.vc = 3 → exec (.userDataRx t p b) s = .next (s.moved t (kept 1)))) ∧
  (∀ (t p head id tx at_ : Nat) (b : List Byte) (s : State), okPort p = true → Awake s → streamRuns s.d p = true →
    packetFault b = none →
    let k := readHeader b
    let pt := s.d.pt p
    let turn := beAt k.payload 4 4
    let rx := (s.tu.paramsAt head).applied head
    let reqs := pt.delayReqs.filter (fun r => r.1 != id)
    let sample := (wrapI 64 ((rx : Int) - tx) - rxLat s.d p - 16 * turn) / 2
    k.vcType = 0x86 → k.words = 2 → pt.delayReqs.find? (fun r => r.1 == beAt k.payload 0 2) = some (id, tx, at_) →
    pt.filling = true → pt.history.length < 7 →
    exec (.delayRespRx t p head b) s = .next (s.moved t
      ((((begun s.d).setPt p { pt with delayReqs := reqs }).pub (0x2021 + 0x100 * p) [(3, (turn : Nat))]).setPt p
        { pt with delayReqs := reqs, history := sample :: pt.history })))

/-- What a port sends, and commands to its camera (R112, R113, R122, R125 to R128, R131, R139). A slot is taken by the first of the due
blocks that come highest. The CARRIER blocks of a packet carry its bytes in order. BEACON_SEND sends the next beacon with the applied
time of the slot that its first block takes, which its lines can name; DELAY_REQ_SEND keeps its stamp; DELAY_LOST counts requests older than 1 ms. CMD_REQUEST with one outstanding is refused
and counted, a malformed one ends REFUSED, and else it goes out under the next sequence number; CMD_RESEND repeats it unchanged;
CMD_TIMEOUT ends it and the camera moves to FAULT; CAMERA_BUSY_RETRY asks step 2 as a new command.
Where the rules leave a corner open, a clause states the model's choice: assumption log 35 and 111. -/
def Obligations.CameraCommandsFollowTheirRules : Prop :=
  (∀ (q : List TxBlk) (start i : Nat), txPick q start = some i → ∃ x, q[i]? = some x ∧ x.due ≤ start ∧
    (∀ y ∈ q, y.due ≤ start → x.prio ≤ y.prio) ∧ ∀ j y, j < i → q[j]? = some y → y.due ≤ start → x.prio < y.prio) ∧
  (∀ b : List Byte, ((carriers b).flatMap (·.drop 2)).take b.length = b ∧ ∀ c ∈ carriers b, c.length = 8 ∧ c.head? = some 0x9C#8) ∧
  (∀ (t p : Nat) (s : State), okPort p = true → Awake s →
    let pt := s.d.pt p
    let id := (pt.beaconId + 1) % 65536
    let sent (d : Dev) (code : Nat) (pay : List Byte) : Dev :=
      ((carriers (downPacket code pay)).foldl (fun d c => txPut (envOf t s) d p { prio := 2, lanes := maskLanes s.d p, bytes := c, due := rawAt t s }) d).emit
        (.carrier p (downPacket code pay) (rawAt t s))
    let slot := carrierAt (envOf t s) (begun s.d) p
    let now := (s.tu.paramsAt slot).applied slot
    let ts := match s.tu.state with | .free => 0 | .held => 1 | .tracking => 2 | .holdover => 3
    s.d.ustate (uPort p) ≠ .off → (s.d.port p).mask ≠ 0 → s.d.gb (0x2020 + 0x100 * p) 7 = true →
    (∀ a ∈ pt.beaconAt, a + 16000000 ≤ rawAt t s) →
    exec (.beaconSend t p) s = .next (s.moved t
      (sent (((begun s.d).setPt p { pt with
        beaconId := id, beaconAt := some (rawAt t s), beacons := ((id, now) :: pt.beacons).take 16 }).pub (0x2021 + 0x100 * p)
          [(8, (id : Nat)), (9, (now : Nat))]) 1 (toBE 2 id ++ toBE 8 now ++ [BitVec.ofNat 8 ts, 0] ++ toBE 4 1000)))) ∧
  (∀ (t p : Nat) (s : State), okPort p = true → Awake s →
    let pt := s.d.pt p
    let id := (pt.delayId + 1) % 65536
    let every := if pt.filling then 1600000 else s.d.gn (0x2020 + 0x100 * p) 8 * 16000
    let slot := carrierAt (envOf t s) (begun s.d) p
    let sent (d : Dev) (code : Nat) (pay : List Byte) : Dev :=
      ((carriers (downPacket code pay)).foldl (fun d c => txPut (envOf t s) d p { prio := 2, lanes := maskLanes s.d p, bytes := c, due := rawAt t s }) d).emit
        (.carrier p (downPacket code pay) (rawAt t s))
    (s.d.port p).mask ≠ 0 → (∀ a ∈ pt.delayAt, a + every ≤ rawAt t s) →
    exec (.delayReqSend t p) s = .next (s.moved t
      (sent ((begun s.d).setPt p { pt with
        delayId := id, delayAt := some (rawAt t s),
        delayReqs := (id, (s.tu.paramsAt slot).applied slot, rawAt t s) :: pt.delayReqs }) 5 (toBE 2 id ++ [0, 0])))) ∧
  (∀ (t p : Nat) (s : State), okPort p = true → Awake s →
    let pt := s.d.pt p
    let old := pt.delayReqs.filter (fun r => r.2.2 + 16000000 ≤ rawAt t s)
    old ≠ [] → exec (.delayLost t p) s = .next (s.moved t
      ((((begun s.d).setPt p { pt with delayReqs := pt.delayReqs.filter (fun r => rawAt t s < r.2.2 + 16000000) }).add
        (0x2021 + 0x100 * p) 5 old.length).publish (0x2021 + 0x100 * p)))) ∧
  (∀ (t : Nat) (m : Master) (p : Nat) (b : List Byte) (s : State), masterOk m = true → okPort p = true → Awake s →
    let o := 0x2024 + 0x100 * p
    let pt := s.d.pt p
    let sq := (pt.cmdSeq + 1) % 65536
    let pay := toBE 2 sq ++ [BitVec.ofNat 8 (beAt b 0 1), BitVec.ofNat 8 (beAt b 1 1)] ++ toBE 2 (beAt b 2 2) ++ [0, 0] ++ b.drop 6
    let sent (d : Dev) (code : Nat) (pay : List Byte) : Dev :=
      ((carriers (downPacket code pay)).foldl (fun d c => txPut (envOf t s) d p { prio := 2, lanes := maskLanes s.d p, bytes := c, due := rawAt t s }) d).emit
        (.carrier p (downPacket code pay) (rawAt t s))
    s.d.hasRole m (objWr o 1) = true →
    (pt.cmd ≠ none → exec (.cmdRequest t m p b) s = .next (s.moved t ((begun s.d).reject m o))) ∧
    (pt.cmd = none → cmdBad s.d p b = true →
      exec (.cmdRequest t m p b) s = .next (s.moved t (((begun s.d).put o 2 4).reject m o))) ∧
    (pt.cmd = none → cmdBad s.d p b = false →
      exec (.cmdRequest t m p b) s = .next (s.moved t
        ((sent (((begun s.d).setPt p { pt with cmdSeq := sq, cmd := some {
          seq := sq, opcode := beAt b 0 1, settings := beAt b 2 2, payload := pay, sends := 1, first := rawAt t s,
          last := rawAt t s, step := 0 } }).put o 2 1) 2 pay).ended m stOK)))) ∧
  (∀ (t p : Nat) (c : CamCmd) (s : State), okPort p = true → Awake s → (s.d.pt p).cmd = some c →
    let late := (8 ≤ c.sends ∧ c.last + 1600000 ≤ rawAt t s) ∨ c.first + s.d.gn (0x2024 + 0x100 * p) 4 * 16000 ≤ rawAt t s
    let sent (d : Dev) (code : Nat) (pay : List Byte) : Dev :=
      ((carriers (downPacket code pay)).foldl (fun d c => txPut (envOf t s) d p { prio := 2, lanes := maskLanes s.d p, bytes := c, due := rawAt t s }) d).emit
        (.carrier p (downPacket code pay) (rawAt t s))
    (¬ late → c.last + 1600000 ≤ rawAt t s → exec (.cmdResend t p) s = .next (s.moved t
      (sent ((begun s.d).setPt p { s.d.pt p with cmd := some { c with sends := c.sends + 1, last := rawAt t s } }) 2 c.payload))) ∧
    (late → (s.d.pt p).cam ≠ .fault → exec (.cmdTimeout t p) s = .next (s.moved t
      (((((((begun s.d).setPt p { s.d.pt p with cmd := none }).put (0x2024 + 0x100 * p) 2 3).setPt p
        { s.d.pt p with cmd := none, cam := .fault }).publish (0x2021 + 0x100 * p)).raise (envOf t s) (0x0C0 + 8 * p + 3) 0).setPt p
          { s.d.pt p with cmd := none, cam := .fault, retry := none })))) ∧
  (∀ (t p at_ : Nat) (s : State), okPort p = true → Awake s → (s.d.pt p).retry = some (at_, 2) → at_ ≤ rawAt t s →
    (s.d.pt p).cmd = none →
    let pt := s.d.pt p
    let sq := (pt.cmdSeq + 1) % 65536
    let sent (d : Dev) (code : Nat) (pay : List Byte) : Dev :=
      ((carriers (downPacket code pay)).foldl (fun d c => txPut (envOf t s) d p { prio := 2, lanes := maskLanes s.d p, bytes := c, due := rawAt t s }) d).emit
        (.carrier p (downPacket code pay) (rawAt t s))
    let pay := toBE 2 sq ++ [1, 9, 0, 0, 0, 0] ++ (List.range 9).flatMap (fun i => toBE 4 (4 * i) ++ [0, 0, 0, 0])
    exec (.cameraBusyRetry t p) s = .next (s.moved t
      (sent (((begun s.d).setPt p { pt with retry := none, cmdSeq := sq, cmd := some {
        seq := sq, opcode := 1, settings := 0, payload := pay, sends := 1, first := rawAt t s, last := rawAt t s, step := 2 } }).put
          (0x2024 + 0x100 * p) 2 1) 2 pay))) ∧
  (∀ (t : Nat) (m : Master) (p : Nat) (s : State), masterOk m = true → okPort p = true → Awake s →
    s.d.accepts m (0x2020 + 0x100 * p) 0x0B 1 = true →
    exec (.transportClearCounts t m p 1) s = .next (s.moved t
      (((((begun s.d).clearSubs (0x2022 + 0x100 * p) ((List.range 16).map (· + 1))).publish (0x2022 + 0x100 * p)).ended m stOK))))

/-- Pixel correction and its banks (R142, R151, R152, R153, R158). LINE_CORRECT takes the oldest line of ingress through stages 1 to
6, frees its bank at once, and keeps the corrected line for its placement. A swap request replaces one that has not taken effect
and becomes PENDING: at the next line, at the next SOS line, or at SWAP_LINE, late where that line has passed; cancelling a pending swap
leaves none. BANK_COPY runs while no swap or copy is pending and no commit holds the bank, else it is refused and counted; at
BANK_COPY_DONE the inactive bank holds what the active one does. BANK_CRC_UPDATE recomputes the checksum of what the bank or table holds. TAP_ARM
restarts the ring at RING_BASE.
Where the rules leave a corner open, a clause states the model's choice: assumption log 36, 39, 41 to 44 and 113. -/
def Obligations.PixelCorrectionFollowsItsRules : Prop :=
  (∀ (t p : Nat) (skip : Bool) (diff : Option Nat) (ln : CamLine) (rest : List CamLine) (s : State), okPort p = true → Awake s →
    (s.d.pt p).ingress = ln :: rest → ln.cal = false → ln.bankSwap = false → s.d.ovls = [] → s.d.shadow = [] → s.d.jobs = [] →
    s.d.rot.shadow = none → tabGet s.d.placed [] p = [] →
    (s.d.pl p).queue.any (fun q => q.cam.line == ln.line && q.cam.arrival == ln.arrival) = true →
    ∃ d, exec (.lineCorrect t p skip diff) s = .next (s.moved t d) ∧ (d.pt p).ingress = rest ∧
      (d.pt p).banks = (s.d.pt p).banks.set ln.bank (some (rawAt t s)) ∧
      tabGet d.corr [] p = tabGet s.d.corr [] p ++ [(correctLine s.d p ln).out]) ∧
  (∀ (t : Nat) (m : Master) (p : Nat) (s : State), masterOk m = true → okPort p = true → Awake s →
    let o := 0x2042 + 0x100 * p
    let pt := s.d.pt p
    let line := s.d.gn o 3
    let passed := pt.lastDone.any (fun l => lineAhead l line)
    let clear : Dev := (begun s.d).setPt p { pt with ingress := pt.ingress.map (fun l => { l with bankSwap := false }) }
    let asks (v : Nat) (late : Bool) : State := s.moved t (((clear.setPx p { s.d.px p with swap := some { value := v, line := line, late := late, fixed := false } }).put o 4 1).ended m stOK)
    (s.d.accepts m o 2 1 = true → exec (.swapNextLine t m p) s = .next (asks 1 false)) ∧
    (s.d.accepts m o 2 2 = true → exec (.swapNextSos t m p) s = .next (asks 2 false)) ∧
    (s.d.accepts m o 2 3 = true → passed = false → exec (.swapAtLine t m p) s = .next (asks 3 false)) ∧
    (s.d.accepts m o 2 3 = true → passed = true → exec (.swapAtLine t m p) s = .next (asks 1 true)) ∧
    (s.d.accepts m o 2 4 = true → (s.d.px p).swap ≠ none → exec (.swapCancel t m p) s = .next (s.moved t
      (((clear.setPx p { s.d.px p with swap := none }).put o 4 0).ended m stOK)))) ∧
  (∀ (t : Nat) (m : Master) (p : Nat) (s : State), masterOk m = true → okPort p = true → Awake s →
    s.d.accepts m (0x2042 + 0x100 * p) 7 1 = true →
    let x := s.d.px p
    let a := s.d.gn (0x2042 + 0x100 * p) 1
    (x.swap = none → x.copy = none → x.held = false → exec (.bankCopy t m p 1) s = .next (s.moved t
      (((begun s.d).setPx p { x with copy := some (a, 1 - a) }).ended m stOK))) ∧
    (x.swap ≠ none ∨ x.copy ≠ none ∨ x.held = true → exec (.bankCopy t m p 1) s = .next (s.moved t
      (((begun s.d).inc (0x2040 + 0x100 * p) 8).ended m stRefused)))) ∧
  (∀ (t p a b : Nat) (s : State), okPort p = true → Awake s → (s.d.px p).copy = some (a, b) → a < 2 → b < 2 → a ≠ b →
    ∃ d, exec (.bankCopyDone t p) s = .next (s.moved t d) ∧ d.px p = { s.d.px p with copy := none } ∧
      d.gn (0x2042 + 0x100 * p) 1 = s.d.gn (0x2042 + 0x100 * p) 1 ∧
      ∀ k v, k < 7 → tabFind s.d.o (okey (0x2044 + 0x100 * p + a) (k + 1)) = some v →
        tabFind d.o (okey (0x2044 + 0x100 * p + b) (k + 1)) = some v) ∧
  (∀ (t n b : Nat) (s : State), Awake s → b < 2 →
    (okPort n = true → exec (.bankCrcUpdate t 0 n b) s = .next (s.moved t
      ((begun s.d).put (0x2042 + 0x100 * n) (8 + b) (crc32c ([3, 4, 5, 6, 7].flatMap (bankBytes s.d n b)) : Nat)))) ∧
    (okChain n = true → exec (.bankCrcUpdate t 1 n b) s = .next (s.moved t
      ((begun s.d).put (0x3180 + 2 * n + b) 6 (chainCrcNow s.d (0x3180 + 2 * n + b) : Nat)))) ∧
    exec (.bankCrcUpdate t 2 n b) s = .next (s.moved t ((begun s.d).put 0x3001 7 (crc32c (s.d.gB 0x3002 1) : Nat))) ∧
    exec (.bankCrcUpdate t 3 n b) s = .next (s.moved t ((begun s.d).put 0x1B02 6 (crc32c (s.d.gB 0x1B03 1) : Nat))) ∧
    exec (.bankCrcUpdate t 4 n b) s = .next (s.moved t ((begun s.d).put 0x3220 7 (crc32c (s.d.gB 0x3221 1) : Nat)))) ∧
  (∀ (t : Nat) (m : Master) (p k : Nat) (s : State), masterOk m = true → okPort p = true → okTap k = true → Awake s →
    s.d.accepts m (tapIx p k) 0x0E 1 = true →
    exec (.tapArm t m p k 1) s = .next (s.moved t
      ({ (begun s.d).put (tapIx p k) 0x0A (s.d.gn (tapIx p k) 3) with taps := tabSet s.d.taps (tapIx p k) { armed := true, lines := 0 } }.ended m stOK)))

/-- Lulls, retraining and the scale job (R165, R166, R167, R174, R180, R181). STOP_LULL_OPEN opens the STOP lull once standstill has held for
STOP_HOLDOFF, and offers LULL_OPEN. SACRIFICE_NEXT asks for the next strip. CAL_TRIGGER_FIRE takes the port's next trigger ID, marks it as one of
the calibration trigger, and stamps it. DELAY_REF_GRANT keeps the position and speed of the reference in the port's DELAY job, and measures the
scale where that job runs. SCALE_DONE writes the new scale, or rejects one too far from the old. RETRAIN_START asks for the lower half of the mask, and keeps the lulls in which it may
run.
Where the rules leave a corner open, a clause states the model's choice: assumption log 45, 48 and 114. -/
def Obligations.LullsFollowTheirRules : Prop :=
  (∀ (t : Nat) (s : State), Awake s →
    let n := s.d.gn 0x3800 2
    let x := s.d.enc n
    bit (s.d.gn 0x3800 1) 2 = true → x.standstill = true → s.d.lulls.stop = false →
    x.stillAt + s.d.gn 0x3800 3 * 16000 ≤ rawAt t s →
    exec (.stopLullOpen t) s = .next (s.moved t
      ((({ begun s.d with lulls := { s.d.lulls with stop := true, trigAt := none } }).put 0x3800 8 (openLulls s.d + 4 : Nat)).raise
        (envOf t s) 0x210 2))) ∧
  (∀ (t : Nat) (m : Master) (s : State), masterOk m = true → Awake s → s.d.accepts m 0x3800 6 1 = true →
    exec (.sacrificeNext t m 1) s = .next (s.moved t
      (({ begun s.d with lulls := { s.d.lulls with sacrNext := true } }).ended m stOK))) ∧
  (∀ (t p : Nat) (s : State), okPort p = true → Awake s → s.d.inForce = [] → s.d.lulls.stop = true →
    (∀ a ∈ s.d.lulls.trigAt, a + s.d.gn 0x3800 7 ≤ rawAt t s) →
    (List.range 16).filter (fun q => jobAcquires (s.d.job q) && bit (jobLulls s.d q) 2) = [p] →
    s.d.gn (0x3580 + p) 2 ≠ 0 → s.d.inSvc (uPort p) = true →
    (∀ x ∈ (s.d.trig p).lastSent, x + s.d.gn (0x3580 + p) 3 ≤ clk200 (rawAt t s)) →
    let clk := clk200 (rawAt t s)
    let id := ((s.d.trig p).id + 1) % 65536
    let stamp := (s.tu.paramsAt (clk + 960)).applied (clk + 960)
    ∃ d, exec (.calTriggerFire t) s = .next (s.moved t d) ∧ d.lulls = { s.d.lulls with trigAt := some (rawAt t s) } ∧
      (d.trig p).id = id ∧ (d.trig p).lastSent = some clk ∧ (d.trig p).calIds = idPut (s.d.trig p).calIds id ∧
      (d.trig p).sent.head? = some { id := id, raw := clk + 960, stamp := stamp, used := false, trim := s.d.gi (0x2084 + 0x100 * p) 1, cal := true } ∧
      d.gn (0x3580 + p) 6 = id ∧ d.gn (0x3580 + p) 8 = stamp ∧ ∀ q, q ≠ p → d.trig q = s.d.trig q) ∧
  (∀ (t k p : Nat) (s : State), okEvp k = true → okPort p = true → Awake s →
    let raw := ceilTo 16 (rawAt t s)
    let stamp := (s.tu.paramsAt raw).applied raw
    let pos (n at_ : Nat) : Int := posOn (begun s.d) n at_
    let j := s.d.job p
    s.d.gn (0x2084 + 0x100 * p) 2 = k → j.kind = 6 → j.state = .waiting ∨ j.state = .acquiring →
    let at_ := wrapU 64 ((stamp : Int) - s.d.gi (0x2084 + 0x100 * p) 3)
    let n := s.d.gn 0x3800 2
    ∃ d, exec (.delayRefGrant t k) s = .next (s.moved t d) ∧
      d.job p = { j with grants := j.grants ++ [(pos n at_, encSpeed (envOf t s) (begun s.d) n)] } ∧
      (∀ q, q < 16 → s.d.gn (0x2084 + 0x100 * q) 2 ≠ k → d.job q = s.d.job q) ∧
      d.scale = (if s.d.gn 0x3802 7 = 1 ∧ s.d.gn 0x3802 2 = 1 then
        { first := s.d.scale.first.or (some (0, pos (s.d.gn 0x3802 1) stamp)), last := some ((match s.d.scale.last with | none => 0 | some q => q.1 + s.d.gn 0x3802 3), pos (s.d.gn 0x3802 1) stamp) }
        else s.d.scale)) ∧
  (∀ (t : Nat) (m : Master) (s : State), masterOk m = true → Awake s → s.d.accepts m 0x3802 6 1 = true →
    exec (.scaleStart t m 1) s = .next (s.moved t (({ (begun s.d).put 0x3802 7 1 with scale := {} }).ended m stOK))) ∧
  (∀ (t l0 l1 : Nat) (x0 x1 : Int) (s : State), Awake s → s.d.gn 0x3802 7 = 1 → s.d.scale.first = some (l0, x0) →
    s.d.scale.last = some (l1, x1) → x0 ≠ x1 → s.d.gi 0x3802 4 ≤ ((x1 - x0).natAbs : Int) →
    let i := 0x3500 + s.d.gn 0x3802 1
    let new := Frac.norm { n := (wrapI 64 ((l1 : Int) - l0)).natAbs * 65536, d := (x1 - x0).natAbs }
    let old := f64Val (s.d.gn i 0x13)
    let far := Frac.lt (Frac.ofInt (s.d.gn 0x3802 5)) (((new.sub old).abs.mul (Frac.ofInt 1000000)).div old)
    (old.n ≠ 0 → far = false → exec (.scaleDone t) s = .next (s.moved t
      (({ begun s.d with scale := {} }.put i 0x13 (f64.write new)).put 0x3802 7 2))) ∧
    (far = true → exec (.scaleDone t) s = .next (s.moved t ({ begun s.d with scale := {} }.put 0x3802 7 3)))) ∧
  (∀ (t l : Nat) (s : State), okLane l = true → l < 128 → Awake s →
    let p := l / 8
    let half := nth (maskHalves (s.d.port p).mask) 1 0
    bit (s.d.port p).mask (l % 8) = true → retrainFits (envOf t s) (begun s.d) p = true →
    field (s.d.gn (laneRes l) 6) 15 8 < s.d.gn 0x3803 2 ∨
      (s.d.gn 0x3803 1 ≠ 0 ∧ (s.d.lane l).trainedAt + s.d.gn 0x3803 1 * 16000000000 ≤ rawAt t s) →
    ∃ d, exec (.retrainStart t l) s = .next (s.moved t d) ∧
      tabFind d.retrains p = some { full := (s.d.port p).mask, half := 0, step := 0, lulls := retrainLulls s.d p } ∧
      (d.port p).mask = (s.d.port p).mask ∧
      (d.port p).change = some { mask := half, target := ((s.d.port p).alignSeq + 2) % 256, sentAt := rawAt t s })

/-- Calibration jobs (R168 to R171, R174 to R179). Each JOB_START starts its kind where the port's job is IDLE, ends a CANDIDATE as DISCARDED
first, and is refused and counted in any other state. ILLUM_SETTLE_EXPIRED lets a DARK job accept lines. ACQ_TIMEOUT ends a job of any state ABANDONED with its
32-byte entry of CAL_LOG, and withdraws a commit. JOB_COMPUTE_DONE leaves a candidate that passes its checks, or ends the job REJECTED with the check that
failed. COMMIT commits a candidate; JOB_ABORT ends a job; DEAD_RESET is kept for the next job. JOB_COMMIT_PROCEED writes DELAY_TRIM,
which triggers still to come take, or copies, writes
and swaps the inactive bank; a bank whose checksum is wrong ends the job REJECTED.
Where the rules leave a corner open, a clause states the model's choice: assumption log 45 to 47 and 114. -/
def Obligations.CalibrationJobsFollowTheirRules : Prop :=
  (∀ (t : Nat) (m : Master) (p : Nat) (s : State), masterOk m = true → okPort p = true → Awake s →
    let j := s.d.job p
    ∀ q ∈ ([(Instr.jobStartDark t m p, 1), (Instr.jobStartGain t m p, 2), (Instr.jobStartGeometryEdge t m p, 3),
      (Instr.jobStartGeometryFull t m p, 4), (Instr.jobStartColour t m p, 5), (Instr.jobStartDelay t m p, 6)] : List (Instr × Nat)),
    s.d.accepts m (0x2080 + 0x100 * p) 1 (q.2 : Nat) = true →
    let new : Job := { state := .waiting, kind := q.2, start := rawAt t s, settled := decide (q.2 ≠ 1), settleAt := rawAt t s + s.d.gn 0x3800 9 * 16000, deadReset := j.deadReset }
    let begins : Dev := ((begun s.d).setJob p new).pub (0x2083 + 0x100 * p) [(1, 1), (2, (q.2 : Nat)), (3, 0)]
    (j.state = .idle → exec q.1 s = .next (s.moved t
      ((if q.2 = 1 then begins.raise (envOf t s) 0x212 p else begins).ended m stOK))) ∧
    (j.state = .candidate → exec q.1 s = .next (s.moved t
      ((jobBegin (envOf t s) (jobEnd (envOf t s) (begun s.d) p 4 0 j.cand.metric 0) p q.2).ended m stOK))) ∧
    (j.state ≠ .idle → j.state ≠ .candidate → exec q.1 s = .next (s.moved t
      (((begun s.d).inc (0x2040 + 0x100 * p) 8).ended m stRefused)))) ∧
  (∀ (t p : Nat) (s : State), okPort p = true → Awake s → (s.d.job p).state = .waiting → (s.d.job p).settled = false →
    (s.d.job p).settleAt ≤ rawAt t s →
    exec (.illumSettleExpired t p) s = .next (s.moved t ((begun s.d).setJob p { s.d.job p with settled := true }))) ∧
  (∀ (t p : Nat) (s : State), okPort p = true → Awake s →
    let j := s.d.job p
    let o := 0x2083 + 0x100 * p
    let ent := toLE 8 (s.applied t) ++ toLE 1 p ++ toLE 1 j.kind ++ toLE 1 2 ++ toLE 1 0 ++ toLE 4 j.cand.metric ++ toLE 4 j.lines ++
      toLE 2 (j.settings.getD 0) ++ toLE 2 j.cand.added ++ toLE 4 0 ++ toLE 4 0
    let log : Dev := ((begun s.d).putB 0x3801 1 ((ent ++ s.d.gB 0x3801 1).take 1024)).inc 0x3801 2
    let off : Dev := if j.kind = 1 ∧ (j.state = .waiting ∨ j.state = .acquiring) then log.raise (envOf t s) 0x213 p else log
    let idle : Dev := off.setJob p { kind := j.kind, lines := j.lines, deadReset := j.deadReset || j.cand.allGood }
    j.start + s.d.gn (0x2080 + 0x100 * p) 4 * 16000000000 ≤ rawAt t s →
    (j.state ≠ .idle → j.state ≠ .committing → exec (.acqTimeout t p) s = .next (s.moved t
      ((((idle.put o 4 2).put o 5 0).pub o [(1, 0), (2, (j.kind : Nat)), (3, (j.lines : Nat))]).raise (envOf t s) 0x214 2))) ∧
    (j.state = .committing → exec (.acqTimeout t p) s = .next (s.moved t
      (let d := if j.step = 2 then swapRequest (begun s.d) p 4 else begun s.d
       jobEnd (envOf t s) (d.setPx p { d.px p with held := false }) p 2 0 j.cand.metric 0)))) ∧
  (∀ (t p : Nat) (s : State), okPort p = true → Awake s → (s.d.job p).state = .computing →
    let j := s.d.job p
    let lim := s.d.gn (0x2082 + 0x100 * p) 0x0E
    let next := if s.d.gb (0x2080 + 0x100 * p) 6 then JobState.committing else .candidate
    (j.kind = 1 ∨ j.kind = 2 → exec (.jobComputeDone t p) s = .next (s.moved t (match computeDark (begun s.d) p j with
      | .pass c => jobTo ((begun s.d).setJob p { j with cand := c, step := 0, deadReset := j.deadReset && !c.allGood }) p next
      | .fail check metric added => jobEnd (envOf t s) ((begun s.d).setJob p { j with cand := { j.cand with added := added } }) p 1 check metric 0))) ∧
    (∀ (ee dd : Int), j.kind = 6 → delayFit j = some (ee, dd) →
      let fit : Dev := ((begun s.d).put (0x2083 + 0x100 * p) 9 (wrapI 32 ee)).put (0x2083 + 0x100 * p) 0x0A dd
      let trim := clampI (-2147483648) 2147483647 (s.d.gi (0x2084 + 0x100 * p) 1 + ee)
      (ee.natAbs ≤ lim → exec (.jobComputeDone t p) s = .next (s.moved t
        (jobTo (fit.setJob p { j with cand := { trim := trim, metric := f32Nat ee.natAbs }, step := 0 }) p next))) ∧
      (lim < ee.natAbs → exec (.jobComputeDone t p) s = .next (s.moved t
        (jobEnd (envOf t s) (fit.setJob p { j with cand := { j.cand with added := 0 } }) p 1 9 (f32Nat ee.natAbs) 0))))) ∧
  (∀ (t : Nat) (m : Master) (p : Nat) (s : State), masterOk m = true → okPort p = true → Awake s →
    s.d.accepts m (0x2080 + 0x100 * p) 7 1 = true →
    let j := s.d.job p
    (j.state = .candidate → exec (.commit t m p 1) s = .next (s.moved t
      ((((begun s.d).setJob p { j with state := .committing }).pub (0x2083 + 0x100 * p) [(1, 5), (2, (j.kind : Nat)), (3, (j.lines : Nat))]).ended m stOK))) ∧
    (j.state ≠ .candidate → exec (.commit t m p 1) s = .next (s.moved t
      (((begun s.d).inc (0x2040 + 0x100 * p) 8).ended m stRefused)))) ∧
  (∀ (t : Nat) (m : Master) (p : Nat) (s : State), masterOk m = true → okPort p = true → Awake s →
    s.d.accepts m (0x2080 + 0x100 * p) 8 1 = true →
    let j := s.d.job p
    (j.state = .candidate → exec (.jobAbort t m p 1) s = .next (s.moved t
      ((jobEnd (envOf t s) (begun s.d) p 4 0 j.cand.metric 0).ended m stOK))) ∧
    (j.state = .waiting ∨ j.state = .acquiring ∨ j.state = .computing → exec (.jobAbort t m p 1) s = .next (s.moved t
      ((jobEnd (envOf t s) (begun s.d) p 3 0 j.cand.metric 0).ended m stOK)))) ∧
  (∀ (t : Nat) (m : Master) (p : Nat) (s : State), masterOk m = true → okPort p = true → Awake s →
    s.d.accepts m (0x2080 + 0x100 * p) 0x0E 1 = true →
    exec (.deadReset t m p 1) s = .next (s.moved t (((begun s.d).setJob p { s.d.job p with deadReset := true }).ended m stOK))) ∧
  (∀ (t p : Nat) (ok : Bool) (s : State), okPort p = true → Awake s → (s.d.job p).state = .committing →
    let j := s.d.job p
    let x := s.d.px p
    let act := activeBank s.d p
    (j.kind = 6 → exec (.jobCommitProceed t p ok) s = .next (s.moved t
      (jobEnd (envOf t s) (trimMoved (envOf t s) ((begun s.d).put (0x2084 + 0x100 * p) 1 j.cand.trim) p) p 0 0 j.cand.metric
        (firstUnder (begun s.d) p (fun x => stampDiff x.stamp (s.applied t) ≤ 0))))) ∧
    (j.kind = 1 ∨ j.kind = 2 ∨ j.kind = 5 → j.step = 0 → x.swap = none → x.copy = none →
      exec (.jobCommitProceed t p ok) s = .next (s.moved t
        (((begun s.d).setPx p { x with copy := some (act, 1 - act), held := true }).setJob p { j with step := 1 }))) ∧
    (j.kind = 1 ∨ j.kind = 2 ∨ j.kind = 5 → j.step = 1 → x.copy = none →
      let wrote : Dev := candWrite (begun s.d) p (1 - act) j
      (ok = true → exec (.jobCommitProceed t p ok) s = .next (s.moved t
        ((swapRequest wrote p (s.d.gn (0x2080 + 0x100 * p) 5)).setJob p { j with step := 2 }))) ∧
      (ok = false → exec (.jobCommitProceed t p ok) s = .next (s.moved t
        (jobEnd (envOf t s) (wrote.setPx p { wrote.px p with held := false }) p 1 10 0 0)))))

/-- Placing a line (R188, R189, R191 to R194). LINE_PLACE takes the port's oldest waiting line, places its exposure midpoint between the counted edges
around it, and accepts it, where no overlay is active: the result group and the accepted lines hold its number, position and flags. LINE_HOLD places by the hold rule, on the
step and duration of the latest edge and within one count of it, once HOLD_TIME has passed, and counts it. A line older than every kept edge is stale: counted, not
placed, and a hole.
Where the rules leave a corner open, a clause states the model's choice: assumption log 49 and 115. -/
def Obligations.LinesArePlacedByTheirMidpoint : Prop :=
  (∀ (t p : Nat) (q : PlaceIn) (rest : List PlaceIn) (a b : Edge) (r : List Edge) (s : State), okPort p = true → Awake s → s.d.inForce = [] →
    let n := s.d.gn 0x3000 1
    let ln := q.cam
    let base : Int := (ln.trigStamp : Int) + ln.linkDelay + ln.trim
    let mid := wrapU 64 (base + 16 * ln.expDelay + 8 * ln.exposure)
    let span := wrapU 64 ((b.stamp : Int) - a.stamp)
    let wp := a.pos + min (stampDiff mid a.stamp * 65536 / span) 0xFFFF * (b.pos - a.pos) / 65536
    let fl := 4 * b2n b.suspect + 16 * b2n (bit ln.flags 6) + 32 * b2n (bit ln.flags 7)
    ln.freeNs = none → q.lost = false → (s.d.pl p).queue = q :: rest → (s.d.pl p).acc = [] → (s.d.pl p).count = 0 →
    (s.d.enc n).edges = b :: a :: r → stampDiff mid b.stamp < 0 → 0 ≤ stampDiff mid a.stamp → span ≠ 0 →
    inReversal s.d n mid = false → tabGet s.d.corr [] p = [] → (tabGet s.d.placed [] p).length < 64 →
    ∃ d, exec (.linePlace t p false) s = .next (s.moved t d) ∧ (d.pl p).queue = rest ∧
      (d.pl p).acc = [{ line := ln.line, trig := ln.trig, tTrig := ln.trigStamp, mid := mid, wp := wp, flags := fl, settings := ln.settings, arrival := ln.arrival, hole := false }] ∧
      d.gi (0x3010 + p) 1 = ln.line ∧ d.gi (0x3010 + p) 2 = mid ∧ d.gi (0x3010 + p) 3 = wp ∧ d.gi (0x3010 + p) 4 = fl ∧
      (tabGet d.placed [] p).getLast? = some { line := ln.line, arrival := ln.arrival, mid := mid, wp := wp, accepted := true }) ∧
  (∀ (t p : Nat) (q : PlaceIn) (rest : List PlaceIn) (a : Edge) (r : List Edge) (s : State), okPort p = true → Awake s → s.d.inForce = [] →
    let n := s.d.gn 0x3000 1
    let ln := q.cam
    let mid := midTime ln
    let wp := if a.dt = 0 then a.pos else min (a.pos + placeFrac mid a.stamp a.dt * a.step / 65536) (a.pos + 65535)
    q.lost = false → (s.d.pl p).queue = q :: rest → (s.d.pl p).acc = [] → (s.d.pl p).count = 0 →
    (s.d.enc n).edges = a :: r → 0 ≤ stampDiff mid a.stamp → stoodStill s.d n mid = false →
    (s.d.gn 0x3000 4 * 16000 : Nat) ≤ stampDiff (s.applied t) mid → inReversal s.d n mid = false → tabGet s.d.corr [] p = [] →
    ∃ d, exec (.lineHold t p false) s = .next (s.moved t d) ∧ (d.pl p).queue = rest ∧
      ((d.pl p).acc.map fun x => (x.line, x.wp, bit x.flags 0)) = [(ln.line, wp, true)] ∧
      d.gi (0x3010 + p) 3 = wp ∧ d.gi (0x3010 + p) 9 = (s.d.gi (0x3010 + p) 9 + 1) % 4294967296) ∧
  (∀ (t p : Nat) (q : PlaceIn) (rest : List PlaceIn) (s : State), okPort p = true → Awake s → s.d.inForce = [] →
    (s.d.pl p).queue = q :: rest → (s.d.pl p).acc = [] → (s.d.enc (s.d.gn 0x3000 1)).edges ≠ [] →
    (∀ g ∈ (s.d.enc (s.d.gn 0x3000 1)).edges, stampDiff (midTime q.cam) g.stamp < 0) →
    ∃ d, exec (.linePlace t p false) s = .next (s.moved t d) ∧ (d.pl p).queue = rest ∧ (d.pl p).acc = [] ∧
      d.gi (0x3010 + p) 0x0C = (s.d.gi (0x3010 + p) 0x0C + 1) % 4294967296)

/-- The resampler and its coefficients (R195, R196, R198 to R202). GRID_LINE_EMIT makes the grid line of the port's next grid position from
the eight accepted lines around it: the filter of its class and phase on every column of every plane; or, where a hole lies in the window, a
gap line with no samples, one invalid run over the width, and the flags that its window's lines carry. COEF_SWAP makes a loading copy whose taps sum to 16,384 in every phase pending,
and refuses another with the first failing phase, and counts it; COEF_SWAP_CANCEL takes a pending swap back; COEF_COPY fills the loading copy, and is
refused and counted while a swap is pending.
Where the rules leave a corner open, a clause states the model's choice: assumption log 44, 49 and 115. -/
def Obligations.GridLinesFollowTheirRules : Prop :=
  (∀ (t p : Nat) (m : Int) (a b : AccLine) (s : State), okPort p = true → Awake s → s.d.ovls = [] → placerOn s.d = true →
    s.d.ustate 0x00B ≠ .off → s.d.stitch.next = none → s.d.mdCoef = {} → (∀ l ∈ (s.d.pl p).lastM, l < m) →
    let x := s.d.pl p
    let g := (s.d.gi 0x3000 2 * 65536 + m * s.d.gn 0x3000 3) / 65536
    let any (k : Nat) : Nat := b2n (x.acc.any (fun a => bit a.flags k))
    let fl := 32 * any 4 + 16 * any 2 + 8 * any 0 + 4 * b2n (reversalSpan s.d x.acc) + 1
    x.next = some m → lineA x g = some 3 → x.acc.length = 8 → x.acc[3]? = some a → x.acc[4]? = some b → b.hole = true →
    ∃ d, exec (.gridLineEmit t p []) s = .next (s.moved t d) ∧ (d.pl p).next = some (m + 1) ∧ (d.pl p).lastM = some m ∧
      tabGet d.grid [] p = tabGet s.d.grid [] p ++ [{ m := m, wp := g, gap := true, flags := fl, setA := a.settings, setB := b.settings, planes := [], runs := [(0, s.d.gn (0x2020 + 0x100 * p) 1 - 1)], arrival := b.arrival, at_ := rawAt t s }]) ∧
  (∀ (t p : Nat) (m : Int) (cs : List CorrLine) (s : State), okPort p = true → Awake s → s.d.ovls = [] → placerOn s.d = true →
    s.d.ustate 0x00B ≠ .off → s.d.stitch.next = none → s.d.mdCoef = {} → (∀ l ∈ (s.d.pl p).lastM, l < m) →
    let x := s.d.pl p
    let g := (s.d.gi 0x3000 2 * 65536 + m * s.d.gn 0x3000 3) / 65536
    let wpOf (i : Nat) : Int := ((x.acc[i]?).map fun a => a.wp).getD 0
    let phase := (((g - wpOf 3) * 65536) / (wpOf 4 - wpOf 3) / 256).toNat
    let rho := min (((wpOf 7 - wpOf 0) * 268435456) / (7 * (s.d.gn 0x3000 3 : Int))).toNat 65535
    let taps := tapsOf (s.d.gB 0x3003 1) 256 (keepClass s.d x.cls rho) phase
    let rows (k : Nat) : List (List Nat) := cs.map fun c => ((c.planes.find? fun z => z.1 == k).map fun z => z.2).getD []
    x.next = some m → lineA x g = some 3 → x.acc.length = 8 → (∀ l ∈ x.acc.drop 1, l.hole = false) →
    cs.length = 8 → x.acc.map (corrOf s.d p) = cs.map some →
    ∃ d, exec (.gridLineEmit t p []) s = .next (s.moved t d) ∧ (d.pl p).next = some (m + 1) ∧ (d.pl p).lastM = some m ∧
      (tabGet d.grid [] p).length = (tabGet s.d.grid [] p).length + 1 ∧
      ((tabGet d.grid [] p).getLast?.map fun l => (l.m, l.wp, l.gap, l.at_)) = some (m, g, false, rawAt t s) ∧
      ((tabGet d.grid [] p).getLast?.map fun l => l.planes) = some ((bitsOf 4 (s.d.gn (0x2040 + 0x100 * p) 2)).map fun k =>
        (k, (colsN (rows k) (s.d.gn (0x2020 + 0x100 * p) 1)).map (filt8 (s.d.gn (0x2040 + 0x100 * p) 1) taps)))) ∧
  (∀ (t : Nat) (m : Master) (s : State), masterOk m = true → Awake s → s.d.accepts m 0x3001 1 1 = true → s.d.plain 0x3001 2 →
    let bad := badPhase 1024 0 (s.d.gB 0x3002 1)
    (bad = none → exec (.coefSwap t m) s = .next (s.moved t
      (({ (begun s.d).put 0x3001 2 1 with mdCoef := { s.d.mdCoef with pending := true, w := gridTop s.d } }).ended m stOK))) ∧
    (∀ k ∈ bad, exec (.coefSwap t m) s = .next (s.moved t
      (((((begun s.d).put 0x3001 2 3).put 0x3001 3 (k : Nat)).inc 0x3000 0x0C).ended m stRefused)))) ∧
  (∀ (t : Nat) (m : Master) (s : State), masterOk m = true → Awake s → s.d.accepts m 0x3001 1 2 = true →
    (s.d.mdCoef.pending = true → exec (.coefSwapCancel t m) s = .next (s.moved t
      (({ (begun s.d).put 0x3001 2 0 with mdCoef := { s.d.mdCoef with pending := false } }).ended m stOK))) ∧
    (s.d.mdCoef.pending = false → exec (.coefSwapCancel t m) s = .next (s.moved t ((begun s.d).ended m stOK)))) ∧
  (∀ (t : Nat) (m : Master) (s : State), masterOk m = true → Awake s → s.d.accepts m 0x3001 5 1 = true →
    (s.d.mdCoef.pending = false → ∃ d, exec (.coefCopy t m 1) s = .next (s.moved t d) ∧ (d.mrec m).wstatus = stOK ∧
      d.baseOf 0x3002 1 = .blob (s.d.gB 0x3003 1) ∧ d.baseOf 0x3003 1 = s.d.baseOf 0x3003 1) ∧
    (s.d.mdCoef.pending = true → exec (.coefCopy t m 1) s = .next (s.moved t
      (((begun s.d).inc 0x3000 0x0C).ended m stRefused))))

/-- Raster lines and the cascade's packets (R210, R215, R219, R222, R223, R225 to R228). RASTER_LINE_MAKE makes the next raster line
from the grid line of the one port that contributes to it, each column of its span the port's resampled value; NB_WAIT_EXPIRED makes it without the neighbour, which
becomes LATE. EXPORT_RX keeps the neighbour's columns of a line still to come, and counts one that comes too late. HELLO_RX of an agreeing
neighbour is accepted, and one that disagrees leads to MISMATCH with the first byte that differs. HELLO_SEND sends the next HELLO of a side that is due.
TAP_PACKET_RX passes a tap packet on.
Where the rules leave a corner open, a clause states the model's choice: assumption log 50 to 52 and 116. -/
def Obligations.RasterAndCascadeFollowTheirRules : Prop :=
  (∀ (t p : Nat) (m : Int) (gl : GridLine) (s : State), okPort p = true → Awake s → s.d.ovls = [] → s.d.shadow = [] → s.d.geo = [] →
    s.d.cdCoef = {} → s.d.ustate 0x00B ≠ .off → linePorts s.d m = [p] → s.d.stitch.next = some m → (s.d.side 0).state = .none →
    (s.d.side 1).state = .none → gridAt s.d p m = some gl → gl.gap = false →
    let g := geoOf s.d p (geoBank s.d p)
    let cls := s.d.gn (0x20A2 + 0x100 * p + geoBank s.d p) 8
    let vs := portColumns s.d p g cls (s.d.gB 0x1B04 1) (some gl)
    ∃ d, exec (.rasterLineMake t) s = .next (s.moved t d) ∧ d.stitch = { s.d.stitch with next := some (m + 1), last := some m } ∧
      d.raster.length = s.d.raster.length + 1 ∧
      (d.raster.getLast?.map fun r => (r.m, r.wp, r.settings, r.arrival)) = some (m, gridWp s.d m,
        [{ port := p, first := g.first, last := g.last, settings := gl.setA }], gl.arrival) ∧
      ∀ x, x < s.d.gn 0x1B00 1 → g.first ≤ x → x ≤ g.last →
        (d.raster.getLast?.map fun r => r.planes.map fun q => (q.1, nth q.2 x 0)) =
          some (((List.range (rasterPlanes s.d).length).zip (rasterPlanes s.d)).map fun q => (q.2, nth (nth vs (x - g.first) .gap).samples q.1 0))) ∧
  (∀ (t p : Nat) (m : Int) (s : State), okPort p = true → Awake s → s.d.shadow = [] → s.d.geo = [] →
    s.d.cdCoef = {} → s.d.ustate 0x00B ≠ .off → linePorts s.d m = [p] → s.d.stitch.next = some m → (s.d.side 0).state = .present →
    (s.d.side 1).state = .none → (gridAt s.d p m).isSome = true → (s.d.side 0).exports.find? (fun q => q.m == m) = none →
    ownComplete s.d m + s.d.gn 0x1B10 4 ≤ rawAt t s → 1 < s.d.gn 0x1B10 5 →
    ∃ d, exec (.nbWaitExpired t) s = .next (s.moved t d) ∧ d.stitch = { s.d.stitch with next := some (m + 1), last := some m } ∧
      d.raster.length = s.d.raster.length + 1 ∧ (d.side 0).state = .late ∧ (d.side 0).missed = (s.d.side 0).missed + 1 ∧
      (d.raster.getLast?.map fun r => (r.m, bit r.flags 10)) = some (m, true)) ∧
  (∀ (t side : Nat) (b : List Byte) (m : Int) (s : State), okSide side = true → Awake s → s.d.takesCascade side 1 b = true →
    let x := s.d.side side
    let pay := slice b 16 (4 * beAt b 2 2)
    x.state = .present → gridCeil s.d (wrapI 64 (beAt pay 0 8)) = m → gridWp s.d m = wrapI 64 (beAt pay 0 8) →
    (s.d.stitch.next.all (fun n => n ≤ m && m < n + 64) = true → x.exports.length < 64 →
      ∃ d, exec (.exportRx t side b) s = .next (s.moved t d) ∧ (d.side side).state = .present ∧
        (d.side side).exports = x.exports.filter (fun q => q.m != m) ++ [readExport s.d m pay]) ∧
    (s.d.inForce = [] → (∀ n ∈ s.d.stitch.next, m < n) → s.d.stitch.next ≠ none →
      ∃ d, exec (.exportRx t side b) s = .next (s.moved t d) ∧ (d.side side).exports = x.exports ∧
        d.gi (0x1B12 + side) 7 = (s.d.gi (0x1B12 + side) 7 + 1) % 4294967296)) ∧
  (∀ (t side : Nat) (b : List Byte) (s : State), okSide side = true → Awake s → s.d.takesCascade side 4 b = true →
    let x := s.d.side side
    let pay := slice b 16 (4 * beAt b 2 2)
    let off := posAt s.d (beAt pay 32 8) - wrapI 64 (beAt pay 40 8)
    x.state ≠ .none → x.state ≠ .linkDown →
    (slice pay 3 25 = helloConfig s.d side → slice pay 48 8 = toBE 8 (s.d.gn 0x1B00 4) → beAt pay 28 1 ≠ 0 → s.tu.state ≠ .free →
      (off.natAbs : Int) ≤ s.d.gi 0x1B10 6 → edgeCovers s.d side = true →
      ∃ d, exec (.helloRx t side b) s = .next (s.moved t d) ∧ (d.side side).helloOk = true ∧
        (d.side side).state = (if x.state = .mismatch then .hello else x.state)) ∧
    (∀ k ∈ firstDiff 3 (helloConfig s.d side) (slice pay 3 25), s.d.inForce = [] → x.state = .hello ∨ x.state = .mismatch →
      ∃ d, exec (.helloRx t side b) s = .next (s.moved t d) ∧ (d.side side).helloOk = false ∧ (d.side side).state = .mismatch ∧
        d.gi (0x1B12 + side) 3 = k)) ∧
  (∀ (t side : Nat) (s : State), okSide side = true → Awake s →
    let x := s.d.side side
    let k := side * 8 + 4
    let seq := tabGet s.d.cascTx 0 k
    (s.d.side (1 - side)).state = .none → x.state ≠ .none → x.state ≠ .linkDown → (∀ a ∈ x.helloAt, a + 16000000 ≤ rawAt t s) →
    linkUp s.d (16 + side) = true →
    exec (.helloSend t) s = .next (s.moved t
      ((qCommit { (begun s.d).setSide side { x with helloAt := some (rawAt t s) } with cascTx := tabSet s.d.cascTx k ((seq + 1) % 4294967296) } (0x45 + side)).emit
        (.cascade side 4 (cascPacket 4 seq (devNo s.d) (helloBytes (envOf t s) (begun s.d) side)))))) ∧
  (∀ (t side : Nat) (b : List Byte) (s : State), okSide side = true → Awake s → s.d.takesCascade side 5 b = true →
    let x := s.d.side side
    let sq := beAt b 4 4
    tabFind x.seqs 5 = some sq ∨ tabFind x.seqs 5 = none →
    exec (.tapPacketRx t side b) s = .next (s.moved t
      ((qCommit ((begun s.d).setSide side { x with seqs := tabSet x.seqs 5 ((sq + 1) % 4294967296) }) (0x43 + side)).emit
        (.cascade (2 + side) 5 (slice b 16 (4 * beAt b 2 2))))))

/-- Geometry banks and CD coefficients (R211, R217, R218). GEO_SWAP_AT_PLACED and GEO_SWAP_AT_WP make a swap of a port whose inactive bank passes every check
pending at its grid position, late at the next one where that is past; a bank that fails keeps its swap out, names the check and is counted. GEO_SWAP_CANCEL takes
a pending swap back. GEO_COPY copies the active bank, and is refused and counted while a swap is pending. The CD coefficients swap, cancel and
copy by the same rules as those of the resampler.
Where the rules leave a corner open, a clause states the model's choice: assumption log 42, 44, 51 and 116. -/
def Obligations.GeometryAndCoefficientSwapsFollowTheirRules : Prop :=
  (∀ (t : Nat) (m : Master) (p : Nat) (s : State), masterOk m = true → okPort p = true → Awake s →
    let i := 0x20A0 + 0x100 * p
    let fault := geoFault s.d p (1 - s.d.gn i 1)
    let placed := s.d.gn (0x3010 + p) 8 ≠ 0
    let asks (w : Option Int) (late : Bool) : State := s.moved t (({ (begun s.d).put i 4 1 with geo := tabSet s.d.geo p { at_ := w, late := late } }).ended m stOK)
    let fails : State := s.moved t (((((begun s.d).put i 4 4).put i 5 (fault : Nat)).inc i 8).ended m stRefused)
    s.d.plain i 4 →
    (s.d.accepts m i 2 1 = true →
      (fault = 0 → ¬placed → exec (.geoSwapAtPlaced t m p) s = .next (asks none false)) ∧
      (fault = 0 → placed → (∀ l ∈ stitchBegun s.d, l < gridCeil s.d (s.d.gi (0x3010 + p) 3)) →
        exec (.geoSwapAtPlaced t m p) s = .next (asks (some (gridCeil s.d (s.d.gi (0x3010 + p) 3))) false)) ∧
      (fault ≠ 0 → exec (.geoSwapAtPlaced t m p) s = .next fails)) ∧
    (s.d.accepts m i 2 2 = true →
      let w := gridCeil s.d (s.d.gi i 3)
      (fault = 0 → (∀ l ∈ stitchBegun s.d, l < w) → exec (.geoSwapAtWp t m p) s = .next (asks (some w) false)) ∧
      (∀ l ∈ stitchBegun s.d, fault = 0 → w ≤ l → exec (.geoSwapAtWp t m p) s = .next (asks (some (l + 1)) true)) ∧
      (fault ≠ 0 → exec (.geoSwapAtWp t m p) s = .next fails))) ∧
  (∀ (t : Nat) (m : Master) (p : Nat) (s : State), masterOk m = true → okPort p = true → Awake s →
    let i := 0x20A0 + 0x100 * p
    s.d.accepts m i 2 3 = true →
    (tabFind s.d.geo p ≠ none → exec (.geoSwapCancel t m p) s = .next (s.moved t
      (({ (begun s.d).put i 4 0 with geo := tabErase s.d.geo p }).ended m stOK))) ∧
    (tabFind s.d.geo p = none → exec (.geoSwapCancel t m p) s = .next (s.moved t ((begun s.d).ended m stOK)))) ∧
  (∀ (t : Nat) (m : Master) (p : Nat) (s : State), masterOk m = true → okPort p = true → Awake s →
    let i := 0x20A0 + 0x100 * p
    let a := s.d.gn i 1
    s.d.accepts m i 6 1 = true →
    (tabFind s.d.geo p = none → a < 2 → ∃ d, exec (.geoCopy t m p 1) s = .next (s.moved t d) ∧ (d.mrec m).wstatus = stOK ∧
      ∀ k, k < 8 → d.baseOf (i + 3 - a) (k + 1) = .num (s.d.gi (i + 2 + a) (k + 1))) ∧
    (tabFind s.d.geo p ≠ none → exec (.geoCopy t m p 1) s = .next (s.moved t (((begun s.d).inc i 8).ended m stRefused)))) ∧
  (∀ (t : Nat) (m : Master) (s : State), masterOk m = true → Awake s →
    let bad := badPhase 512 0 (s.d.gB 0x1B03 1)
    (s.d.accepts m 0x1B02 1 1 = true → s.d.plain 0x1B02 2 →
      (bad = none → exec (.cdCoefSwap t m) s = .next (s.moved t
        (({ (begun s.d).put 0x1B02 2 1 with cdCoef := { s.d.cdCoef with pending := true, w := (stitchBegun s.d).map (· + 1) } }).ended m stOK))) ∧
      (∀ k ∈ bad, exec (.cdCoefSwap t m) s = .next (s.moved t
        (((((begun s.d).put 0x1B02 2 3).put 0x1B02 3 (k : Nat)).inc 0x1B00 9).ended m stRefused)))) ∧
    (s.d.accepts m 0x1B02 1 2 = true → s.d.cdCoef.pending = true → exec (.cdCoefSwapCancel t m) s = .next (s.moved t
      (({ (begun s.d).put 0x1B02 2 0 with cdCoef := { s.d.cdCoef with pending := false } }).ended m stOK))) ∧
    (s.d.accepts m 0x1B02 4 1 = true →
      (s.d.cdCoef.pending = false → ∃ d, exec (.cdCoefCopy t m 1) s = .next (s.moved t d) ∧ (d.mrec m).wstatus = stOK ∧
        d.baseOf 0x1B03 1 = .blob (s.d.gB 0x1B04 1) ∧ d.baseOf 0x1B04 1 = s.d.baseOf 0x1B04 1) ∧
      (s.d.cdCoef.pending = true → exec (.cdCoefCopy t m 1) s = .next (s.moved t
        (((begun s.d).inc 0x1B00 9).ended m stRefused)))))

/-- Profile filter chains (R233 to R237, R241, R243, R248, R252, R253). CHAIN_SAMPLE takes a chain's oldest input: one that no output falls on enters the CIC's
integrators; with every stage bypassed the chain's output is the input with its own stamp and position. CHAIN_RUN starts the chain empty and FILLING,
or is refused with its cause. CHAIN_STOP stops it. FEED queues a sample of source 5, and refuses one whose stamp goes back. A swap at the next
sample or at SWAP_TIME becomes pending where every phase of the other bank sums to 16,384, and is refused with BAD_SUM, and counted, where one does not; CHAIN_SWAP_CANCEL
leaves none. DET_CLEAR empties the detectors at the next output.
Where the rules leave a corner open, a clause states the model's choice: assumption log 53 to 56 and 117. -/
def Obligations.ChainsFollowTheirRules : Prop :=
  (∀ (t c : Nat) (q : ChainIn) (v : Int) (rest : List ChainIn) (s : State), okChain c = true → Awake s →
    let x := s.d.chain c
    let i := 0x3110 + c
    x.running = true → x.queue = q :: rest → q.held = 0 → q.val = some v → x.heldRun ≤ s.d.gn i 0x0E → x.swap = none →
    (x.index % s.d.gn i 6 ≠ 0 → s.d.gn i 6 ≠ 1 →
      ∃ d, exec (.chainSample t c) s = .next (s.moved t d) ∧ (d.chain c).queue = rest ∧ (d.chain c).index = x.index + 1 ∧
        (d.chain c).acc = cicAcc v x.acc ∧ (d.chain c).combs = x.combs ∧ (d.chain c).prev = some (q.stamp, q.wp, v) ∧
        (d.chain c).heldRun = 0 ∧ ∀ k, k ≠ c → d.chain k = s.d.chain k) ∧
    (s.d.gn i 6 = 1 → s.d.gn i 9 = 0 → s.d.gn i 0x0B = 0 → s.d.gn i 0x0D = 0 → s.d.gn i 0x11 = 0 → s.d.gb i 0x15 = false →
      s.d.gb i 0x10 = false → s.d.shadow = [] → s.d.inForce = [] → x.boundary = none → x.count = x.index →
      let o := 0x3150 + c
      ∃ d, exec (.chainSample t c) s = .next (s.moved t d) ∧ (d.chain c).queue = rest ∧ (d.chain c).index = x.index + 1 ∧
        (d.chain c).seq = (x.seq + 1) % 4294967296 ∧ (d.chain c).restart = false ∧
        d.gi o 1 = 2 ∧ d.gi o 2 = v * 4294967296 ∧ d.gi o 3 = q.stamp ∧ d.gi o 4 = q.wp ∧
        d.gi o 0x0F = (s.d.gi o 0x0F + 1) % 18446744073709551616)) ∧
  (∀ (t : Nat) (m : Master) (c : Nat) (s : State), masterOk m = true → okChain c = true → Awake s →
    let i := 0x3110 + c
    let cause := runCause s.d c
    s.d.accepts m i 0x0F 1 = true →
    (cause = 0 → ∃ d, exec (.chainRun t m c) s = .next (s.moved t d) ∧
      d.chain c = { running := true, swap := (s.d.chain c).swap, acc := List.replicate (s.d.gn i 8) 0, combs := List.replicate (s.d.gn i 8) [] } ∧
      d.baseOf (0x3150 + c) 1 = .num 1 ∧ (d.mrec m).wstatus = stOK ∧ ∀ k, k ≠ c → d.chain k = s.d.chain k) ∧
    (cause ≠ 0 → exec (.chainRun t m c) s = .next (s.moved t ((((begun s.d).put 0x3100 9 cause).inc 0x3100 8).ended m stRefused)))) ∧
  (∀ (t : Nat) (m : Master) (c : Nat) (s : State), masterOk m = true → okChain c = true → Awake s →
    s.d.accepts m (0x3110 + c) 0x0F 2 = true →
    let off : Dev := ((begun s.d).setChain c { swap := (s.d.chain c).swap }).pub (0x3150 + c) [(1, 0)]
    exec (.chainStop t m c) s = .next (s.moved t ((off.put 0x3100 1 (loadOf off (runningChains off)).floor).ended m stOK))) ∧
  (∀ (t : Nat) (m : Master) (c : Nat) (b : List Byte) (s : State), masterOk m = true → okChain c = true → Awake s →
    let x := s.d.chain c
    let stamp := leAt b 8 8
    s.d.hasRole m (objWr (0x31C0 + c) 1) = true → x.running = true →
    (b.length = 16 → s.d.gn (0x3110 + c) 1 = 5 → s.d.ustate 0x009 ≠ .off → x.queue.length < 64 →
      (∀ a ∈ x.lastFeed, 0 ≤ stampDiff stamp a) →
      ∃ d, exec (.feed t m c b) s = .next (s.moved t d) ∧ (d.mrec m).wstatus = stOK ∧ (∀ k, k ≠ c → d.chain k = s.d.chain k) ∧
        d.chain c = { x with lastFeed := some stamp, lost := 0, queue := x.queue ++ [{ held := x.lost, stamp := stamp, wp := posAt s.d stamp, val := some (wrapI 32 (leAt b 0 4)) }] }) ∧
    (∀ a ∈ x.lastFeed, stampDiff stamp a < 0 →
      exec (.feed t m c b) s = .next (s.moved t (((begun s.d).inc 0x3100 8).ended m stRefused)))) ∧
  (∀ (t : Nat) (m : Master) (c : Nat) (s : State), masterOk m = true → okChain c = true → Awake s →
    let i := 0x3110 + c
    let x := s.d.chain c
    let sums := sumsOk (s.d.gB (0x3180 + 2 * c + (1 - s.d.gn i 0x1C)) 5)
    let asks (w : Option (Option Nat)) : State := s.moved t (((begun s.d).setChain c { x with swap := w }).ended m stOK)
    let fails : State := s.moved t ((((begun s.d).put i 0x1D (setBit (s.d.gn i 0x1D) 0)).inc 0x3100 8).ended m stRefused)
    (s.d.accepts m i 0x1A 1 = true →
      (sums = true → exec (.chainSwapNext t m c) s = .next (asks (some none))) ∧
      (sums = false → exec (.chainSwapNext t m c) s = .next fails)) ∧
    (s.d.accepts m i 0x1A 2 = true →
      (sums = true → exec (.chainSwapAtTime t m c) s = .next (asks (some (some (s.d.gn i 0x1B))))) ∧
      (sums = false → exec (.chainSwapAtTime t m c) s = .next fails)) ∧
    (s.d.accepts m i 0x1A 3 = true → exec (.chainSwapCancel t m c) s = .next (asks none)) ∧
    (s.d.accepts m i 0x19 1 = true →
      exec (.detClear t m c 1) s = .next (s.moved t (((begun s.d).setChain c { x with detEmpty := true }).ended m stOK))))

/-- The segmenter (R255 to R258, R260, R262 to R264, R259). CLASS_LINE takes the oldest raster line and classes each of its columns by the column's
model as it stood: MASK where the model has too few samples, else by its deviation; the line waits for the one after it. The line that waited
leaves as a class line that keeps its position, time and every MASK, and teaches the model of a column that no rule stops. RELEARN waits for the
next raster line.
Where the rules leave a corner open, a clause states the model's choice: assumption log 57, 58 and 118. -/
def Obligations.ClassLinesFollowTheirRules : Prop :=
  (∀ (t : Nat) (r : RasterLine) (rest : List RasterLine) (s : State), Awake s → s.d.ovls = [] → s.d.shadow = [] →
    s.d.raster = r :: rest → s.d.ustate 0x00C ≠ .off → s.d.seg.wait = none → s.d.seg.relearn = false →
    s.d.seg.cols.length = s.d.gn 0x1B00 1 → s.d.seg.left.state = 0 → s.d.seg.right.state = 0 → bit r.flags 0 = false → r.gaps = [] →
    statMasks s.d = [] → s.d.gn 0x3203 0x11 = 0 → (∀ k, k < 16 → s.d.inSvc (0x050 + k) = true) →
    ∃ d, exec (.classLine t) s = .next (s.moved t d) ∧ d.raster = rest ∧ d.classLines = s.d.classLines ∧ d.seg.cols = s.d.seg.cols ∧
      (d.seg.wait.map fun w => (w.r, w.updated)) = some (r, false) ∧
      ∀ x, x < s.d.gn 0x1B00 1 →
        let m := nth s.d.seg.cols x {}
        let dv : Int := ((nth (tabGet r.planes [] (s.d.gn 0x3200 1)) x 0) * 65536 : Nat) - (m.mean : Int)
        (d.seg.wait.map fun w => nth w.codes x 9) = some (if inRuns r.runs x = true ∨ m.n < s.d.gn 0x3200 3 then 7 else levelOf s.d dv m.var)) ∧
  (∀ (t : Nat) (r : RasterLine) (rest : List RasterLine) (w : ClassRow) (s : State), Awake s → s.d.ovls = [] → s.d.shadow = [] →
    s.d.raster = r :: rest → s.d.ustate 0x00C ≠ .off → s.d.seg.wait = some w → s.d.seg.relearn = false →
    s.d.seg.cols.length = s.d.gn 0x1B00 1 → s.d.openCols = [] → w.updated = false → w.frozen = false →
    ∃ d, exec (.classLine t) s = .next (s.moved t d) ∧ d.raster = rest ∧ d.classLines.length = s.d.classLines.length + 1 ∧
      (d.classLines.getLast?.map fun c => (c.m, c.flags, c.time, c.arrival)) = some (w.r.m, w.flags, w.time, w.r.arrival) ∧
      (∀ x, x < w.codes.length → nth w.codes x 7 = 7 → (d.classLines.getLast?.map fun c => nth c.codes x 7) = some 7) ∧
      ∀ x, x < s.d.gn 0x1B00 1 → x < w.codes.length → x < w.hard.length → x < w.soft.length → nth w.codes x 7 = 0 → nth w.hard x true = false → nth w.soft x false = false →
        nth d.seg.cols x {} = ({ nth s.d.seg.cols x {} with frozen := 0, forced := false } : ColModel).learn (s.d.gn 0x3200 2)
          (nth (tabGet w.r.planes [] (s.d.gn 0x3200 1)) x 0)) ∧
  (∀ (t : Nat) (m : Master) (s : State), masterOk m = true → Awake s → s.d.accepts m 0x3200 0x0F 1 = true →
    exec (.relearn t m 1) s = .next (s.moved t (({ begun s.d with seg := { s.d.seg with relearn := true } }).ended m stOK)))

/-- The tracker and its tree (R275 to R278, R284, R286, R290, R291, R297). CLASS_LINE_TRACK takes the oldest class line, and a run that touches no region gets an
entry with its pixels' features. A CONTINUE packet's LINE entry is kept for its line, and a MERGE or FRAGMENT for step 5. LINE_ENTRY_WAIT_EXPIRED
finishes the line without its neighbour's entry. SQUALL_CMD waits for the next class line. TREE_SWAP makes a tree without a failing node pending, and
refuses and counts another with its first failing node; it cancels, and TREE_COPY copies, where no swap is pending (TREE_CRC_LOAD reads
the CRC of before until the update).
Where the rules leave a corner open, a clause states the model's choice: assumption log 60 to 63 and 119. -/
def Obligations.RegionsFollowTheirRules : Prop :=
  (∀ (t : Nat) (c : ClassLine) (rest : List ClassLine) (r : TrackRun) (s : State), Awake s → s.d.ovls = [] → s.d.shadow = [] →
    s.d.classLines = c :: rest → s.d.inSvc 0x00D = true → nbWaits (s.d.side 0).state = false → nbWaits (s.d.side 1).state = false →
    s.d.trk.mid = none → s.d.trk.regions = [] → s.d.trk.merged = [] → s.d.trk.prev = none → s.d.trk.prev2 = none → s.d.trk.inbox = [] →
    s.d.trk.squall = false → s.d.trk.cmd = 0 → s.d.trk.tree.pending = false → trackRuns s.d c.codes = [r] → r.a ≤ r.b →
    0 < s.d.gn 0x3211 (sliceOf s.d r.a + 1) → 2 * (s.d.gn 0x3000 3 : Int) ≤ s.d.gi 0x3210 3 * 65536 →
    let off := s.d.gn 0x1B00 2
    ∃ d, exec (.classLineTrack t) s = .next (s.moved t d) ∧ d.classLines = rest ∧ d.trk.mid = none ∧ d.trk.begun = some c.m ∧
      d.trk.nextId = idNext s.d.trk.nextId ∧ (d.trk.prev.map fun q => (q.m, q.codes)) = some (c.m, c.codes) ∧
      (d.trk.regions.map fun x => (x.id, x.slice, x.on)) = [(s.d.trk.nextId, sliceOf s.d r.a, true)] ∧
      (d.trk.regions.map fun x => (x.feat.area, x.feat.cdFirst, x.feat.cdLast)) = [(r.b + 1 - r.a, r.a + off, r.b + off)] ∧
      (d.trk.regions.map fun x => (x.feat.mdStart, x.feat.t0, x.feat.t1)) = [(gridWp s.d c.m, c.time, c.time)]) ∧
  (∀ (t : Nat) (cl : ClassLine) (runs : List TrackRun) (at_ : Nat) (s : State), Awake s → s.d.trk.mid = some (cl, runs, at_) →
    at_ + s.d.gn 0x1B10 4 ≤ rawAt t s →
    ∃ d, exec (.lineEntryWaitExpired t) s = .next (s.moved t d) ∧ d.trk.mid = none ∧ (d.trk.prev.map fun q => q.m) = some cl.m) ∧
  (∀ (t side : Nat) (b ent : List Byte) (s : State), okSide side = true → Awake s → s.d.takesCascade side 2 b = true →
    s.d.inSvc 0x00D = true → s.d.trk.mid = none → splitEntries 1100 (slice b 16 (4 * beAt b 2 2)) = [ent] →
    ∃ d, exec (.continueRx t side b) s = .next (s.moved t d) ∧
      (beAt ent 0 1 = 1 → d.trk.inbox = s.d.trk.inbox ∧ tabGet d.trk.lineIn [] side = (tabGet s.d.trk.lineIn [] side ++
        [({ wp := wrapI 64 (beAt ent 8 8), cls := beAt ent 1 1 % 8, id := if bit (beAt ent 1 1) 3 then beAt ent 4 4 else 0 } : LineEnt)]).take 128) ∧
      (beAt ent 0 1 ≠ 1 → d.trk.lineIn = s.d.trk.lineIn ∧ d.trk.inbox = s.d.trk.inbox ++ [(side, ent)])) ∧
  (∀ (t : Nat) (m : Master) (s : State), masterOk m = true → Awake s →
    (s.d.accepts m 0x3210 7 1 = true → exec (.squallCmdEnter t m) s = .next (s.moved t
      (({ begun s.d with trk := { s.d.trk with cmd := 1 } }).ended m stOK))) ∧
    (s.d.accepts m 0x3210 7 2 = true → exec (.squallCmdExit t m) s = .next (s.moved t
      (({ begun s.d with trk := { s.d.trk with cmd := 2 } }).ended m stOK)))) ∧
  (∀ (t : Nat) (m : Master) (s : State), masterOk m = true → Awake s →
    let bad := treeBad (s.d.gB 0x3221 1) 64 0 [0]
    (s.d.accepts m 0x3220 1 1 = true →
      (bad = none → exec (.treeSwap t m) s = .next (s.moved t
        (({ (begun s.d).put 0x3220 2 1 with trk := { s.d.trk with tree := { pending := true, w := s.d.trk.begun.map (· + 1) } } }).ended m stOK))) ∧
      (∀ k ∈ bad, exec (.treeSwap t m) s = .next (s.moved t (((((begun s.d).put 0x3220 2 3).put 0x3220 3 (k : Nat)).inc 0x3210 8).ended m stRefused)))) ∧
    (s.d.accepts m 0x3220 1 2 = true →
      (s.d.trk.tree.pending = true → exec (.treeSwapCancel t m) s = .next (s.moved t
        (({ (begun s.d).put 0x3220 2 0 with trk := { s.d.trk with tree := { s.d.trk.tree with pending := false } } }).ended m stOK))) ∧
      (s.d.trk.tree.pending = false → exec (.treeSwapCancel t m) s = .next (s.moved t ((begun s.d).ended m stOK)))) ∧
    (s.d.accepts m 0x3220 5 1 = true →
      (s.d.trk.tree.pending = false → exec (.treeCopy t m 1) s = .next (s.moved t
        ((((begun s.d).put 0x3220 7 (treeCrcLoad s.d : Nat)).putB 0x3221 1 (s.d.gB 0x3222 1)).ended m stOK))) ∧
      (s.d.trk.tree.pending = true → exec (.treeCopy t m 1) s = .next (s.moved t (((begun s.d).inc 0x3210 8).ended m stRefused)))))

/-- The settle stage (R314, R315, R317, R323). A record that a side of SETTLE_FROM sends is held in the order of its key; the packets of another side are
counted and dropped. RECORDS_READY_TIMER offers RECORDS_READY once NOTIFY_TIME has passed since the first record.
Where the rules leave a corner open, a clause states the model's choice: assumption log 64, 65 and 120. -/
def Obligations.SettleFollowsItsRules : Prop :=
  (∀ (t side : Nat) (b r : List Byte) (s : State), okSide side = true → Awake s → s.d.takesCascade side 3 b = true →
    let pay := slice b 16 (4 * beAt b 2 2)
    bit (s.d.gn 0x3400 3) side = true → s.d.inSvc 0x00E = true → s.d.gn 0x3400 2 = 0 → settleM s.d = none → s.d.settle.last = none →
    s.d.settle.hold.length < 8192 → tabGet s.d.settle.sideQ [] side = [] → splitRecs 1024 pay = [r] → leAt r 0 1 = 1 ∨ leAt r 0 1 = 2 →
    leAt r 4 2 / 1024 = ownEpoch s.d →
    ∃ d, exec (.settlePacketRx t side b) s = .next (s.moved t d) ∧ tabGet d.settle.sideQ [] side = [] ∧
      d.settle.hold = holdInsert (recOf s.d r).1 s.d.settle.hold) ∧
  (∀ (t side : Nat) (b : List Byte) (s : State), okSide side = true → Awake s → s.d.takesCascade side 3 b = true →
    bit (s.d.gn 0x3400 3) side = false → s.d.inForce = [] →
    ∃ d, exec (.settlePacketRx t side b) s = .next (s.moved t d) ∧ d.settle = s.d.settle ∧
      d.gi 0x3408 0x0C = (s.d.gi 0x3408 0x0C + 1) % 4294967296) ∧
  (∀ (t : Nat) (s : State), Awake s → 0 < s.d.settle.notify → s.d.settle.notifyAt + s.d.gn 0x3401 7 * 16000 ≤ rawAt t s →
    exec (.recordsReadyTimer t) s = .next (s.moved t
      { (begun s.d).raise (envOf t s) 0x22A 0 with settle := { s.d.settle with notify := 0 } }))

/-- Marks and rows (R329, R330, R335 to R337, R339). MARK_ACCEPT takes the oldest record handed to the engine, and on a head that its rule names the mark's rows and
nozzles follow from the record's box; the mark waits in the head's queue and its dot block in the ring. ROW_FIRE fires the row in sequence once the
web has reached it, on the channels of F and for FIRE_WIDTH; a row whose data is not latched or whose supply is not settled is late and counts.
FIRE_PULSE_END ends the pulse.
Where the rules leave a corner open, a clause states the model's choice: assumption log 66 to 68 and 121. -/
def Obligations.MarksFollowTheirRules : Prop :=
  (∀ (t h lo hi : Nat) (r : Rec) (rest : List Rec) (s : State), okHead h = true → Awake s → s.d.ovls = [] → s.d.shadow = [] →
    let i := 0x3620 + field (s.d.gn 0x3224 (r.cls + 1)) 11 8
    let pitch : Int := s.d.gn (0x3610 + h) 4
    let o := s.d.gi 0x3000 2
    let kf := -(-((r.mdStart - s.d.gi i 3 - o) * 65536) / pitch)
    let kl := max ((r.mdEnd + s.d.gi i 4 - o) * 65536 / pitch) (kf + s.d.gn i 7 - 1)
    s.d.markQ = r :: rest → s.d.inSvc 0x00F = true → s.d.inSvc (0x060 + h) = true → r.epoch = ownEpoch s.d → r.kind ≠ 3 →
    (∀ q, q < 8 → bit (s.d.gn i 1) q = decide (q = h)) → s.d.gn (0x3650 + h) 1 = 1 → s.d.gn (0x3610 + h) 2 ≠ 255 →
    ruleSel s.d h (field (s.d.gn 0x3224 (r.cls + 1)) 11 8) r = some (lo, hi) → pitch ≠ 0 → kf ≤ kl → kl - kf < 16384 → (s.d.head h).queue = [] →
    (s.d.head h).armed = true → (s.d.head h).nextRow ≤ kf →
    dotUsed s.d + 16 * (kl + 1 - kf).toNat ≤ s.d.gn 0x3600 7 → memReady s.d = true →
    ∃ d, exec (.markAccept t) s = .next (s.moved t d) ∧ d.markQ = rest ∧ d.dotHead = s.d.dotHead + 16 * (kl + 1 - kf).toNat ∧
      (d.head h).queue = [{ at_ := s.d.dotHead, origin := leAt r.bytes 4 2, seq := r.seqNo, first := kf, last := kl, next := kf }] ∧
      ∀ q, q ≠ h → d.head q = s.d.head q) ∧
  (∀ (t h : Nat) (r : HeadRow) (s : State), okHead h = true → Awake s → s.d.inForce = [] →
    let x := s.d.head h
    let clk := clk200 (rawAt t s)
    let n := s.d.gn 0x3000 1
    let w := min (s.d.gn (0x3610 + h) 9) 5000 * 16
    x.cur = some r → x.rows = [] → x.queue = [] → x.tests = none → r.test = false → r.marks = [] → headDrives s.d h r = true →
    rowWeb s.d h r.k - headLead s.d h (encSpeed (envOf t s) (begun s.d) n) ≤ encEst (envOf t s) (begun s.d) n →
    (r.latch ≤ clk → (∀ z ∈ r.heatEnd, z + s.d.gn (0x3610 + h) 0x0A * 16 ≤ clk) → s.d.headPow.on = true → s.d.headPow.settled = true →
      ∃ d, exec (.rowFire t h) s = .next (s.moved t d) ∧ d.out = [.head h 2 r.f (clk + 640) w] ∧ (d.head h).cur = none ∧
        (d.head h).fireEnd = some (clk + 640 + w) ∧ d.gi (0x3650 + h) 6 = (s.d.gi (0x3650 + h) 6 + 1) % 18446744073709551616 ∧
        ∀ c, c < 128 → bit r.f c = true → tabFind (d.head h).lastFire c = some r.t0) ∧
    (clk < r.latch ∨ s.d.headPow.on = false ∨ s.d.headPow.settled = false →
      ∃ d, exec (.rowFire t h) s = .next (s.moved t d) ∧ d.out = [] ∧ (d.head h).cur = none ∧ (d.head h).fireEnd = x.fireEnd ∧
        d.gi (0x3650 + h) 7 = (s.d.gi (0x3650 + h) 7 + 1) % 4294967296)) ∧
  (∀ (t h z : Nat) (s : State), okHead h = true → Awake s → (s.d.head h).fireEnd = some z → z ≤ rawAt t s →
    exec (.firePulseEnd t h) s = .next (s.moved t ((begun s.d).setHead h { s.d.head h with fireEnd := none })))

/-- Heads (R330 to R333, R340, R342, R346, R347). HEAD_ID_READ_DONE makes a head READY, or FAULT with the check that failed. RCHECK_START asks for the next nozzle's
resistance where no row is due; RCHECK_RESULT counts a good value and goes to the next nozzle, and drops an invalid one. HEAD_POWER raises the supply, and drops it 1 us after it where no pulse is open;
HEAD_PWR_SETTLED lets pulses start. FIRE_TEST begins its rows in TEST and is refused elsewhere. REMAP_WRITE takes a permutation of each head's
channels whose TAKE bits stay inside its nozzles, and refuses and counts another table.
Where the rules leave a corner open, a clause states the model's choice: assumption log 68, 69 and 121. -/
def Obligations.HeadsFollowTheirRules : Prop :=
  (∀ (t h : Nat) (b : List Byte) (s : State), okHead h = true → Awake s → s.d.ustate (0x060 + h) ≠ .off → s.d.gn (0x3650 + h) 1 = 0 →
    b.length = 21 →
    let o := 0x3650 + h
    let read : Dev := ((begun s.d).putB o 0x13 b).put o 0x12 (wrapI 8 (leAt b 0x14 1))
    let bad (d : Dev) (cause : Nat) : State := s.moved t ((d.pub o [(1, 2), (2, (cause : Int))]).raise (envOf t s) 0x22E h)
    let a := beAt b 0 2 = 1
    let n := s.d.gn (0x3610 + h) 1 ≤ leAt b 6 1
    let w := s.d.gn (0x3610 + h) 9 ≤ beAt b 0x0A 2
    exec (.headIdReadDone t h none) s = .next (bad (begun s.d) 1) ∧
    (¬a → exec (.headIdReadDone t h (some b)) s = .next (bad read 2)) ∧
    (a → ¬n → exec (.headIdReadDone t h (some b)) s = .next (bad read 3)) ∧
    (a → n → ¬w → exec (.headIdReadDone t h (some b)) s = .next (bad read 4)) ∧
    (a → n → w → exec (.headIdReadDone t h (some b)) s = .next (s.moved t (read.pub o [(1, 1), (2, 0)])))) ∧
  (∀ (t h : Nat) (s : State), okHead h = true → Awake s →
    let x := s.d.head h
    let o := 0x3610 + h
    headMeasures s.d h = true → x.checkedAt + s.d.gn o 0x0E * 16000000 ≤ rawAt t s → x.checking = false →
    rowDueSoon (envOf t s) (begun s.d) h = false →
    exec (.rcheckStart t h) s = .next (s.moved t
      (((begun s.d).setHead h { x with checking := true, checkedAt := rawAt t s }).emit
        (.i2c h (s.d.gn o 0x0C) [0x10, BitVec.ofNat 8 x.nozzle, 0x01])))) ∧
  (∀ (t h v : Nat) (s : State), okHead h = true → Awake s → (s.d.head h).checking = true →
    let x := s.d.head h
    let o := 0x3650 + h
    let nom := beAt (s.d.gB o 0x13) 8 2
    let tol := s.d.gn (0x3610 + h) 0x10
    exec (.rcheckResult t h (some (true, v))) s = .next (s.moved t ((begun s.d).setHead h { x with checking := false, nacks := 0 })) ∧
    (0 < v → v < 65535 → nom * (100 - tol) ≤ v * 100 → v * 100 ≤ nom * (100 + tol) →
      exec (.rcheckResult t h (some (false, v))) s = .next (s.moved t
        (((((begun s.d).inc o 0x10).putB o 0x14 (patch (padTo (s.d.gB o 0x14) 256 0) (2 * x.nozzle) (toLE 2 v))).setHead h
          { x with checking := false, nacks := 0, fails := tabSet x.fails x.nozzle 0, nozzle := (x.nozzle + 1) % max 1 (s.d.gn (0x3610 + h) 1) }).publish o))) ∧
    (x.nacks < 2 → exec (.rcheckResult t h none) s = .next (s.moved t
      ((begun s.d).setHead h { x with checking := false, nacks := x.nacks + 1 })))) ∧
  (∀ (t : Nat) (m : Master) (s : State), masterOk m = true → Awake s → s.d.inForce = [] →
    let raw := rawAt t s
    (s.d.accepts m 0x3600 1 1 = true → s.d.inSvc 0x00F = true → s.d.headPow.on = false →
      exec (.headPower t m 1) s = .next (s.moved t
        ((({ (begun s.d).put 0x3600 1 1 with headPow := { on := true, since := raw, settled := false, lowAt := 0 } }).emit
          (.pin "HEAD_PWR_EN" 0 true raw)).ended m stOK))) ∧
    (s.d.accepts m 0x3600 1 0 = true → s.d.headPow.on = true → 
      (∀ h, h < 8 → (∀ z ∈ (s.d.head h).fireEnd, z ≤ raw) ∧ ∀ r ∈ (s.d.head h).cur, ∀ z ∈ r.heatEnd, z ≤ raw) →
      exec (.headPower t m 0) s = .next (s.moved t
        ((({ (begun s.d).put 0x3600 1 0 with headPow := { s.d.headPow with on := false, settled := false, lowAt := raw + 16000 } }).emit
          (.pin "HEAD_PWR_EN" 0 false (raw + 16000))).ended m stOK)))) ∧
  (∀ (t : Nat) (s : State), Awake s → s.d.headPow.on = true → s.d.headPow.since + s.d.gn 0x3600 2 * 16000 ≤ rawAt t s →
    exec (.headPwrSettled t) s = .next (s.moved t { begun s.d with headPow := { s.d.headPow with settled := true } })) ∧
  (∀ (t : Nat) (m : Master) (h : Nat) (b : List Byte) (s : State), masterOk m = true → okHead h = true → Awake s →
    s.d.hasRole m (objWr (0x3610 + h) 0x11) = true →
    let f := leAt b 0 16
    let n := leAt b 16 4
    let now := clk200 (rawAt t s)
    (b.length = 24 → headEff s.d h = .test → f ≠ 0 → n ≠ 0 → (s.d.head h).cur = none →
      ∃ d, exec (.fireTest t m h b) s = .next (s.moved t d) ∧ (d.mrec m).wstatus = stOK ∧
        ((d.head h).cur.map fun r => (r.f, r.test, r.t0)) = some (f, true, now) ∧
        (d.head h).tests = (if n ≤ 1 then none else some (n - 1, f, leAt b 20 4, now + leAt b 20 4 * 16))) ∧
    (b.length ≠ 24 ∨ headEff s.d h ≠ .test → exec (.fireTest t m h b) s = .next (s.moved t
      (((begun s.d).inc 0x3600 9).ended m stRefused)))) ∧
  (∀ (t : Nat) (m : Master) (b : List Byte) (s : State), masterOk m = true → Awake s → s.d.hasRole m (objWr 0x3640 1) = true →
    (remapOk s.d b = true → (∀ i, i < 1024 → bit (remapAt b i) 15 = true → bit (remapAt (s.d.gB 0x3640 1) i) 15 = true) →
      exec (.remapWrite t m b) s = .next (s.moved t ((deadCounts ((begun s.d).putB 0x3640 1 b)).ended m stOK))) ∧
    (remapOk s.d b = false → exec (.remapWrite t m b) s = .next (s.moved t (((begun s.d).inc 0x3600 9).ended m stRefused))))

/-- The event fabric (R359, R360, R361, R363, R364, R369, R370, R372, R374). EVENT_OFFER passes an offer through an open gate and grants it at the channel's destination,
no earlier than that destination's last grant, and stamped: an output pin makes its pulse. A closed gate drops it; a busy channel holds one. HANDSHAKE_COMPLETE frees the channel; TASK_ACTION_END frees the
task, or begins the event that waits. EVP_EDGE of an input offers its event on the edges that are asked for; EVP_PULSE_END returns an output to idle.
SW_FIRE offers SW_DATA on each producer named, the secure ones for secure domains alone. A domain takes a free channel and gives its own back.
Where the rules leave a corner open, a clause states the model's choice: assumption log 70 to 72. -/
def Obligations.EventsFollowTheirRules : Prop :=
  (∀ (t c delay k : Nat) (o : Offer) (s : State), okChan c = true → k < 64 → Awake s → s.d.shadow = [] → s.d.inForce = [] → s.d.inSvc 0x002 = true →
    s.d.offers.find? (fun q => q.chan == c) = some o → offerWaits s.d c o delay = false → o.relay = none → chOn s.d c = true →
    let x := s.d.chan c
    let left : Dev := { begun s.d with offers := s.d.offers.erase o }
    let soonest := o.at_ + min delay (if 0x140 ≤ o.prod ∧ o.prod < 0x180 then 59 else 48)
    let grant := match (s.d.task k).last with | some g => max soonest g.at_ | none => soonest
    let raw := ceilTo 16 grant
    let g : Granted := { at_ := raw, stamp := (s.tu.paramsAt raw).applied raw, data := o.data, chan := c, seq := ((s.d.task k).seq + 1) % 65536 }
    let w := s.d.gn (evIdx k) (evSub k 4)
    (x.busy = false → gatePasses (envOf t s) left c = true → chSync s.d c = false → eddyFails x o.at_ = false → chDests s.d c = [k] →
      (s.d.task k).work = none → s.d.gn (evIdx k) (evSub k 1) = 2 →
      ∃ d, exec (.eventOffer t c delay) s = .next (s.moved t d) ∧ d.offers = left.offers ∧
        d.chan c = { x with busy := true, doneAt := grant, waitRelays := [], cur := some o, accepts := (o.at_ :: x.accepts).take 64 } ∧
        (d.task k).work = some g ∧ (d.task k).last = some g ∧ (d.task k).outcome = 0 ∧
        (d.task k).busyTill = grant + 13 + w + s.d.gn (evIdx k) (evSub k 5) ∧ (d.evp k).pulseEnd = some (grant + 13 + w) ∧
        d.out = [.pin "EVP" k (!s.d.gb (evIdx k) (evSub k 3)) (grant + 13)] ∧
        d.gi (chIdx c) (chSub c 0x0E) = (s.d.gi (chIdx c) (chSub c 0x0E) + 1) % 4294967296) ∧
    (x.busy = false → gatePasses (envOf t s) left c = false → exec (.eventOffer t c delay) s = .next (s.moved t
      ((left.inc (chIdx c) (chSub c 0x0F)).setFlag (chIdx c) (chSub c 0x0D) 2))) ∧
    (x.busy = true → x.latch = none → exec (.eventOffer t c delay) s = .next (s.moved t (left.setChan c { x with latch := some o })))) ∧
  (∀ (t c : Nat) (o : Offer) (s : State), okChan c = true → Awake s → s.d.shadow = [] →
    let x := s.d.chan c
    x.busy = true → x.waitRelays = [] → x.doneAt ≤ rawAt t s → x.latch = none → x.cur = some o → o.relay = none →
    exec (.handshakeComplete t c) s = .next (s.moved t ((begun s.d).setChan c { x with busy := false, cur := none }))) ∧
  (∀ (t k : Nat) (s : State), okTask k = true → Awake s → k < 0x40 → (s.d.task k).work ≠ none → (s.d.task k).busyTill ≤ rawAt t s →
    let x := s.d.task k
    (x.held = [] → exec (.taskActionEnd t k) s = .next (s.moved t (taskShow ((begun s.d).setTask k { x with work := none }) k))) ∧
    (∀ g ∈ x.held.head?, s.d.gn (evIdx k) (evSub k 1) ≠ 2 → ∃ d, exec (.taskActionEnd t k) s = .next (s.moved t d) ∧
      d.task k = { x with work := some g, held := x.held.tail, busyTill := rawAt t s + 80 })) ∧
  (∀ (t k : Nat) (level : Bool) (s : State), okEvp k = true → Awake s →
    let which := s.d.gn (evIdx k) (evSub k 2)
    let d := (begun s.d).setEvp k { s.d.evp k with lvl := level }
    let asked := (s.d.evp k).lvl ≠ level ∧ s.d.gn (evIdx k) (evSub k 1) = 1 ∧ ¬(which = 0 ∧ level = false) ∧ ¬(which = 1 ∧ level = true)
    (asked → exec (.evpEdge t k level) s = .next (s.moved t (d.raise (envOf t s) (0x140 + k) (b2n level)))) ∧
    (¬asked → exec (.evpEdge t k level) s = .next (s.moved t d))) ∧
  (∀ (t k z : Nat) (s : State), okEvp k = true → Awake s → (s.d.evp k).pulseEnd = some z → z ≤ rawAt t s →
    exec (.evpPulseEnd t k) s = .next (s.moved t
      (((begun s.d).setEvp k { s.d.evp k with pulseEnd := none }).emit (.pin "EVP" k (s.d.gb (evIdx k) (evSub k 3)) z)))) ∧
  (∀ (t : Nat) (m : Master) (v : Nat) (s : State), masterOk m = true → Awake s → s.d.accepts m 0x1502 2 v = true →
    (v < 65536 ∨ (s.d.secureM m = true ∧ s.d.hasRole m .integrator = true) → exec (.swFire t m v) s = .next (s.moved t
      (((bitsOf 32 v).foldl (fun d k => d.raiseFrom (0x180 + k) (s.d.gn 0x1502 1) (clk200 (rawAt t s + 1)) none) (begun s.d)).ended m stOK))) ∧
    (65536 ≤ v → s.d.secureM m = false → exec (.swFire t m v) s = .next (s.moved t (((begun s.d).inc 0x1500 1).ended m stDenied)))) ∧
  (∀ (t : Nat) (m : Master) (c : Nat) (v : Nat) (s : State), masterOk m = true → okChan c = true → Awake s → s.d.hasRole m .integrator = true →
    let own := s.d.gn (chIdx c) (chSub c 0x0C)
    let dom := s.d.domOfM m
    (own = 0 → v = dom → v ≠ 0 → exec (.channelOwnerWrite t m c v) s = .next (s.moved t
      (((begun s.d).put (chIdx c) (chSub c 0x0C) (dom : Nat)).ended m stOK))) ∧
    (own ≠ 0 → dom = own → exec (.channelOwnerWrite t m c 0) s = .next (s.moved t ((chRelease (begun s.d) c).ended m stOK))) ∧
    (own ≠ 0 → v ≠ 0 → exec (.channelOwnerWrite t m c v) s = .next (s.moved t
      ((((begun s.d).setFlag (chIdx c) (chSub c 0x0D) 3).inc 0x1500 1).ended m stDenied))))

/-- Memory requests (R382, R384 to R386, R395, R400, R501, R502). A write that MEM_REQUEST_ACCEPT takes stores its bytes at its address and every other byte
stays; memory keeps its form. A read waits in the controller, unless its channel holds 32 already; a write out of range is discarded and counted. A core's access
outside its map, or a non-secure one of what is secure, ends in a bus error and nothing else. MEM_READ_DONE delivers the bytes of the read that its channel serves
next, as they stand, and changes none; an uncorrectable block is poisoned and counted. SCRUB_READ goes to the next ECC group.
Where the rules leave a corner open, a clause states the model's choice: assumption log 16, 73 and 121. -/
def Obligations.MemoryRequestsFollowTheirRules : Prop :=
  (∀ (t p a len : Nat) (b : List Byte) (ns : Bool) (s : State), okMemPort p = true → Awake s → memReady s.d = true →
    Memory.wf s.d.mem = true → b ≠ [] → s.d.reachesDram p a b.length true ns →
    (a + b.length ≤ s.d.gn 0x1700 3 → (s.d.queuedAt p a b.length).2.length < 32 →
      ∃ d, exec (.memRequestAccept t p a len ⟨some b, ns⟩) s = .next (s.moved t d) ∧ Memory.wf d.mem = true ∧ d.memReads = s.d.memReads ∧
      ∀ x, memByte d.mem x = if a ≤ x ∧ x < a + b.length then nth b (x - a) 0 else memByte s.d.mem x) ∧
    (s.d.gn 0x1700 3 < a + b.length → s.d.inForce = [] →
      ∃ d, exec (.memRequestAccept t p a len ⟨some b, ns⟩) s = .next (s.moved t d) ∧ d.mem = s.d.mem ∧ d.poison = s.d.poison ∧
        d.gi 0x1701 4 = (s.d.gi 0x1701 4 + 1) % 4294967296)) ∧
  (∀ (t p a len : Nat) (ns : Bool) (s : State), okMemPort p = true → Awake s → memReady s.d = true → 0 < len → a + len ≤ s.d.gn 0x1700 3 →
    s.d.reachesDram p a len false ns →
    ((s.d.queuedAt p a len).1.length < 32 →
      ∃ d, exec (.memRequestAccept t p a len ⟨none, ns⟩) s = .next (s.moved t d) ∧ d.mem = s.d.mem ∧
        d.memReads = s.d.memReads ++ [{ port := p, addr := a, len := len, at_ := rawAt t s }]) ∧
    (32 ≤ (s.d.queuedAt p a len).1.length → exec (.memRequestAccept t p a len ⟨none, ns⟩) s = .next (s.moved t (begun s.d)))) ∧
  (∀ (t a len : Nat) (wr : Option (List Byte)) (ns : Bool) (s : State), Awake s →
    coreBusError s.d a (match wr with | some b => b.length | none => len) wr.isSome ns = true →
    exec (.memRequestAccept t 20 a len ⟨wr, ns⟩) s = .next (s.moved t ((begun s.d).emit (.busError a)))) ∧
  (∀ (t p symbol rank slot : Nat) (q : MemReq) (s : State), okMemPort p = true → okRank rank = true → Awake s →
    nextRead (envOf t s) (begun s.d) p = some q → s.d.mig = none →
    let rest := s.d.memReads.erase q
    let h := hostDecode s.d q.addr
    (p ≠ 20 ∨ (memRead s.d q.addr q.len).2 = false → (∀ b ∈ s.d.poison, b ≠ q.addr / 64) → (∀ a ∈ hostAddr s.d h.1 h.2.1, s.d.poison.contains (a / 64) = false) →
      ∃ d, exec (.memReadDone t p 0 symbol rank slot) s = .next (s.moved t d) ∧ d.mem = s.d.mem ∧ d.poison = s.d.poison ∧
        d.memReads = rest ∧ d.resp = { status := stOK, val := .blob (memBytes s.d.mem q.addr q.len) }) ∧
    (∀ a ∈ hostAddr s.d h.1 h.2.1, s.d.poison.contains (a / 64) = false → s.d.inForce = [] →
      ∃ d, exec (.memReadDone t p 2 symbol rank slot) s = .next (s.moved t d) ∧ d.mem = s.d.mem ∧ d.poison = ascPut s.d.poison (a / 64) ∧
        d.memReads = rest ∧ d.gi 0x1701 2 = (s.d.gi 0x1701 2 + 1) % 4294967296)) ∧
  (∀ (t blk symbol : Nat) (s : State), Awake s → memReady s.d = true → scrubFirst s.d s.d.scrubAt.1 = some s.d.scrubAt.1 →
    (∀ a ∈ hostAddr s.d s.d.scrubAt.1 (10 * s.d.scrubAt.2 + min blk 8), s.d.poison.contains (a / 64) = false) →
    s.d.scrubAt.2 + 1 < eccGroups s.d →
    exec (.scrubRead t 0 blk symbol) s = .next (s.moved t { begun s.d with scrubAt := (s.d.scrubAt.1, s.d.scrubAt.2 + 1) }))

/-- Refresh, calm, migration and start-up (R388 to R391, R397, R398). REFRESH_DUE in a gust postpones, up to 8, and then forces and counts one; outside it the
rank wakes. GUST_END issues what was postponed and pulls in. MR4_READ is kept; CALM_ENTRY puts an idle rank into power-down. MIGRATE_CMD queues a rank-channel
whose group has a spare, and offers SPARE_LOST for another; MIGRATION_START begins the copy onto the spare, and MIGRATION_DONE switches the slot map
to it. MEMORY_STARTUP trains: the controller serves, empty, on the map that the failed rank-channels leave.
Where the rules leave a corner open, a clause states the model's choice: assumption log 73. -/
def Obligations.RefreshAndMigrationFollowTheirRules : Prop :=
  (∀ (t r : Nat) (s : State), okRank r = true → Awake s → memReady s.d = true → (s.d.rank r).pulled = 0 →
    let x := s.d.rank r
    let i := 0x1780 + r
    (inGust (envOf t s) (begun s.d) r = false → exec (.refreshDue t r false) s = .next (s.moved t
      ((begun s.d).setRank r { x with calm := false }))) ∧
    (inGust (envOf t s) (begun s.d) r = true → x.postponed < 8 → exec (.refreshDue t r false) s = .next (s.moved t
      ((((begun s.d).setRank r { x with postponed := x.postponed + 1 }).peak i 4 (x.postponed + 1 : Nat)).publish i))) ∧
    (inGust (envOf t s) (begun s.d) r = true → 8 ≤ x.postponed → exec (.refreshDue t r false) s = .next (s.moved t
      (((begun s.d).incP i 5).raise (envOf t s) 0x245 r)))) ∧
  (∀ (t r : Nat) (s : State), okRank r = true → Awake s → memReady s.d = true → inGust (envOf t s) (begun s.d) r = false →
    let x := s.d.rank r
    (x.lastRt ≠ none → exec (.gustEnd t r) s = .next (s.moved t ((begun s.d).setRank r
      { x with postponed := 0, lastRt := none, pulled := if rankQueued s.d r false then 0 else s.d.gn 0x1700 6 }))) ∧
    (s.d.gn 0x1700 4 ≠ 0 → x.calm = false → rankQueued s.d r false = false → x.postponed = 0 →
      x.lastServed + s.d.gn 0x1700 4 * 16 ≤ rawAt t s →
      exec (.calmEntry t r) s = .next (s.moved t (((begun s.d).setRank r { x with calm := true }).incP (0x1780 + r) 6)))) ∧
  (∀ (t r v : Nat) (s : State), okRank r = true → Awake s → memReady s.d = true → v < 256 →
    exec (.mr4Read t r v) s = .next (s.moved t ((begun s.d).pub (0x1780 + r) [(7, (v : Nat))]))) ∧
  (∀ (t : Nat) (m : Master) (r : Nat) (s : State), masterOk m = true → Awake s → s.d.accepts m 0x1700 0x0E r = true → r < 96 →
    (slotOf s.d r ≠ none → migBusy s.d r = false → tabFind s.d.spares (r / 8) ≠ none → exec (.migrateCmd t m r) s = .next (s.moved t
      ((({ begun s.d with migs := s.d.migs ++ [r] }).pub 0x1701 [(9, ((s.d.migs.length + 1 : Nat) : Int))]).ended m stOK))) ∧
    (slotOf s.d r ≠ none → migBusy s.d r = false → tabFind s.d.spares (r / 8) = none → exec (.migrateCmd t m r) s = .next (s.moved t
      (((begun s.d).raise (envOf t s) 0x244 (r / 8)).ended m stOK)))) ∧
  (∀ (t r sp : Nat) (rest : List Nat) (s : State), Awake s → s.d.mig = none → s.d.migs = r :: rest → tabFind s.d.spares (r / 8) = some sp →
    ∃ d, exec (.migrationStart t) s = .next (s.moved t d) ∧ d.migs = rest ∧ d.mig = some { src := r, dst := sp, at_ := rawAt t s } ∧
      d.memLost = [] ∧ d.ustate (0x290 + sp) = .shadow ∧ d.slots = s.d.slots ∧ d.mem = s.d.mem) ∧
  (∀ (t : Nat) (x : Mig) (s : State), Awake s → s.d.mig = some x → x.at_ + migTime s.d ≤ rawAt t s → x.src ≠ x.dst →
    ∃ d, exec (.migrationDone t) s = .next (s.moved t d) ∧ d.mig = none ∧ d.ustate (0x290 + x.dst) = .inService ∧
      d.ustate (0x290 + x.src) = .off ∧ d.mem = s.d.mem ∧
      tabGet d.slots [] (x.src / 8) = (tabGet s.d.slots [] (x.src / 8)).map (fun r => if r = x.src then x.dst else r)) ∧
  (∀ (t density : Nat) (failed : List Nat) (s : State), Awake s → s.d.pow.boot = .step 4 →
    let up := (List.range 12).map (fun g => groupUp g (s.d.gn (0x1708 + g) 1) failed)
    ((∀ x ∈ up, x ≠ none) → tabFind s.d.inForce (okey 0x1700 3) = none → ∃ d, exec (.memoryStartup t density failed) s = .next (s.moved t d) ∧ d.mem = [] ∧ d.poison = [] ∧
      d.memReads = [] ∧ d.migs = [] ∧ d.mig = none ∧ d.scrubAt = (0, 0) ∧ d.pow.boot = .step 5 ∧ d.ustate 0x032 = .inService ∧
      d.gn 0x1700 3 = 84 * (density * 134217728 / 640) * 576 ∧
      ∀ g, g < 12 → tabGet d.slots [] g = ((nth up g none).getD ([], none)).1) ∧
    ((∃ x ∈ up, x = none) → exec (.memoryStartup t density failed) s =
      .next (s.moved t (({ begun s.d with pow := { s.d.pow with boot := .halted } }).put 0x1230 4 3))))

/-- The flow budget and the queues' counters (R417, R419, R420, R422, R423). BUDGET_RECOMPUTE publishes the port's budget, each time from tt to ns, and a negative
SLACK offers BUDGET_WARN. PACE_SHORT offers its event once a pace has stayed below the demand for 1 ms. CLEAR_COUNTS at 1 returns the six counters of each of the
76 queues to 0 and publishes each group that was ever published; at 0 it does nothing.
Where the rules leave a corner open, a clause states the model's choice: assumption log 74. -/
def Obligations.QueueCountersAndBudgetFollowTheirRules : Prop :=
  (∀ (t p : Nat) (s : State), okPort p = true → Awake s →
    let slack := 2 * (s.d.gn (0x3580 + p) 3 : Int) - (tWire s.d p + 3200 + tDrain s.d p : Nat)
    let d := (begun s.d).pub (0x1820 + p) [(1, ((tWire s.d p) / 16 : Nat)), (2, ((tDrain s.d p) / 16 : Nat)), (3, slack / 16),
      (4, if 0 ≤ slack then 1 else 0), (5, (demandOf (envOf t s) (begun s.d) p : Nat)), (6, (paceOf s.d p : Nat)),
      (7, (stallTol s.d p (paceOf s.d p) : Nat))]
    exec (.budgetRecompute t p) s = .next (s.moved t (if slack < 0 then d.raise (envOf t s) 0x261 p else d))) ∧
  (∀ (t p since : Nat) (s : State), okPort p = true → Awake s → tabFind s.d.paceLow (servedBy s.d p) = some (since, false) →
    demandOf (envOf t s) (begun s.d) p ≠ 0 → paceOf s.d p < demandOf (envOf t s) (begun s.d) p → since + 16000000 ≤ rawAt t s →
    exec (.paceShort t p) s = .next (s.moved t { (begun s.d).raise (envOf t s) 0x262 (servedBy s.d p) with paceLow := tabSet s.d.paceLow (servedBy s.d p) (since, true) })) ∧
  (∀ (t : Nat) (m : Master) (s : State), masterOk m = true → Awake s →
    (s.d.accepts m 0x1800 3 1 = true → s.d.inForce = [] → exec (.queueClearCounts t m 1) s = .next (s.moved t
      (((List.range 76).foldl (fun d q =>
        let c := [4, 5, 6, 7, 8, 9].foldl (fun (d : Dev) k => { d with o := tabErase d.o (okey (0x1880 + q) k) }) d
        if d.gn (0x1880 + q) 0 = 0 then c else c.publish (0x1880 + q)) (begun s.d)).ended m stOK))) ∧
    (s.d.accepts m 0x1800 3 0 = true → exec (.queueClearCounts t m 0) s = .next (s.moved t ((begun s.d).ended m stOK))))

/-- Look-back tiles and crops (R428 to R437). The oldest tile that was coded is put into its ring, RAW with the ring set so, and counted; for want of credit it is lost,
which the band's entry and TILES_DROPPED say, and TILE_DROP is offered. A crop whose window is indexed is cut out of its decoded tiles, and waits;
CROP_DONE codes it and writes header and blocks to the crop ring, counts it and offers CROP_READY; CROP_TIMEOUT ends it as TIMEOUT.
Where the rules leave a corner open, a clause states the model's choice: assumption log 75, 76 and 122. -/
def Obligations.TilesAndCropsFollowTheirRules : Prop :=
  (∀ (t : Nat) (mismatch : Bool) (x : Tile) (w : BandOut) (s : State), Awake s → s.d.comp.work = [x] → x.lane ≠ none → x.last = false →
    (s.d.lring x.ring).writing = some w →
    let r := s.d.lring x.ring
    let d := { begun s.d with comp := { s.d.comp with work := [] } }
    let lost := { r with writing := some { w with dropped := w.dropped + 1 } }
    (r.dropAt = none → exec (.tileWritten t false mismatch) s = .next (s.moved t
      ((((d.setLring x.ring lost).incP 0x1A40 2).setLring x.ring { lost with dropAt := some (rawAt t s) }).raise (envOf t s) 0x271 x.ring))) ∧
    (∀ a ∈ r.dropAt, rawAt t s < a + 16000000 → exec (.tileWritten t false mismatch) s = .next (s.moved t
      ((d.setLring x.ring lost).incP 0x1A40 2)))) ∧
  (∀ (t : Nat) (mismatch : Bool) (x : Tile) (w : BandOut) (s : State), Awake s → s.d.comp.work = [x] → x.lane ≠ none → x.last = false →
    x.ring = 0 → (s.d.lring 0).writing = some w → s.d.gn 0x1A01 3 = 1 → memReady s.d = true →
    let h : BlockHead := { coding := 1, near := 0, bits := x.bits, layout := x.plane * 64, flags := x.flags, wp := gridWp s.d x.first, col := s.d.gn 0x1B00 2 + x.tile * s.d.gn 0x1A00 1, cols := x.cols, lines := x.lines, origin := ownOrigin s.d, bytes := (packLsb x.bits x.samples).length }
    let b := padTo (h.put ++ packLsb x.bits x.samples ++ toLE 4 (dataCrc x.samples)) (blockLen h.bytes) 0
    let a := w.start + w.bytes.length
    a + b.length ≤ s.d.gn 0x1A01 4 + s.d.gn 0x1A01 5 → w.bytes.length + b.length ≤ s.d.gn 0x1A01 5 → a + b.length ≤ hostBytes s.d →
    ∃ d, exec (.tileWritten t true mismatch) s = .next (s.moved t d) ∧ d.mem = memPut s.d.mem a b ∧ d.comp.work = [] ∧
      (d.lring 0).writing = some { start := w.start, bytes := w.bytes ++ b, tiles := w.tiles + 1, dropped := w.dropped, flags := w.flags ||| x.flags % 4 } ∧
      (d.lring 0).wp = a + b.length ∧ (s.d.inForce = [] → d.gi 0x1A40 1 = (s.d.gi 0x1A40 1 + 1) % 4294967296)) ∧
  (∀ (t : Nat) (c : Crop) (ls : List Nat) (d1 d2 : Dev) (ts : List CropTile) (s : State), Awake s → s.d.cropQ = [] → s.d.comp.crops = [c] → c.cut = none →
    s.d.ustate 0x031 = .inService → bandIndexed s.d (c.m1 - c.m1 % 64) = true →
    lanesTake (begun s.d) (rasterPlanes s.d).length = (some ls, d1) →
    cropRead (ls.headD 0) d1 c ((c.m1 - c.m1 % 64 - (c.m0 - c.m0 % 64)) / 64 + 1).toNat (c.m0 - c.m0 % 64) [] = (d2, .inr ts) → d2.comp.crops = s.d.comp.crops →
    let lines := (c.m1 + 1 - c.m0).toNat
    let rows (p : Nat) := (List.range lines).map (fun (j : Nat) => cropRow (d2.gn 0x1B00 2) c ts p (c.m0 + j))
    (∀ p ∈ rasterPlanes s.d, ∀ r ∈ rows p, ∀ v ∈ r, v ≠ none) →
    ∃ d, exec (.cropStart t) s = .next (s.moved t d) ∧ d.mem = s.d.mem ∧ d.comp.crops = [{ c with lanes := ls, cut := some (ts.foldl (fun a t => a ||| t.2.2.2.2.1 % 4) 0 + 4 + 64 * b2n c.clipped,
        (rasterPlanes s.d).map (fun p => (p, (rows p).flatMap (fun r => r.filterMap id)))) }]) ∧
  (∀ (t : Nat) (c : Crop) (fl : Nat) (cut : List (Nat × List Nat)) (s : State), Awake s → s.d.comp.crops = [c] → c.cut = some (fl, cut) →
    memReady s.d = true →
    let bs := cut.map fun q => (makeBlock
      { coding := 0, near := s.d.gn 0x1A03 8, bits := rasterBits s.d, layout := q.1 * 64, flags := fl, wp := gridWp s.d c.m0,
        col := s.d.gn 0x1B00 2 + c.c0, cols := c.c1 + 1 - c.c0, lines := (c.m1 + 1 - c.m0).toNat, origin := ownOrigin s.d, bytes := 0 }
      q.2 false false).1
    let n := 32 + bs.flatten.length
    let base := s.d.gn 0x1A03 1
    let a := s.d.gn 0x1A03 3
    base ≤ a → a + n ≤ base + s.d.gn 0x1A03 2 → a + n ≤ hostBytes s.d → s.d.inForce = [] →
    let head := [0x10] ++ toLE 1 bs.length ++ [0, 0] ++ toLE 2 (leAt c.src.bytes 4 2) ++ toLE 2 (devNo s.d) ++ toLE 4 c.src.seqNo ++ toLE 4 n ++
      toLE 8 (s.applied t) ++ List.replicate 8 0
    ∃ d, exec (.cropDone t []) s = .next (s.moved t d) ∧ d.mem = memPut s.d.mem a (head ++ bs.flatten) ∧ d.comp.crops = [] ∧
      d.comp.lanes = s.d.comp.lanes.filter (fun l => !c.lanes.contains l) ∧
      d.gn 0x1A03 3 = (if base + s.d.gn 0x1A03 2 = a + n then base else a + n) ∧
      d.gi 0x1A40 7 = (s.d.gi 0x1A40 7 + 1) % 4294967296 ∧ d.offers = (s.d.raise (envOf t s) 0x272 c.src.seqNo).offers) ∧
  (∀ (t : Nat) (c : Crop) (s : State), Awake s → s.d.cropQ = [] → s.d.comp.crops = [c] → c.cut = none →
    bandIndexed s.d (c.m1 - c.m1 % 64) = false → c.at_ + s.d.gn 0x1A03 9 * 16000 ≤ rawAt t s →
    let k := padTo (s.d.gB 0x1A40 8) 16 0
    exec (.cropTimeout t) s = .next (s.moved t
      ((({ begun s.d with comp := { s.d.comp with crops := [] } }.putB 0x1A40 8 (patch k 8 (toLE 4 ((leAt k 8 4 + 1) % 4294967296)))).publish 0x1A40).raise
        (envOf t s) 0x273 c.src.seqNo)))

/-- Jobs for the cores (R427, R440, R441, R443). A JOB_TAIL that leaves one job waiting starts it on a free lane, a decoding lane for DECOMPRESS and one of the coding lanes for any other; a unit that runs no jobs keeps it waiting.
A DECOMPRESS job whose block is right writes its samples, two bytes each, and its completion, and offers JOB_DONE; a descriptor of no known operation
completes with STATUS 5.
Where the rules leave a corner open, a clause states the model's choice: assumption log 75 and 76. -/
def Obligations.JobsFollowTheirRules : Prop :=
  (∀ (t : Nat) (m : Master) (v : Int) (s : State), masterOk m = true → Awake s → s.d.accepts m 0x1A04 3 v = true →
    (s.d.ustate 0x031 = .shadow ∨ s.d.ustate 0x031 = .bypass → exec (.jobTailWrite t m v) s = .next (s.moved t
      (((begun s.d).put 0x1A04 3 v).ended m stOK))) ∧
    (∀ j d1, s.d.ustate 0x031 = .inService ∨ s.d.ustate 0x031 = .test → s.d.inForce = [] → s.d.comp.jobs = [] → 1 < s.d.gn 0x1A04 2 →
      s.d.gn 0x1A04 4 + 1 < s.d.gn 0x1A04 2 → v = (s.d.gn 0x1A04 4 : Nat) + 1 → 
      jobLane (begun s.d) (memRead s.d (s.d.gn 0x1A04 1 + 64 * s.d.gn 0x1A04 4) 64).1 = some (j, d1) →
      ∃ d, exec (.jobTailWrite t m v) s = .next (s.moved t d) ∧ d.gi 0x1A04 3 = v ∧ d.gi 0x1A04 4 = v ∧
        d.comp.jobs = [j] ∧ j.desc = (memRead s.d (s.d.gn 0x1A04 1 + 64 * s.d.gn 0x1A04 4) 64).1 ∧
        (j.dec = false → j.lane ∈ d.comp.lanes) ∧ (j.dec = true → leAt j.desc 0 1 = 2 ∧ j.lane ∈ d.comp.decs) ∧ d.mem = s.d.mem)) ∧
  (∀ (t : Nat) (mismatch : Bool) (b : List Byte) (lane : Nat) (dec : Bool) (s : State), Awake s →
    s.d.comp.jobs = [{ desc := b, lane := lane, dec := dec }] → s.d.inForce = [] → memReady s.d = true →
    s.d.gn 0x1A04 6 + 1 < s.d.gn 0x1A04 2 → jobsWaiting s.d = 0 →
    let dst := leAt b 24 8
    let at_ := s.d.gn 0x1A04 5 + 32 * s.d.gn 0x1A04 6
    at_ + 32 ≤ hostBytes s.d →
    (leAt b 0 1 ≠ 1 → leAt b 0 1 ≠ 2 → ∃ d, exec (.jobComplete t 0 mismatch) s = .next (s.moved t d) ∧ d.comp.jobs = [] ∧
      d.mem = memPut s.d.mem at_ (slice b 48 8 ++ [5] ++ List.replicate 23 0) ∧ d.gi 0x1A04 6 = s.d.gn 0x1A04 6 + 1 ∧
      d.offers = (s.d.raise (envOf t s) 0x275 (leAt b 48 4)).offers) ∧
    (∀ blk h l, leAt b 0 1 = 2 → leAt b 1 1 = 0 → leAt b 40 8 % 4096 = 0 → memRead s.d (leAt b 8 8) (leAt b 16 4) = (blk, false) →
      BlockHead.get blk = some h → h.cols * h.lines * 2 ≤ leAt b 32 8 → 36 + h.bytes ≤ leAt b 16 4 → l ≠ [] → dst + 2 * l.length ≤ hostBytes s.d →
      blockSamples h (slice blk 32 h.bytes) (leAt blk (32 + h.bytes) 4) = (0, l) →
      ∃ d, exec (.jobComplete t 0 mismatch) s = .next (s.moved t d) ∧ d.comp.jobs = [] ∧
        d.mem = memPut (memPut s.d.mem dst (l.flatMap (toLE 2))) at_ (slice b 48 8 ++ [0] ++ toLE 1 h.coding ++ [0, 0] ++ toLE 4 h.lines ++
          toLE 8 (blockLen h.bytes) ++ toLE 8 (2 * l.length)) ∧
        d.gi 0x1A04 6 = s.d.gn 0x1A04 6 + 1 ∧ d.offers = (s.d.raise (envOf t s) 0x275 (leAt b 48 4)).offers))

/-- Frames of a management port (R449 to R453). A frame with a bad FCS is counted and dropped; an ARP request for IP_ADDR is answered; a frame to the MAC address is put
into the receive ring, stamped. A TX_TAIL that leaves one filled slot, not poisoned, sends it, padded to 60 bytes, and keeps its stamp where TS_REQ asks for it and the
queue has room; for want of room the stamp is lost, counted and TS_OVERFLOW offered, and the frame is sent all the same. TS_POP removes and returns the oldest stamp,
and 16 zero bytes where there is none. LINK_UP and LINK_DOWN publish the link and offer their events.
Where the rules leave a corner open, a clause states the model's choice: assumption log 77, 79 and 123. -/
def Obligations.ManagementFramesFollowTheirRules : Prop :=
  (∀ (t g : Nat) (b : List Byte) (s : State), okMg g = true → Awake s → mgTakes s.d g = true →
    (exec (.frameRx t g false b) s = .next (s.moved t ((begun s.d).incP (0x1402 + g) 5))) ∧
    (60 ≤ b.length → b.length ≤ 1518 → s.d.gn (0x1400 + g) 7 = 0xFFFF →
      let p := b.drop 14
      let et := beAt b 12 2
      (et = 0x0806 → beAt p 6 2 = 1 → slice p 24 4 = ipOf s.d g → exec (.frameRx t g true b) s = .next (s.moved t
        ((((begun s.d).incP (0x1402 + g) 3).emit (.frame g (padTo (slice b 6 6 ++ macOf s.d g ++ [0x08, 0x06] ++
          (slice p 0 6 ++ [0, 2] ++ macOf s.d g ++ ipOf s.d g ++ slice p 8 10)) 60 0))).incP (0x1402 + g) 4))) ∧
      (et ≠ 0x0806 → et ≠ 0x0800 → et ≠ 0x88F7 → slice b 0 6 = macOf s.d g → memReady s.d = true →
        let i := 0x1404 + g
        let n := s.d.gn i 6
        let h := s.d.gn i 7
        let a := s.d.gn i 5 + 2048 * (h % n)
        n ≠ 0 → (h + 1) % n ≠ s.d.gn i 8 % n → a + 32 + b.length ≤ hostBytes s.d → s.d.inForce = [] →
        ∃ d, exec (.frameRx t g true b) s = .next (s.moved t d) ∧ d.gi i 7 = ((h + 1) % n : Nat) ∧ d.out = [] ∧
          d.gi (0x1402 + g) 3 = (s.d.gi (0x1402 + g) 3 + 1) % 18446744073709551616 ∧
          d.mem = memPut s.d.mem a (toLE 2 b.length ++ List.replicate 6 0 ++
            toLE 8 (wrapU 64 ((s.stamped t : Int) - s.d.gi (0x1400 + g) 8)) ++ List.replicate 16 0 ++ b)))) ∧
  (∀ (t g : Nat) (m : Master) (s : State), masterOk m = true → okMg g = true → Awake s → s.d.inForce = [] → s.d.inSvc (5 + g) = true → s.d.gn (0x1402 + g) 1 = 1 →
    let i := 0x1404 + g
    let h := s.d.gn i 4
    let a := s.d.gn i 1 + 2048 * h
    let head := (memRead s.d a 32).1
    let len := leAt head 0 2
    let f := Out.frame g (padTo (memRead s.d (a + 32) len).1 60 0)
    let d := ((begun s.d).put i 3 (h + 1 : Nat)).put i 4 (h + 1 : Nat)
    let stamp := wrapU 64 ((s.stamped t : Int) + s.d.gi (0x1400 + g) 9)
    s.d.accepts m i 3 (h + 1 : Nat) = true → h + 1 < s.d.gn i 2 →
    (memRead s.d a 32).2 = false → (memRead s.d (a + 32) len).2 = false → 14 ≤ len → len ≤ 1518 →
    (leAt head 2 1 % 2 = 0 → exec (.txTailWrite t m g (h + 1 : Nat)) s = .next (s.moved t (((d.emit f).incP (0x1402 + g) 4).ended m stOK))) ∧
    (leAt head 2 1 % 2 = 1 → s.d.net.stamps.length < 16 → exec (.txTailWrite t m g (h + 1 : Nat)) s = .next (s.moved t
      ((((({ d with net := { d.net with stamps := s.d.net.stamps ++ [(g, leAt head 4 2, stamp)] } }.put 0x1410 2 (s.d.net.stamps.length + 1 : Nat)).emit f).incP
        (0x1402 + g) 4)).ended m stOK))) ∧
    (leAt head 2 1 % 2 = 1 → 16 ≤ s.d.net.stamps.length → exec (.txTailWrite t m g (h + 1 : Nat)) s = .next (s.moved t
      ((((((d.inc 0x1410 3).raise (envOf t s) 0x286 g).emit f).incP (0x1402 + g) 4)).ended m stOK)))) ∧
  (∀ (t : Nat) (m : Master) (s : State), masterOk m = true → Awake s →
    (s.d.net.stamps = [] → exec (.tsPop t m) s = .next (s.moved t { begun s.d with resp := { status := stOK, val := .blob (List.replicate 16 0) } })) ∧
    (∀ g id stamp r, s.d.net.stamps = (g, id, stamp) :: r → exec (.tsPop t m) s = .next (s.moved t
      { ({ begun s.d with net := { s.d.net with stamps := r } }.put 0x1410 2 (r.length : Nat)) with resp := { status := stOK, val := .blob (toLE 1 (1 + 2 * g) ++ [0] ++ toLE 2 id ++ [0, 0, 0, 0] ++ toLE 8 stamp) } }))) ∧
  (∀ (t g speed : Nat) (s : State), okMg g = true → Awake s → s.d.inForce = [] →
    (s.d.gn (0x1400 + g) 1 ≠ 0 → s.d.inSvc (5 + g) = true → s.d.gn (0x1402 + g) 1 ≠ 1 →
      s.d.gn (0x1404 + g) 4 % s.d.gn (0x1404 + g) 2 = s.d.gn (0x1404 + g) 3 % s.d.gn (0x1404 + g) 2 →
      let sp : Nat := if s.d.gn (0x1400 + g) 1 = 1 ∨ s.d.gb (0x1400 + g) 2 = false then 2 else min speed 2
      exec (.linkUp t g speed) s = .next (s.moved t ((((begun s.d).inc (0x1402 + g) 9).pub (0x1402 + g) [(1, 1), (2, (sp : Nat))]).raise (envOf t s) 0x280 g))) ∧
    (s.d.gn (0x1402 + g) 1 ≠ 0 → exec (.linkDown t g) s = .next (s.moved t
      ((((begun s.d).inc (0x1402 + g) 9).pub (0x1402 + g) [(1, 0)]).raise (envOf t s) 0x281 g))))

/-- PTP messages of a slot (R454 to R457). A two-step Sync waits for its Follow_Up with N(t2) and its correction; one that another Sync overtakes is counted.
An offset measured is published and runs through the servo; the selected slot writes its rate into the time unit. A Delay_Resp gives the mean path delay.
An Announce of the first master heard is followed. A Pdelay_Req is answered with the response and its follow-up; the exchange of this device's own Pdelay_Req gives the peer delay. The
slot's next Delay_Req or Pdelay_Req is sent when due.
Where the rules leave a corner open, a clause states the model's choice: assumption log 77, 78 and 123. -/
def Obligations.PtpMessagesFollowTheirRules : Prop :=
  (∀ (t g k : Nat) (l2 : Bool) (msg : List Byte) (s : State), okMg g = true → Awake s → s.d.inForce = [] → slotsFor s.d g l2 msg 0 = [k] →
    (s.d.slot k).master = some (ptpFrom msg) →
    let x := s.d.slot k
    let x1 := { x with syncAt := some (rawAt t s), logSync := clampI (-7) 1 (wrapI 8 (beAt msg 33 1)), wait := none }
    let t2 := (wrapU 64 ((s.stamped t : Int) - s.d.gi (0x1400 + g) 8) : Nat) + (s.tu.epoch : Int) * 16000000000
    let seen := ((begun s.d).setSlot k x1).incP (0x1344 + k) 7
    (bit (beAt msg 6 1) 1 = true → exec (.syncRx t g l2 msg) s = .next (s.moved t
      ((if x.wait = none then seen else seen.incP (0x1344 + k) 8).setSlot k { x1 with wait := some { seq := beAt msg 30 2, t2 := t2, corr := ptpCorr msg } }))) ∧
    (∀ m2 kp ki, f32.read (s.d.gn (0x1341 + k) 0x0A) = some kp → f32.read (s.d.gn (0x1341 + k) 0x0B) = some ki →
      bit (beAt msg 6 1) 1 = false → s.d.gn (0x1341 + k) 4 = 0 → x.mpd2 = some m2 → s.d.gn 0x1340 4 = k → k < 2 → s.d.gn (0x1344 + k) 1 = 3 → x.far < 3 →
      let off := (2 * (t2 - ptpTime msg 34 - ptpCorr msg) - m2 - 2 * s.d.gi (0x1341 + k) 9) / 2
      let e := Frac.ofInt (off + slewLeft (envOf t s) (begun s.d))
      let i := Frac.add { n := x.iNum, d := x.iDen } (ki.mul (e.mul (pow2F x1.logSync)))
      ∃ u, exec (.syncRx t g l2 msg) s = .next u ∧ u.d.gi (0x1344 + k) 4 = off ∧ u.d.gi (0x1344 + k) 5 = m2 / 2 ∧ u.tu.state = s.tu.state ∧
        u.tu.par.rate = clampI (-112589990684) 112589990684 ((kp.mul e).add i).neg.floor)) ∧
  (∀ (t g k : Nat) (l2 : Bool) (msg : List Byte) (w : SyncWait) (m2 : Int) (kp ki : Frac) (s : State), okMg g = true → Awake s → s.d.inForce = [] →
    f32.read (s.d.gn (0x1341 + k) 0x0A) = some kp → f32.read (s.d.gn (0x1341 + k) 0x0B) = some ki → slotsFor s.d g l2 msg 8 = [k] →
    (s.d.slot k).master = some (ptpFrom msg) → (s.d.slot k).wait = some w → w.seq = beAt msg 30 2 → s.d.gn (0x1341 + k) 4 = 0 →
    (s.d.slot k).mpd2 = some m2 → s.d.gn 0x1340 4 ≠ k → s.d.gn (0x1344 + k) 1 ≠ 3 → (s.d.slot k).near + 1 < s.d.gn (0x1341 + k) 0x0D → (s.d.slot k).was = false →
    let x := s.d.slot k
    let ms := w.t2 - ptpTime msg 34 - w.corr - ptpCorr msg
    let off := (2 * ms - m2 - 2 * s.d.gi (0x1341 + k) 9) / 2
    let er := off + slewLeft (envOf t s) (begun s.d)
    let e := Frac.ofInt er
    let i := Frac.add { n := x.iNum, d := x.iDen } (ki.mul (e.mul (pow2F x.logSync)))
    ∃ d, exec (.followUpRx t g l2 msg) s = .next (s.moved t d) ∧ d.gi (0x1344 + k) 4 = off ∧ d.gi (0x1344 + k) 5 = m2 / 2 ∧
      d.gi (0x1344 + k) 6 = clampI (-112589990684) 112589990684 ((kp.mul e).add i).neg.floor ∧
      d.slot k = { x with wait := none, ms := some ms, t1 := ptpTime msg 34, e := er, iNum := i.n, iDen := i.d, near := if er.natAbs ≤ s.d.gn (0x1341 + k) 0x0C then x.near + 1 else 0, far := if s.d.gn (0x1341 + k) 0x0E < er.natAbs then x.far + 1 else 0 }) ∧
  (∀ (t g k seq : Nat) (l2 : Bool) (msg : List Byte) (t3 ms : Int) (s : State), okMg g = true → Awake s → slotsFor s.d g l2 msg 9 = [k] → (s.d.slot k).master = some (ptpFrom msg) →
    (s.d.slot k).req = some (seq, t3) → (s.d.slot k).ms = some ms → seq = beAt msg 30 2 → slice msg 44 10 = ownPort s.d g → s.d.gn (0x1341 + k) 4 = 0 →
    let m2 := ms + (ptpTime msg 34 - t3 - ptpCorr msg)
    exec (.ptpDelayRespRx t g l2 msg) s = .next (s.moved t
      (((begun s.d).setSlot k { s.d.slot k with req := none, mpd2 := some m2 }).pub (0x1344 + k) [(5, m2 / 2)]))) ∧
  (∀ (t g k : Nat) (l2 : Bool) (src msg : List Byte) (s : State), okMg g = true → Awake s → s.d.inForce = [] → slotsFor s.d g l2 msg 11 = [k] → (s.d.slot k).foreign = [] →
    (s.d.slot k).master = none → s.d.gn (0x1344 + k) 1 = 1 → s.d.gn 0x1340 4 = 255 →
    ∃ d, exec (.announceRx t g ⟨l2, src⟩ msg) s = .next (s.moved t d) ∧ (d.slot k).master = some (beAt msg 20 10) ∧ (d.slot k).mpd2 = none ∧
      (d.slot k).foreign.map (fun f => (f.id, f.from_, f.gm, f.cls, f.at_)) = [(beAt msg 20 10, src, beAt msg 53 8, beAt msg 48 1, rawAt t s)] ∧
      d.gi (0x1344 + k) 1 = 2 ∧ d.gi (0x1344 + k) 2 = (beAt msg 53 8 : Nat) ∧ d.gi (0x1344 + k) 3 = (beAt msg 48 1 : Nat) ∧
      d.gi 0x1340 5 = wrapI 16 (beAt msg 44 2)) ∧
  (∀ (t g k : Nat) (rest : List Nat) (msg : List Byte) (s : State), okMg g = true → Awake s → s.d.gn (0x1400 + g) 7 = 0xFFFF →
    (slotsFor s.d g true msg 2).filter (fun k => s.d.gn (0x1341 + k) 4 == 1) = k :: rest → s.d.gb (0x1341 + k) 3 = true →
    let rx := ptpStampOf ((wrapU 64 ((s.stamped t : Int) - s.d.gi (0x1400 + g) 8) : Nat) + (s.tu.epoch : Int) * 16000000000)
    let tx := ptpStampOf ((wrapU 64 ((s.stamped t : Int) + s.d.gi (0x1400 + g) 9) : Nat) + (s.tu.epoch : Int) * 16000000000)
    let frame (body : List Byte) := Out.frame g (padTo ([0x01, 0x80, 0xC2, 0x00, 0x00, 0x0E] ++ macOf s.d g ++ [0x88, 0xF7] ++ body) 60 0)
    exec (.pdelayReqRx t g true msg) s = .next (s.moved t
      (((((begun s.d).emit (frame (ptpMsg s.d g k 3 0x0200 (wrapU 64 (-(rx.2 : Int))) (beAt msg 30 2) 5 0x7F (rx.1 ++ slice msg 20 10)))).incP (0x1402 + g) 4).emit
        (frame (ptpMsg s.d g k 10 0 ((beAt msg 8 8 + tx.2) % 2 ^ 64) (beAt msg 30 2) 5 0x7F (tx.1 ++ slice msg 20 10)))).incP (0x1402 + g) 4))) ∧
  (∀ (t g : Nat) (l2 : Bool) (msg : List Byte) (t1 : Int) (s : State), okMg g = true → Awake s → (s.d.peer g).t1 = some t1 → (s.d.peer g).seq = beAt msg 30 2 →
    slice msg 44 10 = ownPort s.d g →
    let x := s.d.peer g
    let t4 := (wrapU 64 ((s.stamped t : Int) - s.d.gi (0x1400 + g) 8) : Nat) + (s.tu.epoch : Int) * 16000000000
    ((∃ k ∈ slotsFor s.d g l2 msg 3, s.d.gn (0x1341 + k) 4 = 1) → bit (beAt msg 6 1) 1 = true → exec (.pdelayRespRx t g l2 msg) s = .next (s.moved t
      ((begun s.d).setPeer g { x with resp := some (t4, ptpTime msg 34, ptpCorr msg) }))) ∧
    ((∃ k ∈ slotsFor s.d g l2 msg 3, s.d.gn (0x1341 + k) 4 = 1) → bit (beAt msg 6 1) 1 = false → exec (.pdelayRespRx t g l2 msg) s = .next (s.moved t
      ((begun s.d).setPeer g { x with t1 := none, resp := none, mpd2 := some (t4 - t1 - ptpCorr msg) }))) ∧
    (∀ k r4 r2 c, (∃ k ∈ slotsFor s.d g l2 msg 10, s.d.gn (0x1341 + k) 4 = 1) → x.resp = some (r4, r2, c) →
      [0, 1].filter (fun k => bit (s.d.gn 0x1340 1) k && s.d.gn (0x1341 + k) 2 == g && s.d.gn (0x1341 + k) 4 == 1) = [k] →
      let m2 := (r4 - t1) - (ptpTime msg 34 - r2) - (c + ptpCorr msg)
      exec (.pdelayRespFollowUpRx t g l2 msg) s = .next (s.moved t
        (((begun s.d).setPeer g { x with t1 := none, resp := none, mpd2 := some m2 }).pub (0x1344 + k) [(5, m2 / 2)])))) ∧
  (∀ (t k : Nat) (s : State), okSlot k = true → Awake s → bit (s.d.gn 0x1340 1) k = true →
    let g := s.d.gn (0x1341 + k) 2
    let every := pow2Tt (s.d.gi (0x1341 + k) 6)
    let n := (wrapU 64 ((s.stamped t : Int) + s.d.gi (0x1400 + g) 9) : Nat) + (s.tu.epoch : Int) * 16000000000
    s.d.inSvc (5 + g) = true → s.d.gn (0x1400 + g) 7 = 0xFFFF → s.d.gb (0x1341 + k) 3 = true →
    (s.d.gn (0x1341 + k) 4 = 0 → (s.d.slot k).master ≠ none → (s.d.slot k).reqAt + every ≤ rawAt t s →
      let q := ((s.d.slot k).reqSeq + 1) % 65536
      exec (.delayReqPtpSend t k) s = .next (s.moved t
        ((((begun s.d).setSlot k { s.d.slot k with reqSeq := q, req := some (q, n), reqAt := rawAt t s }).emit
          (.frame g (padTo ((if s.d.gb (0x1341 + k) 5 = true then (masterFrom s.d k).take 6 else [0x01, 0x1B, 0x19, 0x00, 0x00, 0x00]) ++ macOf s.d g ++ [0x88, 0xF7] ++
            ptpMsg s.d g k 1 (if s.d.gb (0x1341 + k) 5 = true then 0x0400 else 0) 0 q 1 0x7F (List.replicate 10 0)) 60 0))).incP (0x1402 + g) 4))) ∧
    (s.d.gn (0x1341 + k) 4 = 1 → (s.d.peer g).sentAt + every ≤ rawAt t s →
      let q := ((s.d.peer g).seq + 1) % 65536
      exec (.delayReqPtpSend t k) s = .next (s.moved t
        ((((begun s.d).setPeer g { s.d.peer g with seq := q, t1 := some n, resp := none, sentAt := rawAt t s }).emit
          (.frame g (padTo ([0x01, 0x80, 0xC2, 0x00, 0x00, 0x0E] ++ macOf s.d g ++ [0x88, 0xF7] ++
            ptpMsg s.d g k 2 0 0 q 5 (s.d.gi (0x1341 + k) 6) (List.replicate 20 0)) 60 0))).incP (0x1402 + g) 4))))

/-- Locks lost, the selection and the seconds output (R457 to R459, R461). A slot whose Syncs stop becomes UNLOCKED, its I term cleared and a loss of LOCK counted and
offered; where it was selected and no other is LOCKED, TIME_STATE goes from TRACKING to HOLDOVER. A master whose Announces stop is forgotten. SWITCH_HOLD_EXPIRED moves the selection to the
preferred slot: its rate and its e are taken. PTP_ENABLE written to 0 leads to HELD; a slot enabled begins to listen. PPS_OUT rises at the second,
moved by what PPS_OUT_LAT differs from 48 tt (log 123), and stays for PPS_WIDTH.
Where the rules leave a corner open, a clause states the model's choice: assumption log 77, 78 and 123. -/
def Obligations.PtpSelectionFollowsItsRules : Prop :=
  (∀ (t k a : Nat) (s : State), okSlot k = true → Awake s → s.d.inForce = [] → (s.d.slot k).syncAt = some a →
    a + s.d.gn (0x1341 + k) 8 * pow2Tt (s.d.slot k).logSync ≤ rawAt t s →
    let x := { s.d.slot k with syncAt := none, wait := none, iNum := 0, iDen := 1, near := 0, far := 0 }
    (s.d.gn 0x1340 4 ≠ k → s.d.gn (0x1344 + k) 1 = 3 → ∃ d, exec (.syncTimeout t k) s = .next (s.moved t d) ∧ d.slot k = x ∧ d.gi (0x1344 + k) 1 = 2 ∧
      d.gi (0x1344 + k) 10 = (s.d.gi (0x1344 + k) 10 + 1) % 4294967296 ∧ d.offers = (s.d.raise (envOf t s) 0x283 k).offers) ∧
    (s.d.gn 0x1340 4 = k → s.d.gn (0x1344 + k) 1 = 3 → s.d.gn (0x1344 + (1 - k)) 1 ≠ 3 → s.tu.state = .tracking → ∃ u, exec (.syncTimeout t k) s = .next u ∧
      u.tu = { s.tu with state := .holdover } ∧ u.d.slot k = x ∧ u.d.gi 0x1340 4 = 255 ∧ u.d.gi (0x1344 + k) 1 = 2 ∧
      u.d.offers = ((s.d.raise (envOf t s) 0x283 k).raise (envOf t s) 0x285 0).offers)) ∧
  (∀ (t k : Nat) (f : Foreign) (s : State), okSlot k = true → Awake s → s.d.inForce = [] → (s.d.slot k).foreign = [f] → (s.d.slot k).master = some f.id →
    f.at_ + s.d.gn (0x1341 + k) 7 * pow2Tt f.logInt ≤ rawAt t s → s.d.gn 0x1340 4 ≠ k →
    ∃ d, exec (.announceTimeout t k) s = .next (s.moved t d) ∧ d.gi (0x1344 + k) 1 = 1 ∧ (d.slot k).foreign = [] ∧ (d.slot k).master = none ∧
      (d.slot k).wait = none ∧ (d.slot k).iNum = 0 ∧ d.gi (0x1344 + k) 9 = (s.d.gi (0x1344 + k) 9 + 1) % 4294967296) ∧
  (∀ (t p : Nat) (s : State), okSlot p = true → Awake s → s.d.inForce = [] → s.d.gn 0x1340 2 = p → s.d.gn 0x1340 4 = 1 - p → s.d.gn (0x1344 + p) 1 = 3 →
    (s.d.slot p).lockedAt + s.d.gn 0x1340 3 * 16000000000 ≤ rawAt t s → s.tu.state = .tracking →
    ∃ u, exec (.switchHoldExpired t) s = .next u ∧ u.d.gi 0x1340 4 = (p : Nat) ∧ u.d.offers = (s.d.raise (envOf t s) 0x284 p).offers ∧
      u.tu = TuOp.apply (edge16 (rawAt t s)) (TuOp.apply (edge16 (rawAt t s)) s.tu (.setRate (s.d.gi (0x1344 + p) 6))) (.addSlew (-(s.d.slot p).e)) ∧
      u.tu.state = .tracking ∧ u.tu.par.rate = s.d.gi (0x1344 + p) 6) ∧
  (∀ (t : Nat) (m : Master) (s : State), masterOk m = true → Awake s → s.d.inForce = [] →
    (s.d.accepts m 0x1340 1 0 = true → s.d.gn 0x1340 1 = 1 → s.tu.state = .tracking ∨ s.tu.state = .holdover → ∃ u, exec (.ptpEnableWrite t m 0) s = .next u ∧
      u.tu = { s.tu with state := .held } ∧ u.d.gi 0x1340 1 = 0 ∧ u.d.gi 0x1340 4 = 255 ∧ u.d.gi 0x1344 1 = 0 ∧ u.d.slot 0 = {}) ∧
    (s.d.accepts m 0x1340 1 1 = true → s.d.gn 0x1340 1 = 0 → exec (.ptpEnableWrite t m 1) s = .next (s.moved t
      (((((begun s.d).put 0x1340 1 1).setSlot 0 {}).pub 0x1344 [(1, 1)]).ended m stOK)))) ∧
  (∀ (t : Nat) (s : State), Awake s → s.d.gb 0x1348 1 = true → s.tu.state ≠ .free →
    let n : Int := (s.applied t : Int) + s.tu.epoch * 16000000000
    let rise := ((rawAt t s : Int) - n % 16000000000 + 48 - s.d.gi 0x1348 3).toNat
    let fall := rise + s.d.gn 0x1348 2
    n / 16000000000 ≠ s.d.net.ppsSec → exec (.ppsOutSecond t) s = .next (s.moved t
      (({ begun s.d with net := { s.d.net with ppsSec := n / 16000000000, ppsEnd := fall } }.emit (.pin "PPS_OUT" 0 true rise)).emit
        (.pin "PPS_OUT" 0 false fall))))

/-- R462: with PPS_IN_EN set, an edge at PPS_IN is stamped like an event pin, at the raw edge on or after it, less PPS_IN_LAT; PPS_IN_ERR is its signed distance from the
nearest PTP second, the event is offered, and the time unit stays as it was. Without PPS_IN_EN the edge does nothing. -/
def Obligations.PpsInMonitorsTime : Prop :=
  ∀ (t : Nat) (s : State), Awake s →
    (s.d.gb 0x1348 4 = false → exec (.ppsInEdge t) s = .next (s.moved t (begun s.d))) ∧
    (s.d.gb 0x1348 4 = true →
      let edge := ceilTo 16 (rawAt t s)
      let stamp := wrapU 64 (((s.tu.paramsAt edge).applied edge : Int) - s.d.gi 0x1348 5)
      let past := ((stamp : Int) + s.tu.epoch * 16000000000) % 16000000000
      exec (.ppsInEdge t) s = .next (s.moved t
        (((begun s.d).inc 0x1349 3).pub 0x1349 [(1, (stamp : Nat)), (2, if past < 8000000000 then past else past - 16000000000)] |>.raise (envOf t s) 0x287 0)))

/-- Writes of objects, the aperture and snapshots (R469 to R477, R482, R490, R496). A number that its object keeps is stored with OK; a shadow-capable one waits in its
shadow; under an overlay the base takes it, with OVERLAID, and the value in force stays. No right ends DENIED, a wrong type code BAD_TYPE or, over the aperture, a bus
error, no object NO_OBJECT. A read of SEQ latches the group for its reader. The offset register is set, the data port reads and writes 8 bytes there and moves on.
CONFIG_SAVE writes the region, and is BUSY while one runs.
Where the rules leave a corner open, a clause states the model's choice: assumption log 80 to 82, 86 and 88. -/
def Obligations.ObjectAccessFollowsItsRules : Prop :=
  (∀ (t : Nat) (m : Master) (idx sub ty : Nat) (v : Int) (data : List Byte) (s : State), masterOk m = true → Awake s → Between s →
    (∀ r, objInfo idx sub = some r → ty = r.ty.code →
      (s.d.accepts m idx sub v = true → s.d.plain idx sub → (begun s.d).keepsNumber (envOf t s) m idx sub v = true →
        (r.shadow = false → exec (.objectWrite t m idx sub ty v data) s = .next (s.moved t (((begun s.d).put idx sub v).ended m stOK))) ∧
        (r.shadow = true → exec (.objectWrite t m idx sub ty v data) s = .next (s.moved t
          ({ begun s.d with shadow := tabSet s.d.shadow (okey idx sub) (.num v) }.ended m stOK)))) ∧
      (s.d.accepts m idx sub v = true → tabFind s.d.inForce (okey idx sub) ≠ none → { begun s.d with inForce := [] }.keepsNumber (envOf t s) m idx sub v = true →
        exec (.objectWrite t m idx sub ty v data) s = .next (s.moved t
          ({ (begun s.d).put idx sub v with shadow := tabErase s.d.shadow (okey idx sub) }.ended m stOverlaid))) ∧
      (r.ty.holds v = true → s.d.hasRole m r.wr = false → s.d.plain idx sub → (begun s.d).keepsNumber (envOf t s) m idx sub v = true →
        exec (.objectWrite t m idx sub ty v data) s = .next (s.moved t ((begun s.d).ended m stDenied)))) ∧
    (∀ r, objInfo idx sub = some r → ty ≠ r.ty.code → exec (.objectWrite t m idx sub ty v data) s = .next (s.moved t
      (if onAperture m = true then busError (begun s.d) else (begun s.d).ended m stBadType))) ∧
    (objInfo idx sub = none → exec (.objectWrite t m idx sub ty v data) s = .next (s.moved t ((begun s.d).ended m stNoObject)))) ∧
  (∀ (t : Nat) (m : Master) (idx : Nat) (s : State), masterOk m = true → Awake s → isResultGroup idx = true → latchPublishes idx = false →
    objBase idx ≠ 0x2010 → objBase idx ≠ 0x1b30 → objInfo idx 0 ≠ none →
    let seq := (objVal (envOf t s) (begun s.d) m idx 0).int.toNat
    let h : Held := { idx := idx, seq := seq, vals := if seq = 0 then [] else (groupSubs idx).map (fun k => (k, objVal (envOf t s) (begun s.d) m idx k)) }
    let kept := (s.d.mrec m).held.filter (fun x => x.idx != idx)
    kept.length < 16 → exec (.snapshotLatch t m idx) s = .next (s.moved t
      { (begun s.d).setMrec m { s.d.mrec m with held := kept ++ [h], notReady := false, denied := false } with resp := { status := stOK, val := .num seq } })) ∧
  (∀ (t : Nat) (m : Master) (idx sub off : Nat) (s : State), masterOk m = true → Awake s → onAperture m = true → hasPort idx sub = true →
    exec (.apertureOffsetWrite t m idx sub off) s = .next (s.moved t
      (((begun s.d).setMrec m { s.d.mrec m with offsets := tabSet (s.d.mrec m).offsets (okey idx sub) off }).ended m stOK))) ∧
  (∀ (t : Nat) (m : Master) (idx sub : Nat) (s : State), masterOk m = true → Awake s → onAperture m = true → hasPort idx sub = true →
    readsPlainly idx = true →
    let off := tabGet (s.d.mrec m).offsets 0 (okey idx sub)
    let b := (objBytes (envOf t s) (begun s.d) m idx sub).drop off
    exec (.aperturePortRead t m idx sub) s = .next (s.moved t
      (((begun s.d).setMrec m { s.d.mrec m with offsets := tabSet (s.d.mrec m).offsets (okey idx sub) (off + 8) }).readEnded m stOK
        (.num (leAt (padTo (b.take 8) 8 0) 0 8))))) ∧
  (∀ (t k v : Nat) (m : Master) (s : State), masterOk m = true → Awake s → Between s → onAperture m = true → 1 ≤ k → k ≤ 31 → s.d.inForce = [] →
    s.d.hasRole m (objWr (0x1110 + k) 1) = true →
    let off := tabGet (s.d.mrec m).offsets 0 (okey (0x1110 + k) 1)
    let old := s.d.gB (0x1110 + k) 1
    let whole := (patch (padTo old (max old.length (off + 8)) 0) off (toLE 8 v))
    off + 8 ≤ 4096 → old.length ≤ 4096 → writeRule (envOf t s) (begun s.d) m (0x1110 + k) 1 (.blob whole) = true →
    ∃ d, exec (.aperturePortWrite t m (0x1110 + k) 1 v) s = .next (s.moved t d) ∧ d.gB (0x1110 + k) 1 = whole ∧ d.resp = { status := stOK, val := .num 0 } ∧
      tabGet (d.mrec m).offsets 0 (okey (0x1110 + k) 1) = off + 8 ∧ d.inForce = [] ∧ d.mem = s.d.mem) ∧
  (∀ (t : Nat) (m : Master) (s : State), masterOk m = true → Awake s → s.d.accepts m 0x1100 1 1 = true →
    (s.d.saving = false → exec (.configSave t m 1) s = .next (s.moved t
      (({ begun s.d with saving := true, flash := configImage (envOf t s) (begun s.d) }.put 0x1100 2 1).ended m stOK))) ∧
    (s.d.saving = true → exec (.configSave t m 1) s = .next (s.moved t ((begun s.d).ended m stBusy)))) ∧
  (∀ (t : Nat) (s : State), Awake s → s.d.saving = true → exec (.configSaveDone t) s = .next (s.moved t
    (({ begun s.d with saving := false }.put 0x1100 2 2).put 0x1100 3 (leAt s.d.flash 12 4 : Nat))))

/-- FDP (R478 to R484, R500). An item of an open session answers with its STATUS and data: READ shows the object, or what the reader has latched, and clears a count; WRITE
stores it; READ_SEG and WRITE_SEG take part of a DOMAIN, and RANGE past its end; DESCRIBE tells its type, access, rights and flags; KEEPALIVE tells the time. STREAM_OPEN binds a stream, and
STREAM_CLOSE frees it. OPEN takes a free number with an ID of its own and a key derived from the role key and both nonces; CLOSE and SESSION_TIMEOUT free it. A request with a wrong tag or an old SEQ is
counted and discarded, one repeated is answered again, and a new one is executed and answered under the session's key.
Where the rules leave a corner open, a clause states the model's choice: assumption log 83 and 84. -/
def Obligations.FdpServicesFollowTheirRules : Prop :=
  (∀ (t k idx sub : Nat) (r : ObjRow) (s : State), okSess k = true → Awake s → Between s → (s.d.session k).isOpen = true → objInfo idx sub = some r →
    let m : Master := .fdp k
    let e := envOf t s
    let v := objVal e (begun s.d) m idx sub
    let answer (v : ObjVal) : Resp := { status := stOK, val := .blob ([BitVec.ofNat 8 r.ty.code, 0] ++ toBE 2 (wireValue r.ty v).length ++ wireValue r.ty v) }
    (readsPlainly idx = true → r.ty ≠ .domain ∨ (objBytes e (begun s.d) m idx sub).length ≤ 1024 → exec (.fdpRead t k idx sub) s = .next (s.moved t
      { (if r.acc = .rc then (begun s.d).put idx sub 0 else begun s.d).readEnded m stOK v with resp := answer v })) ∧
    (∀ h p, isResultGroup idx = true → sub ≠ 0 → r.ty ≠ .domain → heldOf s.d m idx = some h → h.seq ≠ 0 → h.vals.find? (fun q => q.1 == sub) = some p →
      exec (.fdpRead t k idx sub) s = .next (s.moved t { (begun s.d).readEnded m stOK p.2 with resp := answer p.2 })) ∧
    (∀ b, r.ty.bytes = b.length → r.shadow = false → let n := numOfBytes r.ty b.reverse
      s.d.accepts m idx sub n = true → s.d.plain idx sub → (begun s.d).keepsNumber e m idx sub n = true →
      exec (.fdpWrite t k idx sub r.ty.code b) s = .next (s.moved t
        { ((begun s.d).put idx sub n).ended m stOK with resp := { status := stOK, val := .blob [] } })) ∧
    (readsPlainly idx = true → hasPort idx sub = true → let b := objBytes e (begun s.d) m idx sub
      ∀ off count, (count ≤ 1024 → off + count ≤ b.length → exec (.fdpReadSeg t k idx sub off count) s = .next (s.moved t
        { (begun s.d).readEnded m stOK (.num 0) with resp := { status := stOK, val := .blob (toBE 4 b.length ++ slice b off count) } })) ∧
        (1024 < count ∨ b.length < off + count → exec (.fdpReadSeg t k idx sub off count) s = .next (s.moved t
          { (begun s.d).readEnded m stRange (.num 0) with resp := { status := stRange, val := .blob [] } }))) ∧
    (hasPort idx sub = false → sealedKey idx sub = false → exec (.fdpDescribe t k idx sub) s = .next (s.moved t
      { (begun s.d).readEnded m stOK (.num 0) with resp := { status := stOK, val := .blob ([BitVec.ofNat 8 r.ty.code, BitVec.ofNat 8 r.acc.code, 0x1F, BitVec.ofNat 8 (writeRoles idx r)] ++ toBE 4 r.ty.bytes ++ [BitVec.ofNat 8 (b2n r.shadow + 2 * b2n r.stat + 4 * b2n (secureOnly idx sub))]) } }))) ∧
  (∀ (t k j off : Nat) (b : List Byte) (s : State), okSess k = true → Awake s → Between s → (s.d.session k).isOpen = true → 1 ≤ j → j ≤ 31 → s.d.inForce = [] →
    s.d.hasRole (.fdp k) (objWr (0x1110 + j) 1) = true →
    let old := s.d.gB (0x1110 + j) 1
    let whole := (patch (padTo old (max old.length (off + b.length)) 0) off b)
    (off + b.length ≤ 4096 → old.length ≤ 4096 → b ≠ [] → writeRule (envOf t s) (begun s.d) (.fdp k) (0x1110 + j) 1 (.blob whole) = true →
      exec (.fdpWriteSeg t k (0x1110 + j) 1 off b) s = .next (s.moved t
        { ((begun s.d).putB (0x1110 + j) 1 whole).ended (.fdp k) stOK with resp := { status := stOK, val := .blob [] } })) ∧
    (4096 < off + b.length → exec (.fdpWriteSeg t k (0x1110 + j) 1 off b) s = .next (s.moved t
      { (begun s.d).ended (.fdp k) stRange with resp := { status := stRange, val := .blob [] } }))) ∧
  (∀ (t k : Nat) (s : State), okSess k = true → Awake s → Between s → (s.d.session k).isOpen = true →
    exec (.fdpKeepalive t k) s = .next (s.moved t
      { begun s.d with resp := { status := stOK, val := .blob (toBE 8 (s.applied t) ++ [BitVec.ofNat 8 (tsCode s.tu.state)]) } }) ∧
    (∀ n ip port, n < 16 → s.met.sessions = [] →
      let x := s.d.stream n
      let dest := ip % 4294967296 * 65536 + port % 65536
      (2 ≤ roleRank (s.d.session k).role → x.isOpen = false ∨ x.owner = k → exec (.fdpStreamOpen t k n ip port) s = .next (s.moved t
        { ({ begun s.d with streams := tabSet s.d.streams n { isOpen := true, owner := k, dest := dest, port := (s.d.session k).port } }.pub (0x1440 + n) [(1, 1), (2, (k : Nat)), (3, (dest : Nat)), (4, 0), (5, 0)]) with resp := { status := stOK, val := .blob [] } })) ∧
      (roleRank (s.d.session k).role < 2 ∨ (x.isOpen = true ∧ x.owner ≠ k) → exec (.fdpStreamOpen t k n ip port) s = .next (s.moved t
        { begun s.d with resp := { status := stDenied, val := .blob [] } })) ∧
      (x.isOpen = true → x.owner = k → exec (.fdpStreamClose t k n) s = .next (s.moved t
        { ({ begun s.d with streams := tabErase s.d.streams n }.pub (0x1440 + n) [(1, 0), (2, 0xFF), (3, 0)]) with resp := { status := stOK, val := .blob [] } })))) ∧
  (∀ (t g peer role k : Nat) (nonce : List Byte) (s : State), okMg g = true → Awake s → Between s → s.met.sessions = [] → fdpOn s.d g = true → role < 4 →
    (List.range 16).find? (fun j => !(s.d.session j).isOpen) = some k →
    ∃ d, exec (.fdpOpen t g peer role nonce) s = .next (s.moved t d) ∧
      (let x := d.session k
       let dn := padTo ((Config.deviceNonce s.d.nonce).take 16) 16 0
       x.isOpen = true ∧ x.role = roleOf role ∧ x.port = g ∧ x.peer = peer ∧ x.last = 0 ∧ x.lastAt = (envOf t s).now ∧ x.id ≠ 0 ∧ x.id < 4294967296 ∧
       (∀ j, j < 16 → (s.d.session j).isOpen = true → x.id ≠ (s.d.session j).id) ∧
       x.key = hmacSha256 (if role = 0 ∧ s.d.gb 0x1420 3 = true then List.replicate 32 0 else s.d.gB 0x1421 (role + 1))
         ([0x46, 0x44, 0x50, 0x31] ++ padTo (nonce.take 16) 16 0 ++ dn ++ toBE 4 x.id) ∧
       d.out = [.datagram k x.lastResp] ∧ x.lastResp = fdpDatagram 2 role x.id 0 x.key ([6, 0] ++ toBE 2 20 ++ dn ++ toBE 4 (s.d.gn 0x1420 2)) ∧
       ∀ j, j ≠ k → d.session j = s.d.session j)) ∧
  (∀ (t k : Nat) (s : State), okSess k = true → Awake s → Between s → s.met.sessions = [] → (s.d.session k).isOpen = true →
    s.d.streams.filter (fun p => p.2.isOpen && p.2.owner == k) = [] →
    let shut := ((({ begun s.d with masters := tabErase s.d.masters (32 + k) }.setSession k {}).pub (0x1430 + k) [(1, 0), (2, 0), (3, 0), (4, 0)])).put 0x1420 6
      (((List.range 16).filter (fun j => j != k && (s.d.session j).isOpen)).length : Nat)
    exec (.fdpClose t k) s = .next (s.moved t { shut with resp := { status := stOK, val := .blob [] } }) ∧
    ((s.d.session k).lastAt + s.d.gn 0x1420 2 * 16000000000 ≤ (envOf t s).now → exec (.sessionTimeout t k) s = .next (s.moved t shut)) ∧
    ((envOf t s).now < (s.d.session k).lastAt + s.d.gn 0x1420 2 * 16000000000 → exec (.sessionTimeout t k) s = .next (s.moved t (begun s.d)))) ∧
  (∀ (t g peer k : Nat) (b : List Byte) (s : State), okMg g = true → Awake s → Between s → s.met.sessions = [] → fdpOn s.d g = true →
    32 ≤ b.length → b.length = 32 + beAt b 6 2 → beAt b 6 2 ≤ 1440 → beAt b 0 2 = 0x4644 → beAt b 2 1 = 1 → beAt b 3 1 = 1 → beAt b 8 4 ≠ 0 →
    (List.range 16).find? (fun j => (s.d.session j).isOpen && (s.d.session j).id == beAt b 8 4) = some k →
    let x := s.d.session k
    let len := beAt b 6 2
    let seq := beAt b 12 4
    let tagged := beAt b 5 1 = roleCode x.role ∧ b.drop (16 + len) = (hmacSha256 x.key (b.take (16 + len))).take 16
    let reply := fdpDatagram 2 (roleCode x.role) x.id seq x.key ([8, 0] ++ toBE 2 9 ++ toBE 8 (s.applied t) ++ [BitVec.ofNat 8 (tsCode s.tu.state)])
    (¬ tagged → exec (.fdpRequest t g peer b) s = .next (s.moved t ((begun s.d).inc 0x1420 4))) ∧
    (tagged → seq = x.last → exec (.fdpRequest t g peer b) s = .next (s.moved t
      (((begun s.d).setSession k { x with lastAt := (envOf t s).now }).emit (.datagram k x.lastResp)))) ∧
    (tagged → seq ≠ x.last → wrapI 32 ((seq : Int) - x.last) ≤ 0 → exec (.fdpRequest t g peer b) s = .next (s.moved t ((begun s.d).inc 0x1420 5))) ∧
    (tagged → 0 < wrapI 32 ((seq : Int) - x.last) → (b.drop 16).take len = [8, 0, 0, 0] → exec (.fdpRequest t g peer b) s = .next (s.moved t
      ((((begun s.d).setSession k { x with last := seq, lastAt := (envOf t s).now, lastResp := reply, requests := x.requests + 1 }).incP (0x1430 + k) 6).emit
        (.datagram k reply)))))

/-- Commands to units (R485, R486, R488, R489), of a pipeline. One that holds the state already is DONE; another is PENDING until its line boundary; one to a unit that a rotation owns is refused with
BUSY. RESET goes to OFF and back to the state held. CANCEL withdraws a PENDING command, and else changes nothing. A step that takes effect moves the unit, stamps and counts the
change, and with none left the command is DONE.
Where the rules leave a corner open, a clause states the model's choice: assumption log 85 and 125. -/
def Obligations.UnitCommandsFollowTheirRules : Prop :=
  (∀ (t u : Nat) (m : Master) (s : State), masterOk m = true → Awake s → 0x020 ≤ u → u < 0x030 → (s.d.unit 0).cmd = none →
    let x := s.d.unit u
    let cmd (c : Nat) : Instr := match c with
      | 0 => .unitCmdOff t m u | 1 => .unitCmdInService t m u | 2 => .unitCmdShadow t m u | 3 => .unitCmdTest t m u | _ => .unitCmdBypass t m u
    (∀ c : Nat, c ≤ 4 → x.cmd = none → s.d.accepts m (0x7000 + u) 6 c = true →
      (x.state = stateOf c → exec (cmd c) s = .next (s.moved t (((begun s.d).setUnit u { x with status := .done, cause := 0, member := 0xFFFF }).ended m stOK))) ∧
      (x.state ≠ stateOf c → rotOwns s.d u = false → s.d.rot.state ≠ 5 → exec (cmd c) s = .next (s.moved t (((begun s.d).setUnit u
        { x with cmd := some { target := stateOf c, steps := [(u, stateOf c)], started := false, reset := false, at_ := rawAt t s }, status := .pending, cause := 0, member := 0xFFFF }).ended m stOK))) ∧
      (x.state ≠ stateOf c → rotOwns s.d u = true → exec (cmd c) s = .next (s.moved t (((begun s.d).setUnit u
        { x with status := .refused, cause := 4, member := 0xFFFF }).ended m stOK)))) ∧
    (x.cmd = none → s.d.accepts m (0x7000 + u) 6 5 = true → x.state ≠ .off → rotOwns s.d u = false → exec (.unitCmdReset t m u) s = .next (s.moved t (((begun s.d).setUnit u
      { x with cmd := some { target := .off, steps := [(u, .off), (u, x.state)], started := false, reset := true, at_ := rawAt t s }, status := .pending, cause := 0, member := 0xFFFF }).ended m stOK))) ∧
    (s.d.accepts m (0x7000 + u) 6 6 = true →
      (x.cmd ≠ none → exec (.unitCmdCancel t m u) s = .next (s.moved t (((begun s.d).setUnit u { x with cmd := none, status := .cancelled }).ended m stOK))) ∧
      (x.cmd = none → exec (.unitCmdCancel t m u) s = .next (s.moved t ((begun s.d).ended m stOK))))) ∧
  (∀ (t u : Nat) (c : UnitCmd) (st : UState) (s : State), Awake s → 0x020 ≤ u → u < 0x030 → (s.d.unit u).cmd = some c → c.steps = [(u, st)] → c.reset = false →
    (s.d.unit u).state ≠ st → (∀ p ∈ s.d.units, p.1 ≠ u → p.2.cmd = none) →
    ∃ d, exec (.unitStateTakesEffect t u) s = .next (s.moved t d) ∧ d.unit u = { s.d.unit u with state := st, cmd := none, status := .done, time := s.applied t, changes := ((s.d.unit u).changes + 1) % 4294967296, past := movesKept u (rawAt t s) (s.d.unit u) } ∧ (∀ v, v ≠ u → d.unit v = s.d.unit v) ∧ d.mem = s.d.mem)

/-- Overlays (R491 to R497). OVL_STORE checks the entries in order, and stores them all with the domain and role that store them or names the first that fails; it is BUSY while the overlay is in use. OVL_ACTIVATE fixes the boundary
and waits for it; OVL_DEACTIVATE of an ACTIVE one likewise; requests that do not fit are counted. OVL_CANCEL takes back a change that has not begun. At its boundary an entry comes
into force, or goes out of it.
Where the rules leave a corner open, a clause states the model's choice: assumption log 87. -/
def Obligations.OverlaysFollowTheirRules : Prop :=
  (∀ (t k : Nat) (m : Master) (s : State), masterOk m = true → okOvl k = true → Awake s → s.d.accepts m (0x1110 + k) 2 1 = true →
    let x := s.d.ovl k
    let b := s.d.gB (0x1110 + k) 1
    let es := readEntries b
    let bad := (List.range (chunks 257 16 b).length).find? (entryFails (envOf t s) (begun s.d) (roleRank (s.d.roleOfM m)) (s.d.domOfM m) (chunks 257 16 b) es)
    (x.state = .empty ∨ x.state = .stored → bad = none → es ≠ [] → s.d.gn (0x1110 + k) 5 ≠ 2 → s.d.inForce = [] → exec (.ovlStore t m k 1) s = .next (s.moved t
      ((((((begun s.d).setOvl k { state := .stored, entries := es, owner := s.d.domOfM m, role := s.d.roleOfM m }).put (0x1110 + k) 3 (es.length : Nat)).put (0x1110 + k) 4 0xFFFF).put
        (0x1110 + k) 0x0D 0).ended m stOK))) ∧
    (x.state = .empty ∨ x.state = .stored → ∀ i, bad = some i → exec (.ovlStore t m k 1) s = .next (s.moved t
      ((((begun s.d).put (0x1110 + k) 4 (i : Nat)).put (0x1110 + k) 0x0D 2).reject m (0x1110 + k)))) ∧
    (x.state = .pendingOn ∨ x.state = .active ∨ x.state = .pendingOff → exec (.ovlStore t m k 1) s = .next (s.moved t
      ((((begun s.d).put (0x1110 + k) 0x0D 3).reject m (0x1110 + k)).ended m stBusy)))) ∧
  (∀ (t k : Nat) (m : Master) (s : State), masterOk m = true → okOvl k = true → Awake s → s.d.accepts m (0x1110 + k) 0x0B 1 = true →
    let x := s.d.ovl k
    (∀ w, x.state = .stored → x.entries.all (entryTakes (envOf t s) (ovlTrial (begun s.d) x.entries) x.owner) = true → entriesAt x 0 = [] → gridTop s.d = some w →
      s.d.gn (0x1110 + k) 8 ≠ 4 → exec (.ovlActivate t m k) s = .next (s.moved t (((((((begun s.d).setOvl k { x with state := .pendingOn, applied := [], at_ := s.applied t, wIdx := some w, lines := [], offAt := none, offIdx := none, offLines := [], removed := false }).put (0x1110 + k) 0x0D 0).put (0x1110 + k) 0x0E (s.applied t : Nat)).put
        (0x1110 + k) 0x0F (gridWp s.d w)).ended m stOK)))) ∧
    (x.state = .pendingOn ∨ x.state = .active → exec (.ovlActivate t m k) s = .next (s.moved t (((begun s.d).inc 0x1100 5).ended m stOK)))) ∧
  (∀ (t k : Nat) (m : Master) (s : State), masterOk m = true → okOvl k = true → Awake s → s.d.accepts m (0x1110 + k) 0x0B 2 = true →
    let x := s.d.ovl k
    (∀ w, x.state = .active → entriesAt x 0 = [] → gridTop s.d = some w → ∃ d, exec (.ovlDeactivate t m k) s = .next (s.moved t d) ∧
      d.ovl k = { x with state := .pendingOff, offAt := some (s.applied t), offIdx := some w, offLines := [], removed := false } ∧ d.inForce = s.d.inForce ∧
      (s.d.inForce = [] → d.gi (0x1110 + k) 0x10 = gridWp s.d w)) ∧
    (x.state ≠ .active → exec (.ovlDeactivate t m k) s = .next (s.moved t (((begun s.d).inc 0x1100 5).ended m stOK)))) ∧
  (∀ (t k : Nat) (m : Master) (s : State), masterOk m = true → okOvl k = true → Awake s → s.d.accepts m (0x1110 + k) 0x0B 3 = true →
    let x := s.d.ovl k
    (x.state = .pendingOn → exec (.ovlCancel t m k) s = .next (s.moved t (((begun s.d).setOvl k { x with state := .stored }).ended m stOK))) ∧
    (x.state = .pendingOff → x.removed = false → s.d.gn (0x1110 + k) 8 ≠ 4 → exec (.ovlCancel t m k) s = .next (s.moved t
      (((begun s.d).setOvl k { x with state := .active, offAt := none, offIdx := none, offLines := [] }).ended m stOK)))) ∧
  (∀ (t k u : Nat) (x : Ovl) (q : OvlEntry) (s : State), okOvl k = true → okUnit u = true → Awake s → s.d.ovls = [(k, x)] → x.entries = [q] → ovlUnit q.idx = u → u ≠ 0 →
    isWo q.idx q.sub = false → x.wIdx ≠ none →
    (x.state = .pendingOn → x.applied = [] → ovlReached s.d x u true = false → ovlReached s.d x u false = true → s.d.gn (0x1110 + k) 8 ≠ 2 → s.d.inForce = [] →
      ∃ d, exec (.ovlBoundaryReached t k u) s = .next (s.moved t d) ∧ d.ovl k = { x with state := .active, applied := [0] } ∧ d.o = ((begun s.d).inc (0x1110 + k) 0x13).o ∧
        d.inForce = [(okey q.idx q.sub, .num q.val)] ∧ d.get q.idx q.sub = .num q.val) ∧
    (x.state = .pendingOff → x.applied = [0] → ovlReached s.d x u true = true →
      ∃ d, exec (.ovlBoundaryReached t k u) s = .next (s.moved t d) ∧ d.ovl k = { state := .stored, entries := x.entries, owner := x.owner, role := x.role, lines := x.lines } ∧
        d.inForce = [] ∧ d.o = s.d.o))

/-- R494: at the command's instant every entry is checked again, together with the rest of the overlay, against the values then in force; where one fails, no entry takes
effect and OVL_STATUS reads REFUSED. -/
def Obligations.OverlayCheckedAgainAtActivation : Prop :=
  ∀ (t k : Nat) (m : Master) (s : State), masterOk m = true → okOvl k = true → Awake s → s.d.accepts m (0x1110 + k) 0x0B 1 = true →
    let x := s.d.ovl k
    x.state = .stored → (∃ q ∈ x.entries, entryTakes (envOf t s) (ovlTrial (begun s.d) x.entries) x.owner q = false) →
    exec (.ovlActivate t m k) s = .next (s.moved t (((begun s.d).put (0x1110 + k) 0x0D 2).ended m stOK))

/-- R512: a SEND by one end puts the word at the tail of the queue toward the other end; by a master that is no end it is DENIED. A RECV by an end returns the oldest word of its
incoming queue with VALID and takes it out; of an empty queue it returns 0 and changes nothing. A word sent into an empty queue is what the next RECV returns. Here the
queue has room (R514), and the B end of mailbox 31 does not send (R511). -/
def Obligations.MailboxWordsPassInOrder : Prop :=
  ∀ (t b : Nat) (m : Master) (s : State), masterOk m = true → okMbox b = true → Awake s →
    (∀ (side : Nat) (v : Int), mbSide s.d m b = some side → ¬(b = 31 ∧ side = 1) → 0 ≤ v → v < 4294967296 → (mbIn s.d b (1 - side)).length < 8 →
      ∃ d, exec (.mbSend t m b v) s = .next (s.moved t d) ∧ mbIn d b (1 - side) = mbIn s.d b (1 - side) ++ [v.toNat] ∧ mbIn d b side = mbIn s.d b side ∧
        (∀ b', b' ≠ b → d.mbox b' = s.d.mbox b') ∧ d.resp = { status := stOK, val := .num 0 } ∧
        (∀ m2, masterOk m2 = true → mbSide s.d m2 b = some (1 - side) → mbIn s.d b (1 - side) = [] →
          ∃ d2, exec (.mbRecv t m2 b) (s.moved t d) = .next (s.moved t d2) ∧ d2.resp = { status := stOK, val := .num (v + 4294967296) } ∧ mbIn d2 b (1 - side) = [])) ∧
    (∀ v : Int, mbSide s.d m b = none → 0 ≤ v → v < 4294967296 → exec (.mbSend t m b v) s = .next (s.moved t ((begun s.d).ended m stDenied))) ∧
    (∀ (side w : Nat) (rest : List Nat), mbSide s.d m b = some side → mbIn s.d b side = w :: rest →
      exec (.mbRecv t m b) s = .next (s.moved t ((mbSetIn (begun s.d) b side rest).readEnded m stOK (.num (w + 4294967296 : Nat))))) ∧
    (∀ side : Nat, mbSide s.d m b = some side → mbIn s.d b side = [] →
      exec (.mbRecv t m b) s = .next (s.moved t ((begun s.d).readEnded m stOK (.num 0))))

/-- R513, and R514 in part: FULL of an end reads 1 in MB_STATUS while its outgoing queue holds 8 words. A SEND to a full queue is refused: the word is discarded, MY_STATUS shows the refused write,
MB_OVERFLOWS is incremented, MB_OVERFLOW is offered and interrupt 162 becomes pending. If a RECV is served first, which clears FULL, the SEND that met a full queue succeeds. The B end of
mailbox 31 is R511's. That a refused SEND is a refused write of its range and counts as one is DEDUCED (assumption log 89) and no part of R513. -/
def Obligations.FullMailboxRefusesSend : Prop :=
  (∀ (d : Dev) (b : Nat), bit (mbStatus d b) 0 = decide ((mbIn d b 1).length = 8) ∧ bit (mbStatus d b) 1 = decide ((mbIn d b 0).length = 8)) ∧
  (∀ (t b side : Nat) (m : Master) (v : Int) (s : State), masterOk m = true → okMbox b = true → Awake s → mbSide s.d m b = some side → ¬(b = 31 ∧ side = 1) →
    0 ≤ v → v < 4294967296 → 8 ≤ (mbIn s.d b (1 - side)).length →
    (exec (.mbSend t m b v) s = .next (s.moved t
      { ((((begun s.d).inc (0x1620 + b) 6).reject m 0x1620).raise (envOf t s) 0x2A1 b) with irqFlags := setBit s.d.irqFlags 2 })) ∧
    (((((begun s.d).inc (0x1620 + b) 6).reject m 0x1620).mrec m).refused = true) ∧
    (∀ (m2 : Master) (w : Nat) (rest : List Nat), masterOk m2 = true → mbSide s.d m2 b = some (1 - side) → mbIn s.d b (1 - side) = w :: rest → rest.length = 7 →
      ∃ d1, exec (.mbRecv t m2 b) s = .next (s.moved t d1) ∧ bit (mbStatus d1 b) side = false ∧ ∃ d2,
        exec (.mbSend t m b v) (s.moved t d1) = .next (s.moved t d2) ∧ mbIn d2 b (1 - side) = rest ++ [v.toNat] ∧ d2.resp = { status := stOK, val := .num 0 }))

/-- R517: a read of a free lock by a master with access returns 0 and takes it; of an owned one, the owner's identity + 1, and nothing changes. A write of 0 by the owner frees the lock; any
other write is refused, as DENIED for a master without access. A read without access, which is every FDP session's and every non-secure one of locks 96 to 127, is DENIED and
returns 0xFFFF. -/
def Obligations.LocksAreTakenByReading : Prop :=
  ∀ (t n : Nat) (m : Master) (s : State), masterOk m = true → okLock n = true → Awake s →
    let access := (match m with | .fdp _ => false | _ => decide (n < 96) || s.d.secureM m)
    (access = true → tabFind s.d.locks n = none →
      exec (.lockAcquire t m n) s = .next (s.moved t ({ begun s.d with locks := tabSet s.d.locks n (masterId m + 1) }.readEnded m stOK (.num 0)))) ∧
    (∀ o, access = true → tabFind s.d.locks n = some o → exec (.lockAcquire t m n) s = .next (s.moved t ((begun s.d).readEnded m stOK (.num (o : Nat))))) ∧
    (access = false → exec (.lockAcquire t m n) s = .next (s.moved t ((begun s.d).readEnded m stDenied (.num 0xFFFF)))) ∧
    (access = true → tabFind s.d.locks n = some (masterId m + 1) →
      exec (.lockFree t m n 0) s = .next (s.moved t ({ begun s.d with locks := tabErase s.d.locks n }.ended m stOK)) ∧
      (tabWf s.d.locks = true → tabFind (tabErase s.d.locks n) n = none)) ∧
    (∀ v : Int, access = true → 0 ≤ v → v < 65536 → v ≠ 0 ∨ tabFind s.d.locks n ≠ some (masterId m + 1) →
      exec (.lockFree t m n v) s = .next (s.moved t ((begun s.d).reject m 0x1660))) ∧
    (∀ v : Int, access = false → 0 ≤ v → v < 65536 → exec (.lockFree t m n v) s = .next (s.moved t ((begun s.d).ended m stDenied)))

/-- Doorbells, broken locks and interrupts (R506, R508, R516, R519). DB_RING sets the pending bits that the master may ring, counts those pending already and offers the lowest rung; a
write of 1 clears. LOCK_BREAK frees a lock, counts it and makes interrupt 163 pending. INT_CLAIM gives the claimable ID of the lowest PRIORITY, the lowest among equals, and makes it
ACTIVE; the flags of IDs 160 to 163 are cleared, and a fabric input shows stamp and data. INT_COMPLETE ends it.
Where the rules leave a corner open, a clause states the model's choice: assumption log 89 and 126. -/
def Obligations.DoorbellsAndInterruptsFollowTheirRules : Prop :=
  (∀ (t : Nat) (m : Master) (v : Int) (s : State), masterOk m = true → Awake s → 0 ≤ v → v < 18446744073709551616 →
    let old := s.d.gn 0x1608 2
    let bits := v.toNat &&& dbReach s.d m
    let rung := ((begun s.d).put 0x1608 2 (old ||| bits : Nat)).add 0x1608 3 (popCount 64 (old &&& bits) : Nat)
    ((match m with | .fdp _ => s.d.hasRole m .integrator | _ => s.d.hasRole m .service) = true → s.d.inForce = [] →
      (∀ k r, bitsOf 64 bits = k :: r → exec (.dbRing t m v) s = .next (s.moved t ((rung.raise (envOf t s) 0x2A2 k).ended m stOK))) ∧
      (bitsOf 64 bits = [] → exec (.dbRing t m v) s = .next (s.moved t (rung.ended m stOK)))) ∧
    (s.d.hasRole m .service = true → exec (.dbClear t m v) s = .next (s.moved t
      (((begun s.d).put 0x1608 2 (old - (old &&& v.toNat &&& dbPending s.d m) : Nat)).ended m stOK)))) ∧
  (∀ (t n : Nat) (m : Master) (s : State), masterOk m = true → Awake s → s.d.accepts m 0x1661 1 (n : Nat) = true →
    (∀ o, tabFind s.d.locks n = some o → exec (.lockBreak t m (n : Nat)) s = .next (s.moved t
      ({ (begun s.d).add 0x1661 2 1 with locks := tabErase s.d.locks n, irqFlags := setBit s.d.irqFlags 3 }.ended m stOK))) ∧
    (tabFind s.d.locks n = none → exec (.lockBreak t m (n : Nat)) s = .next (s.moved t ((begun s.d).ended m stOK)))) ∧
  (∀ (t c : Nat) (secure : Bool) (s : State), okCore c = true → Awake s →
    let m : Master := .core c secure
    (∀ i, i < 164 → intClaimable s.d c secure i = true →
      (∀ j, j < 164 → intClaimable s.d c secure j = true → field (intCfg s.d i) 11 8 < field (intCfg s.d j) 11 8 ∨
        (field (intCfg s.d i) 11 8 = field (intCfg s.d j) 11 8 ∧ i ≤ j)) →
      let d := { begun s.d with irqActive := tabSet s.d.irqActive i c }
      (64 ≤ i → i < 160 → exec (.intClaim t m c) s = .next (s.moved t (d.readEnded m stOK (.num (i : Nat))))) ∧
      (160 ≤ i → exec (.intClaim t m c) s = .next (s.moved t ({ d with irqFlags := clrBit s.d.irqFlags (i - 160) }.readEnded m stOK (.num (i : Nat))))) ∧
      (∀ g, i < 64 → (s.d.task (0x100 + i)).work = some g → exec (.intClaim t m c) s = .next (s.moved t
        (((d.put (0x1610 + c) 3 (g.stamp : Nat)).put (0x1610 + c) 4 (g.data : Nat)).readEnded m stOK (.num (i : Nat)))))) ∧
    ((∀ i, i < 164 → intClaimable s.d c secure i = false) → exec (.intClaim t m c) s = .next (s.moved t ((begun s.d).readEnded m stOK (.num 0xFFFF)))) ∧
    (∀ k, k < 8 → k ≠ c → exec (.intClaim t (.core k secure) c) s = .next (s.moved t ((begun s.d).readEnded (.core k secure) stDenied (.num 0))))) ∧
  (∀ (t c i : Nat) (secure : Bool) (s : State), okCore c = true → Awake s → i < 164 →
    let m : Master := .core c secure
    let d := { begun s.d with irqActive := tabErase s.d.irqActive i }
    (tabFind s.d.irqActive i = some c → 64 ≤ i → exec (.intComplete t m c (i : Nat)) s = .next (s.moved t (d.ended m stOK))) ∧
    (tabFind s.d.irqActive i = some c → i < 64 → (s.d.task (0x100 + i)).held = [] → exec (.intComplete t m c (i : Nat)) s = .next (s.moved t
      ((taskShow (d.setTask (0x100 + i) { s.d.task (0x100 + i) with work := none }) (0x100 + i)).ended m stOK))) ∧
    (tabFind s.d.irqActive i ≠ some c → exec (.intComplete t m c (i : Nat)) s = .next (s.moved t ((begun s.d).reject m 0x1610))))

/-- Counting in the sealed domain (R530 to R532, with R48 and R49). A level change at a pin waits for its filter, and one that is undone before the next filter clock leaves no trace. At MET_FILTER_ACCEPT the pin whose clock has come is accepted: an edge
that MET_QUAD_MULT counts moves C by one, up when A leads and MET_INVERT_DIR is 0 (with x1 the two edges of A that meet where B is at MET_INVERT_DIR); A and B on one clock count in QUAD_ERRORS and not in C; Z counts in Z_COUNT alone. A total that passes
multiples of MET_PULSE_LEN_UM upward, above the highest pulsed, starts MET_PULSE. At its end the output falls, and the next pulse that waits starts, at the earliest twice the width after the one
before. That the filter's clocks fall every 80 tt is the model's (log entry of the filter clocks).
Where the rules leave a corner open, a clause states the model's choice: assumption log 92 and 126. -/
def Obligations.SealedCountFollowsItsRules : Prop :=
  ∀ (t : Nat) (s : State), s.met.okOut = metOk s.met →
    let N := max s.now t
    let m := s.met
    let done (m' : Met) : Host.Outcome State Fault Refusal := .next (metDeliver s N { m := m' })
    let due (p : PinFilter) : Bool := p.lvl != p.acc && decide (ceilTo 80 p.since + (m.par.filterN - 1) * 80 ≤ N)
    let step : Int := 1000 * m.par.pulseLen
    let w := m.par.pulseWidth * 16000
    let a := { m with pinA := { m.pinA with acc := m.pinA.lvl } }
    let b := { m with pinB := { m.pinB with acc := m.pinB.lvl } }
    let moved (m' : Met) (up : Bool) : Met := { m' with c := wrapI 64 (m'.c + (if up != m.par.invert then 1 else -1)) }
    let a1 := moved a (m.pinA.lvl != m.pinB.acc)
    let b1 := moved b (m.pinB.lvl == m.pinA.acc)
    let past := max (m.pulsed / step) (metTotal m / step)
    let takesA := m.par.quadMult = 4 ∨ m.par.quadMult = 2 ∨ (m.par.quadMult = 1 ∧ m.pinB.acc = m.par.invert)
    (∀ level : Bool,
      let ch (p : PinFilter) : PinFilter :=
        let seen := if p.cell = ceilTo 80 N then (p.runLvl, p.runSince) else (p.lvl, p.since)
        if p.lvl = level then p
        else { p with lvl := level, since := if level = seen.1 then seen.2 else N, cell := ceilTo 80 N, runLvl := seen.1, runSince := seen.2 }
      exec (.metEncPinChange t .a level) s = done { m with pinA := ch m.pinA } ∧ exec (.metEncPinChange t .b level) s = done { m with pinB := ch m.pinB } ∧
      exec (.metEncPinChange t .z level) s = done { m with pinZ := ch m.pinZ }) ∧
    (m.powered = true → due m.pinA = true → due m.pinB = false → due m.pinZ = false →
      (¬takesA → exec (.metFilterAccept t) s = done a) ∧
      (takesA → step = 0 ∨ metTotal a1 / step ≤ past → exec (.metFilterAccept t) s = done a1) ∧
      (∀ n : Nat, takesA → step ≠ 0 → 1 ≤ n → metTotal a1 / step = past + n → m.pulseEnd = none → m.pulsesDue = 0 →
        let at_ := match m.pulseFrom with | none => N | some f => max N (f + 2 * w)
        exec (.metFilterAccept t) s = .next (metDeliver s N
          { m := { a1 with pulsed := metTotal a1 / step * step, pulsesDue := min n 64 - 1, pulsesLost := (m.pulsesLost + (n - 64)) % 4294967296, pulseFrom := some at_, pulseEnd := some (at_ + w) }, out := [.pin "MET_PULSE" 0 true at_] }))) ∧
    (m.powered = true → due m.pinA = false → due m.pinB = true → due m.pinZ = false →
      (m.par.quadMult ≠ 4 → exec (.metFilterAccept t) s = done b) ∧
      (m.par.quadMult = 4 → step = 0 ∨ metTotal b1 / step ≤ past → exec (.metFilterAccept t) s = done b1)) ∧
    (m.powered = true → due m.pinA = true → due m.pinB = true → due m.pinZ = false → ceilTo 80 m.pinA.since = ceilTo 80 m.pinB.since →
      let e := { a with pinB := b.pinB, quadErrors := (m.quadErrors + 1) % 4294967296, rollErrors := min (m.rollErrors + 1) 4294967295 }
      metOk e = m.okOut → exec (.metFilterAccept t) s = done e) ∧
    (m.powered = true → due m.pinA = false → due m.pinB = false →
      (due m.pinZ = false → exec (.metFilterAccept t) s = done m) ∧
      (due m.pinZ = true → exec (.metFilterAccept t) s = done
        { m with pinZ := { m.pinZ with acc := m.pinZ.lvl }, zCount := if m.pinZ.lvl = true then (m.zCount + 1) % 4294967296 else m.zCount })) ∧
    (∀ x, m.powered = true → m.pulseEnd = some x →
      (N < x → exec (.metPulseEnd t) s = done m) ∧
      (x ≤ N → m.pulsesDue = 0 → exec (.metPulseEnd t) s = .next (metDeliver s N
        { m := { m with pulseEnd := none }, out := [.pin "MET_PULSE" 0 false x] })) ∧
      (∀ f, x ≤ N → m.pulsesDue ≠ 0 → m.pulseFrom = some f → exec (.metPulseEnd t) s = .next (metDeliver s N
        { m := { m with pulseEnd := some (max N (f + 2 * w) + w), pulseFrom := some (max N (f + 2 * w)), pulsesDue := m.pulsesDue - 1 }, out := [.pin "MET_PULSE" 0 false x, .pin "MET_PULSE" 0 true (max N (f + 2 * w))] }))) ∧
    (m.powered = true → m.pulseEnd = none → exec (.metPulseEnd t) s = done m) ∧
    (m.powered = false → exec (.metFilterAccept t) s = done m ∧ exec (.metPulseEnd t) s = done m ∧ exec (.totalizerSlotWrite t) s = done m ∧ exec (.metWatchdog t) s = done m)

/-- The store, the power and the seal of the sealed domain, its messages and MET_OK (R528, R529, R533, R535 to R541, R547). The 100 ms tick writes a slot in the next position and
publishes the view. A power warning writes its slot, once in an interval, and then nothing. Power-on restores the valid slot of highest SLOT_SEQ with POWER_GAP, or sets STORE_FAULT. The
watchdog loses no count, and MET_OK falls until the image has been checked. A change of the seal is offered. The oldest ROLL or PARAM goes as eight signed words into an empty mailbox 31, else the TOTAL due; else a ROLL waits and a TOTAL is
counted in MSG_SKIPPED. After each of these commands MET_OK stands for its conditions.
Where the rules leave a corner open, a clause states the model's choice: assumption log 92, 93 and 126. -/
def Obligations.SealedRecordsFollowTheirRules : Prop :=
  ∀ (t : Nat) (s : State),
    let N := max s.now t
    let m := s.met
    let done (m' : Met) : Host.Outcome State Fault Refusal := .next (metDeliver s N { m := m' })
    let ok (m : Met) : Prop := m.powered = true ∧ padTo m.imageHash 32 0 = padTo m.approved 32 0 ∧ m.storeFault = false ∧ m.rollErrors ≤ m.par.errMax ∧
      m.rtcAt ≠ none ∧ m.sealPin.acc = true
    let slot (fail : Bool) : MetSlot :=
      { seq := match m.slots with | [] => 1 | x :: _ => if x.seq = 4294967295 then 1 else x.seq + 1, roll := m.roll, l0 := m.l0, c := m.c, rollStart := m.rollStart, rtc := metRtc m N, flags := b2n m.rollGap + 2 * b2n fail }
    (∀ c, (match c with
        | .metFilterAccept i => i == t | .metPulseEnd i => i == t | .totalizerSlotWrite i => i == t | .vddMetWarning i => i == t | .vddMetWarningEnd i => i == t | .metWatchdog i => i == t
        | .sealChange i _ => i == t | .metEncPinChange i _ _ => i == t | .vddMetPowerOn i _ _ _ => i == t | _ => false) = true →
      ∃ u, exec c s = .next u ∧ u.now = N ∧ u.tu = s.tu ∧ u.pending = s.pending ∧ u.d.o = s.d.o ∧ (u.met.okOut = true ↔ ok u.met) ∧
        (u.met.okOut ≠ m.okOut → Out.pin "MET_OK" 0 u.met.okOut N ∈ u.d.out)) ∧
    (m.okOut = metOk m →
      (m.powered = true → m.tickAt + 1600000000 ≤ N →
        let m1 : Met := { m with slots := if m.warned = true then m.slots else (slot false :: m.slots).take 256, totalDue := true, tryDue := true, extraUsed := false, warnUsed := false, tickAt := m.tickAt + (N - m.tickAt) / 1600000000 * 1600000000 }
        exec (.totalizerSlotWrite t) s = done { m1 with view := { seq := if m.view.seq = 4294967295 then 1 else m.view.seq + 1, total := wrapI 64 (m.l0 + m.c * m.par.scale / 1000), c := m.c, roll := m.roll, rollNm := wrapI 64 (m.l0 + m.c * m.par.scale / 1000 - m.rollStart), status := metStatus m, rtc := metRtc m N, zCount := m.zCount } }) ∧
      (m.powered = true → N < m.tickAt + 1600000000 → exec (.totalizerSlotWrite t) s = done m) ∧
      (m.powered = true → m.warned = false → exec (.vddMetWarning t) s = done
        { m with slots := if m.warnUsed = true then m.slots else (slot true :: m.slots).take 256, warnUsed := true, warned := true, kept := some { rollLog := m.rollLog, audit := m.audit, eventCounter := m.eventCounter, par := m.par, approved := m.approved } }) ∧
      (m.powered = false ∨ m.warned = true → exec (.vddMetWarning t) s = done m) ∧
      exec (.vddMetWarningEnd t) s = done { m with warned := false, kept := none } ∧
      (m.powered = true → m.okOut = false → exec (.metWatchdog t) s = done { m with sessions := [] }) ∧
      (m.powered = true → m.okOut = true → exec (.metWatchdog t) s = .next (metDeliver s N
        { m := { m with sessions := [] }, ev := [(0x2E3, metStatus m - 128), (0x2E2, 0)],
          out := [.pin "MET_OK" 0 false N, .pin "MET_OK" 0 true N] })) ∧
      (∀ level : Bool, level = m.sealPin.acc → exec (.sealChange t level) s = done { m with sealPin := { m.sealPin with lvl := level } }) ∧
      (∀ level : Bool, level ≠ m.sealPin.acc → m.powered = true →
        let m1 := { m with sealPin := { m.sealPin with lvl := level, acc := level }, rollSeal := m.rollSeal || !level }
        (metOk m1 = m.okOut → exec (.sealChange t level) s = .next (metDeliver s N { m := m1, ev := [(if level = true then 0x2E5 else 0x2E4, 0)] })) ∧
        (metOk m1 = true → m.okOut = false → exec (.sealChange t level) s = .next (metDeliver s N
          { m := { m1 with okOut := true }, ev := [(0x2E5, 0), (0x2E2, 0)], out := [.pin "MET_OK" 0 true N] })) ∧
        (metOk m1 = false → m.okOut = true → exec (.sealChange t level) s = .next (metDeliver s N
          { m := { m1 with okOut := false }, ev := [(0x2E4, 0), (0x2E3, metStatus m1)], out := [.pin "MET_OK" 0 false N] })))) ∧
    (∀ (image version : List Byte) (bad : List Nat),
      let valid := m.slots.filter (fun x => !bad.contains x.seq)
      ∃ u, exec (.vddMetPowerOn t image version bad) s = .next u ∧ u.met.powered = true ∧ u.met.slots = valid ∧ u.met.storeErrors = m.slots.length - valid.length ∧
        u.met.imageHash = sha256 image ∧ u.met.version = version ∧ u.met.rtcAt = none ∧ u.met.okOut = false ∧ u.met.zCount = 0 ∧ u.met.sessions = [] ∧
        (m.kept = none → u.met.eventCounter = m.eventCounter ∧ u.met.audit = m.audit ∧ u.met.rollLog = m.rollLog ∧ u.met.par = m.par ∧ u.met.approved = m.approved) ∧
        (∀ kp, m.kept = some kp → u.met.eventCounter = kp.eventCounter ∧ u.met.audit = kp.audit ∧ u.met.rollLog = kp.rollLog ∧ u.met.par = kp.par ∧ u.met.approved = kp.approved) ∧
        (valid = [] → u.met.storeFault = true ∧ u.met.c = 0 ∧ u.met.l0 = 0 ∧ u.met.roll = 0) ∧
        (∀ x ∈ valid, (∀ y ∈ valid, y.seq < x.seq ∨ y = x) → u.met.storeFault = false ∧ u.met.c = x.c ∧ u.met.l0 = x.l0 ∧ u.met.roll = x.roll ∧
          u.met.rollStart = x.rollStart ∧ u.met.rollGap = true ∧ u.met.powerGaps = 1)) ∧
    (m.powered = true → m.tryDue = true →
      let live := s.d.pow.heldBy.isNone && s.d.inSvc 0x007
      let box := (s.d.mbox 31).ab
      let idle (m' : Met) : Host.Outcome State Fault Refusal := .next { s with now := N, met := m', d := { s.d with out := [], resp := {}, tuOps := [] } }
      (∀ x r m1, (m.queue = x :: r ∧ m1 = { m with queue := r, tryDue := false }) ∨
          (m.queue = [] ∧ m.totalDue = true ∧ m1 = { m with totalDue := false, tryDue := false } ∧
            x = { kind := 1, w1 := wrapU 64 (m.l0 + m.c * m.par.scale / 1000) % 4294967296, w2 := wrapU 64 (m.l0 + m.c * m.par.scale / 1000) / 4294967296, w3 := m.roll }) →
        (live = false → exec (.metMessageSend t) s = idle { m1 with msgSkipped := (m.msgSkipped + 1) % 4294967296 }) ∧
        (live = true → box ≠ [] → x.kind = 1 → exec (.metMessageSend t) s = idle { m1 with msgSkipped := (m.msgSkipped + 1) % 4294967296 }) ∧
        (live = true → box ≠ [] → x.kind ≠ 1 → exec (.metMessageSend t) s = idle { m with tryDue := false }) ∧
        (live = true → box = [] → s.d.ustate (0x100 + mbEnd s.d 31 1 % 8) ≠ .off → x.kind < 256 → x.w1 < 4294967296 → x.w2 < 4294967296 → x.w3 < 4294967296 → m.eventCounter < 4294967296 →
          let six := [x.kind * 16777216 + m.msgSeq % 16777216, x.w1, x.w2, x.w3, m.eventCounter, shortId m % 65536 * 65536 + metStatus m1]
          let tag := hmacSha256 (padTo m.par.signKey 32 0) (six.flatMap (toLE 4))
          ∃ u, exec (.metMessageSend t) s = .next u ∧ u.now = N ∧ u.tu = s.tu ∧ u.pending = s.pending ∧ u.met = { m1 with msgSeq := (m.msgSeq + 1) % 16777216 } ∧ u.d.o = s.d.o ∧
            (u.d.mbox 31).ab = six ++ [leAt tag 0 4, leAt tag 4 4] ∧ (u.d.mbox 31).ba = (s.d.mbox 31).ba)) ∧
      (m.queue = [] → m.totalDue = false → exec (.metMessageSend t) s = idle { m with tryDue := false })) ∧
    (m.powered = true → m.tryDue = false → exec (.metMessageSend t) s = .next { s with now := N, d := { s.d with out := [], resp := {}, tuOps := [] } }) ∧
    (m.powered = false → exec (.metMessageSend t) s = .next { s with now := N, d := { s.d with out := [], resp := {} } })

/-- Writes of metrology sessions (R528, R531, R534, R537 to R539, R542, R545). Only an open metrology session's writes are taken, all but ROLL_END with the seal open only; else DENIED. Each
change is counted, audited, written in an extra slot, reported and offered. ROLL_END closes the roll into the log and opens the next; a new scale ends the roll and starts the count from the
total; RTC_SET, APPROVE and RESTART do their own. The
extra slot is one to an interval, and none with the regular write of its own clock. The cases are those in which the queue has room. The old value of an APPROVE or a
RESTART in its audit entry is open (R538 states none).
Where the rules leave a corner open, a clause states the model's choice: assumption log 92 to 94 and 126. -/
def Obligations.SealedWritesFollowTheirRules : Prop :=
  ∀ (t k : Nat) (s : State), okSess k = true → Awake s → Between s →
    let N := max s.now t
    let m := s.met
    let F : Master := .fdp k
    let isSession := (tabGet m.sessions {} k).isOpen = true
    let room := m.queue.length < 15
    let slotOf (m : Met) : Met :=
      let x : MetSlot := { seq := match m.slots with | [] => 1 | x :: _ => if x.seq = 4294967295 then 1 else x.seq + 1, roll := m.roll, l0 := m.l0, c := m.c, rollStart := m.rollStart, rtc := metRtc m N, flags := b2n m.rollGap }
      if m.extraUsed = true ∨ m.warned = true ∨ m.tickAt + 1600000000 ≤ N then m
      else if m.view.seq ≠ 0 ∧ ceilTo 80 N = ceilTo 80 m.tickAt then { m with slots := match m.slots with | [] => [] | y :: r => { x with seq := y.seq } :: r }
      else { m with extraUsed := true, slots := (x :: m.slots).take 256 }
    let said (m : Met) (x : MetMsg) : Met := { m with queue := m.queue ++ [x], tryDue := true }
    let audit (m : Met) (sub kind old new : Nat) : List Byte :=
      toLE 4 (m.eventCounter + 1) ++ toLE 2 0x6010 ++ toLE 1 sub ++ toLE 1 kind ++ toLE 8 old ++ toLE 8 new ++ toLE 4 (metRtc m N)
    let noted (m : Met) (sub kind old new : Nat) : Met := { m with eventCounter := m.eventCounter + 1, audit := ((audit m sub kind old new ++ toLE 4 (crc32c (audit m sub kind old new))) :: m.audit).take 1024 }
    let changed (m : Met) (sub kind old new : Nat) : Met := said (slotOf (noted m sub kind old new)) { kind := 3, w1 := 0x6010 * 256 + sub, w2 := 0, w3 := m.roll }
    let rolled : Met :=
      let len := wrapU 64 (metTotal m - m.rollStart)
      let entry := toLE 4 m.roll ++ toLE 8 len ++ toLE 4 m.rollRtc ++ toLE 4 (metRtc m N) ++ toLE 4 m.rollErrors ++
        toLE 2 (b2n m.rollGap + 2 * b2n (quadLimit m) + 4 * b2n (imageChanged m) + 8 * b2n (m.rollSeal || sealOpen m)) ++ toLE 2 0
      said (slotOf { m with rollLog := ((entry ++ toLE 4 (crc32c entry)) :: m.rollLog).take 64, roll := (m.roll + 1) % 4294967296, rollStart := metTotal m, rollRtc := metRtc m N, rollErrors := 0, rollGap := false, rollSeal := sealOpen m })
        { kind := 2, w1 := len % 4294967296, w2 := len / 4294967296, w3 := m.roll }
    let raised (l : List (Nat × Nat)) : Dev := l.foldl (fun d p => d.raiseFrom p.1 p.2 (N - s.tu.rawBase) none) ((begun s.d).ended F stOK)
    let done (m' : Met) (l : List (Nat × Nat)) : Host.Outcome State Fault Refusal := .next { s with now := N, met := m', d := raised l }
    let denied : Host.Outcome State Fault Refusal := .next (s.moved t ((begun s.d).ended F stDenied))
    (isSession → room → metOk { m with rollErrors := 0 } = m.okOut → exec (.rollEnd t F 1) s = done rolled [(0x2E1, m.roll)]) ∧
    (isSession → m.okOut = metOk m → exec (.rollEnd t F 0) s = done m []) ∧
    (∀ n, isSession → sealOpen m = false →
      (0 ≤ n → n < 4294967296 → exec (.rtcSet t F n) s = denied ∧ exec (.metParamWrite t F 1 n []) s = denied) ∧ exec (.approve t F 1) s = denied ∧ exec (.metRestart t F 1) s = denied) ∧
    (¬isSession → exec (.rollEnd t F 1) s = denied ∧ exec (.rtcSet t F 7) s = denied ∧ exec (.metParamWrite t F 1 7 []) s = denied ∧ exec (.approve t F 1) s = denied ∧
      exec (.metRestart t F 1) s = denied) ∧
    (∀ c, c < 8 → ∀ b : Bool, let K : Master := .core c b
      let kept := (begun s.d).ended K stDenied
      exec (.rollEnd t K 1) s = .next (s.moved t kept) ∧ exec (.rtcSet t K 7) s = .next (s.moved t kept) ∧ exec (.metParamWrite t K 1 7 []) s = .next (s.moved t kept) ∧
      exec (.approve t K 1) s = .next (s.moved t kept) ∧ exec (.metRestart t K 1) s = .next (s.moved t kept)) ∧
    (isSession → sealOpen m = true → m.okOut = false → room → m.eventCounter < 4294967295 →
      (∀ n : Nat, n < 4294967296 → exec (.rtcSet t F n) s = done (changed { m with rtcAt := some (n, N) } 0x0B 3 (metRtc m N) n) [(0x2E6, m.eventCounter + 1)]) ∧
      (∃ old, old < 18446744073709551616 ∧ exec (.approve t F 1) s = done (changed { m with approved := m.imageHash } 0x0C 1 old 1) [(0x2E6, m.eventCounter + 1)]) ∧
      (∃ old, old < 18446744073709551616 ∧ exec (.metRestart t F 1) s = done { changed m 0x0D 4 old 1 with sessions := [] } [(0x2E6, m.eventCounter + 1)]) ∧
      (∀ n : Nat, n < 4294967296 →
        let scaled := { rolled with l0 := wrapI 64 (metTotal m), c := 0, par := { m.par with scale := n } }
        let noted1 := noted scaled 1 0 m.par.scale n
        exec (.metParamWrite t F 1 n []) s = done (said (slotOf noted1) { kind := 3, w1 := 0x6010 * 256 + 1, w2 := 0, w3 := scaled.roll })
          [(0x2E1, m.roll), (0x2E6, m.eventCounter + 1)]) ∧
      (∀ (sub n old : Nat) (p : MetParams),
        (sub = 2 ∧ (n = 1 ∨ n = 2 ∨ n = 4) ∧ old = m.par.quadMult ∧ p = { m.par with quadMult := n }) ∨ (sub = 3 ∧ 1 ≤ n ∧ n < 256 ∧ old = m.par.filterN ∧ p = { m.par with filterN := n }) ∨
        (sub = 4 ∧ n < 2 ∧ old = b2n m.par.invert ∧ p = { m.par with invert := n == 1 }) ∨ (sub = 5 ∧ n < 4294967296 ∧ old = m.par.resUm ∧ p = { m.par with resUm := n }) ∨
        (sub = 6 ∧ n < 4294967296 ∧ old = m.par.pulseLen ∧ p = { m.par with pulseLen := n }) ∨ (sub = 7 ∧ 1 ≤ n ∧ n ≤ 10000 ∧ old = m.par.pulseWidth ∧ p = { m.par with pulseWidth := n }) ∨
        (sub = 8 ∧ n < 4294967296 ∧ old = m.par.errMax ∧ p = { m.par with errMax := n }) →
        exec (.metParamWrite t F sub n []) s = done (changed { m with par := p } sub 0 old n) [(0x2E6, m.eventCounter + 1)]) ∧
      (∀ key : List Byte, key.length = 32 →
        exec (.metParamWrite t F 9 0 key) s = done (changed { m with par := { m.par with signKey := key } } 9 2 0 0) [(0x2E6, m.eventCounter + 1)] ∧
        exec (.metParamWrite t F 0x0A 0 key) s = done (changed { m with par := { m.par with roleKey := key } } 0x0A 2 0 0) [(0x2E6, m.eventCounter + 1)]))

/-- Monitors and temperature (R548 to R554, R577). A sample is taken by a unit that is IN_SERVICE, the largest of those of one clock (for EYE_MARGIN and a sensor the value that the device holds), into its accumulators, its bin and the alarm test; in
TEST a write of TEST_FEED is one. A window that is over by time, stamped with the instant at which it was over, or by count, or that PUBLISH ends, is published with MON_PUBLISHED, and the next begins from zero or, with KEEP, goes on. TEMP_READ
sets a sensor's bit of TEMP_WARNING at TEMP_WARN, clears it below TEMP_WARN - TEMP_HYST, offers what is newly set and shows the hottest. Here the probe is no PACE probe (R423).
Where the rules leave a corner open, a clause states the model's choice: assumption log 95 and 124. -/
def Obligations.MonitorsFollowTheirRules : Prop :=
  (∀ (t k : Nat) (s : State), okMbox k = true → Awake s →
    let e := envOf t s
    let i := 0x1910 + k
    let unit := s.d.ustate (0x070 + k)
    let a := s.d.mon k
    let isOver := (s.d.gn i 5 = 1 ∧ a.startRaw + s.d.gn i 6 * 16000 ≤ rawAt t s) ∨ (s.d.gn i 5 = 2 ∧ 0 < s.d.gn i 7 ∧ s.d.gn i 7 ≤ a.taken)
    let took (x : Int) (skip : Nat) : Dev :=
      let v := x - s.d.gi i 3
      let bw := max 1 (s.d.gn i 4)
      let b : Nat := if s.d.gn i 2 = 1 then (if v < (bw : Int) then 0 else min 63 (Nat.log2 (v.toNat / bw) + 1)) else (max 0 (min 63 (v / (bw : Int)))).toNat
      let old := nth (padTo a.hist 64 0) b 0
      let sum := max (-9223372036854775808) (min 9223372036854775807 (a.sum + x))
      let alarm := s.d.gb i 0x0A && (decide (s.d.gi i 0x0B < x) || decide (x < s.d.gi i 0x0C))
      let d := (begun s.d).setMon k { a with taken := a.taken + 1, count := a.count + 1, sum := sum, sumSat := a.sumSat || decide (sum ≠ a.sum + x), min := if a.count = 0 then x else min a.min x, max := if a.count = 0 then x else max a.max x, hist := (padTo a.hist 64 0).set b (min (old + 1) 4294967295), binSat := a.binSat || old == 4294967295, under := a.under + b2n (decide (v < 0)), over_ := a.over_ + b2n (decide (s.d.gn i 2 ≠ 1 ∧ 63 < v / (bw : Int))), skipped := a.skipped + skip, alarms := a.alarms + b2n alarm, alarmed := a.alarmed || alarm }
      if alarm && !a.alarmed then d.raise e 0x2C0 k else d
    let publishedAt (at_ now : Nat) : Dev :=
      let shown := ((begun s.d).putB (0x1930 + k) 9 ((padTo a.hist 64 0).flatMap (toLE 4))).pub (0x1930 + k)
        [(1, (a.start : Nat)), (2, (now : Nat)), (3, (a.count : Nat)), (4, a.sum), (5, if a.count ≠ 0 then a.min else 0), (6, if a.count ≠ 0 then a.max else 0),
         (7, (a.under % 4294967296 : Nat)), (8, (a.over_ % 4294967296 : Nat)), (0x0A, (a.skipped % 4294967296 : Nat)), (0x0B, (a.alarms % 4294967296 : Nat)),
         (0x0C, (b2n a.sumSat + 2 * b2n a.binSat : Nat))]
      let kept : MonAcc := if s.d.gb i 8 = true then a else {}
      (shown.setMon k { kept with start := now, startRaw := at_, taken := 0, alarmed := false }).raise e 0x2C1 k
    let published : Dev := publishedAt (rawAt t s) (s.applied t)
    let due := a.startRaw + s.d.gn i 6 * 16000
    let ended : Dev := if s.d.gn i 5 = 1 ∧ due ≠ rawAt t s then publishedAt due ((s.tu.paramsAt (edge16 due)).applied (edge16 due)) else published
    let held := probeHeld s.d (s.d.gn i 1)
    (∀ (x : Int) (r : List Int), unit = .inService → s.d.gn i 1 / 4096 ≠ 0 → s.d.gn i 1 / 4096 ≠ 8 → ¬isOver →
      (held = none → exec (.monSample t k (x :: r)) s = .next (s.moved t (took (r.foldl max x) r.length))) ∧
      ∀ v, held = some v → exec (.monSample t k (x :: r)) s = .next (s.moved t (took v 0))) ∧
    (∀ xs : List Int, xs = [] ∨ unit ≠ .inService ∨ s.d.gn i 1 / 4096 = 0 → exec (.monSample t k xs) s = .next (s.moved t (begun s.d))) ∧
    (unit ≠ .off → isOver → exec (.monWindowEnd t k) s = .next (s.moved t ended)) ∧
    (unit = .off ∨ ¬isOver → exec (.monWindowEnd t k) s = .next (s.moved t (begun s.d))) ∧
    (∀ m, masterOk m = true →
      (s.d.accepts m i 9 1 = true → unit ≠ .off → exec (.monPublishWrite t m k 1) s = .next (s.moved t (published.ended m stOK))) ∧
      (s.d.accepts m i 9 1 = true → unit = .off → exec (.monPublishWrite t m k 1) s = .next (s.moved t ((begun s.d).ended m stOK))) ∧
      (s.d.accepts m i 9 0 = true → exec (.monPublishWrite t m k 0) s = .next (s.moved t ((begun s.d).ended m stOK))) ∧
      (∀ v : Int, s.d.accepts m i 0x0D v = true →
        (unit = .test → ¬isOver → exec (.testFeed t m k v) s = .next (s.moved t ((took v 0).ended m stOK))) ∧
        (unit ≠ .test → exec (.testFeed t m k v) s = .next (s.moved t ((begun s.d).ended m stOK)))))) ∧
  (∀ (t : Nat) (temps : List Int) (s : State), temps.length = 16 → Awake s → s.d.inForce = [] →
    let warn := s.d.gi 0x1951 1
    let hyst := s.d.gi 0x1951 2
    let old := s.d.gn 0x1950 3
    ∃ d, exec (.tempRead t temps) s = .next (s.moved t d) ∧ SameObjs s.d d [(0x1950, 0), (0x1950, 1), (0x1950, 2), (0x1950, 3)] ∧
      d.gi 0x1950 2 = temps.foldl max (nth temps 0 0) ∧ d.gB 0x1950 1 = temps.flatMap (fun x => toLE 2 (wrapU 16 x)) ∧
      (∀ k, k < 16 → let x := nth temps k 0
        bit (d.gn 0x1950 3) k = (if warn ≤ x then true else if x < warn - hyst then false else bit old k) ∧
        (tabWf s.d.pow.hot = true → tabFind d.pow.hot k = if 2160 ≤ x then some ((tabFind s.d.pow.hot k).getD (rawAt t s)) else none)) ∧
      ((∀ k, k < 16 → bit old k = false → nth temps k 0 < warn) → d.offers = s.d.offers) ∧
      (∀ k, k < 16 → bit old k = false → warn ≤ nth temps k 0 → (∀ j, j < 16 → j ≠ k → bit old j = false → nth temps j 0 < warn) →
        d.offers = (s.d.raise (envOf t s) 0x2C2 k).offers) ∧
      (s.d.pow.coolWait = true → s.d.pow.boot = .step 1 → (∀ x ∈ temps, x < warn) → d.pow.coolWait = false ∧ d.pow.boot = .step 2))

/-- Rotation and self-test (R555 to R558, R563). A step that is due starts on the next pipeline: one whose port is IN_SERVICE waits until it serves the port itself and for the spare and its pace
(log 124), then is shadowed; another is put in TEST at once. ROT_CMD = 1 starts one now; ROT_CMD = 2 hands the port back at the next committed line, or ends the step with the spare OFF and the pipeline in its port's
state. BIST_DONE shows PASS or FAIL, counts and offers a FAIL, and the step goes on: the pipeline returns, is deployed out or, on a PASS, follows at the next line.
Where the rules leave a corner open, a clause states the model's choice: assumption log 96 and 124. -/
def Obligations.RotationFollowsItsRules : Prop :=
  (∀ (t pace : Nat) (s : State), Awake s → s.d.rot.serves = none →
    let base : Dev := { begun s.d with paces := tabSet s.d.paces 16 pace, paceLow := tabErase s.d.paceLow 16 }
    let r := s.d.rot
    let n := r.next
    let due := r.wanted = true ∨ (s.d.gb 0x1960 1 = true ∧ r.at_ + s.d.gn 0x1960 2 * 16000000000 ≤ rawAt t s)
    let served := s.d.inSvc (uPort n) = true
    let able := s.d.inSvc (uPipe n) = true ∧ s.d.ustate (uPipe 16) = .off ∧ demandOf (envOf t s) (begun s.d) n * (100 + s.d.gn 0x1800 1) ≤ pace * 100
    let started : Rot := { next := n, bist := r.bist, at_ := rawAt t s, state := 1, pipe := n, pending := 1 }
    (r.state ≠ 0 ∨ ¬due → exec (.rotStepStart t pace) s = .next (s.moved t base)) ∧
    (r.state = 0 → due → served → able → exec (.rotStepStart t pace) s = .next (s.moved t (({ base with rot := started }.put 0x1960 5 1).put 0x1960 6 (n : Nat)))) ∧
    (r.state = 0 → due → served → ¬able → exec (.rotStepStart t pace) s = .next (s.moved t { base with rot := { r with wanted := true } })) ∧
    (r.state = 0 → due → ¬served → ∃ d, exec (.rotStepStart t pace) s = .next (s.moved t d) ∧ d.ustate (uPipe n) = .test ∧
      d.rot = { next := n, bist := r.bist.filter (fun x => x != n) ++ [n], at_ := rawAt t s, state := 2, pipe := n, back := s.d.ustate (uPipe n) })) ∧
  (∀ (t : Nat) (m : Master) (s : State), masterOk m = true → Awake s →
    let r := s.d.rot
    let n := r.next
    let served := s.d.inSvc (uPort n) = true
    let able := s.d.inSvc (uPipe n) = true ∧ s.d.ustate (uPipe 16) = .off ∧ demandOf (envOf t s) (begun s.d) n * (100 + s.d.gn 0x1800 1) ≤ tabGet s.d.paces 0 16 * 100
    let p := r.pipe
    let within := 1 ≤ r.state ∧ r.state ≤ 4
    (s.d.accepts m 0x1960 4 1 = true →
      (r.state ≠ 0 → exec (.rotCmdStart t m) s = .next (s.moved t ((begun s.d).ended m stOK))) ∧
      (r.state = 0 → served → able → exec (.rotCmdStart t m) s = .next (s.moved t
        ((({ begun s.d with rot := { next := n, bist := r.bist, at_ := rawAt t s, state := 1, pipe := n, pending := 1 } }.put 0x1960 5 1).put 0x1960 6 (n : Nat)).ended m stOK))) ∧
      (r.state = 0 → served → ¬able → exec (.rotCmdStart t m) s = .next (s.moved t ({ begun s.d with rot := { r with wanted := true } }.ended m stOK))) ∧
      (r.state = 0 → ¬served → ∃ d, exec (.rotCmdStart t m) s = .next (s.moved t d) ∧ d.ustate (uPipe n) = .test ∧ d.resp = { status := stOK, val := .num 0 } ∧
        d.rot = { next := n, bist := r.bist.filter (fun x => x != n) ++ [n], at_ := rawAt t s, state := 2, pipe := n, back := s.d.ustate (uPipe n) })) ∧
    (s.d.accepts m 0x1960 4 2 = true →
      (¬within → exec (.rotCmdAbort t m) s = .next (s.moved t ({ begun s.d with rot := { r with wanted := false } }.ended m stOK))) ∧
      (within → r.serves = some p → s.d.inSvc (uPort p) = true → exec (.rotCmdAbort t m) s = .next (s.moved t
        ({ begun s.d with rot := { r with pending := 5, shadow := none, bist := r.bist.filter (fun k => k != p) } }.ended m stOK))) ∧
      (within → p < 16 → r.serves ≠ some p ∨ s.d.inSvc (uPort p) = false → ∃ d, exec (.rotCmdAbort t m) s = .next (s.moved t d) ∧
        d.ustate (uPipe 16) = .off ∧ d.ustate (uPipe p) = (if r.serves ≠ some p ∧ r.state = 2 then r.back else s.d.ustate (uPort p)) ∧
        d.rot = { next := (p + 1) % 16, at_ := r.at_, bist := r.bist.filter (fun k => k != p && k != 16) } ∧ d.resp = { status := stOK, val := .num 0 }))) ∧
  (∀ (t k : Nat) (pass : Bool) (s : State), okPipe k = true → Awake s →
    let e := envOf t s
    let r := s.d.rot
    let i := 0x1970 + k
    let left := r.bist.filter (fun x => x != k)
    let shown := ((({ begun s.d with rot := { r with bist := left } }.put i 1 (if pass = true then 1 else 2)).put i 2 (s.applied t : Nat)).inc i 3).publish i
    let graded := if pass = true then shown else (shown.inc i 4).raise e 0x2C5 k
    (r.bist.contains k = false → exec (.bistDone t k pass) s = .next (s.moved t (begun s.d))) ∧
    (r.bist.contains k = true →
      (r.state = 0 ∨ (k ≠ 16 ∧ r.pipe ≠ k) ∨ (k = 16 ∧ r.state ≠ 4) → exec (.bistDone t k pass) s = .next (s.moved t graded)) ∧
      (k = 16 → r.state = 4 → pass = true → exec (.bistDone t k pass) s = .next (s.moved t { graded with rot := { r with bist := left, pending := 2 } })) ∧
      (k = 16 → r.state = 4 → pass = false → ∃ d, exec (.bistDone t k pass) s = .next (s.moved t d) ∧ d.ustate (uPipe 16) = .off ∧
        d.rot = { r with bist := left, state := 6, shadow := none, disagree := false }) ∧
      (k ≠ 16 → r.pipe = k → r.state = 2 → r.serves = some k →
        (pass = true → exec (.bistDone t k pass) s = .next (s.moved t
          { (if r.disagree = true then graded.inc 0x1960 8 else graded) with rot := { r with bist := left, pending := 3, disagree := false } })) ∧
        (pass = false → ∃ d, exec (.bistDone t k pass) s = .next (s.moved t d) ∧ d.ustate (uPipe k) = .off ∧
          d.rot = { r with bist := left, state := 5, shadow := none, pending := 0, retry := false, disagree := false })) ∧
      (k ≠ 16 → r.pipe = k → r.state = 2 → r.serves ≠ some k → ∃ d, exec (.bistDone t k pass) s = .next (s.moved t d) ∧ d.ustate (uPipe k) = r.back ∧
        d.rot = { next := (k + 1) % 16, at_ := r.at_, bist := left })))

/-- The governor, its bus and the watchdog of INSPECT_OK (R570, R571, R575, R576). In each period after the last command was reached the governor commands GOV_VMAX or GOV_VMIN, a step up
while the least pace over demand is below 1, or a step down once there was headroom for GOV_HOLD. A failed transaction is tried again, the fourth is AVS_FAULT, and so is VDD_CORE 30 mV
too low for 1 ms. A kick, or a write of INSPECT_WDOG_TIME, starts the interval afresh; an interval that passes without one counts once and stops the toggling at its next half-period edge.
Here no pipeline's pace is among the samples (R423).
Where the rules leave a corner open, a clause states the model's choice: assumption log 97 to 99. -/
def Obligations.GovernorAndWatchdogFollowTheirRules : Prop :=
  (∀ (t mv : Nat) (paces : List (Nat × Nat)) (reached : Bool) (s : State), Awake s → s.d.inForce = [] →
    let e := envOf t s
    let p := s.d.pow
    let watched : Dev := if p.avsOff = true then begun s.d else { begun s.d with pow := { p with lowSince := none } }
    let sound := p.avsOff = true ∨ p.vcmd ≤ mv + 30
    let runs := govRuns s.d = true
    let stages := govStages e (begun s.d)
    let dem (x : Nat) := stageDemand16 e (begun s.d) x
    let ratio (x : Nat) : Option Nat := match paces.find? (fun q => q.1 == x) with
      | some q => if dem x = 0 then none else some (q.2 * 65536000000 * 100 * 4096 / (dem x * (100 + s.d.gn 0x1800 1)))
      | none => none
    let rose := ∃ x ∈ stages, tabGet p.lastDemand 0 x * 105 < dem x * 100
    let vmin := s.d.gn 0x1200 2
    let vmax := s.d.gn 0x1200 3
    let on := s.d.gb 0x1200 1 = true
    (¬runs → exec (.govPeriod t paces mv reached) s = .next (s.moved t (begun s.d))) ∧
    (runs → sound → p.reached = false → reached = false → exec (.govPeriod t paces mv reached) s = .next (s.moved t watched)) ∧
    (runs → ¬sound → p.reached = false → reached = false →
      (p.lowSince = none → exec (.govPeriod t paces mv reached) s = .next (s.moved t { begun s.d with pow := { p with lowSince := some (rawAt t s, false) } })) ∧
      (∀ x, p.lowSince = some (x, false) → x + 16000000 ≤ rawAt t s → exec (.govPeriod t paces mv reached) s = .next (s.moved t
        ((({ begun s.d with pow := { p with lowSince := some (x, true) } }.setFlag 0x1201 6 0).publish 0x1201).raise e 0x2F0 0))) ∧
      (∀ x told, p.lowSince = some (x, told) → told = true ∨ rawAt t s < x + 16000000 → exec (.govPeriod t paces mv reached) s = .next (s.moved t (begun s.d)))) ∧
    (runs → sound → p.reached = true ∨ reached = true → (∀ x ∈ stages, 17 ≤ x) → ∃ d, exec (.govPeriod t paces mv reached) s = .next (s.moved t d) ∧
      SameObjs s.d d [(0x1201, 0), (0x1201, 1), (0x1201, 2), (0x1201, 3), (0x1201, 4), (0x1201, 6)] ∧
      d.gn 0x1201 1 = d.pow.vcmd ∧ d.gn 0x1201 2 = mv % 65536 ∧ (p.avsOff = false → d.out = [.avs d.pow.vcmd]) ∧ (p.avsOff = true → d.out = []) ∧
      (d.pow.reached = true ↔ d.pow.vcmd = p.vcmd) ∧ d.pow.lastDemand = stages.map (fun x => (x, dem x)) ∧
      (¬on → d.pow.vcmd = vmax) ∧ (on → stages = [] → d.pow.vcmd = vmin ∧ d.gn 0x1201 3 = 65535 ∧ d.gn 0x1201 4 = 0) ∧ (on → rose → d.pow.vcmd = vmax) ∧
      (∀ r, on → stages ≠ [] → ¬rose → ((∃ x ∈ stages, ratio x = some r) ∧ ∀ x ∈ stages, ∀ y, ratio x = some y → r ≤ y) →
        d.gn 0x1201 3 = min r 65535 ∧ (∃ x ∈ stages, ratio x = some r ∧ d.gn 0x1201 4 = x) ∧
        (r < 4096 → d.pow.vcmd = min (p.vcmd + s.d.gn 0x1200 5) vmax) ∧
        (4096 ≤ r → 100 * r < 4096 * (100 + s.d.gn 0x1200 7) → d.pow.vcmd = p.vcmd ∧ d.pow.goodSince = none) ∧
        (4096 ≤ r → 4096 * (100 + s.d.gn 0x1200 7) ≤ 100 * r →
          (p.goodSince.getD (rawAt t s) + s.d.gn 0x1200 8 * 16000000 ≤ rawAt t s → d.pow.vcmd = max (p.vcmd - s.d.gn 0x1200 6) vmin ∧ d.pow.goodSince = some (rawAt t s)) ∧
          (rawAt t s < p.goodSince.getD (rawAt t s) + s.d.gn 0x1200 8 * 16000000 → d.pow.vcmd = p.vcmd ∧ d.pow.goodSince = some (p.goodSince.getD (rawAt t s))))))) ∧
  (∀ (t : Nat) (s : State), Awake s →
    let p := s.d.pow
    let failed := (begun s.d).incP 0x1201 5
    (govRuns s.d = false ∨ p.avsOff = true → ∀ ok, exec (.avsTransactionDone t ok) s = .next (s.moved t (begun s.d))) ∧
    (govRuns s.d = true → p.avsOff = false →
      exec (.avsTransactionDone t true) s = .next (s.moved t { begun s.d with pow := { p with avsFails := 0 } }) ∧
      (p.avsFails < 3 → exec (.avsTransactionDone t false) s = .next (s.moved t ({ failed with pow := { p with avsFails := p.avsFails + 1 } }.emit (.avs p.vcmd)))) ∧
      (3 ≤ p.avsFails → exec (.avsTransactionDone t false) s = .next (s.moved t
        ((({ failed with pow := { p with avsFails := 0 } }.setFlag 0x1201 6 0).publish 0x1201).raise (envOf t s) 0x2F0 0))))) ∧
  (∀ (t : Nat) (m : Master) (s : State), masterOk m = true → Awake s →
    let p := s.d.pow
    let kicked : PowerD := { p with kickAt := rawAt t s, wdogMissed := false }
    (s.d.accepts m 0x1218 3 1 = true → exec (.inspectKick t m 1) s = .next (s.moved t ({ begun s.d with pow := kicked }.ended m stOK))) ∧
    (s.d.accepts m 0x1218 3 0 = true → exec (.inspectKick t m 0) s = .next (s.moved t ((begun s.d).ended m stOK))) ∧
    (∀ v : Int, s.d.accepts m 0x1218 2 v = true → exec (.inspectWdogTimeWrite t m v) s = .next (s.moved t
      ({ (begun s.d).put 0x1218 2 v with pow := kicked }.ended m stOK)))) ∧
  (∀ (t : Nat) (s : State), Awake s →
    let p := s.d.pow
    let interval := s.d.gn 0x1218 2
    let over_ := interval ≠ 0 ∧ p.wdogMissed = false ∧ p.kickAt + interval * 16000000 ≤ rawAt t s
    let edge := p.beat + (rawAt t s - p.beat + 799999) / 800000 * 800000
    (¬over_ → exec (.inspectWdogExpired t) s = .next (s.moved t (begun s.d))) ∧
    (over_ → p.inspecting = false → exec (.inspectWdogExpired t) s = .next (s.moved t ({ begun s.d with pow := { p with wdogMissed := true } }.inc 0x1218 4))) ∧
    (over_ → p.inspecting = true → exec (.inspectWdogExpired t) s = .next (s.moved t
      (((({ ({ begun s.d with pow := { p with wdogMissed := true } }.inc 0x1218 4) with pow := { p with wdogMissed := true, inspecting := false } }).put 0x1218 1 0).emit
        (.pin "INSPECT_OK" 0 false edge)).raise (envOf t s) 0x2F1 0))))

/-- Resets (R23, R31, R54, R392, R567, R568, R572 to R574, R577, R578, R595). A power-on or cold reset leaves of the main domain what is fused and, if cold, the reset log with its cause; it is
held until its release, which samples the straps and starts boot. A warm reset keeps time, positions, memory and its counters, straps, the log and the counts since power-on. A cause in a stronger reset adds its bit alone. The outputs
go low. The sealed domain is untouched. A TEMP_TRIP of 1 ms is a warm reset whose boot waits for every sensor.
Where the rules leave a corner open, a clause states the model's choice: assumption log 21 and 100 to 102. -/
def Obligations.ResetsFollowTheirRules : Prop :=
  (∀ (t : Nat) (s : State),
    let N := max s.now t
    let d0 : Dev := { s.d with out := [], resp := {} }
    let rest (u : State) := u.now = N ∧ u.met = s.met ∧ u.pending = s.pending
    let fused : List Nat := [okey 0x1230 6, okey 0x1230 7]
    let log : List Nat := [okey 0x1210 2, okey 0x1210 3]
    let kept : List Nat := [okey 0x1000 4, okey 0x1230 1, okey 0x1700 2, okey 0x1700 3, okey 0x3801 2] ++ [1, 2, 3, 4, 0x0B].map (okey 0x1701) ++
      (List.range 8).map (fun c => okey (0x1618 + c) 3) ++ (List.range 4).map (fun n => okey (0x3508 + n) 7)
    let empty (d : Dev) := d.inForce = [] ∧ d.shadow = [] ∧ d.units = [] ∧ d.ovls = [] ∧ d.masters = [] ∧ d.sessions = [] ∧ d.streams = [] ∧ d.mboxes = [] ∧ d.locks = [] ∧ d.irqActive = [] ∧
      d.irqFlags = 0 ∧ d.lanes = [] ∧ d.ports = [] ∧ d.tcs = [] ∧ d.cmps = [] ∧ d.tasks = [] ∧ d.chans = [] ∧ d.offers = [] ∧ d.markQ = [] ∧ d.mons = [] ∧ d.flash = s.d.flash
    let low (d : Dev) := ∀ q ∈ ([("REFOUT", 4), ("TRG", 16), ("TTO", 8), ("PPS_OUT", 1), ("HD_CLK", 8), ("HD_DAT", 8), ("HD_LAT", 8), ("HD_FIRE", 8), ("HD_HEAT", 8), ("HEAD_PWR_EN", 1),
      ("INSPECT_OK", 1)] : List (String × Nat)), ∀ k, k < q.2 → ∃ at_, Out.pin q.1 k false at_ ∈ d.out
    let counted (bit : Nat) : List Byte :=
      let b := padTo (s.d.gB 0x1210 3) 28 0
      b.take (4 * bit) ++ toLE 4 ((leAt b (4 * bit) 4 + 1) % 4294967296) ++ b.drop (4 * bit + 4)
    let cold (c : Instr) (bit : Nat) :=
      (s.d.pow.heldBy = none → s.d.inForce = [] → ∃ u, exec c s = .next u ∧ rest u ∧ u.tu = { rawBase := N } ∧ empty u.d ∧ low u.d ∧ u.d.mem = [] ∧ u.d.pow.heldBy = some bit ∧
        u.d.pow.vcmd = s.d.pow.vcmd ∧ u.d.gn 0x1210 2 = 2 ^ bit ∧ u.d.gB 0x1210 3 = counted bit ∧
        (∀ k ∈ fused, tabFind u.d.o k = tabFind s.d.o k) ∧ (∀ k, k ∉ fused → k ∉ log → k ≠ okey 0x1201 1 → k ≠ okey 0x1200 1 → tabFind u.d.o k = none) ∧
        (∀ n p, (u.d.enc n).pos = 0 ∧ ((u.d.enc n).pin p).lvl = ((s.d.enc n).pin p).lvl)) ∧
      (s.d.pow.heldBy ≠ none → exec c s = .next { s with now := N, d := d0.setFlag 0x1210 2 bit })
    let warmed (c : Instr) (bit : Nat) :=
      (s.d.pow.heldBy = none → s.d.gn 0x1230 1 < 6 → s.d.inForce = [] → ∃ u, exec c s = .next u ∧ rest u ∧ u.tu = s.tu ∧ empty u.d ∧ low u.d ∧ u.d.mem = s.d.mem ∧ u.d.poison = s.d.poison ∧
        u.d.slots = s.d.slots ∧ u.d.spares = s.d.spares ∧ u.d.migs = s.d.migs ∧ u.d.pow.heldBy = none ∧ u.d.pow.kickAt = N - s.tu.rawBase ∧ u.d.pow.vcmd = s.d.pow.vcmd ∧
        u.d.pow.boot = .step (if bit = 6 then 1 else 2) ∧ u.d.gn 0x1210 2 = 2 ^ bit ∧ u.d.gB 0x1210 3 = counted bit ∧
        (∀ k ∈ fused ++ kept, tabFind u.d.o k = tabFind s.d.o k) ∧
        (∀ k, k ∉ fused → k ∉ log → k ∉ kept → k ≠ okey 0x1201 1 → k ≠ okey 0x1200 1 → tabFind u.d.o k = none) ∧
        (∀ n, (u.d.enc n).pos = (s.d.enc n).pos))
    let warm (c : Instr) (bit : Nat) := warmed c bit ∧ (s.d.pow.heldBy ≠ none → exec c s = .next { s with now := N, d := d0.setFlag 0x1210 2 bit })
    cold (.resetNLow t) 1 ∧ cold (.brownout t) 2 ∧ cold (.clockLoss t) 3 ∧ warm (.fwWatchdog t) 5 ∧
    ((∃ q ∈ s.d.pow.hot, q.2 + 16000000 ≤ N - s.tu.rawBase) → warm (.thermalTrip t) 6) ∧
    ((∀ q ∈ s.d.pow.hot, N - s.tu.rawBase < q.2 + 16000000) → exec (.thermalTrip t) s = .next { s with now := N, d := d0 }) ∧
    (∀ (dev mode : Nat) (avs : Bool),
      (∃ u, exec (.powerOnReset t false dev mode avs) s = .next u ∧ rest u ∧ u.tu = { rawBase := N } ∧ empty u.d ∧ low u.d ∧ u.d.mem = [] ∧ u.d.pow = { heldBy := some 0 } ∧
        u.d.gn 0x1210 2 = 1 ∧ (∀ k ∈ fused, tabFind u.d.o k = tabFind s.d.o k) ∧ (∀ k, k ∉ fused → k ≠ okey 0x1210 2 → tabFind u.d.o k = none)) ∧
      (mode < 6 → ∃ u, exec (.powerOnReset t true dev mode avs) s = .next u ∧ rest u ∧ u.tu = { rawBase := N } ∧ empty u.d ∧ low u.d ∧ u.d.mem = [] ∧
        u.d.pow = { boot := .step 2, avsOff := !avs } ∧ u.d.gn 0x1210 2 = 1 ∧ u.d.gn 0x1000 4 = dev % 1024 ∧ u.d.gn 0x1230 1 = mode ∧ u.d.gb 0x1200 1 = avs) ∧
      (s.d.pow.heldBy = none → exec (.coldResetRelease t dev mode avs) s = .next { s with now := N, d := d0 }) ∧
      (s.d.pow.heldBy ≠ none → s.d.inForce = [] →
        let p : PowerD := { s.d.pow with heldBy := none, avsOff := !avs }
        let strapped := ({ d0 with pow := p }.put 0x1000 4 (dev % 1024 : Nat)).put 0x1230 1 (mode % 8 : Nat)
        let gov := if avs = true then strapped.clearSubs 0x1200 [1] else strapped.put 0x1200 1 0
        (mode % 8 < 6 → exec (.coldResetRelease t dev mode avs) s = .next
          { s with now := N, tu := { rawBase := N }, d := { gov with pow := { p with boot := .step (if p.coolWait = true then 1 else 2) } } }) ∧
        (6 ≤ mode % 8 → exec (.coldResetRelease t dev mode avs) s = .next
          { s with now := N, tu := { rawBase := N }, d := { gov with pow := { p with boot := .halted } }.put 0x1230 4 2 }))) ∧
    (∀ m, masterOk m = true → Between s →
      (Awake s → s.d.accepts m 0x1210 1 1 = true → s.d.inForce = [] → s.d.gn 0x1230 1 < 6 → warmed (.warmReset t m 1) 4) ∧
      (Awake s → s.d.accepts m 0x1210 1 0 = true → s.d.inForce = [] → exec (.warmReset t m 0) s = .next (s.moved t ((begun s.d).ended m stOK))) ∧
      (Awake s → s.d.hasRole m .service = false → s.d.inForce = [] → exec (.warmReset t m 1) s = .next (s.moved t ((begun s.d).ended m stDenied)))))

/-- Boot and recovery (R578 to R581). Step 2 ends with MET_AT_BOOT; by the straps, or for want of a valid image, a recovery port is named; else the image chosen starts on core 0 with
BOOT_SLOT, IMAGE_VERSION and VDD_CORE at 720 mV. In recovery ANNOUNCE goes out every second, DATA is taken at the expected offset alone and answered with ACK, and GO starts an image that
passes or answers ACK with offset 0. Here the flash holds no configuration region.
Where the rules leave a corner open, a clause states the model's choice: assumption log 8, 103 and 106 to 108. -/
def Obligations.BootAndRecoveryFollowTheirRules : Prop :=
  ∀ (t : Nat) (s : State), Awake s → s.d.inForce = [] →
    let mac : List Byte := toBE 4 0x02B11600 ++ toBE 2 (s.d.gn 0x1000 4 % 1024)
    let all : List Byte := List.replicate 6 255
    let frame (to_ from_ : List Byte) (body : List Byte) : List Byte := to_ ++ from_ ++ toBE 2 0x88B5 ++ body
    let sent (d : Dev) (g : Nat) (to_ body : List Byte) : Dev := d.emit (.frame g (padTo (frame to_ mac body) 60 0))
    let started (d : Dev) (slot : Nat) (image : List Byte) := d.ustate 0x100 = .inService ∧ d.gn 0x1230 2 = slot ∧ d.gn 0x1230 3 = leAt image 8 4 ∧ d.gn 0x1201 1 = 720 ∧ d.pow.vcmd = 720 ∧
        d.pow.recv = [] ∧ d.pow.boot = .step (if s.d.slots = [] then 4 else 5)
    (∀ (report : Bool) (a b : List Byte),
      let seen := (begun s.d).put 0x1230 5 (if report = true ∧ s.met.powered = true then 0 else 1)
      let mode := s.d.gn 0x1230 1
      let rec_ (d : Dev) (g : Nat) : Dev := { d with pow := { d.pow with boot := .recovery g, recv := [], announceAt := none } }
      (s.d.pow.boot ≠ .step 2 → exec (.bootMetCheck t report a b) s = .next (s.moved t (begun s.d))) ∧
      (s.d.pow.boot = .step 2 → 1 ≤ mode → mode ≤ 4 → exec (.bootMetCheck t report a b) s = .next (s.moved t (rec_ seen (if mode ≤ 2 then 0 else 1)))) ∧
      (s.d.pow.boot = .step 2 → mode = 0 ∨ 5 ≤ mode →
        let va := imageValid s.d a false
        let vb := imageValid s.d b false
        (va = false → vb = false → exec (.bootMetCheck t report a b) s = .next (s.moved t (rec_ (seen.put 0x1230 4 1) 0))) ∧
        (s.d.flash = [] → ∃ d, exec (.bootMetCheck t report a b) s = .next (s.moved t d) ∧ d.gn 0x1230 5 = (if report = true ∧ s.met.powered = true then 0 else 1) ∧
          (va = true → vb = false ∨ leAt b 8 4 ≤ leAt a 8 4 → started d 0 a) ∧ (vb = true → va = false ∨ leAt a 8 4 < leAt b 8 4 → started d 1 b)))) ∧
    (∀ g, s.d.pow.boot = .recovery g →
      (s.d.pow.announceAt = none ∨ (∃ x, s.d.pow.announceAt = some x ∧ x + 16000000000 ≤ rawAt t s) → exec (.recoveryAnnounce t) s = .next (s.moved t
        (sent { begun s.d with pow := { s.d.pow with announceAt := some (rawAt t s) } } g all (toBE 1 1 ++ toBE 2 (s.d.gn 0x1000 4) ++ toBE 1 (s.d.gn 0x1230 4))))) ∧
      (∀ x, s.d.pow.announceAt = some x → rawAt t s < x + 16000000000 → exec (.recoveryAnnounce t) s = .next (s.moved t (begun s.d)))) ∧
    ((match s.d.pow.boot with | .recovery _ => false | _ => true) = true → exec (.recoveryAnnounce t) s = .next (s.moved t (begun s.d))) ∧
    (∀ (g : Nat) (f : List Byte), okMg g = true → s.d.pow.boot ≠ .recovery g →
      exec (.recoveryData t g f) s = .next (s.moved t (begun s.d)) ∧ exec (.recoveryGo t g f) s = .next (s.moved t (begun s.d))) ∧
    (∀ (g off : Nat) (to_ host data : List Byte), okMg g = true → s.d.pow.boot = .recovery g → to_ = mac ∨ to_ = all → host.length = 6 → off < 4294967296 →
      let recv := s.d.pow.recv
      let part := frame to_ host (toBE 1 2 ++ toBE 4 off ++ toBE 2 data.length ++ data)
      let go := frame to_ host (toBE 1 4 ++ toBE 4 off)
      (1 ≤ data.length → data.length ≤ 1400 → off = recv.length → exec (.recoveryData t g part) s = .next (s.moved t
        (sent { begun s.d with pow := { s.d.pow with recv := recv ++ data } } g host (toBE 1 3 ++ toBE 4 (recv.length + data.length))))) ∧
      (data.length ≤ 1400 → data = [] ∨ off ≠ recv.length → exec (.recoveryData t g part) s = .next (s.moved t (sent (begun s.d) g host (toBE 1 3 ++ toBE 4 recv.length)))) ∧
      (off ≠ recv.length ∨ imageValid s.d recv true = false → exec (.recoveryGo t g go) s = .next (s.moved t
        (sent { begun s.d with pow := { s.d.pow with recv := [] } } g host (toBE 1 3 ++ toBE 4 0)))) ∧
      (s.d.flash = [] → ∃ d, exec (.recoveryGo t g go) s = .next (s.moved t d) ∧ (off = recv.length → imageValid s.d recv true = true → started d 2 recv)))
end

