-- ==== Sys2Proof/Laws/Tab.lean ====
section
/-! SUPPORT. Laws of sparse tables: what a table reads after an entry is set or taken out. -/

namespace Sys2Proof.Machine

@[simp] theorem tabFind_nil {α : Type} (n : Nat) : tabFind ([] : Tab α) n = none := rfl

@[simp] theorem tabGet_nil {α : Type} (x : α) (n : Nat) : tabGet ([] : Tab α) x n = x := rfl

/-- An entry set is the entry found. -/
@[simp] theorem tabFind_tabSet_self {α : Type} (t : Tab α) (n : Nat) (a : α) : tabFind (tabSet t n a) n = some a := by
  induction t with
  | nil => simp [tabSet, tabFind]
  | cons p r ih =>
    obtain ⟨k, v⟩ := p
    unfold tabSet
    split
    · simp [tabFind]
    · split
      · simp [tabFind]
      · rename_i h1 h2
        simp [tabFind, h1, h2, ih]

/-- Setting an entry leaves every other key as it was. -/
theorem tabFind_tabSet_ne {α : Type} (t : Tab α) (n m : Nat) (a : α) (h : m ≠ n) :
    tabFind (tabSet t n a) m = tabFind t m := by
  induction t with
  | nil =>
    simp only [tabSet, tabFind]
    split
    · omega
    · split <;> rfl
  | cons p r ih =>
    obtain ⟨k, v⟩ := p
    unfold tabSet
    split
    · subst_vars
      simp only [tabFind]
      split
      · omega
      · rfl
    · split
      · simp only [tabFind]
        split
        · omega
        · split
          · split
            · omega
            · split
              · rfl
              · omega
          · rfl
      · simp only [tabFind, ih]

/-- What a table finds after an entry is set. -/
theorem tabFind_tabSet {α : Type} (t : Tab α) (n m : Nat) (a : α) :
    tabFind (tabSet t n a) m = if m = n then some a else tabFind t m := by
  split
  · subst_vars; exact tabFind_tabSet_self t _ a
  · exact tabFind_tabSet_ne t n m a (by assumption)

/-- Of two entries set at one key the later one stays. -/
@[simp] theorem tabSet_tabSet {α : Type} (t : Tab α) (n : Nat) (a b : α) : tabSet (tabSet t n a) n b = tabSet t n b := by
  induction t with
  | nil => simp [tabSet]
  | cons p r ih =>
    obtain ⟨k, v⟩ := p
    by_cases h1 : k = n
    · simp [tabSet, h1]
    · by_cases h2 : n < k <;> simp [tabSet, h1, h2, ih]

@[simp] theorem tabGet_tabSet_self {α : Type} (t : Tab α) (n : Nat) (a x : α) : tabGet (tabSet t n a) x n = a := by
  simp [tabGet]

theorem tabGet_tabSet_ne {α : Type} (t : Tab α) (n m : Nat) (a x : α) (h : m ≠ n) :
    tabGet (tabSet t n a) x m = tabGet t x m := by
  simp [tabGet, tabFind_tabSet_ne t n m a h]

/-- A table whose keys rise finds nothing below its first key. -/
theorem tabFind_low {α : Type} (t : Tab α) (n : Nat) (h : ∀ p ∈ t, n < p.1) : tabFind t n = none := by
  cases t with
  | nil => rfl
  | cons p r =>
    obtain ⟨k, v⟩ := p
    have hk : n < k := h (k, v) (by simp)
    simp only [tabFind]
    split
    · omega
    · simp

/-- Keys strictly rising, as a statement about pairs. -/
theorem tabWf_iff {α : Type} (t : Tab α) : tabWf t = true ↔ t.Pairwise (fun p q => p.1 < q.1) := by
  induction t with
  | nil => simp [tabWf]
  | cons p r ih =>
    cases r with
    | nil => simp [tabWf]
    | cons q r2 =>
      simp only [tabWf, Bool.and_eq_true, decide_eq_true_eq, ih, List.pairwise_cons]
      constructor
      · rintro ⟨h1, h2, h3⟩
        refine ⟨?_, h2, h3⟩
        intro x hx
        rcases List.mem_cons.mp hx with rfl | hx
        · exact h1
        · exact lt_trans h1 (h2 x hx)
      · rintro ⟨h1, h2, h3⟩
        exact ⟨h1 q (by simp), h2, h3⟩

/-- In a table whose keys rise, what is found is what is listed. -/
theorem tabFind_eq_some {α : Type} (t : Tab α) (n : Nat) (a : α) (h : tabWf t = true) :
    tabFind t n = some a ↔ (n, a) ∈ t := by
  rw [tabWf_iff] at h
  induction t with
  | nil => simp
  | cons p r ih =>
    obtain ⟨k, v⟩ := p
    rw [List.pairwise_cons] at h
    simp only [tabFind, List.mem_cons, Prod.mk.injEq]
    split
    · rename_i hk
      subst hk
      constructor
      · intro hv
        exact .inl ⟨rfl, (Option.some.inj hv).symm⟩
      · rintro (⟨_, rfl⟩ | hm)
        · rfl
        · exact absurd (h.1 _ hm) (lt_irrefl _)
    · rename_i hk
      split
      · constructor
        · intro hv; cases hv
        · rintro (⟨rfl, _⟩ | hm)
          · exact absurd rfl hk
          · have := h.1 _ hm
            simp only at this
            omega
      · rw [ih h.2]
        constructor
        · exact .inr
        · rintro (⟨rfl, _⟩ | hm)
          · exact absurd rfl hk
          · exact hm

/-- Where the keys of a table after a set come from. -/
theorem mem_tabSet {α : Type} (t : Tab α) (n : Nat) (a : α) (p : Nat × α) (h : p ∈ tabSet t n a) : p = (n, a) ∨ p ∈ t := by
  induction t with
  | nil => simp [tabSet] at h; exact .inl h
  | cons q r ih =>
    obtain ⟨k, v⟩ := q
    unfold tabSet at h
    split at h
    · rcases List.mem_cons.mp h with h | h
      · exact .inl h
      · exact .inr (List.mem_cons_of_mem _ h)
    · split at h
      · rcases List.mem_cons.mp h with h | h
        · exact .inl h
        · exact .inr h
      · rcases List.mem_cons.mp h with h | h
        · exact .inr (h ▸ List.mem_cons_self ..)
        · exact (ih h).imp id (List.mem_cons_of_mem _)

/-- Setting an entry keeps the keys rising. -/
theorem tabSet_wf {α : Type} (t : Tab α) (n : Nat) (a : α) (h : tabWf t = true) : tabWf (tabSet t n a) = true := by
  rw [tabWf_iff] at *
  induction t with
  | nil => simp [tabSet]
  | cons q r ih =>
    obtain ⟨k, v⟩ := q
    rw [List.pairwise_cons] at h
    unfold tabSet
    split
    · subst_vars
      exact List.pairwise_cons.mpr ⟨h.1, h.2⟩
    · split
      · rename_i hlt
        refine List.pairwise_cons.mpr ⟨?_, List.pairwise_cons.mpr h⟩
        intro x hx
        rcases List.mem_cons.mp hx with rfl | hx
        · exact hlt
        · exact lt_trans hlt (h.1 x hx)
      · rename_i h1 h2
        refine List.pairwise_cons.mpr ⟨?_, ih h.2⟩
        intro x hx
        rcases mem_tabSet r n a x hx with rfl | hx
        · show k < n
          omega
        · exact h.1 x hx

end Sys2Proof.Machine
end

