-- ==== Sys2Proof/Laws/State.lean ====
section
/-! SUPPORT. What the shared updates of the main domain leave alone, field by field, and what an object reads after a write. -/

namespace Sys2Proof.Machine

/-! ### `put` -/
@[simp] theorem put_inForce (d : Dev) (i k : Nat) (v : Int) : (d.put i k v).inForce = d.inForce := rfl
@[simp] theorem put_shadow (d : Dev) (i k : Nat) (v : Int) : (d.put i k v).shadow = d.shadow := rfl
@[simp] theorem put_freeN (d : Dev) (i k : Nat) (v : Int) : (d.put i k v).freeN = d.freeN := rfl
@[simp] theorem put_tuOps (d : Dev) (i k : Nat) (v : Int) : (d.put i k v).tuOps = d.tuOps := rfl
@[simp] theorem put_tcs (d : Dev) (i k : Nat) (v : Int) : (d.put i k v).tcs = d.tcs := rfl
@[simp] theorem put_tto (d : Dev) (i k : Nat) (v : Int) : (d.put i k v).tto = d.tto := rfl
@[simp] theorem put_encs (d : Dev) (i k : Nat) (v : Int) : (d.put i k v).encs = d.encs := rfl
@[simp] theorem put_cmps (d : Dev) (i k : Nat) (v : Int) : (d.put i k v).cmps = d.cmps := rfl
@[simp] theorem put_trigs (d : Dev) (i k : Nat) (v : Int) : (d.put i k v).trigs = d.trigs := rfl
@[simp] theorem put_lanes (d : Dev) (i k : Nat) (v : Int) : (d.put i k v).lanes = d.lanes := rfl
@[simp] theorem put_ports (d : Dev) (i k : Nat) (v : Int) : (d.put i k v).ports = d.ports := rfl
@[simp] theorem put_ptx (d : Dev) (i k : Nat) (v : Int) : (d.put i k v).ptx = d.ptx := rfl
@[simp] theorem put_vcRings (d : Dev) (i k : Nat) (v : Int) : (d.put i k v).vcRings = d.vcRings := rfl
@[simp] theorem put_pix (d : Dev) (i k : Nat) (v : Int) : (d.put i k v).pix = d.pix := rfl
@[simp] theorem put_corr (d : Dev) (i k : Nat) (v : Int) : (d.put i k v).corr = d.corr := rfl
@[simp] theorem put_taps (d : Dev) (i k : Nat) (v : Int) : (d.put i k v).taps = d.taps := rfl
@[simp] theorem put_jobs (d : Dev) (i k : Nat) (v : Int) : (d.put i k v).jobs = d.jobs := rfl
@[simp] theorem put_placed (d : Dev) (i k : Nat) (v : Int) : (d.put i k v).placed = d.placed := rfl
@[simp] theorem put_place (d : Dev) (i k : Nat) (v : Int) : (d.put i k v).place = d.place := rfl
@[simp] theorem put_grid (d : Dev) (i k : Nat) (v : Int) : (d.put i k v).grid = d.grid := rfl
@[simp] theorem put_sides (d : Dev) (i k : Nat) (v : Int) : (d.put i k v).sides = d.sides := rfl
@[simp] theorem put_chains (d : Dev) (i k : Nat) (v : Int) : (d.put i k v).chains = d.chains := rfl
@[simp] theorem put_heads (d : Dev) (i k : Nat) (v : Int) : (d.put i k v).heads = d.heads := rfl
@[simp] theorem put_offers (d : Dev) (i k : Nat) (v : Int) : (d.put i k v).offers = d.offers := rfl
@[simp] theorem put_chans (d : Dev) (i k : Nat) (v : Int) : (d.put i k v).chans = d.chans := rfl
@[simp] theorem put_tasks (d : Dev) (i k : Nat) (v : Int) : (d.put i k v).tasks = d.tasks := rfl
@[simp] theorem put_evps (d : Dev) (i k : Nat) (v : Int) : (d.put i k v).evps = d.evps := rfl
@[simp] theorem put_chanOn (d : Dev) (i k : Nat) (v : Int) : (d.put i k v).chanOn = d.chanOn := rfl
@[simp] theorem put_mem (d : Dev) (i k : Nat) (v : Int) : (d.put i k v).mem = d.mem := rfl
@[simp] theorem put_poison (d : Dev) (i k : Nat) (v : Int) : (d.put i k v).poison = d.poison := rfl
@[simp] theorem put_units (d : Dev) (i k : Nat) (v : Int) : (d.put i k v).units = d.units := rfl
@[simp] theorem put_ovls (d : Dev) (i k : Nat) (v : Int) : (d.put i k v).ovls = d.ovls := rfl
@[simp] theorem put_masters (d : Dev) (i k : Nat) (v : Int) : (d.put i k v).masters = d.masters := rfl
@[simp] theorem put_sessions (d : Dev) (i k : Nat) (v : Int) : (d.put i k v).sessions = d.sessions := rfl
@[simp] theorem put_streams (d : Dev) (i k : Nat) (v : Int) : (d.put i k v).streams = d.streams := rfl
@[simp] theorem put_resp (d : Dev) (i k : Nat) (v : Int) : (d.put i k v).resp = d.resp := rfl
@[simp] theorem put_out (d : Dev) (i k : Nat) (v : Int) : (d.put i k v).out = d.out := rfl
@[simp] theorem put_metOps (d : Dev) (i k : Nat) (v : Int) : (d.put i k v).metOps = d.metOps := rfl
@[simp] theorem put_warmAsk (d : Dev) (i k : Nat) (v : Int) : (d.put i k v).warmAsk = d.warmAsk := rfl
@[simp] theorem put_irqFlags (d : Dev) (i k : Nat) (v : Int) : (d.put i k v).irqFlags = d.irqFlags := rfl
@[simp] theorem put_irqActive (d : Dev) (i k : Nat) (v : Int) : (d.put i k v).irqActive = d.irqActive := rfl
@[simp] theorem put_mboxes (d : Dev) (i k : Nat) (v : Int) : (d.put i k v).mboxes = d.mboxes := rfl
@[simp] theorem put_locks (d : Dev) (i k : Nat) (v : Int) : (d.put i k v).locks = d.locks := rfl
@[simp] theorem put_mons (d : Dev) (i k : Nat) (v : Int) : (d.put i k v).mons = d.mons := rfl
@[simp] theorem put_pow (d : Dev) (i k : Nat) (v : Int) : (d.put i k v).pow = d.pow := rfl
@[simp] theorem put_domains (d : Dev) (i k : Nat) (v : Int) : (d.put i k v).domains = d.domains := rfl

/-! ### `putB` -/
@[simp] theorem putB_inForce (d : Dev) (i k : Nat) (b : List Byte) : (d.putB i k b).inForce = d.inForce := rfl
@[simp] theorem putB_shadow (d : Dev) (i k : Nat) (b : List Byte) : (d.putB i k b).shadow = d.shadow := rfl
@[simp] theorem putB_freeN (d : Dev) (i k : Nat) (b : List Byte) : (d.putB i k b).freeN = d.freeN := rfl
@[simp] theorem putB_tuOps (d : Dev) (i k : Nat) (b : List Byte) : (d.putB i k b).tuOps = d.tuOps := rfl
@[simp] theorem putB_tcs (d : Dev) (i k : Nat) (b : List Byte) : (d.putB i k b).tcs = d.tcs := rfl
@[simp] theorem putB_tto (d : Dev) (i k : Nat) (b : List Byte) : (d.putB i k b).tto = d.tto := rfl
@[simp] theorem putB_encs (d : Dev) (i k : Nat) (b : List Byte) : (d.putB i k b).encs = d.encs := rfl
@[simp] theorem putB_cmps (d : Dev) (i k : Nat) (b : List Byte) : (d.putB i k b).cmps = d.cmps := rfl
@[simp] theorem putB_trigs (d : Dev) (i k : Nat) (b : List Byte) : (d.putB i k b).trigs = d.trigs := rfl
@[simp] theorem putB_lanes (d : Dev) (i k : Nat) (b : List Byte) : (d.putB i k b).lanes = d.lanes := rfl
@[simp] theorem putB_ports (d : Dev) (i k : Nat) (b : List Byte) : (d.putB i k b).ports = d.ports := rfl
@[simp] theorem putB_ptx (d : Dev) (i k : Nat) (b : List Byte) : (d.putB i k b).ptx = d.ptx := rfl
@[simp] theorem putB_vcRings (d : Dev) (i k : Nat) (b : List Byte) : (d.putB i k b).vcRings = d.vcRings := rfl
@[simp] theorem putB_pix (d : Dev) (i k : Nat) (b : List Byte) : (d.putB i k b).pix = d.pix := rfl
@[simp] theorem putB_corr (d : Dev) (i k : Nat) (b : List Byte) : (d.putB i k b).corr = d.corr := rfl
@[simp] theorem putB_taps (d : Dev) (i k : Nat) (b : List Byte) : (d.putB i k b).taps = d.taps := rfl
@[simp] theorem putB_jobs (d : Dev) (i k : Nat) (b : List Byte) : (d.putB i k b).jobs = d.jobs := rfl
@[simp] theorem putB_placed (d : Dev) (i k : Nat) (b : List Byte) : (d.putB i k b).placed = d.placed := rfl
@[simp] theorem putB_place (d : Dev) (i k : Nat) (b : List Byte) : (d.putB i k b).place = d.place := rfl
@[simp] theorem putB_grid (d : Dev) (i k : Nat) (b : List Byte) : (d.putB i k b).grid = d.grid := rfl
@[simp] theorem putB_sides (d : Dev) (i k : Nat) (b : List Byte) : (d.putB i k b).sides = d.sides := rfl
@[simp] theorem putB_chains (d : Dev) (i k : Nat) (b : List Byte) : (d.putB i k b).chains = d.chains := rfl
@[simp] theorem putB_heads (d : Dev) (i k : Nat) (b : List Byte) : (d.putB i k b).heads = d.heads := rfl
@[simp] theorem putB_offers (d : Dev) (i k : Nat) (b : List Byte) : (d.putB i k b).offers = d.offers := rfl
@[simp] theorem putB_chans (d : Dev) (i k : Nat) (b : List Byte) : (d.putB i k b).chans = d.chans := rfl
@[simp] theorem putB_tasks (d : Dev) (i k : Nat) (b : List Byte) : (d.putB i k b).tasks = d.tasks := rfl
@[simp] theorem putB_evps (d : Dev) (i k : Nat) (b : List Byte) : (d.putB i k b).evps = d.evps := rfl
@[simp] theorem putB_chanOn (d : Dev) (i k : Nat) (b : List Byte) : (d.putB i k b).chanOn = d.chanOn := rfl
@[simp] theorem putB_mem (d : Dev) (i k : Nat) (b : List Byte) : (d.putB i k b).mem = d.mem := rfl
@[simp] theorem putB_poison (d : Dev) (i k : Nat) (b : List Byte) : (d.putB i k b).poison = d.poison := rfl
@[simp] theorem putB_units (d : Dev) (i k : Nat) (b : List Byte) : (d.putB i k b).units = d.units := rfl
@[simp] theorem putB_ovls (d : Dev) (i k : Nat) (b : List Byte) : (d.putB i k b).ovls = d.ovls := rfl
@[simp] theorem putB_masters (d : Dev) (i k : Nat) (b : List Byte) : (d.putB i k b).masters = d.masters := rfl
@[simp] theorem putB_sessions (d : Dev) (i k : Nat) (b : List Byte) : (d.putB i k b).sessions = d.sessions := rfl
@[simp] theorem putB_streams (d : Dev) (i k : Nat) (b : List Byte) : (d.putB i k b).streams = d.streams := rfl
@[simp] theorem putB_resp (d : Dev) (i k : Nat) (b : List Byte) : (d.putB i k b).resp = d.resp := rfl
@[simp] theorem putB_out (d : Dev) (i k : Nat) (b : List Byte) : (d.putB i k b).out = d.out := rfl
@[simp] theorem putB_metOps (d : Dev) (i k : Nat) (b : List Byte) : (d.putB i k b).metOps = d.metOps := rfl
@[simp] theorem putB_warmAsk (d : Dev) (i k : Nat) (b : List Byte) : (d.putB i k b).warmAsk = d.warmAsk := rfl
@[simp] theorem putB_irqFlags (d : Dev) (i k : Nat) (b : List Byte) : (d.putB i k b).irqFlags = d.irqFlags := rfl
@[simp] theorem putB_irqActive (d : Dev) (i k : Nat) (b : List Byte) : (d.putB i k b).irqActive = d.irqActive := rfl
@[simp] theorem putB_mboxes (d : Dev) (i k : Nat) (b : List Byte) : (d.putB i k b).mboxes = d.mboxes := rfl
@[simp] theorem putB_locks (d : Dev) (i k : Nat) (b : List Byte) : (d.putB i k b).locks = d.locks := rfl
@[simp] theorem putB_mons (d : Dev) (i k : Nat) (b : List Byte) : (d.putB i k b).mons = d.mons := rfl
@[simp] theorem putB_pow (d : Dev) (i k : Nat) (b : List Byte) : (d.putB i k b).pow = d.pow := rfl
@[simp] theorem putB_domains (d : Dev) (i k : Nat) (b : List Byte) : (d.putB i k b).domains = d.domains := rfl

/-! ### `add` -/
@[simp] theorem add_inForce (d : Dev) (i k : Nat) (v : Int) : (d.add i k v).inForce = d.inForce := rfl
@[simp] theorem add_shadow (d : Dev) (i k : Nat) (v : Int) : (d.add i k v).shadow = d.shadow := rfl
@[simp] theorem add_freeN (d : Dev) (i k : Nat) (v : Int) : (d.add i k v).freeN = d.freeN := rfl
@[simp] theorem add_tuOps (d : Dev) (i k : Nat) (v : Int) : (d.add i k v).tuOps = d.tuOps := rfl
@[simp] theorem add_tcs (d : Dev) (i k : Nat) (v : Int) : (d.add i k v).tcs = d.tcs := rfl
@[simp] theorem add_tto (d : Dev) (i k : Nat) (v : Int) : (d.add i k v).tto = d.tto := rfl
@[simp] theorem add_encs (d : Dev) (i k : Nat) (v : Int) : (d.add i k v).encs = d.encs := rfl
@[simp] theorem add_cmps (d : Dev) (i k : Nat) (v : Int) : (d.add i k v).cmps = d.cmps := rfl
@[simp] theorem add_trigs (d : Dev) (i k : Nat) (v : Int) : (d.add i k v).trigs = d.trigs := rfl
@[simp] theorem add_lanes (d : Dev) (i k : Nat) (v : Int) : (d.add i k v).lanes = d.lanes := rfl
@[simp] theorem add_ports (d : Dev) (i k : Nat) (v : Int) : (d.add i k v).ports = d.ports := rfl
@[simp] theorem add_ptx (d : Dev) (i k : Nat) (v : Int) : (d.add i k v).ptx = d.ptx := rfl
@[simp] theorem add_vcRings (d : Dev) (i k : Nat) (v : Int) : (d.add i k v).vcRings = d.vcRings := rfl
@[simp] theorem add_pix (d : Dev) (i k : Nat) (v : Int) : (d.add i k v).pix = d.pix := rfl
@[simp] theorem add_corr (d : Dev) (i k : Nat) (v : Int) : (d.add i k v).corr = d.corr := rfl
@[simp] theorem add_taps (d : Dev) (i k : Nat) (v : Int) : (d.add i k v).taps = d.taps := rfl
@[simp] theorem add_jobs (d : Dev) (i k : Nat) (v : Int) : (d.add i k v).jobs = d.jobs := rfl
@[simp] theorem add_placed (d : Dev) (i k : Nat) (v : Int) : (d.add i k v).placed = d.placed := rfl
@[simp] theorem add_place (d : Dev) (i k : Nat) (v : Int) : (d.add i k v).place = d.place := rfl
@[simp] theorem add_grid (d : Dev) (i k : Nat) (v : Int) : (d.add i k v).grid = d.grid := rfl
@[simp] theorem add_sides (d : Dev) (i k : Nat) (v : Int) : (d.add i k v).sides = d.sides := rfl
@[simp] theorem add_chains (d : Dev) (i k : Nat) (v : Int) : (d.add i k v).chains = d.chains := rfl
@[simp] theorem add_heads (d : Dev) (i k : Nat) (v : Int) : (d.add i k v).heads = d.heads := rfl
@[simp] theorem add_offers (d : Dev) (i k : Nat) (v : Int) : (d.add i k v).offers = d.offers := rfl
@[simp] theorem add_chans (d : Dev) (i k : Nat) (v : Int) : (d.add i k v).chans = d.chans := rfl
@[simp] theorem add_tasks (d : Dev) (i k : Nat) (v : Int) : (d.add i k v).tasks = d.tasks := rfl
@[simp] theorem add_evps (d : Dev) (i k : Nat) (v : Int) : (d.add i k v).evps = d.evps := rfl
@[simp] theorem add_chanOn (d : Dev) (i k : Nat) (v : Int) : (d.add i k v).chanOn = d.chanOn := rfl
@[simp] theorem add_mem (d : Dev) (i k : Nat) (v : Int) : (d.add i k v).mem = d.mem := rfl
@[simp] theorem add_poison (d : Dev) (i k : Nat) (v : Int) : (d.add i k v).poison = d.poison := rfl
@[simp] theorem add_units (d : Dev) (i k : Nat) (v : Int) : (d.add i k v).units = d.units := rfl
@[simp] theorem add_ovls (d : Dev) (i k : Nat) (v : Int) : (d.add i k v).ovls = d.ovls := rfl
@[simp] theorem add_masters (d : Dev) (i k : Nat) (v : Int) : (d.add i k v).masters = d.masters := rfl
@[simp] theorem add_sessions (d : Dev) (i k : Nat) (v : Int) : (d.add i k v).sessions = d.sessions := rfl
@[simp] theorem add_streams (d : Dev) (i k : Nat) (v : Int) : (d.add i k v).streams = d.streams := rfl
@[simp] theorem add_resp (d : Dev) (i k : Nat) (v : Int) : (d.add i k v).resp = d.resp := rfl
@[simp] theorem add_out (d : Dev) (i k : Nat) (v : Int) : (d.add i k v).out = d.out := rfl
@[simp] theorem add_metOps (d : Dev) (i k : Nat) (v : Int) : (d.add i k v).metOps = d.metOps := rfl
@[simp] theorem add_warmAsk (d : Dev) (i k : Nat) (v : Int) : (d.add i k v).warmAsk = d.warmAsk := rfl
@[simp] theorem add_irqFlags (d : Dev) (i k : Nat) (v : Int) : (d.add i k v).irqFlags = d.irqFlags := rfl
@[simp] theorem add_irqActive (d : Dev) (i k : Nat) (v : Int) : (d.add i k v).irqActive = d.irqActive := rfl
@[simp] theorem add_mboxes (d : Dev) (i k : Nat) (v : Int) : (d.add i k v).mboxes = d.mboxes := rfl
@[simp] theorem add_locks (d : Dev) (i k : Nat) (v : Int) : (d.add i k v).locks = d.locks := rfl
@[simp] theorem add_mons (d : Dev) (i k : Nat) (v : Int) : (d.add i k v).mons = d.mons := rfl
@[simp] theorem add_pow (d : Dev) (i k : Nat) (v : Int) : (d.add i k v).pow = d.pow := rfl
@[simp] theorem add_domains (d : Dev) (i k : Nat) (v : Int) : (d.add i k v).domains = d.domains := rfl

/-! ### `inc` -/
@[simp] theorem inc_inForce (d : Dev) (i k : Nat) : (d.inc i k).inForce = d.inForce := rfl
@[simp] theorem inc_shadow (d : Dev) (i k : Nat) : (d.inc i k).shadow = d.shadow := rfl
@[simp] theorem inc_freeN (d : Dev) (i k : Nat) : (d.inc i k).freeN = d.freeN := rfl
@[simp] theorem inc_tuOps (d : Dev) (i k : Nat) : (d.inc i k).tuOps = d.tuOps := rfl
@[simp] theorem inc_tcs (d : Dev) (i k : Nat) : (d.inc i k).tcs = d.tcs := rfl
@[simp] theorem inc_tto (d : Dev) (i k : Nat) : (d.inc i k).tto = d.tto := rfl
@[simp] theorem inc_encs (d : Dev) (i k : Nat) : (d.inc i k).encs = d.encs := rfl
@[simp] theorem inc_cmps (d : Dev) (i k : Nat) : (d.inc i k).cmps = d.cmps := rfl
@[simp] theorem inc_trigs (d : Dev) (i k : Nat) : (d.inc i k).trigs = d.trigs := rfl
@[simp] theorem inc_lanes (d : Dev) (i k : Nat) : (d.inc i k).lanes = d.lanes := rfl
@[simp] theorem inc_ports (d : Dev) (i k : Nat) : (d.inc i k).ports = d.ports := rfl
@[simp] theorem inc_ptx (d : Dev) (i k : Nat) : (d.inc i k).ptx = d.ptx := rfl
@[simp] theorem inc_vcRings (d : Dev) (i k : Nat) : (d.inc i k).vcRings = d.vcRings := rfl
@[simp] theorem inc_pix (d : Dev) (i k : Nat) : (d.inc i k).pix = d.pix := rfl
@[simp] theorem inc_corr (d : Dev) (i k : Nat) : (d.inc i k).corr = d.corr := rfl
@[simp] theorem inc_taps (d : Dev) (i k : Nat) : (d.inc i k).taps = d.taps := rfl
@[simp] theorem inc_jobs (d : Dev) (i k : Nat) : (d.inc i k).jobs = d.jobs := rfl
@[simp] theorem inc_placed (d : Dev) (i k : Nat) : (d.inc i k).placed = d.placed := rfl
@[simp] theorem inc_place (d : Dev) (i k : Nat) : (d.inc i k).place = d.place := rfl
@[simp] theorem inc_grid (d : Dev) (i k : Nat) : (d.inc i k).grid = d.grid := rfl
@[simp] theorem inc_sides (d : Dev) (i k : Nat) : (d.inc i k).sides = d.sides := rfl
@[simp] theorem inc_chains (d : Dev) (i k : Nat) : (d.inc i k).chains = d.chains := rfl
@[simp] theorem inc_heads (d : Dev) (i k : Nat) : (d.inc i k).heads = d.heads := rfl
@[simp] theorem inc_offers (d : Dev) (i k : Nat) : (d.inc i k).offers = d.offers := rfl
@[simp] theorem inc_chans (d : Dev) (i k : Nat) : (d.inc i k).chans = d.chans := rfl
@[simp] theorem inc_tasks (d : Dev) (i k : Nat) : (d.inc i k).tasks = d.tasks := rfl
@[simp] theorem inc_evps (d : Dev) (i k : Nat) : (d.inc i k).evps = d.evps := rfl
@[simp] theorem inc_chanOn (d : Dev) (i k : Nat) : (d.inc i k).chanOn = d.chanOn := rfl
@[simp] theorem inc_mem (d : Dev) (i k : Nat) : (d.inc i k).mem = d.mem := rfl
@[simp] theorem inc_poison (d : Dev) (i k : Nat) : (d.inc i k).poison = d.poison := rfl
@[simp] theorem inc_units (d : Dev) (i k : Nat) : (d.inc i k).units = d.units := rfl
@[simp] theorem inc_ovls (d : Dev) (i k : Nat) : (d.inc i k).ovls = d.ovls := rfl
@[simp] theorem inc_masters (d : Dev) (i k : Nat) : (d.inc i k).masters = d.masters := rfl
@[simp] theorem inc_sessions (d : Dev) (i k : Nat) : (d.inc i k).sessions = d.sessions := rfl
@[simp] theorem inc_streams (d : Dev) (i k : Nat) : (d.inc i k).streams = d.streams := rfl
@[simp] theorem inc_resp (d : Dev) (i k : Nat) : (d.inc i k).resp = d.resp := rfl
@[simp] theorem inc_out (d : Dev) (i k : Nat) : (d.inc i k).out = d.out := rfl
@[simp] theorem inc_metOps (d : Dev) (i k : Nat) : (d.inc i k).metOps = d.metOps := rfl
@[simp] theorem inc_warmAsk (d : Dev) (i k : Nat) : (d.inc i k).warmAsk = d.warmAsk := rfl
@[simp] theorem inc_irqFlags (d : Dev) (i k : Nat) : (d.inc i k).irqFlags = d.irqFlags := rfl
@[simp] theorem inc_irqActive (d : Dev) (i k : Nat) : (d.inc i k).irqActive = d.irqActive := rfl
@[simp] theorem inc_mboxes (d : Dev) (i k : Nat) : (d.inc i k).mboxes = d.mboxes := rfl
@[simp] theorem inc_locks (d : Dev) (i k : Nat) : (d.inc i k).locks = d.locks := rfl
@[simp] theorem inc_mons (d : Dev) (i k : Nat) : (d.inc i k).mons = d.mons := rfl
@[simp] theorem inc_pow (d : Dev) (i k : Nat) : (d.inc i k).pow = d.pow := rfl
@[simp] theorem inc_domains (d : Dev) (i k : Nat) : (d.inc i k).domains = d.domains := rfl

/-! ### `setFlag` -/
@[simp] theorem setFlag_inForce (d : Dev) (i k b : Nat) : (d.setFlag i k b).inForce = d.inForce := rfl
@[simp] theorem setFlag_shadow (d : Dev) (i k b : Nat) : (d.setFlag i k b).shadow = d.shadow := rfl
@[simp] theorem setFlag_freeN (d : Dev) (i k b : Nat) : (d.setFlag i k b).freeN = d.freeN := rfl
@[simp] theorem setFlag_tuOps (d : Dev) (i k b : Nat) : (d.setFlag i k b).tuOps = d.tuOps := rfl
@[simp] theorem setFlag_tcs (d : Dev) (i k b : Nat) : (d.setFlag i k b).tcs = d.tcs := rfl
@[simp] theorem setFlag_tto (d : Dev) (i k b : Nat) : (d.setFlag i k b).tto = d.tto := rfl
@[simp] theorem setFlag_encs (d : Dev) (i k b : Nat) : (d.setFlag i k b).encs = d.encs := rfl
@[simp] theorem setFlag_cmps (d : Dev) (i k b : Nat) : (d.setFlag i k b).cmps = d.cmps := rfl
@[simp] theorem setFlag_trigs (d : Dev) (i k b : Nat) : (d.setFlag i k b).trigs = d.trigs := rfl
@[simp] theorem setFlag_lanes (d : Dev) (i k b : Nat) : (d.setFlag i k b).lanes = d.lanes := rfl
@[simp] theorem setFlag_ports (d : Dev) (i k b : Nat) : (d.setFlag i k b).ports = d.ports := rfl
@[simp] theorem setFlag_ptx (d : Dev) (i k b : Nat) : (d.setFlag i k b).ptx = d.ptx := rfl
@[simp] theorem setFlag_vcRings (d : Dev) (i k b : Nat) : (d.setFlag i k b).vcRings = d.vcRings := rfl
@[simp] theorem setFlag_pix (d : Dev) (i k b : Nat) : (d.setFlag i k b).pix = d.pix := rfl
@[simp] theorem setFlag_corr (d : Dev) (i k b : Nat) : (d.setFlag i k b).corr = d.corr := rfl
@[simp] theorem setFlag_taps (d : Dev) (i k b : Nat) : (d.setFlag i k b).taps = d.taps := rfl
@[simp] theorem setFlag_jobs (d : Dev) (i k b : Nat) : (d.setFlag i k b).jobs = d.jobs := rfl
@[simp] theorem setFlag_placed (d : Dev) (i k b : Nat) : (d.setFlag i k b).placed = d.placed := rfl
@[simp] theorem setFlag_place (d : Dev) (i k b : Nat) : (d.setFlag i k b).place = d.place := rfl
@[simp] theorem setFlag_grid (d : Dev) (i k b : Nat) : (d.setFlag i k b).grid = d.grid := rfl
@[simp] theorem setFlag_sides (d : Dev) (i k b : Nat) : (d.setFlag i k b).sides = d.sides := rfl
@[simp] theorem setFlag_chains (d : Dev) (i k b : Nat) : (d.setFlag i k b).chains = d.chains := rfl
@[simp] theorem setFlag_heads (d : Dev) (i k b : Nat) : (d.setFlag i k b).heads = d.heads := rfl
@[simp] theorem setFlag_offers (d : Dev) (i k b : Nat) : (d.setFlag i k b).offers = d.offers := rfl
@[simp] theorem setFlag_chans (d : Dev) (i k b : Nat) : (d.setFlag i k b).chans = d.chans := rfl
@[simp] theorem setFlag_tasks (d : Dev) (i k b : Nat) : (d.setFlag i k b).tasks = d.tasks := rfl
@[simp] theorem setFlag_evps (d : Dev) (i k b : Nat) : (d.setFlag i k b).evps = d.evps := rfl
@[simp] theorem setFlag_chanOn (d : Dev) (i k b : Nat) : (d.setFlag i k b).chanOn = d.chanOn := rfl
@[simp] theorem setFlag_mem (d : Dev) (i k b : Nat) : (d.setFlag i k b).mem = d.mem := rfl
@[simp] theorem setFlag_poison (d : Dev) (i k b : Nat) : (d.setFlag i k b).poison = d.poison := rfl
@[simp] theorem setFlag_units (d : Dev) (i k b : Nat) : (d.setFlag i k b).units = d.units := rfl
@[simp] theorem setFlag_ovls (d : Dev) (i k b : Nat) : (d.setFlag i k b).ovls = d.ovls := rfl
@[simp] theorem setFlag_masters (d : Dev) (i k b : Nat) : (d.setFlag i k b).masters = d.masters := rfl
@[simp] theorem setFlag_sessions (d : Dev) (i k b : Nat) : (d.setFlag i k b).sessions = d.sessions := rfl
@[simp] theorem setFlag_streams (d : Dev) (i k b : Nat) : (d.setFlag i k b).streams = d.streams := rfl
@[simp] theorem setFlag_resp (d : Dev) (i k b : Nat) : (d.setFlag i k b).resp = d.resp := rfl
@[simp] theorem setFlag_out (d : Dev) (i k b : Nat) : (d.setFlag i k b).out = d.out := rfl
@[simp] theorem setFlag_metOps (d : Dev) (i k b : Nat) : (d.setFlag i k b).metOps = d.metOps := rfl
@[simp] theorem setFlag_warmAsk (d : Dev) (i k b : Nat) : (d.setFlag i k b).warmAsk = d.warmAsk := rfl
@[simp] theorem setFlag_irqFlags (d : Dev) (i k b : Nat) : (d.setFlag i k b).irqFlags = d.irqFlags := rfl
@[simp] theorem setFlag_irqActive (d : Dev) (i k b : Nat) : (d.setFlag i k b).irqActive = d.irqActive := rfl
@[simp] theorem setFlag_mboxes (d : Dev) (i k b : Nat) : (d.setFlag i k b).mboxes = d.mboxes := rfl
@[simp] theorem setFlag_locks (d : Dev) (i k b : Nat) : (d.setFlag i k b).locks = d.locks := rfl
@[simp] theorem setFlag_mons (d : Dev) (i k b : Nat) : (d.setFlag i k b).mons = d.mons := rfl
@[simp] theorem setFlag_pow (d : Dev) (i k b : Nat) : (d.setFlag i k b).pow = d.pow := rfl
@[simp] theorem setFlag_domains (d : Dev) (i k b : Nat) : (d.setFlag i k b).domains = d.domains := rfl

/-! ### `clrFlag` -/
@[simp] theorem clrFlag_inForce (d : Dev) (i k b : Nat) : (d.clrFlag i k b).inForce = d.inForce := rfl
@[simp] theorem clrFlag_shadow (d : Dev) (i k b : Nat) : (d.clrFlag i k b).shadow = d.shadow := rfl
@[simp] theorem clrFlag_freeN (d : Dev) (i k b : Nat) : (d.clrFlag i k b).freeN = d.freeN := rfl
@[simp] theorem clrFlag_tuOps (d : Dev) (i k b : Nat) : (d.clrFlag i k b).tuOps = d.tuOps := rfl
@[simp] theorem clrFlag_tcs (d : Dev) (i k b : Nat) : (d.clrFlag i k b).tcs = d.tcs := rfl
@[simp] theorem clrFlag_tto (d : Dev) (i k b : Nat) : (d.clrFlag i k b).tto = d.tto := rfl
@[simp] theorem clrFlag_encs (d : Dev) (i k b : Nat) : (d.clrFlag i k b).encs = d.encs := rfl
@[simp] theorem clrFlag_cmps (d : Dev) (i k b : Nat) : (d.clrFlag i k b).cmps = d.cmps := rfl
@[simp] theorem clrFlag_trigs (d : Dev) (i k b : Nat) : (d.clrFlag i k b).trigs = d.trigs := rfl
@[simp] theorem clrFlag_lanes (d : Dev) (i k b : Nat) : (d.clrFlag i k b).lanes = d.lanes := rfl
@[simp] theorem clrFlag_ports (d : Dev) (i k b : Nat) : (d.clrFlag i k b).ports = d.ports := rfl
@[simp] theorem clrFlag_ptx (d : Dev) (i k b : Nat) : (d.clrFlag i k b).ptx = d.ptx := rfl
@[simp] theorem clrFlag_vcRings (d : Dev) (i k b : Nat) : (d.clrFlag i k b).vcRings = d.vcRings := rfl
@[simp] theorem clrFlag_pix (d : Dev) (i k b : Nat) : (d.clrFlag i k b).pix = d.pix := rfl
@[simp] theorem clrFlag_corr (d : Dev) (i k b : Nat) : (d.clrFlag i k b).corr = d.corr := rfl
@[simp] theorem clrFlag_taps (d : Dev) (i k b : Nat) : (d.clrFlag i k b).taps = d.taps := rfl
@[simp] theorem clrFlag_jobs (d : Dev) (i k b : Nat) : (d.clrFlag i k b).jobs = d.jobs := rfl
@[simp] theorem clrFlag_placed (d : Dev) (i k b : Nat) : (d.clrFlag i k b).placed = d.placed := rfl
@[simp] theorem clrFlag_place (d : Dev) (i k b : Nat) : (d.clrFlag i k b).place = d.place := rfl
@[simp] theorem clrFlag_grid (d : Dev) (i k b : Nat) : (d.clrFlag i k b).grid = d.grid := rfl
@[simp] theorem clrFlag_sides (d : Dev) (i k b : Nat) : (d.clrFlag i k b).sides = d.sides := rfl
@[simp] theorem clrFlag_chains (d : Dev) (i k b : Nat) : (d.clrFlag i k b).chains = d.chains := rfl
@[simp] theorem clrFlag_heads (d : Dev) (i k b : Nat) : (d.clrFlag i k b).heads = d.heads := rfl
@[simp] theorem clrFlag_offers (d : Dev) (i k b : Nat) : (d.clrFlag i k b).offers = d.offers := rfl
@[simp] theorem clrFlag_chans (d : Dev) (i k b : Nat) : (d.clrFlag i k b).chans = d.chans := rfl
@[simp] theorem clrFlag_tasks (d : Dev) (i k b : Nat) : (d.clrFlag i k b).tasks = d.tasks := rfl
@[simp] theorem clrFlag_evps (d : Dev) (i k b : Nat) : (d.clrFlag i k b).evps = d.evps := rfl
@[simp] theorem clrFlag_chanOn (d : Dev) (i k b : Nat) : (d.clrFlag i k b).chanOn = d.chanOn := rfl
@[simp] theorem clrFlag_mem (d : Dev) (i k b : Nat) : (d.clrFlag i k b).mem = d.mem := rfl
@[simp] theorem clrFlag_poison (d : Dev) (i k b : Nat) : (d.clrFlag i k b).poison = d.poison := rfl
@[simp] theorem clrFlag_units (d : Dev) (i k b : Nat) : (d.clrFlag i k b).units = d.units := rfl
@[simp] theorem clrFlag_ovls (d : Dev) (i k b : Nat) : (d.clrFlag i k b).ovls = d.ovls := rfl
@[simp] theorem clrFlag_masters (d : Dev) (i k b : Nat) : (d.clrFlag i k b).masters = d.masters := rfl
@[simp] theorem clrFlag_sessions (d : Dev) (i k b : Nat) : (d.clrFlag i k b).sessions = d.sessions := rfl
@[simp] theorem clrFlag_streams (d : Dev) (i k b : Nat) : (d.clrFlag i k b).streams = d.streams := rfl
@[simp] theorem clrFlag_resp (d : Dev) (i k b : Nat) : (d.clrFlag i k b).resp = d.resp := rfl
@[simp] theorem clrFlag_out (d : Dev) (i k b : Nat) : (d.clrFlag i k b).out = d.out := rfl
@[simp] theorem clrFlag_metOps (d : Dev) (i k b : Nat) : (d.clrFlag i k b).metOps = d.metOps := rfl
@[simp] theorem clrFlag_warmAsk (d : Dev) (i k b : Nat) : (d.clrFlag i k b).warmAsk = d.warmAsk := rfl
@[simp] theorem clrFlag_irqFlags (d : Dev) (i k b : Nat) : (d.clrFlag i k b).irqFlags = d.irqFlags := rfl
@[simp] theorem clrFlag_irqActive (d : Dev) (i k b : Nat) : (d.clrFlag i k b).irqActive = d.irqActive := rfl
@[simp] theorem clrFlag_mboxes (d : Dev) (i k b : Nat) : (d.clrFlag i k b).mboxes = d.mboxes := rfl
@[simp] theorem clrFlag_locks (d : Dev) (i k b : Nat) : (d.clrFlag i k b).locks = d.locks := rfl
@[simp] theorem clrFlag_mons (d : Dev) (i k b : Nat) : (d.clrFlag i k b).mons = d.mons := rfl
@[simp] theorem clrFlag_pow (d : Dev) (i k b : Nat) : (d.clrFlag i k b).pow = d.pow := rfl
@[simp] theorem clrFlag_domains (d : Dev) (i k b : Nat) : (d.clrFlag i k b).domains = d.domains := rfl

/-! ### `publish` -/
@[simp] theorem publish_inForce (d : Dev) (i : Nat) : (d.publish i).inForce = d.inForce := rfl
@[simp] theorem publish_shadow (d : Dev) (i : Nat) : (d.publish i).shadow = d.shadow := rfl
@[simp] theorem publish_freeN (d : Dev) (i : Nat) : (d.publish i).freeN = d.freeN := rfl
@[simp] theorem publish_tuOps (d : Dev) (i : Nat) : (d.publish i).tuOps = d.tuOps := rfl
@[simp] theorem publish_tcs (d : Dev) (i : Nat) : (d.publish i).tcs = d.tcs := rfl
@[simp] theorem publish_tto (d : Dev) (i : Nat) : (d.publish i).tto = d.tto := rfl
@[simp] theorem publish_encs (d : Dev) (i : Nat) : (d.publish i).encs = d.encs := rfl
@[simp] theorem publish_cmps (d : Dev) (i : Nat) : (d.publish i).cmps = d.cmps := rfl
@[simp] theorem publish_trigs (d : Dev) (i : Nat) : (d.publish i).trigs = d.trigs := rfl
@[simp] theorem publish_lanes (d : Dev) (i : Nat) : (d.publish i).lanes = d.lanes := rfl
@[simp] theorem publish_ports (d : Dev) (i : Nat) : (d.publish i).ports = d.ports := rfl
@[simp] theorem publish_ptx (d : Dev) (i : Nat) : (d.publish i).ptx = d.ptx := rfl
@[simp] theorem publish_vcRings (d : Dev) (i : Nat) : (d.publish i).vcRings = d.vcRings := rfl
@[simp] theorem publish_pix (d : Dev) (i : Nat) : (d.publish i).pix = d.pix := rfl
@[simp] theorem publish_corr (d : Dev) (i : Nat) : (d.publish i).corr = d.corr := rfl
@[simp] theorem publish_taps (d : Dev) (i : Nat) : (d.publish i).taps = d.taps := rfl
@[simp] theorem publish_jobs (d : Dev) (i : Nat) : (d.publish i).jobs = d.jobs := rfl
@[simp] theorem publish_placed (d : Dev) (i : Nat) : (d.publish i).placed = d.placed := rfl
@[simp] theorem publish_place (d : Dev) (i : Nat) : (d.publish i).place = d.place := rfl
@[simp] theorem publish_grid (d : Dev) (i : Nat) : (d.publish i).grid = d.grid := rfl
@[simp] theorem publish_sides (d : Dev) (i : Nat) : (d.publish i).sides = d.sides := rfl
@[simp] theorem publish_chains (d : Dev) (i : Nat) : (d.publish i).chains = d.chains := rfl
@[simp] theorem publish_heads (d : Dev) (i : Nat) : (d.publish i).heads = d.heads := rfl
@[simp] theorem publish_offers (d : Dev) (i : Nat) : (d.publish i).offers = d.offers := rfl
@[simp] theorem publish_chans (d : Dev) (i : Nat) : (d.publish i).chans = d.chans := rfl
@[simp] theorem publish_tasks (d : Dev) (i : Nat) : (d.publish i).tasks = d.tasks := rfl
@[simp] theorem publish_evps (d : Dev) (i : Nat) : (d.publish i).evps = d.evps := rfl
@[simp] theorem publish_chanOn (d : Dev) (i : Nat) : (d.publish i).chanOn = d.chanOn := rfl
@[simp] theorem publish_mem (d : Dev) (i : Nat) : (d.publish i).mem = d.mem := rfl
@[simp] theorem publish_poison (d : Dev) (i : Nat) : (d.publish i).poison = d.poison := rfl
@[simp] theorem publish_units (d : Dev) (i : Nat) : (d.publish i).units = d.units := rfl
@[simp] theorem publish_ovls (d : Dev) (i : Nat) : (d.publish i).ovls = d.ovls := rfl
@[simp] theorem publish_masters (d : Dev) (i : Nat) : (d.publish i).masters = d.masters := rfl
@[simp] theorem publish_sessions (d : Dev) (i : Nat) : (d.publish i).sessions = d.sessions := rfl
@[simp] theorem publish_streams (d : Dev) (i : Nat) : (d.publish i).streams = d.streams := rfl
@[simp] theorem publish_resp (d : Dev) (i : Nat) : (d.publish i).resp = d.resp := rfl
@[simp] theorem publish_out (d : Dev) (i : Nat) : (d.publish i).out = d.out := rfl
@[simp] theorem publish_metOps (d : Dev) (i : Nat) : (d.publish i).metOps = d.metOps := rfl
@[simp] theorem publish_warmAsk (d : Dev) (i : Nat) : (d.publish i).warmAsk = d.warmAsk := rfl
@[simp] theorem publish_irqFlags (d : Dev) (i : Nat) : (d.publish i).irqFlags = d.irqFlags := rfl
@[simp] theorem publish_irqActive (d : Dev) (i : Nat) : (d.publish i).irqActive = d.irqActive := rfl
@[simp] theorem publish_mboxes (d : Dev) (i : Nat) : (d.publish i).mboxes = d.mboxes := rfl
@[simp] theorem publish_locks (d : Dev) (i : Nat) : (d.publish i).locks = d.locks := rfl
@[simp] theorem publish_mons (d : Dev) (i : Nat) : (d.publish i).mons = d.mons := rfl
@[simp] theorem publish_pow (d : Dev) (i : Nat) : (d.publish i).pow = d.pow := rfl
@[simp] theorem publish_domains (d : Dev) (i : Nat) : (d.publish i).domains = d.domains := rfl

/-! ### `emit` -/
@[simp] theorem emit_o (d : Dev) (x : Out) : (d.emit x).o = d.o := rfl
@[simp] theorem emit_inForce (d : Dev) (x : Out) : (d.emit x).inForce = d.inForce := rfl
@[simp] theorem emit_shadow (d : Dev) (x : Out) : (d.emit x).shadow = d.shadow := rfl
@[simp] theorem emit_freeN (d : Dev) (x : Out) : (d.emit x).freeN = d.freeN := rfl
@[simp] theorem emit_tuOps (d : Dev) (x : Out) : (d.emit x).tuOps = d.tuOps := rfl
@[simp] theorem emit_tcs (d : Dev) (x : Out) : (d.emit x).tcs = d.tcs := rfl
@[simp] theorem emit_tto (d : Dev) (x : Out) : (d.emit x).tto = d.tto := rfl
@[simp] theorem emit_encs (d : Dev) (x : Out) : (d.emit x).encs = d.encs := rfl
@[simp] theorem emit_cmps (d : Dev) (x : Out) : (d.emit x).cmps = d.cmps := rfl
@[simp] theorem emit_trigs (d : Dev) (x : Out) : (d.emit x).trigs = d.trigs := rfl
@[simp] theorem emit_lanes (d : Dev) (x : Out) : (d.emit x).lanes = d.lanes := rfl
@[simp] theorem emit_ports (d : Dev) (x : Out) : (d.emit x).ports = d.ports := rfl
@[simp] theorem emit_ptx (d : Dev) (x : Out) : (d.emit x).ptx = d.ptx := rfl
@[simp] theorem emit_vcRings (d : Dev) (x : Out) : (d.emit x).vcRings = d.vcRings := rfl
@[simp] theorem emit_pix (d : Dev) (x : Out) : (d.emit x).pix = d.pix := rfl
@[simp] theorem emit_corr (d : Dev) (x : Out) : (d.emit x).corr = d.corr := rfl
@[simp] theorem emit_taps (d : Dev) (x : Out) : (d.emit x).taps = d.taps := rfl
@[simp] theorem emit_jobs (d : Dev) (x : Out) : (d.emit x).jobs = d.jobs := rfl
@[simp] theorem emit_placed (d : Dev) (x : Out) : (d.emit x).placed = d.placed := rfl
@[simp] theorem emit_place (d : Dev) (x : Out) : (d.emit x).place = d.place := rfl
@[simp] theorem emit_grid (d : Dev) (x : Out) : (d.emit x).grid = d.grid := rfl
@[simp] theorem emit_sides (d : Dev) (x : Out) : (d.emit x).sides = d.sides := rfl
@[simp] theorem emit_chains (d : Dev) (x : Out) : (d.emit x).chains = d.chains := rfl
@[simp] theorem emit_heads (d : Dev) (x : Out) : (d.emit x).heads = d.heads := rfl
@[simp] theorem emit_offers (d : Dev) (x : Out) : (d.emit x).offers = d.offers := rfl
@[simp] theorem emit_chans (d : Dev) (x : Out) : (d.emit x).chans = d.chans := rfl
@[simp] theorem emit_tasks (d : Dev) (x : Out) : (d.emit x).tasks = d.tasks := rfl
@[simp] theorem emit_evps (d : Dev) (x : Out) : (d.emit x).evps = d.evps := rfl
@[simp] theorem emit_chanOn (d : Dev) (x : Out) : (d.emit x).chanOn = d.chanOn := rfl
@[simp] theorem emit_mem (d : Dev) (x : Out) : (d.emit x).mem = d.mem := rfl
@[simp] theorem emit_poison (d : Dev) (x : Out) : (d.emit x).poison = d.poison := rfl
@[simp] theorem emit_units (d : Dev) (x : Out) : (d.emit x).units = d.units := rfl
@[simp] theorem emit_ovls (d : Dev) (x : Out) : (d.emit x).ovls = d.ovls := rfl
@[simp] theorem emit_masters (d : Dev) (x : Out) : (d.emit x).masters = d.masters := rfl
@[simp] theorem emit_sessions (d : Dev) (x : Out) : (d.emit x).sessions = d.sessions := rfl
@[simp] theorem emit_streams (d : Dev) (x : Out) : (d.emit x).streams = d.streams := rfl
@[simp] theorem emit_resp (d : Dev) (x : Out) : (d.emit x).resp = d.resp := rfl
@[simp] theorem emit_metOps (d : Dev) (x : Out) : (d.emit x).metOps = d.metOps := rfl
@[simp] theorem emit_warmAsk (d : Dev) (x : Out) : (d.emit x).warmAsk = d.warmAsk := rfl
@[simp] theorem emit_irqFlags (d : Dev) (x : Out) : (d.emit x).irqFlags = d.irqFlags := rfl
@[simp] theorem emit_irqActive (d : Dev) (x : Out) : (d.emit x).irqActive = d.irqActive := rfl
@[simp] theorem emit_mboxes (d : Dev) (x : Out) : (d.emit x).mboxes = d.mboxes := rfl
@[simp] theorem emit_locks (d : Dev) (x : Out) : (d.emit x).locks = d.locks := rfl
@[simp] theorem emit_mons (d : Dev) (x : Out) : (d.emit x).mons = d.mons := rfl
@[simp] theorem emit_pow (d : Dev) (x : Out) : (d.emit x).pow = d.pow := rfl
@[simp] theorem emit_domains (d : Dev) (x : Out) : (d.emit x).domains = d.domains := rfl

/-! ### `raise` -/
@[simp] theorem raise_o (d : Dev) (e : Env) (p x : Nat) : (d.raise e p x).o = d.o := rfl
@[simp] theorem raise_inForce (d : Dev) (e : Env) (p x : Nat) : (d.raise e p x).inForce = d.inForce := rfl
@[simp] theorem raise_shadow (d : Dev) (e : Env) (p x : Nat) : (d.raise e p x).shadow = d.shadow := rfl
@[simp] theorem raise_freeN (d : Dev) (e : Env) (p x : Nat) : (d.raise e p x).freeN = d.freeN := rfl
@[simp] theorem raise_tuOps (d : Dev) (e : Env) (p x : Nat) : (d.raise e p x).tuOps = d.tuOps := rfl
@[simp] theorem raise_tcs (d : Dev) (e : Env) (p x : Nat) : (d.raise e p x).tcs = d.tcs := rfl
@[simp] theorem raise_tto (d : Dev) (e : Env) (p x : Nat) : (d.raise e p x).tto = d.tto := rfl
@[simp] theorem raise_encs (d : Dev) (e : Env) (p x : Nat) : (d.raise e p x).encs = d.encs := rfl
@[simp] theorem raise_cmps (d : Dev) (e : Env) (p x : Nat) : (d.raise e p x).cmps = d.cmps := rfl
@[simp] theorem raise_trigs (d : Dev) (e : Env) (p x : Nat) : (d.raise e p x).trigs = d.trigs := rfl
@[simp] theorem raise_lanes (d : Dev) (e : Env) (p x : Nat) : (d.raise e p x).lanes = d.lanes := rfl
@[simp] theorem raise_ports (d : Dev) (e : Env) (p x : Nat) : (d.raise e p x).ports = d.ports := rfl
@[simp] theorem raise_ptx (d : Dev) (e : Env) (p x : Nat) : (d.raise e p x).ptx = d.ptx := rfl
@[simp] theorem raise_vcRings (d : Dev) (e : Env) (p x : Nat) : (d.raise e p x).vcRings = d.vcRings := rfl
@[simp] theorem raise_pix (d : Dev) (e : Env) (p x : Nat) : (d.raise e p x).pix = d.pix := rfl
@[simp] theorem raise_corr (d : Dev) (e : Env) (p x : Nat) : (d.raise e p x).corr = d.corr := rfl
@[simp] theorem raise_taps (d : Dev) (e : Env) (p x : Nat) : (d.raise e p x).taps = d.taps := rfl
@[simp] theorem raise_jobs (d : Dev) (e : Env) (p x : Nat) : (d.raise e p x).jobs = d.jobs := rfl
@[simp] theorem raise_placed (d : Dev) (e : Env) (p x : Nat) : (d.raise e p x).placed = d.placed := rfl
@[simp] theorem raise_place (d : Dev) (e : Env) (p x : Nat) : (d.raise e p x).place = d.place := rfl
@[simp] theorem raise_grid (d : Dev) (e : Env) (p x : Nat) : (d.raise e p x).grid = d.grid := rfl
@[simp] theorem raise_sides (d : Dev) (e : Env) (p x : Nat) : (d.raise e p x).sides = d.sides := rfl
@[simp] theorem raise_chains (d : Dev) (e : Env) (p x : Nat) : (d.raise e p x).chains = d.chains := rfl
@[simp] theorem raise_heads (d : Dev) (e : Env) (p x : Nat) : (d.raise e p x).heads = d.heads := rfl
@[simp] theorem raise_chans (d : Dev) (e : Env) (p x : Nat) : (d.raise e p x).chans = d.chans := rfl
@[simp] theorem raise_tasks (d : Dev) (e : Env) (p x : Nat) : (d.raise e p x).tasks = d.tasks := rfl
@[simp] theorem raise_evps (d : Dev) (e : Env) (p x : Nat) : (d.raise e p x).evps = d.evps := rfl
@[simp] theorem raise_chanOn (d : Dev) (e : Env) (p x : Nat) : (d.raise e p x).chanOn = d.chanOn := rfl
@[simp] theorem raise_mem (d : Dev) (e : Env) (p x : Nat) : (d.raise e p x).mem = d.mem := rfl
@[simp] theorem raise_poison (d : Dev) (e : Env) (p x : Nat) : (d.raise e p x).poison = d.poison := rfl
@[simp] theorem raise_units (d : Dev) (e : Env) (p x : Nat) : (d.raise e p x).units = d.units := rfl
@[simp] theorem raise_ovls (d : Dev) (e : Env) (p x : Nat) : (d.raise e p x).ovls = d.ovls := rfl
@[simp] theorem raise_masters (d : Dev) (e : Env) (p x : Nat) : (d.raise e p x).masters = d.masters := rfl
@[simp] theorem raise_sessions (d : Dev) (e : Env) (p x : Nat) : (d.raise e p x).sessions = d.sessions := rfl
@[simp] theorem raise_streams (d : Dev) (e : Env) (p x : Nat) : (d.raise e p x).streams = d.streams := rfl
@[simp] theorem raise_resp (d : Dev) (e : Env) (p x : Nat) : (d.raise e p x).resp = d.resp := rfl
@[simp] theorem raise_out (d : Dev) (e : Env) (p x : Nat) : (d.raise e p x).out = d.out := rfl
@[simp] theorem raise_metOps (d : Dev) (e : Env) (p x : Nat) : (d.raise e p x).metOps = d.metOps := rfl
@[simp] theorem raise_warmAsk (d : Dev) (e : Env) (p x : Nat) : (d.raise e p x).warmAsk = d.warmAsk := rfl
@[simp] theorem raise_irqFlags (d : Dev) (e : Env) (p x : Nat) : (d.raise e p x).irqFlags = d.irqFlags := rfl
@[simp] theorem raise_irqActive (d : Dev) (e : Env) (p x : Nat) : (d.raise e p x).irqActive = d.irqActive := rfl
@[simp] theorem raise_mboxes (d : Dev) (e : Env) (p x : Nat) : (d.raise e p x).mboxes = d.mboxes := rfl
@[simp] theorem raise_locks (d : Dev) (e : Env) (p x : Nat) : (d.raise e p x).locks = d.locks := rfl
@[simp] theorem raise_mons (d : Dev) (e : Env) (p x : Nat) : (d.raise e p x).mons = d.mons := rfl
@[simp] theorem raise_pow (d : Dev) (e : Env) (p x : Nat) : (d.raise e p x).pow = d.pow := rfl
@[simp] theorem raise_domains (d : Dev) (e : Env) (p x : Nat) : (d.raise e p x).domains = d.domains := rfl

/-! ### `raiseFrom` -/
@[simp] theorem raiseFrom_o (d : Dev) (p x a : Nat) (r : Option Nat) : (d.raiseFrom p x a r).o = d.o := rfl
@[simp] theorem raiseFrom_inForce (d : Dev) (p x a : Nat) (r : Option Nat) : (d.raiseFrom p x a r).inForce = d.inForce := rfl
@[simp] theorem raiseFrom_shadow (d : Dev) (p x a : Nat) (r : Option Nat) : (d.raiseFrom p x a r).shadow = d.shadow := rfl
@[simp] theorem raiseFrom_freeN (d : Dev) (p x a : Nat) (r : Option Nat) : (d.raiseFrom p x a r).freeN = d.freeN := rfl
@[simp] theorem raiseFrom_tuOps (d : Dev) (p x a : Nat) (r : Option Nat) : (d.raiseFrom p x a r).tuOps = d.tuOps := rfl
@[simp] theorem raiseFrom_tcs (d : Dev) (p x a : Nat) (r : Option Nat) : (d.raiseFrom p x a r).tcs = d.tcs := rfl
@[simp] theorem raiseFrom_tto (d : Dev) (p x a : Nat) (r : Option Nat) : (d.raiseFrom p x a r).tto = d.tto := rfl
@[simp] theorem raiseFrom_encs (d : Dev) (p x a : Nat) (r : Option Nat) : (d.raiseFrom p x a r).encs = d.encs := rfl
@[simp] theorem raiseFrom_cmps (d : Dev) (p x a : Nat) (r : Option Nat) : (d.raiseFrom p x a r).cmps = d.cmps := rfl
@[simp] theorem raiseFrom_trigs (d : Dev) (p x a : Nat) (r : Option Nat) : (d.raiseFrom p x a r).trigs = d.trigs := rfl
@[simp] theorem raiseFrom_lanes (d : Dev) (p x a : Nat) (r : Option Nat) : (d.raiseFrom p x a r).lanes = d.lanes := rfl
@[simp] theorem raiseFrom_ports (d : Dev) (p x a : Nat) (r : Option Nat) : (d.raiseFrom p x a r).ports = d.ports := rfl
@[simp] theorem raiseFrom_ptx (d : Dev) (p x a : Nat) (r : Option Nat) : (d.raiseFrom p x a r).ptx = d.ptx := rfl
@[simp] theorem raiseFrom_vcRings (d : Dev) (p x a : Nat) (r : Option Nat) : (d.raiseFrom p x a r).vcRings = d.vcRings := rfl
@[simp] theorem raiseFrom_pix (d : Dev) (p x a : Nat) (r : Option Nat) : (d.raiseFrom p x a r).pix = d.pix := rfl
@[simp] theorem raiseFrom_corr (d : Dev) (p x a : Nat) (r : Option Nat) : (d.raiseFrom p x a r).corr = d.corr := rfl
@[simp] theorem raiseFrom_taps (d : Dev) (p x a : Nat) (r : Option Nat) : (d.raiseFrom p x a r).taps = d.taps := rfl
@[simp] theorem raiseFrom_jobs (d : Dev) (p x a : Nat) (r : Option Nat) : (d.raiseFrom p x a r).jobs = d.jobs := rfl
@[simp] theorem raiseFrom_placed (d : Dev) (p x a : Nat) (r : Option Nat) : (d.raiseFrom p x a r).placed = d.placed := rfl
@[simp] theorem raiseFrom_place (d : Dev) (p x a : Nat) (r : Option Nat) : (d.raiseFrom p x a r).place = d.place := rfl
@[simp] theorem raiseFrom_grid (d : Dev) (p x a : Nat) (r : Option Nat) : (d.raiseFrom p x a r).grid = d.grid := rfl
@[simp] theorem raiseFrom_sides (d : Dev) (p x a : Nat) (r : Option Nat) : (d.raiseFrom p x a r).sides = d.sides := rfl
@[simp] theorem raiseFrom_chains (d : Dev) (p x a : Nat) (r : Option Nat) : (d.raiseFrom p x a r).chains = d.chains := rfl
@[simp] theorem raiseFrom_heads (d : Dev) (p x a : Nat) (r : Option Nat) : (d.raiseFrom p x a r).heads = d.heads := rfl
@[simp] theorem raiseFrom_chans (d : Dev) (p x a : Nat) (r : Option Nat) : (d.raiseFrom p x a r).chans = d.chans := rfl
@[simp] theorem raiseFrom_tasks (d : Dev) (p x a : Nat) (r : Option Nat) : (d.raiseFrom p x a r).tasks = d.tasks := rfl
@[simp] theorem raiseFrom_evps (d : Dev) (p x a : Nat) (r : Option Nat) : (d.raiseFrom p x a r).evps = d.evps := rfl
@[simp] theorem raiseFrom_chanOn (d : Dev) (p x a : Nat) (r : Option Nat) : (d.raiseFrom p x a r).chanOn = d.chanOn := rfl
@[simp] theorem raiseFrom_mem (d : Dev) (p x a : Nat) (r : Option Nat) : (d.raiseFrom p x a r).mem = d.mem := rfl
@[simp] theorem raiseFrom_poison (d : Dev) (p x a : Nat) (r : Option Nat) : (d.raiseFrom p x a r).poison = d.poison := rfl
@[simp] theorem raiseFrom_units (d : Dev) (p x a : Nat) (r : Option Nat) : (d.raiseFrom p x a r).units = d.units := rfl
@[simp] theorem raiseFrom_ovls (d : Dev) (p x a : Nat) (r : Option Nat) : (d.raiseFrom p x a r).ovls = d.ovls := rfl
@[simp] theorem raiseFrom_masters (d : Dev) (p x a : Nat) (r : Option Nat) : (d.raiseFrom p x a r).masters = d.masters := rfl
@[simp] theorem raiseFrom_sessions (d : Dev) (p x a : Nat) (r : Option Nat) : (d.raiseFrom p x a r).sessions = d.sessions := rfl
@[simp] theorem raiseFrom_streams (d : Dev) (p x a : Nat) (r : Option Nat) : (d.raiseFrom p x a r).streams = d.streams := rfl
@[simp] theorem raiseFrom_resp (d : Dev) (p x a : Nat) (r : Option Nat) : (d.raiseFrom p x a r).resp = d.resp := rfl
@[simp] theorem raiseFrom_out (d : Dev) (p x a : Nat) (r : Option Nat) : (d.raiseFrom p x a r).out = d.out := rfl
@[simp] theorem raiseFrom_metOps (d : Dev) (p x a : Nat) (r : Option Nat) : (d.raiseFrom p x a r).metOps = d.metOps := rfl
@[simp] theorem raiseFrom_warmAsk (d : Dev) (p x a : Nat) (r : Option Nat) : (d.raiseFrom p x a r).warmAsk = d.warmAsk := rfl
@[simp] theorem raiseFrom_irqFlags (d : Dev) (p x a : Nat) (r : Option Nat) : (d.raiseFrom p x a r).irqFlags = d.irqFlags := rfl
@[simp] theorem raiseFrom_irqActive (d : Dev) (p x a : Nat) (r : Option Nat) : (d.raiseFrom p x a r).irqActive = d.irqActive := rfl
@[simp] theorem raiseFrom_mboxes (d : Dev) (p x a : Nat) (r : Option Nat) : (d.raiseFrom p x a r).mboxes = d.mboxes := rfl
@[simp] theorem raiseFrom_locks (d : Dev) (p x a : Nat) (r : Option Nat) : (d.raiseFrom p x a r).locks = d.locks := rfl
@[simp] theorem raiseFrom_mons (d : Dev) (p x a : Nat) (r : Option Nat) : (d.raiseFrom p x a r).mons = d.mons := rfl
@[simp] theorem raiseFrom_pow (d : Dev) (p x a : Nat) (r : Option Nat) : (d.raiseFrom p x a r).pow = d.pow := rfl
@[simp] theorem raiseFrom_domains (d : Dev) (p x a : Nat) (r : Option Nat) : (d.raiseFrom p x a r).domains = d.domains := rfl

/-! ### `ended` -/
@[simp] theorem ended_o (d : Dev) (m : Master) (st : Nat) : (d.ended m st).o = d.o := rfl
@[simp] theorem ended_inForce (d : Dev) (m : Master) (st : Nat) : (d.ended m st).inForce = d.inForce := rfl
@[simp] theorem ended_shadow (d : Dev) (m : Master) (st : Nat) : (d.ended m st).shadow = d.shadow := rfl
@[simp] theorem ended_freeN (d : Dev) (m : Master) (st : Nat) : (d.ended m st).freeN = d.freeN := rfl
@[simp] theorem ended_tuOps (d : Dev) (m : Master) (st : Nat) : (d.ended m st).tuOps = d.tuOps := rfl
@[simp] theorem ended_tcs (d : Dev) (m : Master) (st : Nat) : (d.ended m st).tcs = d.tcs := rfl
@[simp] theorem ended_tto (d : Dev) (m : Master) (st : Nat) : (d.ended m st).tto = d.tto := rfl
@[simp] theorem ended_encs (d : Dev) (m : Master) (st : Nat) : (d.ended m st).encs = d.encs := rfl
@[simp] theorem ended_cmps (d : Dev) (m : Master) (st : Nat) : (d.ended m st).cmps = d.cmps := rfl
@[simp] theorem ended_trigs (d : Dev) (m : Master) (st : Nat) : (d.ended m st).trigs = d.trigs := rfl
@[simp] theorem ended_lanes (d : Dev) (m : Master) (st : Nat) : (d.ended m st).lanes = d.lanes := rfl
@[simp] theorem ended_ports (d : Dev) (m : Master) (st : Nat) : (d.ended m st).ports = d.ports := rfl
@[simp] theorem ended_ptx (d : Dev) (m : Master) (st : Nat) : (d.ended m st).ptx = d.ptx := rfl
@[simp] theorem ended_vcRings (d : Dev) (m : Master) (st : Nat) : (d.ended m st).vcRings = d.vcRings := rfl
@[simp] theorem ended_pix (d : Dev) (m : Master) (st : Nat) : (d.ended m st).pix = d.pix := rfl
@[simp] theorem ended_corr (d : Dev) (m : Master) (st : Nat) : (d.ended m st).corr = d.corr := rfl
@[simp] theorem ended_taps (d : Dev) (m : Master) (st : Nat) : (d.ended m st).taps = d.taps := rfl
@[simp] theorem ended_jobs (d : Dev) (m : Master) (st : Nat) : (d.ended m st).jobs = d.jobs := rfl
@[simp] theorem ended_placed (d : Dev) (m : Master) (st : Nat) : (d.ended m st).placed = d.placed := rfl
@[simp] theorem ended_place (d : Dev) (m : Master) (st : Nat) : (d.ended m st).place = d.place := rfl
@[simp] theorem ended_grid (d : Dev) (m : Master) (st : Nat) : (d.ended m st).grid = d.grid := rfl
@[simp] theorem ended_sides (d : Dev) (m : Master) (st : Nat) : (d.ended m st).sides = d.sides := rfl
@[simp] theorem ended_chains (d : Dev) (m : Master) (st : Nat) : (d.ended m st).chains = d.chains := rfl
@[simp] theorem ended_heads (d : Dev) (m : Master) (st : Nat) : (d.ended m st).heads = d.heads := rfl
@[simp] theorem ended_offers (d : Dev) (m : Master) (st : Nat) : (d.ended m st).offers = d.offers := rfl
@[simp] theorem ended_chans (d : Dev) (m : Master) (st : Nat) : (d.ended m st).chans = d.chans := rfl
@[simp] theorem ended_tasks (d : Dev) (m : Master) (st : Nat) : (d.ended m st).tasks = d.tasks := rfl
@[simp] theorem ended_evps (d : Dev) (m : Master) (st : Nat) : (d.ended m st).evps = d.evps := rfl
@[simp] theorem ended_chanOn (d : Dev) (m : Master) (st : Nat) : (d.ended m st).chanOn = d.chanOn := rfl
@[simp] theorem ended_mem (d : Dev) (m : Master) (st : Nat) : (d.ended m st).mem = d.mem := rfl
@[simp] theorem ended_poison (d : Dev) (m : Master) (st : Nat) : (d.ended m st).poison = d.poison := rfl
@[simp] theorem ended_units (d : Dev) (m : Master) (st : Nat) : (d.ended m st).units = d.units := rfl
@[simp] theorem ended_ovls (d : Dev) (m : Master) (st : Nat) : (d.ended m st).ovls = d.ovls := rfl
@[simp] theorem ended_sessions (d : Dev) (m : Master) (st : Nat) : (d.ended m st).sessions = d.sessions := rfl
@[simp] theorem ended_streams (d : Dev) (m : Master) (st : Nat) : (d.ended m st).streams = d.streams := rfl
@[simp] theorem ended_out (d : Dev) (m : Master) (st : Nat) : (d.ended m st).out = d.out := rfl
@[simp] theorem ended_metOps (d : Dev) (m : Master) (st : Nat) : (d.ended m st).metOps = d.metOps := rfl
@[simp] theorem ended_warmAsk (d : Dev) (m : Master) (st : Nat) : (d.ended m st).warmAsk = d.warmAsk := rfl
@[simp] theorem ended_irqFlags (d : Dev) (m : Master) (st : Nat) : (d.ended m st).irqFlags = d.irqFlags := rfl
@[simp] theorem ended_irqActive (d : Dev) (m : Master) (st : Nat) : (d.ended m st).irqActive = d.irqActive := rfl
@[simp] theorem ended_mboxes (d : Dev) (m : Master) (st : Nat) : (d.ended m st).mboxes = d.mboxes := rfl
@[simp] theorem ended_locks (d : Dev) (m : Master) (st : Nat) : (d.ended m st).locks = d.locks := rfl
@[simp] theorem ended_mons (d : Dev) (m : Master) (st : Nat) : (d.ended m st).mons = d.mons := rfl
@[simp] theorem ended_pow (d : Dev) (m : Master) (st : Nat) : (d.ended m st).pow = d.pow := rfl
@[simp] theorem ended_domains (d : Dev) (m : Master) (st : Nat) : (d.ended m st).domains = d.domains := rfl

/-! ### `readEnded` -/
@[simp] theorem readEnded_o (d : Dev) (m : Master) (st : Nat) (v : ObjVal) : (d.readEnded m st v).o = d.o := rfl
@[simp] theorem readEnded_inForce (d : Dev) (m : Master) (st : Nat) (v : ObjVal) : (d.readEnded m st v).inForce = d.inForce := rfl
@[simp] theorem readEnded_shadow (d : Dev) (m : Master) (st : Nat) (v : ObjVal) : (d.readEnded m st v).shadow = d.shadow := rfl
@[simp] theorem readEnded_freeN (d : Dev) (m : Master) (st : Nat) (v : ObjVal) : (d.readEnded m st v).freeN = d.freeN := rfl
@[simp] theorem readEnded_tuOps (d : Dev) (m : Master) (st : Nat) (v : ObjVal) : (d.readEnded m st v).tuOps = d.tuOps := rfl
@[simp] theorem readEnded_tcs (d : Dev) (m : Master) (st : Nat) (v : ObjVal) : (d.readEnded m st v).tcs = d.tcs := rfl
@[simp] theorem readEnded_tto (d : Dev) (m : Master) (st : Nat) (v : ObjVal) : (d.readEnded m st v).tto = d.tto := rfl
@[simp] theorem readEnded_encs (d : Dev) (m : Master) (st : Nat) (v : ObjVal) : (d.readEnded m st v).encs = d.encs := rfl
@[simp] theorem readEnded_cmps (d : Dev) (m : Master) (st : Nat) (v : ObjVal) : (d.readEnded m st v).cmps = d.cmps := rfl
@[simp] theorem readEnded_trigs (d : Dev) (m : Master) (st : Nat) (v : ObjVal) : (d.readEnded m st v).trigs = d.trigs := rfl
@[simp] theorem readEnded_lanes (d : Dev) (m : Master) (st : Nat) (v : ObjVal) : (d.readEnded m st v).lanes = d.lanes := rfl
@[simp] theorem readEnded_ports (d : Dev) (m : Master) (st : Nat) (v : ObjVal) : (d.readEnded m st v).ports = d.ports := rfl
@[simp] theorem readEnded_ptx (d : Dev) (m : Master) (st : Nat) (v : ObjVal) : (d.readEnded m st v).ptx = d.ptx := rfl
@[simp] theorem readEnded_vcRings (d : Dev) (m : Master) (st : Nat) (v : ObjVal) : (d.readEnded m st v).vcRings = d.vcRings := rfl
@[simp] theorem readEnded_pix (d : Dev) (m : Master) (st : Nat) (v : ObjVal) : (d.readEnded m st v).pix = d.pix := rfl
@[simp] theorem readEnded_corr (d : Dev) (m : Master) (st : Nat) (v : ObjVal) : (d.readEnded m st v).corr = d.corr := rfl
@[simp] theorem readEnded_taps (d : Dev) (m : Master) (st : Nat) (v : ObjVal) : (d.readEnded m st v).taps = d.taps := rfl
@[simp] theorem readEnded_jobs (d : Dev) (m : Master) (st : Nat) (v : ObjVal) : (d.readEnded m st v).jobs = d.jobs := rfl
@[simp] theorem readEnded_placed (d : Dev) (m : Master) (st : Nat) (v : ObjVal) : (d.readEnded m st v).placed = d.placed := rfl
@[simp] theorem readEnded_place (d : Dev) (m : Master) (st : Nat) (v : ObjVal) : (d.readEnded m st v).place = d.place := rfl
@[simp] theorem readEnded_grid (d : Dev) (m : Master) (st : Nat) (v : ObjVal) : (d.readEnded m st v).grid = d.grid := rfl
@[simp] theorem readEnded_sides (d : Dev) (m : Master) (st : Nat) (v : ObjVal) : (d.readEnded m st v).sides = d.sides := rfl
@[simp] theorem readEnded_chains (d : Dev) (m : Master) (st : Nat) (v : ObjVal) : (d.readEnded m st v).chains = d.chains := rfl
@[simp] theorem readEnded_heads (d : Dev) (m : Master) (st : Nat) (v : ObjVal) : (d.readEnded m st v).heads = d.heads := rfl
@[simp] theorem readEnded_offers (d : Dev) (m : Master) (st : Nat) (v : ObjVal) : (d.readEnded m st v).offers = d.offers := rfl
@[simp] theorem readEnded_chans (d : Dev) (m : Master) (st : Nat) (v : ObjVal) : (d.readEnded m st v).chans = d.chans := rfl
@[simp] theorem readEnded_tasks (d : Dev) (m : Master) (st : Nat) (v : ObjVal) : (d.readEnded m st v).tasks = d.tasks := rfl
@[simp] theorem readEnded_evps (d : Dev) (m : Master) (st : Nat) (v : ObjVal) : (d.readEnded m st v).evps = d.evps := rfl
@[simp] theorem readEnded_chanOn (d : Dev) (m : Master) (st : Nat) (v : ObjVal) : (d.readEnded m st v).chanOn = d.chanOn := rfl
@[simp] theorem readEnded_mem (d : Dev) (m : Master) (st : Nat) (v : ObjVal) : (d.readEnded m st v).mem = d.mem := rfl
@[simp] theorem readEnded_poison (d : Dev) (m : Master) (st : Nat) (v : ObjVal) : (d.readEnded m st v).poison = d.poison := rfl
@[simp] theorem readEnded_units (d : Dev) (m : Master) (st : Nat) (v : ObjVal) : (d.readEnded m st v).units = d.units := rfl
@[simp] theorem readEnded_ovls (d : Dev) (m : Master) (st : Nat) (v : ObjVal) : (d.readEnded m st v).ovls = d.ovls := rfl
@[simp] theorem readEnded_sessions (d : Dev) (m : Master) (st : Nat) (v : ObjVal) : (d.readEnded m st v).sessions = d.sessions := rfl
@[simp] theorem readEnded_streams (d : Dev) (m : Master) (st : Nat) (v : ObjVal) : (d.readEnded m st v).streams = d.streams := rfl
@[simp] theorem readEnded_out (d : Dev) (m : Master) (st : Nat) (v : ObjVal) : (d.readEnded m st v).out = d.out := rfl
@[simp] theorem readEnded_metOps (d : Dev) (m : Master) (st : Nat) (v : ObjVal) : (d.readEnded m st v).metOps = d.metOps := rfl
@[simp] theorem readEnded_warmAsk (d : Dev) (m : Master) (st : Nat) (v : ObjVal) : (d.readEnded m st v).warmAsk = d.warmAsk := rfl
@[simp] theorem readEnded_irqFlags (d : Dev) (m : Master) (st : Nat) (v : ObjVal) : (d.readEnded m st v).irqFlags = d.irqFlags := rfl
@[simp] theorem readEnded_irqActive (d : Dev) (m : Master) (st : Nat) (v : ObjVal) : (d.readEnded m st v).irqActive = d.irqActive := rfl
@[simp] theorem readEnded_mboxes (d : Dev) (m : Master) (st : Nat) (v : ObjVal) : (d.readEnded m st v).mboxes = d.mboxes := rfl
@[simp] theorem readEnded_locks (d : Dev) (m : Master) (st : Nat) (v : ObjVal) : (d.readEnded m st v).locks = d.locks := rfl
@[simp] theorem readEnded_mons (d : Dev) (m : Master) (st : Nat) (v : ObjVal) : (d.readEnded m st v).mons = d.mons := rfl
@[simp] theorem readEnded_pow (d : Dev) (m : Master) (st : Nat) (v : ObjVal) : (d.readEnded m st v).pow = d.pow := rfl
@[simp] theorem readEnded_domains (d : Dev) (m : Master) (st : Nat) (v : ObjVal) : (d.readEnded m st v).domains = d.domains := rfl

/-! ### `setUnit` -/
@[simp] theorem setUnit_o (d : Dev) (u : Nat) (r : UnitRec) : (d.setUnit u r).o = d.o := rfl
@[simp] theorem setUnit_inForce (d : Dev) (u : Nat) (r : UnitRec) : (d.setUnit u r).inForce = d.inForce := rfl
@[simp] theorem setUnit_shadow (d : Dev) (u : Nat) (r : UnitRec) : (d.setUnit u r).shadow = d.shadow := rfl
@[simp] theorem setUnit_freeN (d : Dev) (u : Nat) (r : UnitRec) : (d.setUnit u r).freeN = d.freeN := rfl
@[simp] theorem setUnit_tuOps (d : Dev) (u : Nat) (r : UnitRec) : (d.setUnit u r).tuOps = d.tuOps := rfl
@[simp] theorem setUnit_tcs (d : Dev) (u : Nat) (r : UnitRec) : (d.setUnit u r).tcs = d.tcs := rfl
@[simp] theorem setUnit_tto (d : Dev) (u : Nat) (r : UnitRec) : (d.setUnit u r).tto = d.tto := rfl
@[simp] theorem setUnit_encs (d : Dev) (u : Nat) (r : UnitRec) : (d.setUnit u r).encs = d.encs := rfl
@[simp] theorem setUnit_cmps (d : Dev) (u : Nat) (r : UnitRec) : (d.setUnit u r).cmps = d.cmps := rfl
@[simp] theorem setUnit_trigs (d : Dev) (u : Nat) (r : UnitRec) : (d.setUnit u r).trigs = d.trigs := rfl
@[simp] theorem setUnit_lanes (d : Dev) (u : Nat) (r : UnitRec) : (d.setUnit u r).lanes = d.lanes := rfl
@[simp] theorem setUnit_ports (d : Dev) (u : Nat) (r : UnitRec) : (d.setUnit u r).ports = d.ports := rfl
@[simp] theorem setUnit_ptx (d : Dev) (u : Nat) (r : UnitRec) : (d.setUnit u r).ptx = d.ptx := rfl
@[simp] theorem setUnit_vcRings (d : Dev) (u : Nat) (r : UnitRec) : (d.setUnit u r).vcRings = d.vcRings := rfl
@[simp] theorem setUnit_pix (d : Dev) (u : Nat) (r : UnitRec) : (d.setUnit u r).pix = d.pix := rfl
@[simp] theorem setUnit_corr (d : Dev) (u : Nat) (r : UnitRec) : (d.setUnit u r).corr = d.corr := rfl
@[simp] theorem setUnit_taps (d : Dev) (u : Nat) (r : UnitRec) : (d.setUnit u r).taps = d.taps := rfl
@[simp] theorem setUnit_jobs (d : Dev) (u : Nat) (r : UnitRec) : (d.setUnit u r).jobs = d.jobs := rfl
@[simp] theorem setUnit_placed (d : Dev) (u : Nat) (r : UnitRec) : (d.setUnit u r).placed = d.placed := rfl
@[simp] theorem setUnit_place (d : Dev) (u : Nat) (r : UnitRec) : (d.setUnit u r).place = d.place := rfl
@[simp] theorem setUnit_grid (d : Dev) (u : Nat) (r : UnitRec) : (d.setUnit u r).grid = d.grid := rfl
@[simp] theorem setUnit_sides (d : Dev) (u : Nat) (r : UnitRec) : (d.setUnit u r).sides = d.sides := rfl
@[simp] theorem setUnit_chains (d : Dev) (u : Nat) (r : UnitRec) : (d.setUnit u r).chains = d.chains := rfl
@[simp] theorem setUnit_heads (d : Dev) (u : Nat) (r : UnitRec) : (d.setUnit u r).heads = d.heads := rfl
@[simp] theorem setUnit_offers (d : Dev) (u : Nat) (r : UnitRec) : (d.setUnit u r).offers = d.offers := rfl
@[simp] theorem setUnit_chans (d : Dev) (u : Nat) (r : UnitRec) : (d.setUnit u r).chans = d.chans := rfl
@[simp] theorem setUnit_tasks (d : Dev) (u : Nat) (r : UnitRec) : (d.setUnit u r).tasks = d.tasks := rfl
@[simp] theorem setUnit_evps (d : Dev) (u : Nat) (r : UnitRec) : (d.setUnit u r).evps = d.evps := rfl
@[simp] theorem setUnit_chanOn (d : Dev) (u : Nat) (r : UnitRec) : (d.setUnit u r).chanOn = d.chanOn := rfl
@[simp] theorem setUnit_mem (d : Dev) (u : Nat) (r : UnitRec) : (d.setUnit u r).mem = d.mem := rfl
@[simp] theorem setUnit_poison (d : Dev) (u : Nat) (r : UnitRec) : (d.setUnit u r).poison = d.poison := rfl
@[simp] theorem setUnit_ovls (d : Dev) (u : Nat) (r : UnitRec) : (d.setUnit u r).ovls = d.ovls := rfl
@[simp] theorem setUnit_masters (d : Dev) (u : Nat) (r : UnitRec) : (d.setUnit u r).masters = d.masters := rfl
@[simp] theorem setUnit_sessions (d : Dev) (u : Nat) (r : UnitRec) : (d.setUnit u r).sessions = d.sessions := rfl
@[simp] theorem setUnit_streams (d : Dev) (u : Nat) (r : UnitRec) : (d.setUnit u r).streams = d.streams := rfl
@[simp] theorem setUnit_resp (d : Dev) (u : Nat) (r : UnitRec) : (d.setUnit u r).resp = d.resp := rfl
@[simp] theorem setUnit_out (d : Dev) (u : Nat) (r : UnitRec) : (d.setUnit u r).out = d.out := rfl
@[simp] theorem setUnit_metOps (d : Dev) (u : Nat) (r : UnitRec) : (d.setUnit u r).metOps = d.metOps := rfl
@[simp] theorem setUnit_warmAsk (d : Dev) (u : Nat) (r : UnitRec) : (d.setUnit u r).warmAsk = d.warmAsk := rfl
@[simp] theorem setUnit_irqFlags (d : Dev) (u : Nat) (r : UnitRec) : (d.setUnit u r).irqFlags = d.irqFlags := rfl
@[simp] theorem setUnit_irqActive (d : Dev) (u : Nat) (r : UnitRec) : (d.setUnit u r).irqActive = d.irqActive := rfl
@[simp] theorem setUnit_mboxes (d : Dev) (u : Nat) (r : UnitRec) : (d.setUnit u r).mboxes = d.mboxes := rfl
@[simp] theorem setUnit_locks (d : Dev) (u : Nat) (r : UnitRec) : (d.setUnit u r).locks = d.locks := rfl
@[simp] theorem setUnit_mons (d : Dev) (u : Nat) (r : UnitRec) : (d.setUnit u r).mons = d.mons := rfl
@[simp] theorem setUnit_pow (d : Dev) (u : Nat) (r : UnitRec) : (d.setUnit u r).pow = d.pow := rfl
@[simp] theorem setUnit_domains (d : Dev) (u : Nat) (r : UnitRec) : (d.setUnit u r).domains = d.domains := rfl

/-! ### `setEnc` -/
@[simp] theorem setEnc_o (d : Dev) (n : Nat) (x : Enc) : (d.setEnc n x).o = d.o := rfl
@[simp] theorem setEnc_inForce (d : Dev) (n : Nat) (x : Enc) : (d.setEnc n x).inForce = d.inForce := rfl
@[simp] theorem setEnc_shadow (d : Dev) (n : Nat) (x : Enc) : (d.setEnc n x).shadow = d.shadow := rfl
@[simp] theorem setEnc_freeN (d : Dev) (n : Nat) (x : Enc) : (d.setEnc n x).freeN = d.freeN := rfl
@[simp] theorem setEnc_tuOps (d : Dev) (n : Nat) (x : Enc) : (d.setEnc n x).tuOps = d.tuOps := rfl
@[simp] theorem setEnc_tcs (d : Dev) (n : Nat) (x : Enc) : (d.setEnc n x).tcs = d.tcs := rfl
@[simp] theorem setEnc_tto (d : Dev) (n : Nat) (x : Enc) : (d.setEnc n x).tto = d.tto := rfl
@[simp] theorem setEnc_cmps (d : Dev) (n : Nat) (x : Enc) : (d.setEnc n x).cmps = d.cmps := rfl
@[simp] theorem setEnc_trigs (d : Dev) (n : Nat) (x : Enc) : (d.setEnc n x).trigs = d.trigs := rfl
@[simp] theorem setEnc_lanes (d : Dev) (n : Nat) (x : Enc) : (d.setEnc n x).lanes = d.lanes := rfl
@[simp] theorem setEnc_ports (d : Dev) (n : Nat) (x : Enc) : (d.setEnc n x).ports = d.ports := rfl
@[simp] theorem setEnc_ptx (d : Dev) (n : Nat) (x : Enc) : (d.setEnc n x).ptx = d.ptx := rfl
@[simp] theorem setEnc_vcRings (d : Dev) (n : Nat) (x : Enc) : (d.setEnc n x).vcRings = d.vcRings := rfl
@[simp] theorem setEnc_pix (d : Dev) (n : Nat) (x : Enc) : (d.setEnc n x).pix = d.pix := rfl
@[simp] theorem setEnc_corr (d : Dev) (n : Nat) (x : Enc) : (d.setEnc n x).corr = d.corr := rfl
@[simp] theorem setEnc_taps (d : Dev) (n : Nat) (x : Enc) : (d.setEnc n x).taps = d.taps := rfl
@[simp] theorem setEnc_jobs (d : Dev) (n : Nat) (x : Enc) : (d.setEnc n x).jobs = d.jobs := rfl
@[simp] theorem setEnc_placed (d : Dev) (n : Nat) (x : Enc) : (d.setEnc n x).placed = d.placed := rfl
@[simp] theorem setEnc_place (d : Dev) (n : Nat) (x : Enc) : (d.setEnc n x).place = d.place := rfl
@[simp] theorem setEnc_grid (d : Dev) (n : Nat) (x : Enc) : (d.setEnc n x).grid = d.grid := rfl
@[simp] theorem setEnc_sides (d : Dev) (n : Nat) (x : Enc) : (d.setEnc n x).sides = d.sides := rfl
@[simp] theorem setEnc_chains (d : Dev) (n : Nat) (x : Enc) : (d.setEnc n x).chains = d.chains := rfl
@[simp] theorem setEnc_heads (d : Dev) (n : Nat) (x : Enc) : (d.setEnc n x).heads = d.heads := rfl
@[simp] theorem setEnc_offers (d : Dev) (n : Nat) (x : Enc) : (d.setEnc n x).offers = d.offers := rfl
@[simp] theorem setEnc_chans (d : Dev) (n : Nat) (x : Enc) : (d.setEnc n x).chans = d.chans := rfl
@[simp] theorem setEnc_tasks (d : Dev) (n : Nat) (x : Enc) : (d.setEnc n x).tasks = d.tasks := rfl
@[simp] theorem setEnc_evps (d : Dev) (n : Nat) (x : Enc) : (d.setEnc n x).evps = d.evps := rfl
@[simp] theorem setEnc_chanOn (d : Dev) (n : Nat) (x : Enc) : (d.setEnc n x).chanOn = d.chanOn := rfl
@[simp] theorem setEnc_mem (d : Dev) (n : Nat) (x : Enc) : (d.setEnc n x).mem = d.mem := rfl
@[simp] theorem setEnc_poison (d : Dev) (n : Nat) (x : Enc) : (d.setEnc n x).poison = d.poison := rfl
@[simp] theorem setEnc_units (d : Dev) (n : Nat) (x : Enc) : (d.setEnc n x).units = d.units := rfl
@[simp] theorem setEnc_ovls (d : Dev) (n : Nat) (x : Enc) : (d.setEnc n x).ovls = d.ovls := rfl
@[simp] theorem setEnc_masters (d : Dev) (n : Nat) (x : Enc) : (d.setEnc n x).masters = d.masters := rfl
@[simp] theorem setEnc_sessions (d : Dev) (n : Nat) (x : Enc) : (d.setEnc n x).sessions = d.sessions := rfl
@[simp] theorem setEnc_streams (d : Dev) (n : Nat) (x : Enc) : (d.setEnc n x).streams = d.streams := rfl
@[simp] theorem setEnc_resp (d : Dev) (n : Nat) (x : Enc) : (d.setEnc n x).resp = d.resp := rfl
@[simp] theorem setEnc_out (d : Dev) (n : Nat) (x : Enc) : (d.setEnc n x).out = d.out := rfl
@[simp] theorem setEnc_metOps (d : Dev) (n : Nat) (x : Enc) : (d.setEnc n x).metOps = d.metOps := rfl
@[simp] theorem setEnc_warmAsk (d : Dev) (n : Nat) (x : Enc) : (d.setEnc n x).warmAsk = d.warmAsk := rfl
@[simp] theorem setEnc_irqFlags (d : Dev) (n : Nat) (x : Enc) : (d.setEnc n x).irqFlags = d.irqFlags := rfl
@[simp] theorem setEnc_irqActive (d : Dev) (n : Nat) (x : Enc) : (d.setEnc n x).irqActive = d.irqActive := rfl
@[simp] theorem setEnc_mboxes (d : Dev) (n : Nat) (x : Enc) : (d.setEnc n x).mboxes = d.mboxes := rfl
@[simp] theorem setEnc_locks (d : Dev) (n : Nat) (x : Enc) : (d.setEnc n x).locks = d.locks := rfl
@[simp] theorem setEnc_mons (d : Dev) (n : Nat) (x : Enc) : (d.setEnc n x).mons = d.mons := rfl
@[simp] theorem setEnc_pow (d : Dev) (n : Nat) (x : Enc) : (d.setEnc n x).pow = d.pow := rfl
@[simp] theorem setEnc_domains (d : Dev) (n : Nat) (x : Enc) : (d.setEnc n x).domains = d.domains := rfl

/-! ### `setCmp` -/
@[simp] theorem setCmp_o (d : Dev) (n : Nat) (x : CmpWork) : (d.setCmp n x).o = d.o := rfl
@[simp] theorem setCmp_inForce (d : Dev) (n : Nat) (x : CmpWork) : (d.setCmp n x).inForce = d.inForce := rfl
@[simp] theorem setCmp_shadow (d : Dev) (n : Nat) (x : CmpWork) : (d.setCmp n x).shadow = d.shadow := rfl
@[simp] theorem setCmp_freeN (d : Dev) (n : Nat) (x : CmpWork) : (d.setCmp n x).freeN = d.freeN := rfl
@[simp] theorem setCmp_tuOps (d : Dev) (n : Nat) (x : CmpWork) : (d.setCmp n x).tuOps = d.tuOps := rfl
@[simp] theorem setCmp_tcs (d : Dev) (n : Nat) (x : CmpWork) : (d.setCmp n x).tcs = d.tcs := rfl
@[simp] theorem setCmp_tto (d : Dev) (n : Nat) (x : CmpWork) : (d.setCmp n x).tto = d.tto := rfl
@[simp] theorem setCmp_encs (d : Dev) (n : Nat) (x : CmpWork) : (d.setCmp n x).encs = d.encs := rfl
@[simp] theorem setCmp_trigs (d : Dev) (n : Nat) (x : CmpWork) : (d.setCmp n x).trigs = d.trigs := rfl
@[simp] theorem setCmp_lanes (d : Dev) (n : Nat) (x : CmpWork) : (d.setCmp n x).lanes = d.lanes := rfl
@[simp] theorem setCmp_ports (d : Dev) (n : Nat) (x : CmpWork) : (d.setCmp n x).ports = d.ports := rfl
@[simp] theorem setCmp_ptx (d : Dev) (n : Nat) (x : CmpWork) : (d.setCmp n x).ptx = d.ptx := rfl
@[simp] theorem setCmp_vcRings (d : Dev) (n : Nat) (x : CmpWork) : (d.setCmp n x).vcRings = d.vcRings := rfl
@[simp] theorem setCmp_pix (d : Dev) (n : Nat) (x : CmpWork) : (d.setCmp n x).pix = d.pix := rfl
@[simp] theorem setCmp_corr (d : Dev) (n : Nat) (x : CmpWork) : (d.setCmp n x).corr = d.corr := rfl
@[simp] theorem setCmp_taps (d : Dev) (n : Nat) (x : CmpWork) : (d.setCmp n x).taps = d.taps := rfl
@[simp] theorem setCmp_jobs (d : Dev) (n : Nat) (x : CmpWork) : (d.setCmp n x).jobs = d.jobs := rfl
@[simp] theorem setCmp_placed (d : Dev) (n : Nat) (x : CmpWork) : (d.setCmp n x).placed = d.placed := rfl
@[simp] theorem setCmp_place (d : Dev) (n : Nat) (x : CmpWork) : (d.setCmp n x).place = d.place := rfl
@[simp] theorem setCmp_grid (d : Dev) (n : Nat) (x : CmpWork) : (d.setCmp n x).grid = d.grid := rfl
@[simp] theorem setCmp_sides (d : Dev) (n : Nat) (x : CmpWork) : (d.setCmp n x).sides = d.sides := rfl
@[simp] theorem setCmp_chains (d : Dev) (n : Nat) (x : CmpWork) : (d.setCmp n x).chains = d.chains := rfl
@[simp] theorem setCmp_heads (d : Dev) (n : Nat) (x : CmpWork) : (d.setCmp n x).heads = d.heads := rfl
@[simp] theorem setCmp_offers (d : Dev) (n : Nat) (x : CmpWork) : (d.setCmp n x).offers = d.offers := rfl
@[simp] theorem setCmp_chans (d : Dev) (n : Nat) (x : CmpWork) : (d.setCmp n x).chans = d.chans := rfl
@[simp] theorem setCmp_tasks (d : Dev) (n : Nat) (x : CmpWork) : (d.setCmp n x).tasks = d.tasks := rfl
@[simp] theorem setCmp_evps (d : Dev) (n : Nat) (x : CmpWork) : (d.setCmp n x).evps = d.evps := rfl
@[simp] theorem setCmp_chanOn (d : Dev) (n : Nat) (x : CmpWork) : (d.setCmp n x).chanOn = d.chanOn := rfl
@[simp] theorem setCmp_mem (d : Dev) (n : Nat) (x : CmpWork) : (d.setCmp n x).mem = d.mem := rfl
@[simp] theorem setCmp_poison (d : Dev) (n : Nat) (x : CmpWork) : (d.setCmp n x).poison = d.poison := rfl
@[simp] theorem setCmp_units (d : Dev) (n : Nat) (x : CmpWork) : (d.setCmp n x).units = d.units := rfl
@[simp] theorem setCmp_ovls (d : Dev) (n : Nat) (x : CmpWork) : (d.setCmp n x).ovls = d.ovls := rfl
@[simp] theorem setCmp_masters (d : Dev) (n : Nat) (x : CmpWork) : (d.setCmp n x).masters = d.masters := rfl
@[simp] theorem setCmp_sessions (d : Dev) (n : Nat) (x : CmpWork) : (d.setCmp n x).sessions = d.sessions := rfl
@[simp] theorem setCmp_streams (d : Dev) (n : Nat) (x : CmpWork) : (d.setCmp n x).streams = d.streams := rfl
@[simp] theorem setCmp_resp (d : Dev) (n : Nat) (x : CmpWork) : (d.setCmp n x).resp = d.resp := rfl
@[simp] theorem setCmp_out (d : Dev) (n : Nat) (x : CmpWork) : (d.setCmp n x).out = d.out := rfl
@[simp] theorem setCmp_metOps (d : Dev) (n : Nat) (x : CmpWork) : (d.setCmp n x).metOps = d.metOps := rfl
@[simp] theorem setCmp_warmAsk (d : Dev) (n : Nat) (x : CmpWork) : (d.setCmp n x).warmAsk = d.warmAsk := rfl
@[simp] theorem setCmp_irqFlags (d : Dev) (n : Nat) (x : CmpWork) : (d.setCmp n x).irqFlags = d.irqFlags := rfl
@[simp] theorem setCmp_irqActive (d : Dev) (n : Nat) (x : CmpWork) : (d.setCmp n x).irqActive = d.irqActive := rfl
@[simp] theorem setCmp_mboxes (d : Dev) (n : Nat) (x : CmpWork) : (d.setCmp n x).mboxes = d.mboxes := rfl
@[simp] theorem setCmp_locks (d : Dev) (n : Nat) (x : CmpWork) : (d.setCmp n x).locks = d.locks := rfl
@[simp] theorem setCmp_mons (d : Dev) (n : Nat) (x : CmpWork) : (d.setCmp n x).mons = d.mons := rfl
@[simp] theorem setCmp_pow (d : Dev) (n : Nat) (x : CmpWork) : (d.setCmp n x).pow = d.pow := rfl
@[simp] theorem setCmp_domains (d : Dev) (n : Nat) (x : CmpWork) : (d.setCmp n x).domains = d.domains := rfl

/-! ### `setTc` -/
@[simp] theorem setTc_o (d : Dev) (n : Nat) (x : TcWork) : (d.setTc n x).o = d.o := rfl
@[simp] theorem setTc_inForce (d : Dev) (n : Nat) (x : TcWork) : (d.setTc n x).inForce = d.inForce := rfl
@[simp] theorem setTc_shadow (d : Dev) (n : Nat) (x : TcWork) : (d.setTc n x).shadow = d.shadow := rfl
@[simp] theorem setTc_freeN (d : Dev) (n : Nat) (x : TcWork) : (d.setTc n x).freeN = d.freeN := rfl
@[simp] theorem setTc_tuOps (d : Dev) (n : Nat) (x : TcWork) : (d.setTc n x).tuOps = d.tuOps := rfl
@[simp] theorem setTc_tto (d : Dev) (n : Nat) (x : TcWork) : (d.setTc n x).tto = d.tto := rfl
@[simp] theorem setTc_encs (d : Dev) (n : Nat) (x : TcWork) : (d.setTc n x).encs = d.encs := rfl
@[simp] theorem setTc_cmps (d : Dev) (n : Nat) (x : TcWork) : (d.setTc n x).cmps = d.cmps := rfl
@[simp] theorem setTc_trigs (d : Dev) (n : Nat) (x : TcWork) : (d.setTc n x).trigs = d.trigs := rfl
@[simp] theorem setTc_lanes (d : Dev) (n : Nat) (x : TcWork) : (d.setTc n x).lanes = d.lanes := rfl
@[simp] theorem setTc_ports (d : Dev) (n : Nat) (x : TcWork) : (d.setTc n x).ports = d.ports := rfl
@[simp] theorem setTc_ptx (d : Dev) (n : Nat) (x : TcWork) : (d.setTc n x).ptx = d.ptx := rfl
@[simp] theorem setTc_vcRings (d : Dev) (n : Nat) (x : TcWork) : (d.setTc n x).vcRings = d.vcRings := rfl
@[simp] theorem setTc_pix (d : Dev) (n : Nat) (x : TcWork) : (d.setTc n x).pix = d.pix := rfl
@[simp] theorem setTc_corr (d : Dev) (n : Nat) (x : TcWork) : (d.setTc n x).corr = d.corr := rfl
@[simp] theorem setTc_taps (d : Dev) (n : Nat) (x : TcWork) : (d.setTc n x).taps = d.taps := rfl
@[simp] theorem setTc_jobs (d : Dev) (n : Nat) (x : TcWork) : (d.setTc n x).jobs = d.jobs := rfl
@[simp] theorem setTc_placed (d : Dev) (n : Nat) (x : TcWork) : (d.setTc n x).placed = d.placed := rfl
@[simp] theorem setTc_place (d : Dev) (n : Nat) (x : TcWork) : (d.setTc n x).place = d.place := rfl
@[simp] theorem setTc_grid (d : Dev) (n : Nat) (x : TcWork) : (d.setTc n x).grid = d.grid := rfl
@[simp] theorem setTc_sides (d : Dev) (n : Nat) (x : TcWork) : (d.setTc n x).sides = d.sides := rfl
@[simp] theorem setTc_chains (d : Dev) (n : Nat) (x : TcWork) : (d.setTc n x).chains = d.chains := rfl
@[simp] theorem setTc_heads (d : Dev) (n : Nat) (x : TcWork) : (d.setTc n x).heads = d.heads := rfl
@[simp] theorem setTc_offers (d : Dev) (n : Nat) (x : TcWork) : (d.setTc n x).offers = d.offers := rfl
@[simp] theorem setTc_chans (d : Dev) (n : Nat) (x : TcWork) : (d.setTc n x).chans = d.chans := rfl
@[simp] theorem setTc_tasks (d : Dev) (n : Nat) (x : TcWork) : (d.setTc n x).tasks = d.tasks := rfl
@[simp] theorem setTc_evps (d : Dev) (n : Nat) (x : TcWork) : (d.setTc n x).evps = d.evps := rfl
@[simp] theorem setTc_chanOn (d : Dev) (n : Nat) (x : TcWork) : (d.setTc n x).chanOn = d.chanOn := rfl
@[simp] theorem setTc_mem (d : Dev) (n : Nat) (x : TcWork) : (d.setTc n x).mem = d.mem := rfl
@[simp] theorem setTc_poison (d : Dev) (n : Nat) (x : TcWork) : (d.setTc n x).poison = d.poison := rfl
@[simp] theorem setTc_units (d : Dev) (n : Nat) (x : TcWork) : (d.setTc n x).units = d.units := rfl
@[simp] theorem setTc_ovls (d : Dev) (n : Nat) (x : TcWork) : (d.setTc n x).ovls = d.ovls := rfl
@[simp] theorem setTc_masters (d : Dev) (n : Nat) (x : TcWork) : (d.setTc n x).masters = d.masters := rfl
@[simp] theorem setTc_sessions (d : Dev) (n : Nat) (x : TcWork) : (d.setTc n x).sessions = d.sessions := rfl
@[simp] theorem setTc_streams (d : Dev) (n : Nat) (x : TcWork) : (d.setTc n x).streams = d.streams := rfl
@[simp] theorem setTc_resp (d : Dev) (n : Nat) (x : TcWork) : (d.setTc n x).resp = d.resp := rfl
@[simp] theorem setTc_out (d : Dev) (n : Nat) (x : TcWork) : (d.setTc n x).out = d.out := rfl
@[simp] theorem setTc_metOps (d : Dev) (n : Nat) (x : TcWork) : (d.setTc n x).metOps = d.metOps := rfl
@[simp] theorem setTc_warmAsk (d : Dev) (n : Nat) (x : TcWork) : (d.setTc n x).warmAsk = d.warmAsk := rfl
@[simp] theorem setTc_irqFlags (d : Dev) (n : Nat) (x : TcWork) : (d.setTc n x).irqFlags = d.irqFlags := rfl
@[simp] theorem setTc_irqActive (d : Dev) (n : Nat) (x : TcWork) : (d.setTc n x).irqActive = d.irqActive := rfl
@[simp] theorem setTc_mboxes (d : Dev) (n : Nat) (x : TcWork) : (d.setTc n x).mboxes = d.mboxes := rfl
@[simp] theorem setTc_locks (d : Dev) (n : Nat) (x : TcWork) : (d.setTc n x).locks = d.locks := rfl
@[simp] theorem setTc_mons (d : Dev) (n : Nat) (x : TcWork) : (d.setTc n x).mons = d.mons := rfl
@[simp] theorem setTc_pow (d : Dev) (n : Nat) (x : TcWork) : (d.setTc n x).pow = d.pow := rfl
@[simp] theorem setTc_domains (d : Dev) (n : Nat) (x : TcWork) : (d.setTc n x).domains = d.domains := rfl

/-! ### `setTrig` -/
@[simp] theorem setTrig_o (d : Dev) (n : Nat) (x : TrigPort) : (d.setTrig n x).o = d.o := rfl
@[simp] theorem setTrig_inForce (d : Dev) (n : Nat) (x : TrigPort) : (d.setTrig n x).inForce = d.inForce := rfl
@[simp] theorem setTrig_shadow (d : Dev) (n : Nat) (x : TrigPort) : (d.setTrig n x).shadow = d.shadow := rfl
@[simp] theorem setTrig_freeN (d : Dev) (n : Nat) (x : TrigPort) : (d.setTrig n x).freeN = d.freeN := rfl
@[simp] theorem setTrig_tuOps (d : Dev) (n : Nat) (x : TrigPort) : (d.setTrig n x).tuOps = d.tuOps := rfl
@[simp] theorem setTrig_tcs (d : Dev) (n : Nat) (x : TrigPort) : (d.setTrig n x).tcs = d.tcs := rfl
@[simp] theorem setTrig_tto (d : Dev) (n : Nat) (x : TrigPort) : (d.setTrig n x).tto = d.tto := rfl
@[simp] theorem setTrig_encs (d : Dev) (n : Nat) (x : TrigPort) : (d.setTrig n x).encs = d.encs := rfl
@[simp] theorem setTrig_cmps (d : Dev) (n : Nat) (x : TrigPort) : (d.setTrig n x).cmps = d.cmps := rfl
@[simp] theorem setTrig_lanes (d : Dev) (n : Nat) (x : TrigPort) : (d.setTrig n x).lanes = d.lanes := rfl
@[simp] theorem setTrig_ports (d : Dev) (n : Nat) (x : TrigPort) : (d.setTrig n x).ports = d.ports := rfl
@[simp] theorem setTrig_ptx (d : Dev) (n : Nat) (x : TrigPort) : (d.setTrig n x).ptx = d.ptx := rfl
@[simp] theorem setTrig_vcRings (d : Dev) (n : Nat) (x : TrigPort) : (d.setTrig n x).vcRings = d.vcRings := rfl
@[simp] theorem setTrig_pix (d : Dev) (n : Nat) (x : TrigPort) : (d.setTrig n x).pix = d.pix := rfl
@[simp] theorem setTrig_corr (d : Dev) (n : Nat) (x : TrigPort) : (d.setTrig n x).corr = d.corr := rfl
@[simp] theorem setTrig_taps (d : Dev) (n : Nat) (x : TrigPort) : (d.setTrig n x).taps = d.taps := rfl
@[simp] theorem setTrig_jobs (d : Dev) (n : Nat) (x : TrigPort) : (d.setTrig n x).jobs = d.jobs := rfl
@[simp] theorem setTrig_placed (d : Dev) (n : Nat) (x : TrigPort) : (d.setTrig n x).placed = d.placed := rfl
@[simp] theorem setTrig_place (d : Dev) (n : Nat) (x : TrigPort) : (d.setTrig n x).place = d.place := rfl
@[simp] theorem setTrig_grid (d : Dev) (n : Nat) (x : TrigPort) : (d.setTrig n x).grid = d.grid := rfl
@[simp] theorem setTrig_sides (d : Dev) (n : Nat) (x : TrigPort) : (d.setTrig n x).sides = d.sides := rfl
@[simp] theorem setTrig_chains (d : Dev) (n : Nat) (x : TrigPort) : (d.setTrig n x).chains = d.chains := rfl
@[simp] theorem setTrig_heads (d : Dev) (n : Nat) (x : TrigPort) : (d.setTrig n x).heads = d.heads := rfl
@[simp] theorem setTrig_offers (d : Dev) (n : Nat) (x : TrigPort) : (d.setTrig n x).offers = d.offers := rfl
@[simp] theorem setTrig_chans (d : Dev) (n : Nat) (x : TrigPort) : (d.setTrig n x).chans = d.chans := rfl
@[simp] theorem setTrig_tasks (d : Dev) (n : Nat) (x : TrigPort) : (d.setTrig n x).tasks = d.tasks := rfl
@[simp] theorem setTrig_evps (d : Dev) (n : Nat) (x : TrigPort) : (d.setTrig n x).evps = d.evps := rfl
@[simp] theorem setTrig_chanOn (d : Dev) (n : Nat) (x : TrigPort) : (d.setTrig n x).chanOn = d.chanOn := rfl
@[simp] theorem setTrig_mem (d : Dev) (n : Nat) (x : TrigPort) : (d.setTrig n x).mem = d.mem := rfl
@[simp] theorem setTrig_poison (d : Dev) (n : Nat) (x : TrigPort) : (d.setTrig n x).poison = d.poison := rfl
@[simp] theorem setTrig_units (d : Dev) (n : Nat) (x : TrigPort) : (d.setTrig n x).units = d.units := rfl
@[simp] theorem setTrig_ovls (d : Dev) (n : Nat) (x : TrigPort) : (d.setTrig n x).ovls = d.ovls := rfl
@[simp] theorem setTrig_masters (d : Dev) (n : Nat) (x : TrigPort) : (d.setTrig n x).masters = d.masters := rfl
@[simp] theorem setTrig_sessions (d : Dev) (n : Nat) (x : TrigPort) : (d.setTrig n x).sessions = d.sessions := rfl
@[simp] theorem setTrig_streams (d : Dev) (n : Nat) (x : TrigPort) : (d.setTrig n x).streams = d.streams := rfl
@[simp] theorem setTrig_resp (d : Dev) (n : Nat) (x : TrigPort) : (d.setTrig n x).resp = d.resp := rfl
@[simp] theorem setTrig_out (d : Dev) (n : Nat) (x : TrigPort) : (d.setTrig n x).out = d.out := rfl
@[simp] theorem setTrig_metOps (d : Dev) (n : Nat) (x : TrigPort) : (d.setTrig n x).metOps = d.metOps := rfl
@[simp] theorem setTrig_warmAsk (d : Dev) (n : Nat) (x : TrigPort) : (d.setTrig n x).warmAsk = d.warmAsk := rfl
@[simp] theorem setTrig_irqFlags (d : Dev) (n : Nat) (x : TrigPort) : (d.setTrig n x).irqFlags = d.irqFlags := rfl
@[simp] theorem setTrig_irqActive (d : Dev) (n : Nat) (x : TrigPort) : (d.setTrig n x).irqActive = d.irqActive := rfl
@[simp] theorem setTrig_mboxes (d : Dev) (n : Nat) (x : TrigPort) : (d.setTrig n x).mboxes = d.mboxes := rfl
@[simp] theorem setTrig_locks (d : Dev) (n : Nat) (x : TrigPort) : (d.setTrig n x).locks = d.locks := rfl
@[simp] theorem setTrig_mons (d : Dev) (n : Nat) (x : TrigPort) : (d.setTrig n x).mons = d.mons := rfl
@[simp] theorem setTrig_pow (d : Dev) (n : Nat) (x : TrigPort) : (d.setTrig n x).pow = d.pow := rfl
@[simp] theorem setTrig_domains (d : Dev) (n : Nat) (x : TrigPort) : (d.setTrig n x).domains = d.domains := rfl

/-! ### `setLane` -/
@[simp] theorem setLane_o (d : Dev) (n : Nat) (x : Lane) : (d.setLane n x).o = d.o := rfl
@[simp] theorem setLane_inForce (d : Dev) (n : Nat) (x : Lane) : (d.setLane n x).inForce = d.inForce := rfl
@[simp] theorem setLane_shadow (d : Dev) (n : Nat) (x : Lane) : (d.setLane n x).shadow = d.shadow := rfl
@[simp] theorem setLane_freeN (d : Dev) (n : Nat) (x : Lane) : (d.setLane n x).freeN = d.freeN := rfl
@[simp] theorem setLane_tuOps (d : Dev) (n : Nat) (x : Lane) : (d.setLane n x).tuOps = d.tuOps := rfl
@[simp] theorem setLane_tcs (d : Dev) (n : Nat) (x : Lane) : (d.setLane n x).tcs = d.tcs := rfl
@[simp] theorem setLane_tto (d : Dev) (n : Nat) (x : Lane) : (d.setLane n x).tto = d.tto := rfl
@[simp] theorem setLane_encs (d : Dev) (n : Nat) (x : Lane) : (d.setLane n x).encs = d.encs := rfl
@[simp] theorem setLane_cmps (d : Dev) (n : Nat) (x : Lane) : (d.setLane n x).cmps = d.cmps := rfl
@[simp] theorem setLane_trigs (d : Dev) (n : Nat) (x : Lane) : (d.setLane n x).trigs = d.trigs := rfl
@[simp] theorem setLane_ports (d : Dev) (n : Nat) (x : Lane) : (d.setLane n x).ports = d.ports := rfl
@[simp] theorem setLane_ptx (d : Dev) (n : Nat) (x : Lane) : (d.setLane n x).ptx = d.ptx := rfl
@[simp] theorem setLane_vcRings (d : Dev) (n : Nat) (x : Lane) : (d.setLane n x).vcRings = d.vcRings := rfl
@[simp] theorem setLane_pix (d : Dev) (n : Nat) (x : Lane) : (d.setLane n x).pix = d.pix := rfl
@[simp] theorem setLane_corr (d : Dev) (n : Nat) (x : Lane) : (d.setLane n x).corr = d.corr := rfl
@[simp] theorem setLane_taps (d : Dev) (n : Nat) (x : Lane) : (d.setLane n x).taps = d.taps := rfl
@[simp] theorem setLane_jobs (d : Dev) (n : Nat) (x : Lane) : (d.setLane n x).jobs = d.jobs := rfl
@[simp] theorem setLane_placed (d : Dev) (n : Nat) (x : Lane) : (d.setLane n x).placed = d.placed := rfl
@[simp] theorem setLane_place (d : Dev) (n : Nat) (x : Lane) : (d.setLane n x).place = d.place := rfl
@[simp] theorem setLane_grid (d : Dev) (n : Nat) (x : Lane) : (d.setLane n x).grid = d.grid := rfl
@[simp] theorem setLane_sides (d : Dev) (n : Nat) (x : Lane) : (d.setLane n x).sides = d.sides := rfl
@[simp] theorem setLane_chains (d : Dev) (n : Nat) (x : Lane) : (d.setLane n x).chains = d.chains := rfl
@[simp] theorem setLane_heads (d : Dev) (n : Nat) (x : Lane) : (d.setLane n x).heads = d.heads := rfl
@[simp] theorem setLane_offers (d : Dev) (n : Nat) (x : Lane) : (d.setLane n x).offers = d.offers := rfl
@[simp] theorem setLane_chans (d : Dev) (n : Nat) (x : Lane) : (d.setLane n x).chans = d.chans := rfl
@[simp] theorem setLane_tasks (d : Dev) (n : Nat) (x : Lane) : (d.setLane n x).tasks = d.tasks := rfl
@[simp] theorem setLane_evps (d : Dev) (n : Nat) (x : Lane) : (d.setLane n x).evps = d.evps := rfl
@[simp] theorem setLane_chanOn (d : Dev) (n : Nat) (x : Lane) : (d.setLane n x).chanOn = d.chanOn := rfl
@[simp] theorem setLane_mem (d : Dev) (n : Nat) (x : Lane) : (d.setLane n x).mem = d.mem := rfl
@[simp] theorem setLane_poison (d : Dev) (n : Nat) (x : Lane) : (d.setLane n x).poison = d.poison := rfl
@[simp] theorem setLane_units (d : Dev) (n : Nat) (x : Lane) : (d.setLane n x).units = d.units := rfl
@[simp] theorem setLane_ovls (d : Dev) (n : Nat) (x : Lane) : (d.setLane n x).ovls = d.ovls := rfl
@[simp] theorem setLane_masters (d : Dev) (n : Nat) (x : Lane) : (d.setLane n x).masters = d.masters := rfl
@[simp] theorem setLane_sessions (d : Dev) (n : Nat) (x : Lane) : (d.setLane n x).sessions = d.sessions := rfl
@[simp] theorem setLane_streams (d : Dev) (n : Nat) (x : Lane) : (d.setLane n x).streams = d.streams := rfl
@[simp] theorem setLane_resp (d : Dev) (n : Nat) (x : Lane) : (d.setLane n x).resp = d.resp := rfl
@[simp] theorem setLane_out (d : Dev) (n : Nat) (x : Lane) : (d.setLane n x).out = d.out := rfl
@[simp] theorem setLane_metOps (d : Dev) (n : Nat) (x : Lane) : (d.setLane n x).metOps = d.metOps := rfl
@[simp] theorem setLane_warmAsk (d : Dev) (n : Nat) (x : Lane) : (d.setLane n x).warmAsk = d.warmAsk := rfl
@[simp] theorem setLane_irqFlags (d : Dev) (n : Nat) (x : Lane) : (d.setLane n x).irqFlags = d.irqFlags := rfl
@[simp] theorem setLane_irqActive (d : Dev) (n : Nat) (x : Lane) : (d.setLane n x).irqActive = d.irqActive := rfl
@[simp] theorem setLane_mboxes (d : Dev) (n : Nat) (x : Lane) : (d.setLane n x).mboxes = d.mboxes := rfl
@[simp] theorem setLane_locks (d : Dev) (n : Nat) (x : Lane) : (d.setLane n x).locks = d.locks := rfl
@[simp] theorem setLane_mons (d : Dev) (n : Nat) (x : Lane) : (d.setLane n x).mons = d.mons := rfl
@[simp] theorem setLane_pow (d : Dev) (n : Nat) (x : Lane) : (d.setLane n x).pow = d.pow := rfl
@[simp] theorem setLane_domains (d : Dev) (n : Nat) (x : Lane) : (d.setLane n x).domains = d.domains := rfl

/-! ### `setPort` -/
@[simp] theorem setPort_o (d : Dev) (n : Nat) (x : PortLanes) : (d.setPort n x).o = d.o := rfl
@[simp] theorem setPort_inForce (d : Dev) (n : Nat) (x : PortLanes) : (d.setPort n x).inForce = d.inForce := rfl
@[simp] theorem setPort_shadow (d : Dev) (n : Nat) (x : PortLanes) : (d.setPort n x).shadow = d.shadow := rfl
@[simp] theorem setPort_freeN (d : Dev) (n : Nat) (x : PortLanes) : (d.setPort n x).freeN = d.freeN := rfl
@[simp] theorem setPort_tuOps (d : Dev) (n : Nat) (x : PortLanes) : (d.setPort n x).tuOps = d.tuOps := rfl
@[simp] theorem setPort_tcs (d : Dev) (n : Nat) (x : PortLanes) : (d.setPort n x).tcs = d.tcs := rfl
@[simp] theorem setPort_tto (d : Dev) (n : Nat) (x : PortLanes) : (d.setPort n x).tto = d.tto := rfl
@[simp] theorem setPort_encs (d : Dev) (n : Nat) (x : PortLanes) : (d.setPort n x).encs = d.encs := rfl
@[simp] theorem setPort_cmps (d : Dev) (n : Nat) (x : PortLanes) : (d.setPort n x).cmps = d.cmps := rfl
@[simp] theorem setPort_trigs (d : Dev) (n : Nat) (x : PortLanes) : (d.setPort n x).trigs = d.trigs := rfl
@[simp] theorem setPort_lanes (d : Dev) (n : Nat) (x : PortLanes) : (d.setPort n x).lanes = d.lanes := rfl
@[simp] theorem setPort_ptx (d : Dev) (n : Nat) (x : PortLanes) : (d.setPort n x).ptx = d.ptx := rfl
@[simp] theorem setPort_vcRings (d : Dev) (n : Nat) (x : PortLanes) : (d.setPort n x).vcRings = d.vcRings := rfl
@[simp] theorem setPort_pix (d : Dev) (n : Nat) (x : PortLanes) : (d.setPort n x).pix = d.pix := rfl
@[simp] theorem setPort_corr (d : Dev) (n : Nat) (x : PortLanes) : (d.setPort n x).corr = d.corr := rfl
@[simp] theorem setPort_taps (d : Dev) (n : Nat) (x : PortLanes) : (d.setPort n x).taps = d.taps := rfl
@[simp] theorem setPort_jobs (d : Dev) (n : Nat) (x : PortLanes) : (d.setPort n x).jobs = d.jobs := rfl
@[simp] theorem setPort_placed (d : Dev) (n : Nat) (x : PortLanes) : (d.setPort n x).placed = d.placed := rfl
@[simp] theorem setPort_place (d : Dev) (n : Nat) (x : PortLanes) : (d.setPort n x).place = d.place := rfl
@[simp] theorem setPort_grid (d : Dev) (n : Nat) (x : PortLanes) : (d.setPort n x).grid = d.grid := rfl
@[simp] theorem setPort_sides (d : Dev) (n : Nat) (x : PortLanes) : (d.setPort n x).sides = d.sides := rfl
@[simp] theorem setPort_chains (d : Dev) (n : Nat) (x : PortLanes) : (d.setPort n x).chains = d.chains := rfl
@[simp] theorem setPort_heads (d : Dev) (n : Nat) (x : PortLanes) : (d.setPort n x).heads = d.heads := rfl
@[simp] theorem setPort_offers (d : Dev) (n : Nat) (x : PortLanes) : (d.setPort n x).offers = d.offers := rfl
@[simp] theorem setPort_chans (d : Dev) (n : Nat) (x : PortLanes) : (d.setPort n x).chans = d.chans := rfl
@[simp] theorem setPort_tasks (d : Dev) (n : Nat) (x : PortLanes) : (d.setPort n x).tasks = d.tasks := rfl
@[simp] theorem setPort_evps (d : Dev) (n : Nat) (x : PortLanes) : (d.setPort n x).evps = d.evps := rfl
@[simp] theorem setPort_chanOn (d : Dev) (n : Nat) (x : PortLanes) : (d.setPort n x).chanOn = d.chanOn := rfl
@[simp] theorem setPort_mem (d : Dev) (n : Nat) (x : PortLanes) : (d.setPort n x).mem = d.mem := rfl
@[simp] theorem setPort_poison (d : Dev) (n : Nat) (x : PortLanes) : (d.setPort n x).poison = d.poison := rfl
@[simp] theorem setPort_units (d : Dev) (n : Nat) (x : PortLanes) : (d.setPort n x).units = d.units := rfl
@[simp] theorem setPort_ovls (d : Dev) (n : Nat) (x : PortLanes) : (d.setPort n x).ovls = d.ovls := rfl
@[simp] theorem setPort_masters (d : Dev) (n : Nat) (x : PortLanes) : (d.setPort n x).masters = d.masters := rfl
@[simp] theorem setPort_sessions (d : Dev) (n : Nat) (x : PortLanes) : (d.setPort n x).sessions = d.sessions := rfl
@[simp] theorem setPort_streams (d : Dev) (n : Nat) (x : PortLanes) : (d.setPort n x).streams = d.streams := rfl
@[simp] theorem setPort_resp (d : Dev) (n : Nat) (x : PortLanes) : (d.setPort n x).resp = d.resp := rfl
@[simp] theorem setPort_out (d : Dev) (n : Nat) (x : PortLanes) : (d.setPort n x).out = d.out := rfl
@[simp] theorem setPort_metOps (d : Dev) (n : Nat) (x : PortLanes) : (d.setPort n x).metOps = d.metOps := rfl
@[simp] theorem setPort_warmAsk (d : Dev) (n : Nat) (x : PortLanes) : (d.setPort n x).warmAsk = d.warmAsk := rfl
@[simp] theorem setPort_irqFlags (d : Dev) (n : Nat) (x : PortLanes) : (d.setPort n x).irqFlags = d.irqFlags := rfl
@[simp] theorem setPort_irqActive (d : Dev) (n : Nat) (x : PortLanes) : (d.setPort n x).irqActive = d.irqActive := rfl
@[simp] theorem setPort_mboxes (d : Dev) (n : Nat) (x : PortLanes) : (d.setPort n x).mboxes = d.mboxes := rfl
@[simp] theorem setPort_locks (d : Dev) (n : Nat) (x : PortLanes) : (d.setPort n x).locks = d.locks := rfl
@[simp] theorem setPort_mons (d : Dev) (n : Nat) (x : PortLanes) : (d.setPort n x).mons = d.mons := rfl
@[simp] theorem setPort_pow (d : Dev) (n : Nat) (x : PortLanes) : (d.setPort n x).pow = d.pow := rfl
@[simp] theorem setPort_domains (d : Dev) (n : Nat) (x : PortLanes) : (d.setPort n x).domains = d.domains := rfl

/-! ### `setPt` -/
@[simp] theorem setPt_o (d : Dev) (n : Nat) (x : PortT) : (d.setPt n x).o = d.o := rfl
@[simp] theorem setPt_inForce (d : Dev) (n : Nat) (x : PortT) : (d.setPt n x).inForce = d.inForce := rfl
@[simp] theorem setPt_shadow (d : Dev) (n : Nat) (x : PortT) : (d.setPt n x).shadow = d.shadow := rfl
@[simp] theorem setPt_freeN (d : Dev) (n : Nat) (x : PortT) : (d.setPt n x).freeN = d.freeN := rfl
@[simp] theorem setPt_tuOps (d : Dev) (n : Nat) (x : PortT) : (d.setPt n x).tuOps = d.tuOps := rfl
@[simp] theorem setPt_tcs (d : Dev) (n : Nat) (x : PortT) : (d.setPt n x).tcs = d.tcs := rfl
@[simp] theorem setPt_tto (d : Dev) (n : Nat) (x : PortT) : (d.setPt n x).tto = d.tto := rfl
@[simp] theorem setPt_encs (d : Dev) (n : Nat) (x : PortT) : (d.setPt n x).encs = d.encs := rfl
@[simp] theorem setPt_cmps (d : Dev) (n : Nat) (x : PortT) : (d.setPt n x).cmps = d.cmps := rfl
@[simp] theorem setPt_trigs (d : Dev) (n : Nat) (x : PortT) : (d.setPt n x).trigs = d.trigs := rfl
@[simp] theorem setPt_lanes (d : Dev) (n : Nat) (x : PortT) : (d.setPt n x).lanes = d.lanes := rfl
@[simp] theorem setPt_ports (d : Dev) (n : Nat) (x : PortT) : (d.setPt n x).ports = d.ports := rfl
@[simp] theorem setPt_vcRings (d : Dev) (n : Nat) (x : PortT) : (d.setPt n x).vcRings = d.vcRings := rfl
@[simp] theorem setPt_pix (d : Dev) (n : Nat) (x : PortT) : (d.setPt n x).pix = d.pix := rfl
@[simp] theorem setPt_corr (d : Dev) (n : Nat) (x : PortT) : (d.setPt n x).corr = d.corr := rfl
@[simp] theorem setPt_taps (d : Dev) (n : Nat) (x : PortT) : (d.setPt n x).taps = d.taps := rfl
@[simp] theorem setPt_jobs (d : Dev) (n : Nat) (x : PortT) : (d.setPt n x).jobs = d.jobs := rfl
@[simp] theorem setPt_placed (d : Dev) (n : Nat) (x : PortT) : (d.setPt n x).placed = d.placed := rfl
@[simp] theorem setPt_place (d : Dev) (n : Nat) (x : PortT) : (d.setPt n x).place = d.place := rfl
@[simp] theorem setPt_grid (d : Dev) (n : Nat) (x : PortT) : (d.setPt n x).grid = d.grid := rfl
@[simp] theorem setPt_sides (d : Dev) (n : Nat) (x : PortT) : (d.setPt n x).sides = d.sides := rfl
@[simp] theorem setPt_chains (d : Dev) (n : Nat) (x : PortT) : (d.setPt n x).chains = d.chains := rfl
@[simp] theorem setPt_heads (d : Dev) (n : Nat) (x : PortT) : (d.setPt n x).heads = d.heads := rfl
@[simp] theorem setPt_offers (d : Dev) (n : Nat) (x : PortT) : (d.setPt n x).offers = d.offers := rfl
@[simp] theorem setPt_chans (d : Dev) (n : Nat) (x : PortT) : (d.setPt n x).chans = d.chans := rfl
@[simp] theorem setPt_tasks (d : Dev) (n : Nat) (x : PortT) : (d.setPt n x).tasks = d.tasks := rfl
@[simp] theorem setPt_evps (d : Dev) (n : Nat) (x : PortT) : (d.setPt n x).evps = d.evps := rfl
@[simp] theorem setPt_chanOn (d : Dev) (n : Nat) (x : PortT) : (d.setPt n x).chanOn = d.chanOn := rfl
@[simp] theorem setPt_mem (d : Dev) (n : Nat) (x : PortT) : (d.setPt n x).mem = d.mem := rfl
@[simp] theorem setPt_poison (d : Dev) (n : Nat) (x : PortT) : (d.setPt n x).poison = d.poison := rfl
@[simp] theorem setPt_units (d : Dev) (n : Nat) (x : PortT) : (d.setPt n x).units = d.units := rfl
@[simp] theorem setPt_ovls (d : Dev) (n : Nat) (x : PortT) : (d.setPt n x).ovls = d.ovls := rfl
@[simp] theorem setPt_masters (d : Dev) (n : Nat) (x : PortT) : (d.setPt n x).masters = d.masters := rfl
@[simp] theorem setPt_sessions (d : Dev) (n : Nat) (x : PortT) : (d.setPt n x).sessions = d.sessions := rfl
@[simp] theorem setPt_streams (d : Dev) (n : Nat) (x : PortT) : (d.setPt n x).streams = d.streams := rfl
@[simp] theorem setPt_resp (d : Dev) (n : Nat) (x : PortT) : (d.setPt n x).resp = d.resp := rfl
@[simp] theorem setPt_out (d : Dev) (n : Nat) (x : PortT) : (d.setPt n x).out = d.out := rfl
@[simp] theorem setPt_metOps (d : Dev) (n : Nat) (x : PortT) : (d.setPt n x).metOps = d.metOps := rfl
@[simp] theorem setPt_warmAsk (d : Dev) (n : Nat) (x : PortT) : (d.setPt n x).warmAsk = d.warmAsk := rfl
@[simp] theorem setPt_irqFlags (d : Dev) (n : Nat) (x : PortT) : (d.setPt n x).irqFlags = d.irqFlags := rfl
@[simp] theorem setPt_irqActive (d : Dev) (n : Nat) (x : PortT) : (d.setPt n x).irqActive = d.irqActive := rfl
@[simp] theorem setPt_mboxes (d : Dev) (n : Nat) (x : PortT) : (d.setPt n x).mboxes = d.mboxes := rfl
@[simp] theorem setPt_locks (d : Dev) (n : Nat) (x : PortT) : (d.setPt n x).locks = d.locks := rfl
@[simp] theorem setPt_mons (d : Dev) (n : Nat) (x : PortT) : (d.setPt n x).mons = d.mons := rfl
@[simp] theorem setPt_pow (d : Dev) (n : Nat) (x : PortT) : (d.setPt n x).pow = d.pow := rfl
@[simp] theorem setPt_domains (d : Dev) (n : Nat) (x : PortT) : (d.setPt n x).domains = d.domains := rfl

/-! ### `setChan` -/
@[simp] theorem setChan_o (d : Dev) (n : Nat) (x : Chan) : (d.setChan n x).o = d.o := rfl
@[simp] theorem setChan_inForce (d : Dev) (n : Nat) (x : Chan) : (d.setChan n x).inForce = d.inForce := rfl
@[simp] theorem setChan_shadow (d : Dev) (n : Nat) (x : Chan) : (d.setChan n x).shadow = d.shadow := rfl
@[simp] theorem setChan_freeN (d : Dev) (n : Nat) (x : Chan) : (d.setChan n x).freeN = d.freeN := rfl
@[simp] theorem setChan_tuOps (d : Dev) (n : Nat) (x : Chan) : (d.setChan n x).tuOps = d.tuOps := rfl
@[simp] theorem setChan_tcs (d : Dev) (n : Nat) (x : Chan) : (d.setChan n x).tcs = d.tcs := rfl
@[simp] theorem setChan_tto (d : Dev) (n : Nat) (x : Chan) : (d.setChan n x).tto = d.tto := rfl
@[simp] theorem setChan_encs (d : Dev) (n : Nat) (x : Chan) : (d.setChan n x).encs = d.encs := rfl
@[simp] theorem setChan_cmps (d : Dev) (n : Nat) (x : Chan) : (d.setChan n x).cmps = d.cmps := rfl
@[simp] theorem setChan_trigs (d : Dev) (n : Nat) (x : Chan) : (d.setChan n x).trigs = d.trigs := rfl
@[simp] theorem setChan_lanes (d : Dev) (n : Nat) (x : Chan) : (d.setChan n x).lanes = d.lanes := rfl
@[simp] theorem setChan_ports (d : Dev) (n : Nat) (x : Chan) : (d.setChan n x).ports = d.ports := rfl
@[simp] theorem setChan_ptx (d : Dev) (n : Nat) (x : Chan) : (d.setChan n x).ptx = d.ptx := rfl
@[simp] theorem setChan_vcRings (d : Dev) (n : Nat) (x : Chan) : (d.setChan n x).vcRings = d.vcRings := rfl
@[simp] theorem setChan_pix (d : Dev) (n : Nat) (x : Chan) : (d.setChan n x).pix = d.pix := rfl
@[simp] theorem setChan_corr (d : Dev) (n : Nat) (x : Chan) : (d.setChan n x).corr = d.corr := rfl
@[simp] theorem setChan_taps (d : Dev) (n : Nat) (x : Chan) : (d.setChan n x).taps = d.taps := rfl
@[simp] theorem setChan_jobs (d : Dev) (n : Nat) (x : Chan) : (d.setChan n x).jobs = d.jobs := rfl
@[simp] theorem setChan_placed (d : Dev) (n : Nat) (x : Chan) : (d.setChan n x).placed = d.placed := rfl
@[simp] theorem setChan_place (d : Dev) (n : Nat) (x : Chan) : (d.setChan n x).place = d.place := rfl
@[simp] theorem setChan_grid (d : Dev) (n : Nat) (x : Chan) : (d.setChan n x).grid = d.grid := rfl
@[simp] theorem setChan_sides (d : Dev) (n : Nat) (x : Chan) : (d.setChan n x).sides = d.sides := rfl
@[simp] theorem setChan_chains (d : Dev) (n : Nat) (x : Chan) : (d.setChan n x).chains = d.chains := rfl
@[simp] theorem setChan_heads (d : Dev) (n : Nat) (x : Chan) : (d.setChan n x).heads = d.heads := rfl
@[simp] theorem setChan_offers (d : Dev) (n : Nat) (x : Chan) : (d.setChan n x).offers = d.offers := rfl
@[simp] theorem setChan_tasks (d : Dev) (n : Nat) (x : Chan) : (d.setChan n x).tasks = d.tasks := rfl
@[simp] theorem setChan_evps (d : Dev) (n : Nat) (x : Chan) : (d.setChan n x).evps = d.evps := rfl
@[simp] theorem setChan_chanOn (d : Dev) (n : Nat) (x : Chan) : (d.setChan n x).chanOn = d.chanOn := rfl
@[simp] theorem setChan_mem (d : Dev) (n : Nat) (x : Chan) : (d.setChan n x).mem = d.mem := rfl
@[simp] theorem setChan_poison (d : Dev) (n : Nat) (x : Chan) : (d.setChan n x).poison = d.poison := rfl
@[simp] theorem setChan_units (d : Dev) (n : Nat) (x : Chan) : (d.setChan n x).units = d.units := rfl
@[simp] theorem setChan_ovls (d : Dev) (n : Nat) (x : Chan) : (d.setChan n x).ovls = d.ovls := rfl
@[simp] theorem setChan_masters (d : Dev) (n : Nat) (x : Chan) : (d.setChan n x).masters = d.masters := rfl
@[simp] theorem setChan_sessions (d : Dev) (n : Nat) (x : Chan) : (d.setChan n x).sessions = d.sessions := rfl
@[simp] theorem setChan_streams (d : Dev) (n : Nat) (x : Chan) : (d.setChan n x).streams = d.streams := rfl
@[simp] theorem setChan_resp (d : Dev) (n : Nat) (x : Chan) : (d.setChan n x).resp = d.resp := rfl
@[simp] theorem setChan_out (d : Dev) (n : Nat) (x : Chan) : (d.setChan n x).out = d.out := rfl
@[simp] theorem setChan_metOps (d : Dev) (n : Nat) (x : Chan) : (d.setChan n x).metOps = d.metOps := rfl
@[simp] theorem setChan_warmAsk (d : Dev) (n : Nat) (x : Chan) : (d.setChan n x).warmAsk = d.warmAsk := rfl
@[simp] theorem setChan_irqFlags (d : Dev) (n : Nat) (x : Chan) : (d.setChan n x).irqFlags = d.irqFlags := rfl
@[simp] theorem setChan_irqActive (d : Dev) (n : Nat) (x : Chan) : (d.setChan n x).irqActive = d.irqActive := rfl
@[simp] theorem setChan_mboxes (d : Dev) (n : Nat) (x : Chan) : (d.setChan n x).mboxes = d.mboxes := rfl
@[simp] theorem setChan_locks (d : Dev) (n : Nat) (x : Chan) : (d.setChan n x).locks = d.locks := rfl
@[simp] theorem setChan_mons (d : Dev) (n : Nat) (x : Chan) : (d.setChan n x).mons = d.mons := rfl
@[simp] theorem setChan_pow (d : Dev) (n : Nat) (x : Chan) : (d.setChan n x).pow = d.pow := rfl
@[simp] theorem setChan_domains (d : Dev) (n : Nat) (x : Chan) : (d.setChan n x).domains = d.domains := rfl

/-! ### `setTask` -/
@[simp] theorem setTask_o (d : Dev) (n : Nat) (x : TaskIn) : (d.setTask n x).o = d.o := rfl
@[simp] theorem setTask_inForce (d : Dev) (n : Nat) (x : TaskIn) : (d.setTask n x).inForce = d.inForce := rfl
@[simp] theorem setTask_shadow (d : Dev) (n : Nat) (x : TaskIn) : (d.setTask n x).shadow = d.shadow := rfl
@[simp] theorem setTask_freeN (d : Dev) (n : Nat) (x : TaskIn) : (d.setTask n x).freeN = d.freeN := rfl
@[simp] theorem setTask_tuOps (d : Dev) (n : Nat) (x : TaskIn) : (d.setTask n x).tuOps = d.tuOps := rfl
@[simp] theorem setTask_tcs (d : Dev) (n : Nat) (x : TaskIn) : (d.setTask n x).tcs = d.tcs := rfl
@[simp] theorem setTask_tto (d : Dev) (n : Nat) (x : TaskIn) : (d.setTask n x).tto = d.tto := rfl
@[simp] theorem setTask_encs (d : Dev) (n : Nat) (x : TaskIn) : (d.setTask n x).encs = d.encs := rfl
@[simp] theorem setTask_cmps (d : Dev) (n : Nat) (x : TaskIn) : (d.setTask n x).cmps = d.cmps := rfl
@[simp] theorem setTask_trigs (d : Dev) (n : Nat) (x : TaskIn) : (d.setTask n x).trigs = d.trigs := rfl
@[simp] theorem setTask_lanes (d : Dev) (n : Nat) (x : TaskIn) : (d.setTask n x).lanes = d.lanes := rfl
@[simp] theorem setTask_ports (d : Dev) (n : Nat) (x : TaskIn) : (d.setTask n x).ports = d.ports := rfl
@[simp] theorem setTask_ptx (d : Dev) (n : Nat) (x : TaskIn) : (d.setTask n x).ptx = d.ptx := rfl
@[simp] theorem setTask_vcRings (d : Dev) (n : Nat) (x : TaskIn) : (d.setTask n x).vcRings = d.vcRings := rfl
@[simp] theorem setTask_pix (d : Dev) (n : Nat) (x : TaskIn) : (d.setTask n x).pix = d.pix := rfl
@[simp] theorem setTask_corr (d : Dev) (n : Nat) (x : TaskIn) : (d.setTask n x).corr = d.corr := rfl
@[simp] theorem setTask_taps (d : Dev) (n : Nat) (x : TaskIn) : (d.setTask n x).taps = d.taps := rfl
@[simp] theorem setTask_jobs (d : Dev) (n : Nat) (x : TaskIn) : (d.setTask n x).jobs = d.jobs := rfl
@[simp] theorem setTask_placed (d : Dev) (n : Nat) (x : TaskIn) : (d.setTask n x).placed = d.placed := rfl
@[simp] theorem setTask_place (d : Dev) (n : Nat) (x : TaskIn) : (d.setTask n x).place = d.place := rfl
@[simp] theorem setTask_grid (d : Dev) (n : Nat) (x : TaskIn) : (d.setTask n x).grid = d.grid := rfl
@[simp] theorem setTask_sides (d : Dev) (n : Nat) (x : TaskIn) : (d.setTask n x).sides = d.sides := rfl
@[simp] theorem setTask_chains (d : Dev) (n : Nat) (x : TaskIn) : (d.setTask n x).chains = d.chains := rfl
@[simp] theorem setTask_heads (d : Dev) (n : Nat) (x : TaskIn) : (d.setTask n x).heads = d.heads := rfl
@[simp] theorem setTask_offers (d : Dev) (n : Nat) (x : TaskIn) : (d.setTask n x).offers = d.offers := rfl
@[simp] theorem setTask_chans (d : Dev) (n : Nat) (x : TaskIn) : (d.setTask n x).chans = d.chans := rfl
@[simp] theorem setTask_evps (d : Dev) (n : Nat) (x : TaskIn) : (d.setTask n x).evps = d.evps := rfl
@[simp] theorem setTask_chanOn (d : Dev) (n : Nat) (x : TaskIn) : (d.setTask n x).chanOn = d.chanOn := rfl
@[simp] theorem setTask_mem (d : Dev) (n : Nat) (x : TaskIn) : (d.setTask n x).mem = d.mem := rfl
@[simp] theorem setTask_poison (d : Dev) (n : Nat) (x : TaskIn) : (d.setTask n x).poison = d.poison := rfl
@[simp] theorem setTask_units (d : Dev) (n : Nat) (x : TaskIn) : (d.setTask n x).units = d.units := rfl
@[simp] theorem setTask_ovls (d : Dev) (n : Nat) (x : TaskIn) : (d.setTask n x).ovls = d.ovls := rfl
@[simp] theorem setTask_masters (d : Dev) (n : Nat) (x : TaskIn) : (d.setTask n x).masters = d.masters := rfl
@[simp] theorem setTask_sessions (d : Dev) (n : Nat) (x : TaskIn) : (d.setTask n x).sessions = d.sessions := rfl
@[simp] theorem setTask_streams (d : Dev) (n : Nat) (x : TaskIn) : (d.setTask n x).streams = d.streams := rfl
@[simp] theorem setTask_resp (d : Dev) (n : Nat) (x : TaskIn) : (d.setTask n x).resp = d.resp := rfl
@[simp] theorem setTask_out (d : Dev) (n : Nat) (x : TaskIn) : (d.setTask n x).out = d.out := rfl
@[simp] theorem setTask_metOps (d : Dev) (n : Nat) (x : TaskIn) : (d.setTask n x).metOps = d.metOps := rfl
@[simp] theorem setTask_warmAsk (d : Dev) (n : Nat) (x : TaskIn) : (d.setTask n x).warmAsk = d.warmAsk := rfl
@[simp] theorem setTask_irqFlags (d : Dev) (n : Nat) (x : TaskIn) : (d.setTask n x).irqFlags = d.irqFlags := rfl
@[simp] theorem setTask_irqActive (d : Dev) (n : Nat) (x : TaskIn) : (d.setTask n x).irqActive = d.irqActive := rfl
@[simp] theorem setTask_mboxes (d : Dev) (n : Nat) (x : TaskIn) : (d.setTask n x).mboxes = d.mboxes := rfl
@[simp] theorem setTask_locks (d : Dev) (n : Nat) (x : TaskIn) : (d.setTask n x).locks = d.locks := rfl
@[simp] theorem setTask_mons (d : Dev) (n : Nat) (x : TaskIn) : (d.setTask n x).mons = d.mons := rfl
@[simp] theorem setTask_pow (d : Dev) (n : Nat) (x : TaskIn) : (d.setTask n x).pow = d.pow := rfl
@[simp] theorem setTask_domains (d : Dev) (n : Nat) (x : TaskIn) : (d.setTask n x).domains = d.domains := rfl

/-! ### `setEvp` -/
@[simp] theorem setEvp_o (d : Dev) (n : Nat) (x : EvPin) : (d.setEvp n x).o = d.o := rfl
@[simp] theorem setEvp_inForce (d : Dev) (n : Nat) (x : EvPin) : (d.setEvp n x).inForce = d.inForce := rfl
@[simp] theorem setEvp_shadow (d : Dev) (n : Nat) (x : EvPin) : (d.setEvp n x).shadow = d.shadow := rfl
@[simp] theorem setEvp_freeN (d : Dev) (n : Nat) (x : EvPin) : (d.setEvp n x).freeN = d.freeN := rfl
@[simp] theorem setEvp_tuOps (d : Dev) (n : Nat) (x : EvPin) : (d.setEvp n x).tuOps = d.tuOps := rfl
@[simp] theorem setEvp_tcs (d : Dev) (n : Nat) (x : EvPin) : (d.setEvp n x).tcs = d.tcs := rfl
@[simp] theorem setEvp_tto (d : Dev) (n : Nat) (x : EvPin) : (d.setEvp n x).tto = d.tto := rfl
@[simp] theorem setEvp_encs (d : Dev) (n : Nat) (x : EvPin) : (d.setEvp n x).encs = d.encs := rfl
@[simp] theorem setEvp_cmps (d : Dev) (n : Nat) (x : EvPin) : (d.setEvp n x).cmps = d.cmps := rfl
@[simp] theorem setEvp_trigs (d : Dev) (n : Nat) (x : EvPin) : (d.setEvp n x).trigs = d.trigs := rfl
@[simp] theorem setEvp_lanes (d : Dev) (n : Nat) (x : EvPin) : (d.setEvp n x).lanes = d.lanes := rfl
@[simp] theorem setEvp_ports (d : Dev) (n : Nat) (x : EvPin) : (d.setEvp n x).ports = d.ports := rfl
@[simp] theorem setEvp_ptx (d : Dev) (n : Nat) (x : EvPin) : (d.setEvp n x).ptx = d.ptx := rfl
@[simp] theorem setEvp_vcRings (d : Dev) (n : Nat) (x : EvPin) : (d.setEvp n x).vcRings = d.vcRings := rfl
@[simp] theorem setEvp_pix (d : Dev) (n : Nat) (x : EvPin) : (d.setEvp n x).pix = d.pix := rfl
@[simp] theorem setEvp_corr (d : Dev) (n : Nat) (x : EvPin) : (d.setEvp n x).corr = d.corr := rfl
@[simp] theorem setEvp_taps (d : Dev) (n : Nat) (x : EvPin) : (d.setEvp n x).taps = d.taps := rfl
@[simp] theorem setEvp_jobs (d : Dev) (n : Nat) (x : EvPin) : (d.setEvp n x).jobs = d.jobs := rfl
@[simp] theorem setEvp_placed (d : Dev) (n : Nat) (x : EvPin) : (d.setEvp n x).placed = d.placed := rfl
@[simp] theorem setEvp_place (d : Dev) (n : Nat) (x : EvPin) : (d.setEvp n x).place = d.place := rfl
@[simp] theorem setEvp_grid (d : Dev) (n : Nat) (x : EvPin) : (d.setEvp n x).grid = d.grid := rfl
@[simp] theorem setEvp_sides (d : Dev) (n : Nat) (x : EvPin) : (d.setEvp n x).sides = d.sides := rfl
@[simp] theorem setEvp_chains (d : Dev) (n : Nat) (x : EvPin) : (d.setEvp n x).chains = d.chains := rfl
@[simp] theorem setEvp_heads (d : Dev) (n : Nat) (x : EvPin) : (d.setEvp n x).heads = d.heads := rfl
@[simp] theorem setEvp_offers (d : Dev) (n : Nat) (x : EvPin) : (d.setEvp n x).offers = d.offers := rfl
@[simp] theorem setEvp_chans (d : Dev) (n : Nat) (x : EvPin) : (d.setEvp n x).chans = d.chans := rfl
@[simp] theorem setEvp_tasks (d : Dev) (n : Nat) (x : EvPin) : (d.setEvp n x).tasks = d.tasks := rfl
@[simp] theorem setEvp_chanOn (d : Dev) (n : Nat) (x : EvPin) : (d.setEvp n x).chanOn = d.chanOn := rfl
@[simp] theorem setEvp_mem (d : Dev) (n : Nat) (x : EvPin) : (d.setEvp n x).mem = d.mem := rfl
@[simp] theorem setEvp_poison (d : Dev) (n : Nat) (x : EvPin) : (d.setEvp n x).poison = d.poison := rfl
@[simp] theorem setEvp_units (d : Dev) (n : Nat) (x : EvPin) : (d.setEvp n x).units = d.units := rfl
@[simp] theorem setEvp_ovls (d : Dev) (n : Nat) (x : EvPin) : (d.setEvp n x).ovls = d.ovls := rfl
@[simp] theorem setEvp_masters (d : Dev) (n : Nat) (x : EvPin) : (d.setEvp n x).masters = d.masters := rfl
@[simp] theorem setEvp_sessions (d : Dev) (n : Nat) (x : EvPin) : (d.setEvp n x).sessions = d.sessions := rfl
@[simp] theorem setEvp_streams (d : Dev) (n : Nat) (x : EvPin) : (d.setEvp n x).streams = d.streams := rfl
@[simp] theorem setEvp_resp (d : Dev) (n : Nat) (x : EvPin) : (d.setEvp n x).resp = d.resp := rfl
@[simp] theorem setEvp_out (d : Dev) (n : Nat) (x : EvPin) : (d.setEvp n x).out = d.out := rfl
@[simp] theorem setEvp_metOps (d : Dev) (n : Nat) (x : EvPin) : (d.setEvp n x).metOps = d.metOps := rfl
@[simp] theorem setEvp_warmAsk (d : Dev) (n : Nat) (x : EvPin) : (d.setEvp n x).warmAsk = d.warmAsk := rfl
@[simp] theorem setEvp_irqFlags (d : Dev) (n : Nat) (x : EvPin) : (d.setEvp n x).irqFlags = d.irqFlags := rfl
@[simp] theorem setEvp_irqActive (d : Dev) (n : Nat) (x : EvPin) : (d.setEvp n x).irqActive = d.irqActive := rfl
@[simp] theorem setEvp_mboxes (d : Dev) (n : Nat) (x : EvPin) : (d.setEvp n x).mboxes = d.mboxes := rfl
@[simp] theorem setEvp_locks (d : Dev) (n : Nat) (x : EvPin) : (d.setEvp n x).locks = d.locks := rfl
@[simp] theorem setEvp_mons (d : Dev) (n : Nat) (x : EvPin) : (d.setEvp n x).mons = d.mons := rfl
@[simp] theorem setEvp_pow (d : Dev) (n : Nat) (x : EvPin) : (d.setEvp n x).pow = d.pow := rfl
@[simp] theorem setEvp_domains (d : Dev) (n : Nat) (x : EvPin) : (d.setEvp n x).domains = d.domains := rfl

/-! ### `setOvl` -/
@[simp] theorem setOvl_o (d : Dev) (n : Nat) (x : Ovl) : (d.setOvl n x).o = d.o := rfl
@[simp] theorem setOvl_inForce (d : Dev) (n : Nat) (x : Ovl) : (d.setOvl n x).inForce = d.inForce := rfl
@[simp] theorem setOvl_shadow (d : Dev) (n : Nat) (x : Ovl) : (d.setOvl n x).shadow = d.shadow := rfl
@[simp] theorem setOvl_freeN (d : Dev) (n : Nat) (x : Ovl) : (d.setOvl n x).freeN = d.freeN := rfl
@[simp] theorem setOvl_tuOps (d : Dev) (n : Nat) (x : Ovl) : (d.setOvl n x).tuOps = d.tuOps := rfl
@[simp] theorem setOvl_tcs (d : Dev) (n : Nat) (x : Ovl) : (d.setOvl n x).tcs = d.tcs := rfl
@[simp] theorem setOvl_tto (d : Dev) (n : Nat) (x : Ovl) : (d.setOvl n x).tto = d.tto := rfl
@[simp] theorem setOvl_encs (d : Dev) (n : Nat) (x : Ovl) : (d.setOvl n x).encs = d.encs := rfl
@[simp] theorem setOvl_cmps (d : Dev) (n : Nat) (x : Ovl) : (d.setOvl n x).cmps = d.cmps := rfl
@[simp] theorem setOvl_trigs (d : Dev) (n : Nat) (x : Ovl) : (d.setOvl n x).trigs = d.trigs := rfl
@[simp] theorem setOvl_lanes (d : Dev) (n : Nat) (x : Ovl) : (d.setOvl n x).lanes = d.lanes := rfl
@[simp] theorem setOvl_ports (d : Dev) (n : Nat) (x : Ovl) : (d.setOvl n x).ports = d.ports := rfl
@[simp] theorem setOvl_ptx (d : Dev) (n : Nat) (x : Ovl) : (d.setOvl n x).ptx = d.ptx := rfl
@[simp] theorem setOvl_vcRings (d : Dev) (n : Nat) (x : Ovl) : (d.setOvl n x).vcRings = d.vcRings := rfl
@[simp] theorem setOvl_pix (d : Dev) (n : Nat) (x : Ovl) : (d.setOvl n x).pix = d.pix := rfl
@[simp] theorem setOvl_corr (d : Dev) (n : Nat) (x : Ovl) : (d.setOvl n x).corr = d.corr := rfl
@[simp] theorem setOvl_taps (d : Dev) (n : Nat) (x : Ovl) : (d.setOvl n x).taps = d.taps := rfl
@[simp] theorem setOvl_jobs (d : Dev) (n : Nat) (x : Ovl) : (d.setOvl n x).jobs = d.jobs := rfl
@[simp] theorem setOvl_placed (d : Dev) (n : Nat) (x : Ovl) : (d.setOvl n x).placed = d.placed := rfl
@[simp] theorem setOvl_place (d : Dev) (n : Nat) (x : Ovl) : (d.setOvl n x).place = d.place := rfl
@[simp] theorem setOvl_grid (d : Dev) (n : Nat) (x : Ovl) : (d.setOvl n x).grid = d.grid := rfl
@[simp] theorem setOvl_sides (d : Dev) (n : Nat) (x : Ovl) : (d.setOvl n x).sides = d.sides := rfl
@[simp] theorem setOvl_chains (d : Dev) (n : Nat) (x : Ovl) : (d.setOvl n x).chains = d.chains := rfl
@[simp] theorem setOvl_heads (d : Dev) (n : Nat) (x : Ovl) : (d.setOvl n x).heads = d.heads := rfl
@[simp] theorem setOvl_offers (d : Dev) (n : Nat) (x : Ovl) : (d.setOvl n x).offers = d.offers := rfl
@[simp] theorem setOvl_chans (d : Dev) (n : Nat) (x : Ovl) : (d.setOvl n x).chans = d.chans := rfl
@[simp] theorem setOvl_tasks (d : Dev) (n : Nat) (x : Ovl) : (d.setOvl n x).tasks = d.tasks := rfl
@[simp] theorem setOvl_evps (d : Dev) (n : Nat) (x : Ovl) : (d.setOvl n x).evps = d.evps := rfl
@[simp] theorem setOvl_chanOn (d : Dev) (n : Nat) (x : Ovl) : (d.setOvl n x).chanOn = d.chanOn := rfl
@[simp] theorem setOvl_mem (d : Dev) (n : Nat) (x : Ovl) : (d.setOvl n x).mem = d.mem := rfl
@[simp] theorem setOvl_poison (d : Dev) (n : Nat) (x : Ovl) : (d.setOvl n x).poison = d.poison := rfl
@[simp] theorem setOvl_units (d : Dev) (n : Nat) (x : Ovl) : (d.setOvl n x).units = d.units := rfl
@[simp] theorem setOvl_masters (d : Dev) (n : Nat) (x : Ovl) : (d.setOvl n x).masters = d.masters := rfl
@[simp] theorem setOvl_sessions (d : Dev) (n : Nat) (x : Ovl) : (d.setOvl n x).sessions = d.sessions := rfl
@[simp] theorem setOvl_streams (d : Dev) (n : Nat) (x : Ovl) : (d.setOvl n x).streams = d.streams := rfl
@[simp] theorem setOvl_resp (d : Dev) (n : Nat) (x : Ovl) : (d.setOvl n x).resp = d.resp := rfl
@[simp] theorem setOvl_out (d : Dev) (n : Nat) (x : Ovl) : (d.setOvl n x).out = d.out := rfl
@[simp] theorem setOvl_metOps (d : Dev) (n : Nat) (x : Ovl) : (d.setOvl n x).metOps = d.metOps := rfl
@[simp] theorem setOvl_warmAsk (d : Dev) (n : Nat) (x : Ovl) : (d.setOvl n x).warmAsk = d.warmAsk := rfl
@[simp] theorem setOvl_irqFlags (d : Dev) (n : Nat) (x : Ovl) : (d.setOvl n x).irqFlags = d.irqFlags := rfl
@[simp] theorem setOvl_irqActive (d : Dev) (n : Nat) (x : Ovl) : (d.setOvl n x).irqActive = d.irqActive := rfl
@[simp] theorem setOvl_mboxes (d : Dev) (n : Nat) (x : Ovl) : (d.setOvl n x).mboxes = d.mboxes := rfl
@[simp] theorem setOvl_locks (d : Dev) (n : Nat) (x : Ovl) : (d.setOvl n x).locks = d.locks := rfl
@[simp] theorem setOvl_mons (d : Dev) (n : Nat) (x : Ovl) : (d.setOvl n x).mons = d.mons := rfl
@[simp] theorem setOvl_pow (d : Dev) (n : Nat) (x : Ovl) : (d.setOvl n x).pow = d.pow := rfl
@[simp] theorem setOvl_domains (d : Dev) (n : Nat) (x : Ovl) : (d.setOvl n x).domains = d.domains := rfl

/-! ### `setMrec` -/
@[simp] theorem setMrec_o (d : Dev) (m : Master) (r : MasterRec) : (d.setMrec m r).o = d.o := rfl
@[simp] theorem setMrec_inForce (d : Dev) (m : Master) (r : MasterRec) : (d.setMrec m r).inForce = d.inForce := rfl
@[simp] theorem setMrec_shadow (d : Dev) (m : Master) (r : MasterRec) : (d.setMrec m r).shadow = d.shadow := rfl
@[simp] theorem setMrec_freeN (d : Dev) (m : Master) (r : MasterRec) : (d.setMrec m r).freeN = d.freeN := rfl
@[simp] theorem setMrec_tuOps (d : Dev) (m : Master) (r : MasterRec) : (d.setMrec m r).tuOps = d.tuOps := rfl
@[simp] theorem setMrec_tcs (d : Dev) (m : Master) (r : MasterRec) : (d.setMrec m r).tcs = d.tcs := rfl
@[simp] theorem setMrec_tto (d : Dev) (m : Master) (r : MasterRec) : (d.setMrec m r).tto = d.tto := rfl
@[simp] theorem setMrec_encs (d : Dev) (m : Master) (r : MasterRec) : (d.setMrec m r).encs = d.encs := rfl
@[simp] theorem setMrec_cmps (d : Dev) (m : Master) (r : MasterRec) : (d.setMrec m r).cmps = d.cmps := rfl
@[simp] theorem setMrec_trigs (d : Dev) (m : Master) (r : MasterRec) : (d.setMrec m r).trigs = d.trigs := rfl
@[simp] theorem setMrec_lanes (d : Dev) (m : Master) (r : MasterRec) : (d.setMrec m r).lanes = d.lanes := rfl
@[simp] theorem setMrec_ports (d : Dev) (m : Master) (r : MasterRec) : (d.setMrec m r).ports = d.ports := rfl
@[simp] theorem setMrec_ptx (d : Dev) (m : Master) (r : MasterRec) : (d.setMrec m r).ptx = d.ptx := rfl
@[simp] theorem setMrec_vcRings (d : Dev) (m : Master) (r : MasterRec) : (d.setMrec m r).vcRings = d.vcRings := rfl
@[simp] theorem setMrec_pix (d : Dev) (m : Master) (r : MasterRec) : (d.setMrec m r).pix = d.pix := rfl
@[simp] theorem setMrec_corr (d : Dev) (m : Master) (r : MasterRec) : (d.setMrec m r).corr = d.corr := rfl
@[simp] theorem setMrec_taps (d : Dev) (m : Master) (r : MasterRec) : (d.setMrec m r).taps = d.taps := rfl
@[simp] theorem setMrec_jobs (d : Dev) (m : Master) (r : MasterRec) : (d.setMrec m r).jobs = d.jobs := rfl
@[simp] theorem setMrec_placed (d : Dev) (m : Master) (r : MasterRec) : (d.setMrec m r).placed = d.placed := rfl
@[simp] theorem setMrec_place (d : Dev) (m : Master) (r : MasterRec) : (d.setMrec m r).place = d.place := rfl
@[simp] theorem setMrec_grid (d : Dev) (m : Master) (r : MasterRec) : (d.setMrec m r).grid = d.grid := rfl
@[simp] theorem setMrec_sides (d : Dev) (m : Master) (r : MasterRec) : (d.setMrec m r).sides = d.sides := rfl
@[simp] theorem setMrec_chains (d : Dev) (m : Master) (r : MasterRec) : (d.setMrec m r).chains = d.chains := rfl
@[simp] theorem setMrec_heads (d : Dev) (m : Master) (r : MasterRec) : (d.setMrec m r).heads = d.heads := rfl
@[simp] theorem setMrec_offers (d : Dev) (m : Master) (r : MasterRec) : (d.setMrec m r).offers = d.offers := rfl
@[simp] theorem setMrec_chans (d : Dev) (m : Master) (r : MasterRec) : (d.setMrec m r).chans = d.chans := rfl
@[simp] theorem setMrec_tasks (d : Dev) (m : Master) (r : MasterRec) : (d.setMrec m r).tasks = d.tasks := rfl
@[simp] theorem setMrec_evps (d : Dev) (m : Master) (r : MasterRec) : (d.setMrec m r).evps = d.evps := rfl
@[simp] theorem setMrec_chanOn (d : Dev) (m : Master) (r : MasterRec) : (d.setMrec m r).chanOn = d.chanOn := rfl
@[simp] theorem setMrec_mem (d : Dev) (m : Master) (r : MasterRec) : (d.setMrec m r).mem = d.mem := rfl
@[simp] theorem setMrec_poison (d : Dev) (m : Master) (r : MasterRec) : (d.setMrec m r).poison = d.poison := rfl
@[simp] theorem setMrec_units (d : Dev) (m : Master) (r : MasterRec) : (d.setMrec m r).units = d.units := rfl
@[simp] theorem setMrec_ovls (d : Dev) (m : Master) (r : MasterRec) : (d.setMrec m r).ovls = d.ovls := rfl
@[simp] theorem setMrec_sessions (d : Dev) (m : Master) (r : MasterRec) : (d.setMrec m r).sessions = d.sessions := rfl
@[simp] theorem setMrec_streams (d : Dev) (m : Master) (r : MasterRec) : (d.setMrec m r).streams = d.streams := rfl
@[simp] theorem setMrec_resp (d : Dev) (m : Master) (r : MasterRec) : (d.setMrec m r).resp = d.resp := rfl
@[simp] theorem setMrec_out (d : Dev) (m : Master) (r : MasterRec) : (d.setMrec m r).out = d.out := rfl
@[simp] theorem setMrec_metOps (d : Dev) (m : Master) (r : MasterRec) : (d.setMrec m r).metOps = d.metOps := rfl
@[simp] theorem setMrec_warmAsk (d : Dev) (m : Master) (r : MasterRec) : (d.setMrec m r).warmAsk = d.warmAsk := rfl
@[simp] theorem setMrec_irqFlags (d : Dev) (m : Master) (r : MasterRec) : (d.setMrec m r).irqFlags = d.irqFlags := rfl
@[simp] theorem setMrec_irqActive (d : Dev) (m : Master) (r : MasterRec) : (d.setMrec m r).irqActive = d.irqActive := rfl
@[simp] theorem setMrec_mboxes (d : Dev) (m : Master) (r : MasterRec) : (d.setMrec m r).mboxes = d.mboxes := rfl
@[simp] theorem setMrec_locks (d : Dev) (m : Master) (r : MasterRec) : (d.setMrec m r).locks = d.locks := rfl
@[simp] theorem setMrec_mons (d : Dev) (m : Master) (r : MasterRec) : (d.setMrec m r).mons = d.mons := rfl
@[simp] theorem setMrec_pow (d : Dev) (m : Master) (r : MasterRec) : (d.setMrec m r).pow = d.pow := rfl
@[simp] theorem setMrec_domains (d : Dev) (m : Master) (r : MasterRec) : (d.setMrec m r).domains = d.domains := rfl

/-! ### What an update writes -/

@[simp] theorem put_o (d : Dev) (i k : Nat) (v : Int) : (d.put i k v).o = tabSet d.o (okey i k) (.num v) := rfl
@[simp] theorem putB_o (d : Dev) (i k : Nat) (b : List Byte) : (d.putB i k b).o = tabSet d.o (okey i k) (.blob b) := rfl
@[simp] theorem emit_out (d : Dev) (x : Out) : (d.emit x).out = d.out ++ [x] := rfl
@[simp] theorem raiseFrom_offers (d : Dev) (p x a : Nat) (r : Option Nat) :
    (d.raiseFrom p x a r).offers = d.offers ++ (d.chansOf p).map (fun c => Offer.mk c p (x % 2 ^ 64) a r) := rfl
@[simp] theorem raise_offers (d : Dev) (e : Env) (p x : Nat) :
    (d.raise e p x).offers = d.offers ++ (d.chansOf p).map (fun c => Offer.mk c p (x % 2 ^ 64) e.raw none) := rfl
@[simp] theorem ended_resp (d : Dev) (m : Master) (st : Nat) : (d.ended m st).resp = { status := st, val := .num 0 } := rfl
@[simp] theorem readEnded_resp (d : Dev) (m : Master) (st : Nat) (v : ObjVal) :
    (d.readEnded m st v).resp = { status := st, val := v } := rfl
@[simp] theorem setUnit_units (d : Dev) (u : Nat) (r : UnitRec) : (d.setUnit u r).units = tabSet d.units u r := rfl
@[simp] theorem setTc_tcs (d : Dev) (n : Nat) (x : TcWork) : (d.setTc n x).tcs = tabSet d.tcs n x := rfl

/-! ### What an object reads after a write -/

/-- Two objects of different keys do not share a value. -/
theorem okey_ne {i k j l : Nat} (hk : k < 256) (hl : l < 256) (h : i ≠ j ∨ k ≠ l) : okey i k ≠ okey j l := by
  unfold okey; omega

/-- What is in force of an object depends on the entries of its own key alone. -/
theorem get_congr {d d' : Dev} {i k : Nat} (h1 : d'.inForce = d.inForce) (h2 : tabFind d'.o (okey i k) = tabFind d.o (okey i k)) :
    d'.get i k = d.get i k := by
  unfold Dev.get Dev.baseOf; rw [h1, h2]
theorem gi_congr {d d' : Dev} {i k : Nat} (h1 : d'.inForce = d.inForce) (h2 : tabFind d'.o (okey i k) = tabFind d.o (okey i k)) :
    d'.gi i k = d.gi i k := by
  unfold Dev.gi; rw [get_congr h1 h2]
theorem gn_congr {d d' : Dev} {i k : Nat} (h1 : d'.inForce = d.inForce) (h2 : tabFind d'.o (okey i k) = tabFind d.o (okey i k)) :
    d'.gn i k = d.gn i k := by
  unfold Dev.gn; rw [gi_congr h1 h2]

theorem get_put_ne (d : Dev) (i k j l : Nat) (v : Int) (h : okey j l ≠ okey i k) : (d.put i k v).get j l = d.get j l :=
  get_congr rfl (tabFind_tabSet_ne _ _ _ _ h)
theorem gi_put_ne (d : Dev) (i k j l : Nat) (v : Int) (h : okey j l ≠ okey i k) : (d.put i k v).gi j l = d.gi j l :=
  gi_congr rfl (tabFind_tabSet_ne _ _ _ _ h)
theorem gn_put_ne (d : Dev) (i k j l : Nat) (v : Int) (h : okey j l ≠ okey i k) : (d.put i k v).gn j l = d.gn j l :=
  gn_congr rfl (tabFind_tabSet_ne _ _ _ _ h)

/-- A written number is the base value. -/
@[simp] theorem baseOf_put (d : Dev) (i k : Nat) (v : Int) : (d.put i k v).baseOf i k = .num v := by
  unfold Dev.baseOf; rw [put_o, tabFind_tabSet_self]
theorem baseOf_put_ne (d : Dev) (i k j l : Nat) (v : Int) (h : okey j l ≠ okey i k) : (d.put i k v).baseOf j l = d.baseOf j l := by
  unfold Dev.baseOf; rw [put_o, tabFind_tabSet_ne _ _ _ _ h]

end Sys2Proof.Machine
end

