-- ==== Sys2Proof/Laws/Get.lean ====
section
/-! SUPPORT. What a part of a table reads after it is written, and after an update that does not concern it. -/

namespace Sys2Proof.Machine

/-! ### `enc` -/
@[simp] theorem setEnc_enc (d : Dev) (n : Nat) (x : Enc) : (d.setEnc n x).enc n = x := tabGet_tabSet_self _ _ _ _
@[simp] theorem setEnc_setEnc (d : Dev) (n : Nat) (x y : Enc) : (d.setEnc n x).setEnc n y = d.setEnc n y := by simp [Dev.setEnc]
@[simp] theorem put_enc (d : Dev) (i k : Nat) (v : Int) (n : Nat) : (d.put i k v).enc n = d.enc n := rfl
@[simp] theorem putB_enc (d : Dev) (i k : Nat) (b : List Byte) (n : Nat) : (d.putB i k b).enc n = d.enc n := rfl
@[simp] theorem add_enc (d : Dev) (i k : Nat) (v : Int) (n : Nat) : (d.add i k v).enc n = d.enc n := rfl
@[simp] theorem inc_enc (d : Dev) (i k : Nat) (n : Nat) : (d.inc i k).enc n = d.enc n := rfl
@[simp] theorem setFlag_enc (d : Dev) (i k b : Nat) (n : Nat) : (d.setFlag i k b).enc n = d.enc n := rfl
@[simp] theorem clrFlag_enc (d : Dev) (i k b : Nat) (n : Nat) : (d.clrFlag i k b).enc n = d.enc n := rfl
@[simp] theorem publish_enc (d : Dev) (i : Nat) (n : Nat) : (d.publish i).enc n = d.enc n := rfl
@[simp] theorem emit_enc (d : Dev) (x : Out) (n : Nat) : (d.emit x).enc n = d.enc n := rfl
@[simp] theorem ended_enc (d : Dev) (m : Master) (st : Nat) (n : Nat) : (d.ended m st).enc n = d.enc n := rfl

/-! ### `cmp` -/
@[simp] theorem setCmp_cmp (d : Dev) (n : Nat) (x : CmpWork) : (d.setCmp n x).cmp n = x := tabGet_tabSet_self _ _ _ _
@[simp] theorem setCmp_setCmp (d : Dev) (n : Nat) (x y : CmpWork) : (d.setCmp n x).setCmp n y = d.setCmp n y := by simp [Dev.setCmp]
@[simp] theorem put_cmp (d : Dev) (i k : Nat) (v : Int) (n : Nat) : (d.put i k v).cmp n = d.cmp n := rfl
@[simp] theorem putB_cmp (d : Dev) (i k : Nat) (b : List Byte) (n : Nat) : (d.putB i k b).cmp n = d.cmp n := rfl
@[simp] theorem add_cmp (d : Dev) (i k : Nat) (v : Int) (n : Nat) : (d.add i k v).cmp n = d.cmp n := rfl
@[simp] theorem inc_cmp (d : Dev) (i k : Nat) (n : Nat) : (d.inc i k).cmp n = d.cmp n := rfl
@[simp] theorem setFlag_cmp (d : Dev) (i k b : Nat) (n : Nat) : (d.setFlag i k b).cmp n = d.cmp n := rfl
@[simp] theorem clrFlag_cmp (d : Dev) (i k b : Nat) (n : Nat) : (d.clrFlag i k b).cmp n = d.cmp n := rfl
@[simp] theorem publish_cmp (d : Dev) (i : Nat) (n : Nat) : (d.publish i).cmp n = d.cmp n := rfl
@[simp] theorem emit_cmp (d : Dev) (x : Out) (n : Nat) : (d.emit x).cmp n = d.cmp n := rfl
@[simp] theorem ended_cmp (d : Dev) (m : Master) (st : Nat) (n : Nat) : (d.ended m st).cmp n = d.cmp n := rfl

/-! ### `tc` -/
@[simp] theorem setTc_tc (d : Dev) (n : Nat) (x : TcWork) : (d.setTc n x).tc n = x := tabGet_tabSet_self _ _ _ _
@[simp] theorem setTc_setTc (d : Dev) (n : Nat) (x y : TcWork) : (d.setTc n x).setTc n y = d.setTc n y := by simp [Dev.setTc]
@[simp] theorem put_tc (d : Dev) (i k : Nat) (v : Int) (n : Nat) : (d.put i k v).tc n = d.tc n := rfl
@[simp] theorem putB_tc (d : Dev) (i k : Nat) (b : List Byte) (n : Nat) : (d.putB i k b).tc n = d.tc n := rfl
@[simp] theorem add_tc (d : Dev) (i k : Nat) (v : Int) (n : Nat) : (d.add i k v).tc n = d.tc n := rfl
@[simp] theorem inc_tc (d : Dev) (i k : Nat) (n : Nat) : (d.inc i k).tc n = d.tc n := rfl
@[simp] theorem setFlag_tc (d : Dev) (i k b : Nat) (n : Nat) : (d.setFlag i k b).tc n = d.tc n := rfl
@[simp] theorem clrFlag_tc (d : Dev) (i k b : Nat) (n : Nat) : (d.clrFlag i k b).tc n = d.tc n := rfl
@[simp] theorem publish_tc (d : Dev) (i : Nat) (n : Nat) : (d.publish i).tc n = d.tc n := rfl
@[simp] theorem emit_tc (d : Dev) (x : Out) (n : Nat) : (d.emit x).tc n = d.tc n := rfl
@[simp] theorem ended_tc (d : Dev) (m : Master) (st : Nat) (n : Nat) : (d.ended m st).tc n = d.tc n := rfl

/-! ### `trig` -/
@[simp] theorem setTrig_trig (d : Dev) (n : Nat) (x : TrigPort) : (d.setTrig n x).trig n = x := tabGet_tabSet_self _ _ _ _
@[simp] theorem setTrig_setTrig (d : Dev) (n : Nat) (x y : TrigPort) : (d.setTrig n x).setTrig n y = d.setTrig n y := by simp [Dev.setTrig]
@[simp] theorem put_trig (d : Dev) (i k : Nat) (v : Int) (n : Nat) : (d.put i k v).trig n = d.trig n := rfl
@[simp] theorem putB_trig (d : Dev) (i k : Nat) (b : List Byte) (n : Nat) : (d.putB i k b).trig n = d.trig n := rfl
@[simp] theorem add_trig (d : Dev) (i k : Nat) (v : Int) (n : Nat) : (d.add i k v).trig n = d.trig n := rfl
@[simp] theorem inc_trig (d : Dev) (i k : Nat) (n : Nat) : (d.inc i k).trig n = d.trig n := rfl
@[simp] theorem setFlag_trig (d : Dev) (i k b : Nat) (n : Nat) : (d.setFlag i k b).trig n = d.trig n := rfl
@[simp] theorem clrFlag_trig (d : Dev) (i k b : Nat) (n : Nat) : (d.clrFlag i k b).trig n = d.trig n := rfl
@[simp] theorem publish_trig (d : Dev) (i : Nat) (n : Nat) : (d.publish i).trig n = d.trig n := rfl
@[simp] theorem emit_trig (d : Dev) (x : Out) (n : Nat) : (d.emit x).trig n = d.trig n := rfl
@[simp] theorem ended_trig (d : Dev) (m : Master) (st : Nat) (n : Nat) : (d.ended m st).trig n = d.trig n := rfl

/-! ### `lane` -/
@[simp] theorem setLane_lane (d : Dev) (n : Nat) (x : Lane) : (d.setLane n x).lane n = x := tabGet_tabSet_self _ _ _ _
@[simp] theorem setLane_setLane (d : Dev) (n : Nat) (x y : Lane) : (d.setLane n x).setLane n y = d.setLane n y := by simp [Dev.setLane]
@[simp] theorem put_lane (d : Dev) (i k : Nat) (v : Int) (n : Nat) : (d.put i k v).lane n = d.lane n := rfl
@[simp] theorem putB_lane (d : Dev) (i k : Nat) (b : List Byte) (n : Nat) : (d.putB i k b).lane n = d.lane n := rfl
@[simp] theorem add_lane (d : Dev) (i k : Nat) (v : Int) (n : Nat) : (d.add i k v).lane n = d.lane n := rfl
@[simp] theorem inc_lane (d : Dev) (i k : Nat) (n : Nat) : (d.inc i k).lane n = d.lane n := rfl
@[simp] theorem setFlag_lane (d : Dev) (i k b : Nat) (n : Nat) : (d.setFlag i k b).lane n = d.lane n := rfl
@[simp] theorem clrFlag_lane (d : Dev) (i k b : Nat) (n : Nat) : (d.clrFlag i k b).lane n = d.lane n := rfl
@[simp] theorem publish_lane (d : Dev) (i : Nat) (n : Nat) : (d.publish i).lane n = d.lane n := rfl
@[simp] theorem emit_lane (d : Dev) (x : Out) (n : Nat) : (d.emit x).lane n = d.lane n := rfl
@[simp] theorem ended_lane (d : Dev) (m : Master) (st : Nat) (n : Nat) : (d.ended m st).lane n = d.lane n := rfl

/-! ### `port` -/
@[simp] theorem setPort_port (d : Dev) (n : Nat) (x : PortLanes) : (d.setPort n x).port n = x := tabGet_tabSet_self _ _ _ _
@[simp] theorem setPort_setPort (d : Dev) (n : Nat) (x y : PortLanes) : (d.setPort n x).setPort n y = d.setPort n y := by simp [Dev.setPort]
@[simp] theorem put_port (d : Dev) (i k : Nat) (v : Int) (n : Nat) : (d.put i k v).port n = d.port n := rfl
@[simp] theorem putB_port (d : Dev) (i k : Nat) (b : List Byte) (n : Nat) : (d.putB i k b).port n = d.port n := rfl
@[simp] theorem add_port (d : Dev) (i k : Nat) (v : Int) (n : Nat) : (d.add i k v).port n = d.port n := rfl
@[simp] theorem inc_port (d : Dev) (i k : Nat) (n : Nat) : (d.inc i k).port n = d.port n := rfl
@[simp] theorem setFlag_port (d : Dev) (i k b : Nat) (n : Nat) : (d.setFlag i k b).port n = d.port n := rfl
@[simp] theorem clrFlag_port (d : Dev) (i k b : Nat) (n : Nat) : (d.clrFlag i k b).port n = d.port n := rfl
@[simp] theorem publish_port (d : Dev) (i : Nat) (n : Nat) : (d.publish i).port n = d.port n := rfl
@[simp] theorem emit_port (d : Dev) (x : Out) (n : Nat) : (d.emit x).port n = d.port n := rfl
@[simp] theorem ended_port (d : Dev) (m : Master) (st : Nat) (n : Nat) : (d.ended m st).port n = d.port n := rfl

/-! ### `pt` -/
@[simp] theorem setPt_pt (d : Dev) (n : Nat) (x : PortT) : (d.setPt n x).pt n = x := tabGet_tabSet_self _ _ _ _
@[simp] theorem setPt_setPt (d : Dev) (n : Nat) (x y : PortT) : (d.setPt n x).setPt n y = d.setPt n y := by simp [Dev.setPt]
@[simp] theorem put_pt (d : Dev) (i k : Nat) (v : Int) (n : Nat) : (d.put i k v).pt n = d.pt n := rfl
@[simp] theorem putB_pt (d : Dev) (i k : Nat) (b : List Byte) (n : Nat) : (d.putB i k b).pt n = d.pt n := rfl
@[simp] theorem add_pt (d : Dev) (i k : Nat) (v : Int) (n : Nat) : (d.add i k v).pt n = d.pt n := rfl
@[simp] theorem inc_pt (d : Dev) (i k : Nat) (n : Nat) : (d.inc i k).pt n = d.pt n := rfl
@[simp] theorem setFlag_pt (d : Dev) (i k b : Nat) (n : Nat) : (d.setFlag i k b).pt n = d.pt n := rfl
@[simp] theorem clrFlag_pt (d : Dev) (i k b : Nat) (n : Nat) : (d.clrFlag i k b).pt n = d.pt n := rfl
@[simp] theorem publish_pt (d : Dev) (i : Nat) (n : Nat) : (d.publish i).pt n = d.pt n := rfl
@[simp] theorem emit_pt (d : Dev) (x : Out) (n : Nat) : (d.emit x).pt n = d.pt n := rfl
@[simp] theorem ended_pt (d : Dev) (m : Master) (st : Nat) (n : Nat) : (d.ended m st).pt n = d.pt n := rfl

/-! ### `chan` -/
@[simp] theorem setChan_chan (d : Dev) (n : Nat) (x : Chan) : (d.setChan n x).chan n = x := tabGet_tabSet_self _ _ _ _
@[simp] theorem setChan_setChan (d : Dev) (n : Nat) (x y : Chan) : (d.setChan n x).setChan n y = d.setChan n y := by simp [Dev.setChan]
@[simp] theorem put_chan (d : Dev) (i k : Nat) (v : Int) (n : Nat) : (d.put i k v).chan n = d.chan n := rfl
@[simp] theorem putB_chan (d : Dev) (i k : Nat) (b : List Byte) (n : Nat) : (d.putB i k b).chan n = d.chan n := rfl
@[simp] theorem add_chan (d : Dev) (i k : Nat) (v : Int) (n : Nat) : (d.add i k v).chan n = d.chan n := rfl
@[simp] theorem inc_chan (d : Dev) (i k : Nat) (n : Nat) : (d.inc i k).chan n = d.chan n := rfl
@[simp] theorem setFlag_chan (d : Dev) (i k b : Nat) (n : Nat) : (d.setFlag i k b).chan n = d.chan n := rfl
@[simp] theorem clrFlag_chan (d : Dev) (i k b : Nat) (n : Nat) : (d.clrFlag i k b).chan n = d.chan n := rfl
@[simp] theorem publish_chan (d : Dev) (i : Nat) (n : Nat) : (d.publish i).chan n = d.chan n := rfl
@[simp] theorem emit_chan (d : Dev) (x : Out) (n : Nat) : (d.emit x).chan n = d.chan n := rfl
@[simp] theorem ended_chan (d : Dev) (m : Master) (st : Nat) (n : Nat) : (d.ended m st).chan n = d.chan n := rfl

/-! ### `task` -/
@[simp] theorem setTask_task (d : Dev) (n : Nat) (x : TaskIn) : (d.setTask n x).task n = x := tabGet_tabSet_self _ _ _ _
@[simp] theorem setTask_setTask (d : Dev) (n : Nat) (x y : TaskIn) : (d.setTask n x).setTask n y = d.setTask n y := by simp [Dev.setTask]
@[simp] theorem put_task (d : Dev) (i k : Nat) (v : Int) (n : Nat) : (d.put i k v).task n = d.task n := rfl
@[simp] theorem putB_task (d : Dev) (i k : Nat) (b : List Byte) (n : Nat) : (d.putB i k b).task n = d.task n := rfl
@[simp] theorem add_task (d : Dev) (i k : Nat) (v : Int) (n : Nat) : (d.add i k v).task n = d.task n := rfl
@[simp] theorem inc_task (d : Dev) (i k : Nat) (n : Nat) : (d.inc i k).task n = d.task n := rfl
@[simp] theorem setFlag_task (d : Dev) (i k b : Nat) (n : Nat) : (d.setFlag i k b).task n = d.task n := rfl
@[simp] theorem clrFlag_task (d : Dev) (i k b : Nat) (n : Nat) : (d.clrFlag i k b).task n = d.task n := rfl
@[simp] theorem publish_task (d : Dev) (i : Nat) (n : Nat) : (d.publish i).task n = d.task n := rfl
@[simp] theorem emit_task (d : Dev) (x : Out) (n : Nat) : (d.emit x).task n = d.task n := rfl
@[simp] theorem ended_task (d : Dev) (m : Master) (st : Nat) (n : Nat) : (d.ended m st).task n = d.task n := rfl

/-! ### `evp` -/
@[simp] theorem setEvp_evp (d : Dev) (n : Nat) (x : EvPin) : (d.setEvp n x).evp n = x := tabGet_tabSet_self _ _ _ _
@[simp] theorem setEvp_setEvp (d : Dev) (n : Nat) (x y : EvPin) : (d.setEvp n x).setEvp n y = d.setEvp n y := by simp [Dev.setEvp]
@[simp] theorem put_evp (d : Dev) (i k : Nat) (v : Int) (n : Nat) : (d.put i k v).evp n = d.evp n := rfl
@[simp] theorem putB_evp (d : Dev) (i k : Nat) (b : List Byte) (n : Nat) : (d.putB i k b).evp n = d.evp n := rfl
@[simp] theorem add_evp (d : Dev) (i k : Nat) (v : Int) (n : Nat) : (d.add i k v).evp n = d.evp n := rfl
@[simp] theorem inc_evp (d : Dev) (i k : Nat) (n : Nat) : (d.inc i k).evp n = d.evp n := rfl
@[simp] theorem setFlag_evp (d : Dev) (i k b : Nat) (n : Nat) : (d.setFlag i k b).evp n = d.evp n := rfl
@[simp] theorem clrFlag_evp (d : Dev) (i k b : Nat) (n : Nat) : (d.clrFlag i k b).evp n = d.evp n := rfl
@[simp] theorem publish_evp (d : Dev) (i : Nat) (n : Nat) : (d.publish i).evp n = d.evp n := rfl
@[simp] theorem emit_evp (d : Dev) (x : Out) (n : Nat) : (d.emit x).evp n = d.evp n := rfl
@[simp] theorem ended_evp (d : Dev) (m : Master) (st : Nat) (n : Nat) : (d.ended m st).evp n = d.evp n := rfl

/-! ### `ovl` -/
@[simp] theorem setOvl_ovl (d : Dev) (n : Nat) (x : Ovl) : (d.setOvl n x).ovl n = x := tabGet_tabSet_self _ _ _ _
@[simp] theorem setOvl_setOvl (d : Dev) (n : Nat) (x y : Ovl) : (d.setOvl n x).setOvl n y = d.setOvl n y := by simp [Dev.setOvl]
@[simp] theorem put_ovl (d : Dev) (i k : Nat) (v : Int) (n : Nat) : (d.put i k v).ovl n = d.ovl n := rfl
@[simp] theorem putB_ovl (d : Dev) (i k : Nat) (b : List Byte) (n : Nat) : (d.putB i k b).ovl n = d.ovl n := rfl
@[simp] theorem add_ovl (d : Dev) (i k : Nat) (v : Int) (n : Nat) : (d.add i k v).ovl n = d.ovl n := rfl
@[simp] theorem inc_ovl (d : Dev) (i k : Nat) (n : Nat) : (d.inc i k).ovl n = d.ovl n := rfl
@[simp] theorem setFlag_ovl (d : Dev) (i k b : Nat) (n : Nat) : (d.setFlag i k b).ovl n = d.ovl n := rfl
@[simp] theorem clrFlag_ovl (d : Dev) (i k b : Nat) (n : Nat) : (d.clrFlag i k b).ovl n = d.ovl n := rfl
@[simp] theorem publish_ovl (d : Dev) (i : Nat) (n : Nat) : (d.publish i).ovl n = d.ovl n := rfl
@[simp] theorem emit_ovl (d : Dev) (x : Out) (n : Nat) : (d.emit x).ovl n = d.ovl n := rfl
@[simp] theorem ended_ovl (d : Dev) (m : Master) (st : Nat) (n : Nat) : (d.ended m st).ovl n = d.ovl n := rfl

/-! ### `unit` -/
@[simp] theorem setUnit_unit (d : Dev) (n : Nat) (x : UnitRec) : (d.setUnit n x).unit n = x := tabGet_tabSet_self _ _ _ _
@[simp] theorem setUnit_setUnit (d : Dev) (n : Nat) (x y : UnitRec) : (d.setUnit n x).setUnit n y = d.setUnit n y := by simp [Dev.setUnit]
@[simp] theorem put_unit (d : Dev) (i k : Nat) (v : Int) (n : Nat) : (d.put i k v).unit n = d.unit n := rfl
@[simp] theorem putB_unit (d : Dev) (i k : Nat) (b : List Byte) (n : Nat) : (d.putB i k b).unit n = d.unit n := rfl
@[simp] theorem add_unit (d : Dev) (i k : Nat) (v : Int) (n : Nat) : (d.add i k v).unit n = d.unit n := rfl
@[simp] theorem inc_unit (d : Dev) (i k : Nat) (n : Nat) : (d.inc i k).unit n = d.unit n := rfl
@[simp] theorem setFlag_unit (d : Dev) (i k b : Nat) (n : Nat) : (d.setFlag i k b).unit n = d.unit n := rfl
@[simp] theorem clrFlag_unit (d : Dev) (i k b : Nat) (n : Nat) : (d.clrFlag i k b).unit n = d.unit n := rfl
@[simp] theorem publish_unit (d : Dev) (i : Nat) (n : Nat) : (d.publish i).unit n = d.unit n := rfl
@[simp] theorem emit_unit (d : Dev) (x : Out) (n : Nat) : (d.emit x).unit n = d.unit n := rfl
@[simp] theorem ended_unit (d : Dev) (m : Master) (st : Nat) (n : Nat) : (d.ended m st).unit n = d.unit n := rfl

end Sys2Proof.Machine
end

