-- ==== Sys2Proof/Laws/Memory.lean ====
section
/-! SUPPORT. Laws of external memory: what a byte reads after a write, and that every write keeps the canonical form. -/

namespace Sys2Proof.Machine

/-- The canonical form as a statement about cells: addresses rise, and no cell holds what an unlisted address reads. -/
theorem Memory.wf_iff (m : List Host.Cell) :
    Memory.wf m = true ↔ m.Pairwise (fun c b => c.1 < b.1) ∧ ∀ c ∈ m, c.2 ≠ memBlank := by
  induction m with
  | nil => simp [Memory.wf]
  | cons p r ih =>
    obtain ⟨a, v⟩ := p
    cases r with
    | nil => simp [Memory.wf]
    | cons q r2 =>
      obtain ⟨b, w⟩ := q
      simp only [Memory.wf, Bool.and_eq_true, decide_eq_true_eq, bne_iff_ne, ih, List.pairwise_cons]
      constructor
      · rintro ⟨⟨hab, hv⟩, ⟨h1, h2⟩, h3⟩
        refine ⟨⟨?_, h1, h2⟩, ?_⟩
        · intro x hx
          rcases List.mem_cons.mp hx with rfl | hx
          · exact hab
          · exact lt_trans hab (h1 x hx)
        · intro c hc
          rcases List.mem_cons.mp hc with rfl | hc
          · exact hv
          · exact h3 c hc
      · rintro ⟨⟨h0, h1, h2⟩, h3⟩
        exact ⟨⟨h0 (b, w) (by simp), h3 (a, v) (by simp)⟩, ⟨h1, h2⟩, fun c hc => h3 c (List.mem_cons_of_mem _ hc)⟩

/-- The cells of written bytes lie in their range. -/
theorem mem_memCells (a : Nat) (bs : List Byte) (c : Host.Cell) (h : c ∈ memCells a bs) :
    a ≤ c.1 ∧ c.1 < a + bs.length ∧ c.2 ≠ memBlank := by
  induction bs generalizing a with
  | nil => simp [memCells] at h
  | cons v r ih =>
    simp only [memCells] at h
    split at h
    · have := ih (a + 1) h
      simp only [List.length_cons]
      exact ⟨by omega, by omega, this.2.2⟩
    · rcases List.mem_cons.mp h with rfl | h
      · simp only [List.length_cons]
        exact ⟨le_refl _, by omega, by assumption⟩
      · have := ih (a + 1) h
        simp only [List.length_cons]
        exact ⟨by omega, by omega, this.2.2⟩

/-- The cells of written bytes rise. -/
theorem memCells_rise (a : Nat) (bs : List Byte) : (memCells a bs).Pairwise (fun c b => c.1 < b.1) := by
  induction bs generalizing a with
  | nil => exact List.Pairwise.nil
  | cons v r ih =>
    simp only [memCells]
    split
    · exact ih (a + 1)
    · exact List.pairwise_cons.mpr ⟨fun x hx => by have := (mem_memCells (a + 1) r x hx).1; show a < x.1; omega, ih (a + 1)⟩

/-- A write keeps the canonical form. -/
theorem memPut_wf (m : List Host.Cell) (a : Nat) (bs : List Byte) (h : Memory.wf m = true) :
    Memory.wf (memPut m a bs) = true := by
  rw [Memory.wf_iff] at *
  obtain ⟨hp, hv⟩ := h
  constructor
  · unfold memPut
    rw [List.append_assoc, List.pairwise_append, List.pairwise_append]
    refine ⟨hp.filter _, ⟨memCells_rise a bs, hp.filter _, ?_⟩, ?_⟩
    · intro x hx y hy
      have h1 := mem_memCells a bs x hx
      have h2 := (List.mem_filter.mp hy).2
      simp only [decide_eq_true_eq] at h2
      show x.1 < y.1
      omega
    · intro x hx y hy
      have h1 := (List.mem_filter.mp hx).2
      simp only [decide_eq_true_eq] at h1
      show x.1 < y.1
      rcases List.mem_append.mp hy with hy | hy
      · have := (mem_memCells a bs y hy).1
        omega
      · have h2 := (List.mem_filter.mp hy).2
        simp only [decide_eq_true_eq] at h2
        omega
  · intro c hc
    unfold memPut at hc
    rcases List.mem_append.mp hc with hc | hc
    · rcases List.mem_append.mp hc with hc | hc
      · exact hv c (List.mem_filter.mp hc).1
      · exact (mem_memCells a bs c hc).2.2
    · exact hv c (List.mem_filter.mp hc).1

/-- A canonical memory is a table whose keys rise. -/
theorem Memory.wf_tab (m : List Host.Cell) (h : Memory.wf m = true) : tabWf m = true :=
  (tabWf_iff m).mpr ((Memory.wf_iff m).mp h).1

/-- A byte that is not blank is read exactly where it is listed. -/
theorem memByte_eq_iff (m : List Host.Cell) (h : Memory.wf m = true) (a : Nat) (v : Byte) (hv : v ≠ memBlank) :
    memByte m a = v ↔ (a, v) ∈ m := by
  rw [← tabFind_eq_some m a v (Memory.wf_tab m h)]
  unfold memByte
  cases hf : tabFind m a with
  | none => simp [Ne.symm hv]
  | some w => simp

/-- The cell of a written byte. -/
theorem mem_memCells_iff (a : Nat) (bs : List Byte) (b : Nat) (v : Byte) :
    (b, v) ∈ memCells a bs ↔ a ≤ b ∧ bs[b - a]? = some v ∧ v ≠ memBlank := by
  induction bs generalizing a with
  | nil => simp [memCells]
  | cons x r ih =>
    simp only [memCells]
    by_cases hb : b = a
    · subst hb
      simp only [Nat.sub_self, List.getElem?_cons_zero, le_refl, true_and, Option.some.injEq]
      have hno : (b, v) ∉ memCells (b + 1) r := fun hm => by have := (mem_memCells (b + 1) r _ hm).1; simp only at this; omega
      split
      · rename_i hx
        constructor
        · intro hm; exact absurd hm hno
        · rintro ⟨rfl, hv⟩; exact absurd hx hv
      · rename_i hx
        constructor
        · intro hm
          rcases List.mem_cons.mp hm with hm | hm
          · obtain ⟨_, rfl⟩ := Prod.mk.inj hm; exact ⟨rfl, hx⟩
          · exact absurd hm hno
        · rintro ⟨rfl, _⟩; exact List.mem_cons_self ..
    · have step : (a ≤ b ∧ (x :: r)[b - a]? = some v ∧ v ≠ memBlank) ↔
          (a + 1 ≤ b ∧ r[b - (a + 1)]? = some v ∧ v ≠ memBlank) := by
        constructor
        · rintro ⟨h1, h2, h3⟩
          have e : b - a = (b - (a + 1)) + 1 := by omega
          rw [e, List.getElem?_cons_succ] at h2
          exact ⟨by omega, h2, h3⟩
        · rintro ⟨h1, h2, h3⟩
          have e : b - a = (b - (a + 1)) + 1 := by omega
          refine ⟨by omega, ?_, h3⟩
          rw [e, List.getElem?_cons_succ]
          exact h2
      rw [step, ← ih (a + 1)]
      split
      · exact Iff.rfl
      · simp [hb]

/-- A byte after a write: the byte written where the write reaches, else the byte before. -/
theorem memByte_memPut (m : List Host.Cell) (h : Memory.wf m = true) (a : Nat) (bs : List Byte) (b : Nat) :
    memByte (memPut m a bs) b = if a ≤ b ∧ b < a + bs.length then bs.getD (b - a) memBlank else memByte m b := by
  have key : ∀ v : Byte, v ≠ memBlank → (memByte (memPut m a bs) b = v ↔
      (if a ≤ b ∧ b < a + bs.length then bs.getD (b - a) memBlank else memByte m b) = v) := by
    intro v hv
    rw [memByte_eq_iff _ (memPut_wf m a bs h) b v hv]
    simp only [memPut, List.mem_append, List.mem_filter, decide_eq_true_eq, mem_memCells_iff]
    split
    · rename_i hr
      have hlt : b - a < bs.length := by omega
      rw [List.getD_eq_getElem?_getD, List.getElem?_eq_getElem hlt]
      simp only [Option.some.injEq, Option.getD_some]
      constructor
      · rintro ((⟨_, h2⟩ | ⟨_, h2, _⟩) | ⟨_, h2⟩)
        · omega
        · exact h2
        · omega
      · intro h2; exact .inl (.inr ⟨hr.1, h2, hv⟩)
    · rename_i hr
      rw [memByte_eq_iff m h b v hv]
      constructor
      · rintro ((⟨h1, _⟩ | ⟨h1, h2, _⟩) | ⟨h1, _⟩)
        · exact h1
        · exfalso
          have : b - a < bs.length := (List.getElem?_eq_some_iff.mp h2).1
          omega
        · exact h1
      · intro h1
        by_cases hb : b < a
        · exact .inl (.inl ⟨h1, hb⟩)
        · exact .inr ⟨h1, by omega⟩
  by_cases hz : memByte (memPut m a bs) b = memBlank
  · by_contra hne
    have := (key _ (fun e => hne (hz.trans e.symm))).mpr rfl
    exact hne this
  · exact ((key _ hz).mp rfl).symm

/-- A write of the device keeps the canonical form. -/
theorem memWriteRaw_wf (d : Dev) (a : Nat) (bs : List Byte) (h : Memory.wf d.mem = true) :
    Memory.wf (memWriteRaw d a bs).mem = true := memPut_wf d.mem a bs h

/-- Counting in a result group leaves memory alone. -/
@[simp] theorem incP_mem (d : Dev) (idx sub : Nat) : (d.incP idx sub).mem = d.mem := rfl

/-- A write as a part of the device makes it keeps the canonical form. -/
theorem memWrite_wf (d : Dev) (a : Nat) (bs : List Byte) (h : Memory.wf d.mem = true) :
    Memory.wf (memWrite d a bs).mem = true := by
  unfold memWrite
  split
  · exact h
  · split
    · simpa using h
    · exact memWriteRaw_wf d a bs h

/-- Memory at reset is in canonical form: it lists nothing. -/
theorem reset_mem_wf : Memory.wf State.reset.d.mem = true := rfl

end Sys2Proof.Machine
end

