-- ==== Sys2Proof/Laws/Step.lean ====
section
/-! SUPPORT. What the shapes of a command's step can do: they say once what a step changes besides the effect it is given. -/

namespace Sys2Proof.Machine

/-! ### The queue -/

@[simp] theorem step_empty (s : State) (h : s.pending = []) : step s = .next s := by
  unfold step; rw [h]

theorem step_cons (s : State) (c : Instr) (r : List Instr) (h : s.pending = c :: r) :
    step s = exec c { s with pending := r } := by
  unfold step; rw [h]

/-! ### A command of the main domain -/

@[simp] theorem settled_now (a : Env → Dev → Dev) (t : Nat) (s : State) (d : Dev) :
    (settled a t s d).now = max s.now t := rfl
@[simp] theorem settled_pending (a : Env → Dev → Dev) (t : Nat) (s : State) (d : Dev) :
    (settled a t s d).pending = s.pending := rfl
@[simp] theorem settled_met (a : Env → Dev → Dev) (t : Nat) (s : State) (d : Dev) :
    (settled a t s d).met = s.met := rfl
@[simp] theorem settled_tuOps (a : Env → Dev → Dev) (t : Nat) (s : State) (d : Dev) :
    (settled a t s d).d.tuOps = [] := rfl

/-- Where nothing is asked of the time unit, it stays as it is and the effect is the whole of the step. -/
theorem settled_quiet (a : Env → Dev → Dev) (t : Nat) (s : State) (d : Dev) (h : d.tuOps = []) :
    settled a t s d = { s with now := max s.now t, d := d } := by
  have hd : { d with tuOps := [] } = d := by rw [← h]
  unfold settled tuOf
  simp only [h, List.foldl_nil, envOf, bne_self_eq_false, Bool.false_eq_true, if_false, if_true, instant]
  rw [hd]

@[simp] theorem runMain_now (a : Env → Dev → Dev) (t : Nat) (s : State) (f : Env → Dev → Dev) :
    (runMain a t s f).now = max s.now t := by
  unfold runMain; split <;> rfl
@[simp] theorem runMain_pending (a : Env → Dev → Dev) (t : Nat) (s : State) (f : Env → Dev → Dev) :
    (runMain a t s f).pending = s.pending := by
  unfold runMain; split <;> rfl
@[simp] theorem runMain_met (a : Env → Dev → Dev) (t : Nat) (s : State) (f : Env → Dev → Dev) :
    (runMain a t s f).met = s.met := by
  unfold runMain; split <;> rfl

/-- A step of the main domain while no reset is held. -/
theorem runMain_awake (a : Env → Dev → Dev) (t : Nat) (s : State) (f : Env → Dev → Dev) (h : Awake s) :
    runMain a t s f = settled a t s (f (envOf t s) (begun s.d)) := by
  unfold runMain
  rw [show s.d.pow.heldBy = none from h]
  rfl

/-- A step of the main domain while a reset is held: time passes. -/
theorem runMain_held (a : Env → Dev → Dev) (t : Nat) (s : State) (f : Env → Dev → Dev) (h : ¬ Awake s) :
    runMain a t s f = { s with now := max s.now t } := by
  unfold runMain
  rw [if_pos]
  · rfl
  · exact Option.isSome_iff_ne_none.mpr h

/-- A well-formed command of the main domain answers a next state, at its instant, with the queue and the metrology domain as
they were. -/
theorem mainStep_next (t : Nat) (s : State) (f : Env → Dev → Dev) :
    mainStep true t s f = .next (runMain tcJudgeAll t s f) := rfl

/-- A command that names an instance the part does not have. -/
theorem mainStep_fault (t : Nat) (s : State) (f : Env → Dev → Dev) :
    mainStep false t s f = .fault .noInstance := rfl

/-- Everything a main-domain command with a quiet effect does. -/
theorem mainStep_quiet (t : Nat) (s : State) (f : Env → Dev → Dev) (h : Awake s)
    (hq : (f (envOf t s) (begun s.d)).tuOps = []) :
    mainStep true t s f = .next { s with now := max s.now t, d := f (envOf t s) (begun s.d) } := by
  rw [mainStep_next, runMain_awake _ _ _ _ h, settled_quiet _ _ _ _ hq]

/-! ### How a command finds the main domain -/

@[simp] theorem begun_tuOps (d : Dev) : (begun d).tuOps = [] := rfl
@[simp] theorem begun_o (d : Dev) : (begun d).o = d.o := rfl
@[simp] theorem begun_inForce (d : Dev) : (begun d).inForce = d.inForce := rfl
@[simp] theorem begun_get (d : Dev) (i k : Nat) : (begun d).get i k = d.get i k := rfl
@[simp] theorem begun_gi (d : Dev) (i k : Nat) : (begun d).gi i k = d.gi i k := rfl
@[simp] theorem begun_gn (d : Dev) (i k : Nat) : (begun d).gn i k = d.gn i k := rfl
@[simp] theorem begun_unit (d : Dev) (u : Nat) : (begun d).unit u = d.unit u := rfl
@[simp] theorem begun_enc (d : Dev) (n : Nat) : (begun d).enc n = d.enc n := rfl
@[simp] theorem begun_tc (d : Dev) (n : Nat) : (begun d).tc n = d.tc n := rfl
@[simp] theorem begun_cmp (d : Dev) (n : Nat) : (begun d).cmp n = d.cmp n := rfl
@[simp] theorem begun_trig (d : Dev) (n : Nat) : (begun d).trig n = d.trig n := rfl
@[simp] theorem begun_lane (d : Dev) (n : Nat) : (begun d).lane n = d.lane n := rfl
@[simp] theorem begun_port (d : Dev) (n : Nat) : (begun d).port n = d.port n := rfl
@[simp] theorem begun_pt (d : Dev) (n : Nat) : (begun d).pt n = d.pt n := rfl
@[simp] theorem begun_chan (d : Dev) (n : Nat) : (begun d).chan n = d.chan n := rfl
@[simp] theorem begun_task (d : Dev) (n : Nat) : (begun d).task n = d.task n := rfl
@[simp] theorem begun_evp (d : Dev) (n : Nat) : (begun d).evp n = d.evp n := rfl
@[simp] theorem begun_ovl (d : Dev) (n : Nat) : (begun d).ovl n = d.ovl n := rfl
@[simp] theorem begun_session (d : Dev) (n : Nat) : (begun d).session n = d.session n := rfl
@[simp] theorem begun_stream (d : Dev) (n : Nat) : (begun d).stream n = d.stream n := rfl
@[simp] theorem begun_ustate (d : Dev) (n : Nat) : (begun d).ustate n = d.ustate n := rfl
@[simp] theorem begun_inSvc (d : Dev) (n : Nat) : (begun d).inSvc n = d.inSvc n := rfl
@[simp] theorem begun_gb (d : Dev) (i k : Nat) : (begun d).gb i k = d.gb i k := rfl
@[simp] theorem begun_gB (d : Dev) (i k : Nat) : (begun d).gB i k = d.gB i k := rfl
@[simp] theorem begun_baseOf (d : Dev) (i k : Nat) : (begun d).baseOf i k = d.baseOf i k := rfl
@[simp] theorem begun_mrec (d : Dev) (m : Master) : (begun d).mrec m = d.mrec m := rfl
@[simp] theorem begun_hasRole (d : Dev) (m : Master) (r : Role) : (begun d).hasRole m r = d.hasRole m r := rfl
@[simp] theorem begun_secureM (d : Dev) (m : Master) : (begun d).secureM m = d.secureM m := rfl
@[simp] theorem begun_mbox (d : Dev) (n : Nat) : (begun d).mbox n = d.mbox n := rfl
@[simp] theorem begun_out (d : Dev) : (begun d).out = [] := rfl
@[simp] theorem begun_resp (d : Dev) : (begun d).resp = {} := rfl

end Sys2Proof.Machine
end

