-- ==== Sys2Proof/Laws/Shape.lean ====
section
/-! SUPPORT. The shapes of a command's step: what the meaning of each command is built on, so that a statement about every step
needs five cases and no meaning unfolded. -/

namespace Sys2Proof.Machine

/-- What a command's step is built on: a step of the main domain, one whose writes can reach the sealed domain or ask for a warm
reset, a step of the sealed domain, its message, a reset. -/
inductive Shape (c : Instr) (s : State) : Prop
  | main (f : Env → Dev → Dev) (h : exec c s = mainStep (wellFormed c) (instrTime c) s f) (awake : sleepless c = false)
      (apart : touchesSealed c = false)
  | full (f : Env → Dev → Dev) (h : exec c s = mainFull (wellFormed c) (instrTime c) s f) (awake : sleepless c = false)
      (reach : touchesSealed c = true)
  | sealed (f : Nat → MetRun → MetRun) (h : exec c s = metStep (instrTime c) s f) (wf : wellFormed c = true)
      (runs : restarts c = false)
      (reach : touchesSealed c = true) (wakes : sleepless c = true)
  | message (h : exec c s = metSendStep (instrTime c) s) (wf : wellFormed c = true) (runs : restarts c = false)
      (reach : touchesSealed c = true) (wakes : sleepless c = true)
  | reset (f : Nat → State → State) (h : exec c s = resetAt (instrTime c) s f) (wf : wellFormed c = true)
      (apart : touchesSealed c = false) (kind : restarts c = true ∨ (∃ t, c = .fwWatchdog t) ∨ ∃ t, c = .thermalTrip t)
      (wakes : sleepless c = true)

theorem shape_offsetWrite (t : Nat) (m : Master) (v : Int) (s : State) : Shape (.offsetWrite t m v) s := .main _ rfl rfl rfl
theorem shape_rateWrite (t : Nat) (m : Master) (v : Int) (s : State) : Shape (.rateWrite t m v) s := .main _ rfl rfl rfl
theorem shape_declareValid (t : Nat) (m : Master) (v : Int) (s : State) : Shape (.declareValid t m v) s := .main _ rfl rfl rfl
theorem shape_slewLimitWrite (t : Nat) (m : Master) (v : Int) (s : State) : Shape (.slewLimitWrite t m v) s := .main _ rfl rfl rfl
theorem shape_epochPtpSWrite (t : Nat) (m : Master) (v : Int) (s : State) : Shape (.epochPtpSWrite t m v) s := .main _ rfl rfl rfl
theorem shape_slewEnd (t : Nat) (s : State) : Shape (.slewEnd t) s := .main _ rfl rfl rfl
theorem shape_tcArm (t : Nat) (m : Master) (n ctl : Nat) (s : State) : Shape (.tcArm t m n ctl) s := .main _ rfl rfl rfl
theorem shape_tcDisarm (t : Nat) (m : Master) (n ctl : Nat) (s : State) : Shape (.tcDisarm t m n ctl) s := .main _ rfl rfl rfl
theorem shape_tcFire (t : Nat) (n : Nat) (s : State) : Shape (.tcFire t n) s := .main _ rfl rfl rfl
theorem shape_ttoPulseEnd (t : Nat) (k : Nat) (s : State) : Shape (.ttoPulseEnd t k) s := .main _ rfl rfl rfl
theorem shape_encPinChange (t : Nat) (n : Nat) (pin : EncPin) (level : Bool) (s : State) : Shape (.encPinChange t n pin level) s := .main _ rfl rfl rfl
theorem shape_encFilterAccept (t : Nat) (n : Nat) (s : State) : Shape (.encFilterAccept t n) s := .main _ rfl rfl rfl
theorem shape_standstill (t : Nat) (n : Nat) (s : State) : Shape (.standstill t n) s := .main _ rfl rfl rfl
theorem shape_encModeWrite (t : Nat) (m : Master) (n : Nat) (v : Int) (s : State) : Shape (.encModeWrite t m n v) s := .main _ rfl rfl rfl
theorem shape_indexArm (t : Nat) (m : Master) (n : Nat) (v : Int) (s : State) : Shape (.indexArm t m n v) s := .main _ rfl rfl rfl
theorem shape_setValueWrite (t : Nat) (m : Master) (n : Nat) (v : Int) (s : State) : Shape (.setValueWrite t m n v) s := .main _ rfl rfl rfl
theorem shape_setAtNextCount (t : Nat) (m : Master) (n : Nat) (s : State) : Shape (.setAtNextCount t m n) s := .main _ rfl rfl rfl
theorem shape_setAtPosSetGrant (t : Nat) (m : Master) (n : Nat) (s : State) : Shape (.setAtPosSetGrant t m n) s := .main _ rfl rfl rfl
theorem shape_cmpArm (t : Nat) (m : Master) (n ctl : Nat) (s : State) : Shape (.cmpArm t m n ctl) s := .main _ rfl rfl rfl
theorem shape_cmpDisarm (t : Nat) (m : Master) (n ctl : Nat) (s : State) : Shape (.cmpDisarm t m n ctl) s := .main _ rfl rfl rfl
theorem shape_cmpFire (t : Nat) (n : Nat) (s : State) : Shape (.cmpFire t n) s := .main _ rfl rfl rfl
theorem shape_trgPulseEnd (t : Nat) (p : Nat) (s : State) : Shape (.trgPulseEnd t p) s := .main _ rfl rfl rfl
theorem shape_blockLockAcquired (t : Nat) (l : Nat) (s : State) : Shape (.blockLockAcquired t l) s := .main _ rfl rfl rfl
theorem shape_lockLoss (t : Nat) (l : Nat) (s : State) : Shape (.lockLoss t l) s := .main _ rfl rfl rfl
theorem shape_alignmentBlockRx (t : Nat) (l : Nat) (blk : List Byte) (bip : Nat) (s : State) : Shape (.alignmentBlockRx t l blk bip) s := .main _ rfl rfl rfl
theorem shape_alignmentMissing (t : Nat) (l : Nat) (s : State) : Shape (.alignmentMissing t l) s := .main _ rfl rfl rfl
theorem shape_portStreamStopped (t : Nat) (p : Nat) (s : State) : Shape (.portStreamStopped t p) s := .main _ rfl rfl rfl
theorem shape_laneBlockBad (t : Nat) (l : Nat) (blk : List Byte) (s : State) : Shape (.laneBlockBad t l blk) s := .main _ rfl rfl rfl
theorem shape_trainingRequestRx (t : Nat) (l : Nat) (blk : List Byte) (s : State) : Shape (.trainingRequestRx t l blk) s := .main _ rfl rfl rfl
theorem shape_trainingStatusRx (t : Nat) (l : Nat) (blk : List Byte) (s : State) : Shape (.trainingStatusRx t l blk) s := .main _ rfl rfl rfl
theorem shape_trainTimeout (t : Nat) (l : Nat) (s : State) : Shape (.trainTimeout t l) s := .main _ rfl rfl rfl
theorem shape_trainStepDone (t : Nat) (l margin vert : Nat) (s : State) : Shape (.trainStepDone t l margin vert) s := .main _ rfl rfl rfl
theorem shape_trainStart (t : Nat) (m : Master) (l : Nat) (s : State) : Shape (.trainStart t m l) s := .main _ rfl rfl rfl
theorem shape_trainAbort (t : Nat) (m : Master) (l : Nat) (s : State) : Shape (.trainAbort t m l) s := .main _ rfl rfl rfl
theorem shape_mapRequest (t : Nat) (m : Master) (p : Nat) (mask : Int) (s : State) : Shape (.mapRequest t m p mask) s := .main _ rfl rfl rfl
theorem shape_laneMapAckRx (t : Nat) (l : Nat) (blk : List Byte) (s : State) : Shape (.laneMapAckRx t l blk) s := .main _ rfl rfl rfl
theorem shape_mapNoAck (t : Nat) (p : Nat) (s : State) : Shape (.mapNoAck t p) s := .main _ rfl rfl rfl
theorem shape_laneShadowTimeout (t : Nat) (l : Nat) (s : State) : Shape (.laneShadowTimeout t l) s := .main _ rfl rfl rfl
theorem shape_injectSingle (t : Nat) (m : Master) (l : Nat) (s : State) : Shape (.injectSingle t m l) s := .main _ rfl rfl rfl
theorem shape_injectBurst (t : Nat) (m : Master) (l : Nat) (s : State) : Shape (.injectBurst t m l) s := .main _ rfl rfl rfl
theorem shape_injectHeader (t : Nat) (m : Master) (l : Nat) (s : State) : Shape (.injectHeader t m l) s := .main _ rfl rfl rfl
theorem shape_chkLock (t : Nat) (l : Nat) (s : State) : Shape (.chkLock t l) s := .main _ rfl rfl rfl
theorem shape_chkRelock (t : Nat) (l errors : Nat) (s : State) : Shape (.chkRelock t l errors) s := .main _ rfl rfl rfl
theorem shape_laneClearCounts (t : Nat) (m : Master) (l : Nat) (v : Int) (s : State) : Shape (.laneClearCounts t m l v) s := .main _ rfl rfl rfl
theorem shape_linePacketRx (t : Nat) (p : Nat) (head : Nat) (packet : List Byte) (s : State) : Shape (.linePacketRx t p head packet) s := .main _ rfl rfl rfl
theorem shape_badBlockRx (t p : Nat) (blk opened : Option (List Byte)) (s : State) : Shape (.badBlockRx t p blk opened) s := .main _ rfl rfl rfl
theorem shape_responseRx (t : Nat) (p : Nat) (packet : List Byte) (s : State) : Shape (.responseRx t p packet) s := .main _ rfl rfl rfl
theorem shape_statusMsgRx (t : Nat) (p : Nat) (packet : List Byte) (s : State) : Shape (.statusMsgRx t p packet) s := .main _ rfl rfl rfl
theorem shape_userDataRx (t : Nat) (p : Nat) (packet : List Byte) (s : State) : Shape (.userDataRx t p packet) s := .main _ rfl rfl rfl
theorem shape_delayRespRx (t : Nat) (p : Nat) (head : Nat) (packet : List Byte) (s : State) : Shape (.delayRespRx t p head packet) s := .main _ rfl rfl rfl
theorem shape_beaconSend (t : Nat) (p : Nat) (s : State) : Shape (.beaconSend t p) s := .main _ rfl rfl rfl
theorem shape_delayReqSend (t : Nat) (p : Nat) (s : State) : Shape (.delayReqSend t p) s := .main _ rfl rfl rfl
theorem shape_delayLost (t : Nat) (p : Nat) (s : State) : Shape (.delayLost t p) s := .main _ rfl rfl rfl
theorem shape_cmdRequest (t : Nat) (m : Master) (p : Nat) (payload : List Byte) (s : State) : Shape (.cmdRequest t m p payload) s := .main _ rfl rfl rfl
theorem shape_cmdResend (t : Nat) (p : Nat) (s : State) : Shape (.cmdResend t p) s := .main _ rfl rfl rfl
theorem shape_cmdTimeout (t : Nat) (p : Nat) (s : State) : Shape (.cmdTimeout t p) s := .main _ rfl rfl rfl
theorem shape_cameraBusyRetry (t : Nat) (p : Nat) (s : State) : Shape (.cameraBusyRetry t p) s := .main _ rfl rfl rfl
theorem shape_transportClearCounts (t : Nat) (m : Master) (p : Nat) (v : Int) (s : State) : Shape (.transportClearCounts t m p v) s := .main _ rfl rfl rfl
theorem shape_lineCorrect (t : Nat) (p : Nat) (skip : Bool) (diff : Option Nat) (s : State) : Shape (.lineCorrect t p skip diff) s := .main _ rfl rfl rfl
theorem shape_swapNextLine (t : Nat) (m : Master) (p : Nat) (s : State) : Shape (.swapNextLine t m p) s := .main _ rfl rfl rfl
theorem shape_swapNextSos (t : Nat) (m : Master) (p : Nat) (s : State) : Shape (.swapNextSos t m p) s := .main _ rfl rfl rfl
theorem shape_swapAtLine (t : Nat) (m : Master) (p : Nat) (s : State) : Shape (.swapAtLine t m p) s := .main _ rfl rfl rfl
theorem shape_swapCancel (t : Nat) (m : Master) (p : Nat) (s : State) : Shape (.swapCancel t m p) s := .main _ rfl rfl rfl
theorem shape_bankCopy (t : Nat) (m : Master) (p : Nat) (v : Int) (s : State) : Shape (.bankCopy t m p v) s := .main _ rfl rfl rfl
theorem shape_bankCopyDone (t : Nat) (p : Nat) (s : State) : Shape (.bankCopyDone t p) s := .main _ rfl rfl rfl
theorem shape_bankCrcUpdate (t : Nat) (kind n b : Nat) (s : State) : Shape (.bankCrcUpdate t kind n b) s := .main _ rfl rfl rfl
theorem shape_tapArm (t : Nat) (m : Master) (p k : Nat) (v : Int) (s : State) : Shape (.tapArm t m p k v) s := .main _ rfl rfl rfl
theorem shape_stopLullOpen (t : Nat) (s : State) : Shape (.stopLullOpen t) s := .main _ rfl rfl rfl
theorem shape_sacrificeNext (t : Nat) (m : Master) (v : Int) (s : State) : Shape (.sacrificeNext t m v) s := .main _ rfl rfl rfl
theorem shape_calTriggerFire (t : Nat) (s : State) : Shape (.calTriggerFire t) s := .main _ rfl rfl rfl
theorem shape_jobStartDark (t : Nat) (m : Master) (p : Nat) (s : State) : Shape (.jobStartDark t m p) s := .main _ rfl rfl rfl
theorem shape_jobStartGain (t : Nat) (m : Master) (p : Nat) (s : State) : Shape (.jobStartGain t m p) s := .main _ rfl rfl rfl
theorem shape_jobStartGeometryEdge (t : Nat) (m : Master) (p : Nat) (s : State) : Shape (.jobStartGeometryEdge t m p) s := .main _ rfl rfl rfl
theorem shape_jobStartGeometryFull (t : Nat) (m : Master) (p : Nat) (s : State) : Shape (.jobStartGeometryFull t m p) s := .main _ rfl rfl rfl
theorem shape_jobStartColour (t : Nat) (m : Master) (p : Nat) (s : State) : Shape (.jobStartColour t m p) s := .main _ rfl rfl rfl
theorem shape_jobStartDelay (t : Nat) (m : Master) (p : Nat) (s : State) : Shape (.jobStartDelay t m p) s := .main _ rfl rfl rfl
theorem shape_illumSettleExpired (t : Nat) (p : Nat) (s : State) : Shape (.illumSettleExpired t p) s := .main _ rfl rfl rfl
theorem shape_delayRefGrant (t : Nat) (k : Nat) (s : State) : Shape (.delayRefGrant t k) s := .main _ rfl rfl rfl
theorem shape_jobComputeDone (t : Nat) (p : Nat) (s : State) : Shape (.jobComputeDone t p) s := .main _ rfl rfl rfl
theorem shape_acqTimeout (t : Nat) (p : Nat) (s : State) : Shape (.acqTimeout t p) s := .main _ rfl rfl rfl
theorem shape_commit (t : Nat) (m : Master) (p : Nat) (v : Int) (s : State) : Shape (.commit t m p v) s := .main _ rfl rfl rfl
theorem shape_jobAbort (t : Nat) (m : Master) (p : Nat) (v : Int) (s : State) : Shape (.jobAbort t m p v) s := .main _ rfl rfl rfl
theorem shape_deadReset (t : Nat) (m : Master) (p : Nat) (v : Int) (s : State) : Shape (.deadReset t m p v) s := .main _ rfl rfl rfl
theorem shape_jobCommitProceed (t : Nat) (p : Nat) (crcOk : Bool) (s : State) : Shape (.jobCommitProceed t p crcOk) s := .main _ rfl rfl rfl
theorem shape_scaleStart (t : Nat) (m : Master) (v : Int) (s : State) : Shape (.scaleStart t m v) s := .main _ rfl rfl rfl
theorem shape_scaleDone (t : Nat) (s : State) : Shape (.scaleDone t) s := .main _ rfl rfl rfl
theorem shape_retrainStart (t : Nat) (l : Nat) (s : State) : Shape (.retrainStart t l) s := .main _ rfl rfl rfl
theorem shape_linePlace (t : Nat) (p : Nat) (full : Bool) (s : State) : Shape (.linePlace t p full) s := .main _ rfl rfl rfl
theorem shape_lineHold (t : Nat) (p : Nat) (full : Bool) (s : State) : Shape (.lineHold t p full) s := .main _ rfl rfl rfl
theorem shape_gridLineEmit (t : Nat) (p : Nat) (poison : List (Nat × Nat × Nat)) (s : State) : Shape (.gridLineEmit t p poison) s := .main _ rfl rfl rfl
theorem shape_coefSwap (t : Nat) (m : Master) (s : State) : Shape (.coefSwap t m) s := .main _ rfl rfl rfl
theorem shape_coefSwapCancel (t : Nat) (m : Master) (s : State) : Shape (.coefSwapCancel t m) s := .main _ rfl rfl rfl
theorem shape_coefCopy (t : Nat) (m : Master) (v : Int) (s : State) : Shape (.coefCopy t m v) s := .main _ rfl rfl rfl
theorem shape_rasterLineMake (t : Nat) (s : State) : Shape (.rasterLineMake t) s := .main _ rfl rfl rfl
theorem shape_nbWaitExpired (t : Nat) (s : State) : Shape (.nbWaitExpired t) s := .main _ rfl rfl rfl
theorem shape_exportRx (t : Nat) (side : Nat) (packet : List Byte) (s : State) : Shape (.exportRx t side packet) s := .main _ rfl rfl rfl
theorem shape_helloRx (t : Nat) (side : Nat) (packet : List Byte) (s : State) : Shape (.helloRx t side packet) s := .main _ rfl rfl rfl
theorem shape_helloSend (t : Nat) (s : State) : Shape (.helloSend t) s := .main _ rfl rfl rfl
theorem shape_continueRx (t : Nat) (side : Nat) (packet : List Byte) (s : State) : Shape (.continueRx t side packet) s := .main _ rfl rfl rfl
theorem shape_settlePacketRx (t : Nat) (side : Nat) (packet : List Byte) (s : State) : Shape (.settlePacketRx t side packet) s := .main _ rfl rfl rfl
theorem shape_tapPacketRx (t : Nat) (side : Nat) (packet : List Byte) (s : State) : Shape (.tapPacketRx t side packet) s := .main _ rfl rfl rfl
theorem shape_geoSwapAtPlaced (t : Nat) (m : Master) (p : Nat) (s : State) : Shape (.geoSwapAtPlaced t m p) s := .main _ rfl rfl rfl
theorem shape_geoSwapAtWp (t : Nat) (m : Master) (p : Nat) (s : State) : Shape (.geoSwapAtWp t m p) s := .main _ rfl rfl rfl
theorem shape_geoSwapCancel (t : Nat) (m : Master) (p : Nat) (s : State) : Shape (.geoSwapCancel t m p) s := .main _ rfl rfl rfl
theorem shape_geoCopy (t : Nat) (m : Master) (p : Nat) (v : Int) (s : State) : Shape (.geoCopy t m p v) s := .main _ rfl rfl rfl
theorem shape_cdCoefSwap (t : Nat) (m : Master) (s : State) : Shape (.cdCoefSwap t m) s := .main _ rfl rfl rfl
theorem shape_cdCoefSwapCancel (t : Nat) (m : Master) (s : State) : Shape (.cdCoefSwapCancel t m) s := .main _ rfl rfl rfl
theorem shape_cdCoefCopy (t : Nat) (m : Master) (v : Int) (s : State) : Shape (.cdCoefCopy t m v) s := .main _ rfl rfl rfl
theorem shape_chainSample (t : Nat) (c : Nat) (s : State) : Shape (.chainSample t c) s := .main _ rfl rfl rfl
theorem shape_chainRun (t : Nat) (m : Master) (c : Nat) (s : State) : Shape (.chainRun t m c) s := .main _ rfl rfl rfl
theorem shape_chainStop (t : Nat) (m : Master) (c : Nat) (s : State) : Shape (.chainStop t m c) s := .main _ rfl rfl rfl
theorem shape_feed (t : Nat) (m : Master) (c : Nat) (data : List Byte) (s : State) : Shape (.feed t m c data) s := .main _ rfl rfl rfl
theorem shape_chainSwapNext (t : Nat) (m : Master) (c : Nat) (s : State) : Shape (.chainSwapNext t m c) s := .main _ rfl rfl rfl
theorem shape_chainSwapAtTime (t : Nat) (m : Master) (c : Nat) (s : State) : Shape (.chainSwapAtTime t m c) s := .main _ rfl rfl rfl
theorem shape_chainSwapCancel (t : Nat) (m : Master) (c : Nat) (s : State) : Shape (.chainSwapCancel t m c) s := .main _ rfl rfl rfl
theorem shape_detClear (t : Nat) (m : Master) (c : Nat) (v : Int) (s : State) : Shape (.detClear t m c v) s := .main _ rfl rfl rfl
theorem shape_classLine (t : Nat) (s : State) : Shape (.classLine t) s := .main _ rfl rfl rfl
theorem shape_relearn (t : Nat) (m : Master) (v : Int) (s : State) : Shape (.relearn t m v) s := .main _ rfl rfl rfl
theorem shape_classLineTrack (t : Nat) (s : State) : Shape (.classLineTrack t) s := .main _ rfl rfl rfl
theorem shape_lineEntryWaitExpired (t : Nat) (s : State) : Shape (.lineEntryWaitExpired t) s := .main _ rfl rfl rfl
theorem shape_squallCmdEnter (t : Nat) (m : Master) (s : State) : Shape (.squallCmdEnter t m) s := .main _ rfl rfl rfl
theorem shape_squallCmdExit (t : Nat) (m : Master) (s : State) : Shape (.squallCmdExit t m) s := .main _ rfl rfl rfl
theorem shape_treeSwap (t : Nat) (m : Master) (s : State) : Shape (.treeSwap t m) s := .main _ rfl rfl rfl
theorem shape_treeSwapCancel (t : Nat) (m : Master) (s : State) : Shape (.treeSwapCancel t m) s := .main _ rfl rfl rfl
theorem shape_treeCopy (t : Nat) (m : Master) (v : Int) (s : State) : Shape (.treeCopy t m v) s := .main _ rfl rfl rfl
theorem shape_recordsReadyTimer (t : Nat) (s : State) : Shape (.recordsReadyTimer t) s := .main _ rfl rfl rfl
theorem shape_markAccept (t : Nat) (s : State) : Shape (.markAccept t) s := .main _ rfl rfl rfl
theorem shape_rowFire (t : Nat) (h : Nat) (s : State) : Shape (.rowFire t h) s := .main _ rfl rfl rfl
theorem shape_firePulseEnd (t : Nat) (h : Nat) (s : State) : Shape (.firePulseEnd t h) s := .main _ rfl rfl rfl
theorem shape_headIdReadDone (t : Nat) (h : Nat) (regs : Option (List Byte)) (s : State) : Shape (.headIdReadDone t h regs) s := .main _ rfl rfl rfl
theorem shape_rcheckStart (t : Nat) (h : Nat) (s : State) : Shape (.rcheckStart t h) s := .main _ rfl rfl rfl
theorem shape_rcheckResult (t : Nat) (h : Nat) (reply : Option (Bool × Nat)) (s : State) : Shape (.rcheckResult t h reply) s := .main _ rfl rfl rfl
theorem shape_headPower (t : Nat) (m : Master) (v : Int) (s : State) : Shape (.headPower t m v) s := .main _ rfl rfl rfl
theorem shape_headPwrSettled (t : Nat) (s : State) : Shape (.headPwrSettled t) s := .main _ rfl rfl rfl
theorem shape_fireTest (t : Nat) (m : Master) (h : Nat) (data : List Byte) (s : State) : Shape (.fireTest t m h data) s := .main _ rfl rfl rfl
theorem shape_remapWrite (t : Nat) (m : Master) (data : List Byte) (s : State) : Shape (.remapWrite t m data) s := .main _ rfl rfl rfl
theorem shape_eventOffer (t : Nat) (c delay : Nat) (s : State) : Shape (.eventOffer t c delay) s := .main _ rfl rfl rfl
theorem shape_handshakeComplete (t : Nat) (c : Nat) (s : State) : Shape (.handshakeComplete t c) s := .main _ rfl rfl rfl
theorem shape_taskActionEnd (t : Nat) (k : Nat) (s : State) : Shape (.taskActionEnd t k) s := .main _ rfl rfl rfl
theorem shape_evpEdge (t : Nat) (k : Nat) (level : Bool) (s : State) : Shape (.evpEdge t k level) s := .main _ rfl rfl rfl
theorem shape_evpPulseEnd (t : Nat) (k : Nat) (s : State) : Shape (.evpPulseEnd t k) s := .main _ rfl rfl rfl
theorem shape_swFire (t : Nat) (m : Master) (v : Int) (s : State) : Shape (.swFire t m v) s := .main _ rfl rfl rfl
theorem shape_channelOwnerWrite (t : Nat) (m : Master) (c : Nat) (v : Int) (s : State) : Shape (.channelOwnerWrite t m c v) s := .main _ rfl rfl rfl
theorem shape_memRequestAccept (t : Nat) (port addr len : Nat) (ask : MemAsk) (s : State) : Shape (.memRequestAccept t port addr len ask) s := .main _ rfl rfl rfl
theorem shape_memReadDone (t : Nat) (port kind symbol rank slot : Nat) (s : State) : Shape (.memReadDone t port kind symbol rank slot) s := .main _ rfl rfl rfl
theorem shape_refreshDue (t : Nat) (r : Nat) (trackLimit : Bool) (s : State) : Shape (.refreshDue t r trackLimit) s := .main _ rfl rfl rfl
theorem shape_gustEnd (t : Nat) (r : Nat) (s : State) : Shape (.gustEnd t r) s := .main _ rfl rfl rfl
theorem shape_mr4Read (t : Nat) (r v : Nat) (s : State) : Shape (.mr4Read t r v) s := .main _ rfl rfl rfl
theorem shape_calmEntry (t : Nat) (r : Nat) (s : State) : Shape (.calmEntry t r) s := .main _ rfl rfl rfl
theorem shape_migrateCmd (t : Nat) (m : Master) (v : Int) (s : State) : Shape (.migrateCmd t m v) s := .main _ rfl rfl rfl
theorem shape_migrationStart (t : Nat) (s : State) : Shape (.migrationStart t) s := .main _ rfl rfl rfl
theorem shape_migrationDone (t : Nat) (s : State) : Shape (.migrationDone t) s := .main _ rfl rfl rfl
theorem shape_scrubRead (t : Nat) (kind blk symbol : Nat) (s : State) : Shape (.scrubRead t kind blk symbol) s := .main _ rfl rfl rfl
theorem shape_memoryStartup (t : Nat) (density : Nat) (failed : List Nat) (s : State) : Shape (.memoryStartup t density failed) s := .main _ rfl rfl rfl
theorem shape_budgetRecompute (t : Nat) (p : Nat) (s : State) : Shape (.budgetRecompute t p) s := .main _ rfl rfl rfl
theorem shape_paceShort (t : Nat) (p : Nat) (s : State) : Shape (.paceShort t p) s := .main _ rfl rfl rfl
theorem shape_queueClearCounts (t : Nat) (m : Master) (v : Int) (s : State) : Shape (.queueClearCounts t m v) s := .main _ rfl rfl rfl
theorem shape_tileWritten (t : Nat) (credit mismatch : Bool) (s : State) : Shape (.tileWritten t credit mismatch) s := .main _ rfl rfl rfl
theorem shape_cropStart (t : Nat) (s : State) : Shape (.cropStart t) s := .main _ rfl rfl rfl
theorem shape_cropDone (t : Nat) (mismatch : List Nat) (s : State) : Shape (.cropDone t mismatch) s := .main _ rfl rfl rfl
theorem shape_cropTimeout (t : Nat) (s : State) : Shape (.cropTimeout t) s := .main _ rfl rfl rfl
theorem shape_jobTailWrite (t : Nat) (m : Master) (v : Int) (s : State) : Shape (.jobTailWrite t m v) s := .main _ rfl rfl rfl
theorem shape_jobComplete (t : Nat) (k : Nat) (mismatch : Bool) (s : State) : Shape (.jobComplete t k mismatch) s := .main _ rfl rfl rfl
theorem shape_frameRx (t : Nat) (g : Nat) (fcsOk : Bool) (frame : List Byte) (s : State) : Shape (.frameRx t g fcsOk frame) s := .main _ rfl rfl rfl
theorem shape_txTailWrite (t : Nat) (m : Master) (g : Nat) (v : Int) (s : State) : Shape (.txTailWrite t m g v) s := .main _ rfl rfl rfl
theorem shape_tsPop (t : Nat) (m : Master) (s : State) : Shape (.tsPop t m) s := .main _ rfl rfl rfl
theorem shape_syncRx (t : Nat) (g : Nat) (l2 : Bool) (msg : List Byte) (s : State) : Shape (.syncRx t g l2 msg) s := .main _ rfl rfl rfl
theorem shape_followUpRx (t : Nat) (g : Nat) (l2 : Bool) (msg : List Byte) (s : State) : Shape (.followUpRx t g l2 msg) s := .main _ rfl rfl rfl
theorem shape_ptpDelayRespRx (t : Nat) (g : Nat) (l2 : Bool) (msg : List Byte) (s : State) : Shape (.ptpDelayRespRx t g l2 msg) s := .main _ rfl rfl rfl
theorem shape_announceRx (t : Nat) (g : Nat) (way : PtpWay) (msg : List Byte) (s : State) : Shape (.announceRx t g way msg) s := .main _ rfl rfl rfl
theorem shape_pdelayReqRx (t : Nat) (g : Nat) (l2 : Bool) (msg : List Byte) (s : State) : Shape (.pdelayReqRx t g l2 msg) s := .main _ rfl rfl rfl
theorem shape_pdelayRespRx (t : Nat) (g : Nat) (l2 : Bool) (msg : List Byte) (s : State) : Shape (.pdelayRespRx t g l2 msg) s := .main _ rfl rfl rfl
theorem shape_pdelayRespFollowUpRx (t : Nat) (g : Nat) (l2 : Bool) (msg : List Byte) (s : State) : Shape (.pdelayRespFollowUpRx t g l2 msg) s := .main _ rfl rfl rfl
theorem shape_delayReqPtpSend (t : Nat) (k : Nat) (s : State) : Shape (.delayReqPtpSend t k) s := .main _ rfl rfl rfl
theorem shape_syncTimeout (t : Nat) (k : Nat) (s : State) : Shape (.syncTimeout t k) s := .main _ rfl rfl rfl
theorem shape_announceTimeout (t : Nat) (k : Nat) (s : State) : Shape (.announceTimeout t k) s := .main _ rfl rfl rfl
theorem shape_switchHoldExpired (t : Nat) (s : State) : Shape (.switchHoldExpired t) s := .main _ rfl rfl rfl
theorem shape_ptpEnableWrite (t : Nat) (m : Master) (v : Int) (s : State) : Shape (.ptpEnableWrite t m v) s := .main _ rfl rfl rfl
theorem shape_ppsOutSecond (t : Nat) (s : State) : Shape (.ppsOutSecond t) s := .main _ rfl rfl rfl
theorem shape_ppsInEdge (t : Nat) (s : State) : Shape (.ppsInEdge t) s := .main _ rfl rfl rfl
theorem shape_fdpRead (t : Nat) (k idx sub : Nat) (s : State) : Shape (.fdpRead t k idx sub) s := .full _ rfl rfl rfl
theorem shape_fdpWrite (t : Nat) (k idx sub ty : Nat) (value : List Byte) (s : State) : Shape (.fdpWrite t k idx sub ty value) s := .full _ rfl rfl rfl
theorem shape_fdpReadSeg (t : Nat) (k idx sub off count : Nat) (s : State) : Shape (.fdpReadSeg t k idx sub off count) s := .full _ rfl rfl rfl
theorem shape_fdpWriteSeg (t : Nat) (k idx sub off : Nat) (data : List Byte) (s : State) : Shape (.fdpWriteSeg t k idx sub off data) s := .full _ rfl rfl rfl
theorem shape_fdpDescribe (t : Nat) (k idx sub : Nat) (s : State) : Shape (.fdpDescribe t k idx sub) s := .full _ rfl rfl rfl
theorem shape_fdpOpen (t : Nat) (g peer role : Nat) (nonce : List Byte) (s : State) : Shape (.fdpOpen t g peer role nonce) s := .full _ rfl rfl rfl
theorem shape_fdpClose (t : Nat) (k : Nat) (s : State) : Shape (.fdpClose t k) s := .full _ rfl rfl rfl
theorem shape_fdpKeepalive (t : Nat) (k : Nat) (s : State) : Shape (.fdpKeepalive t k) s := .full _ rfl rfl rfl
theorem shape_fdpStreamOpen (t : Nat) (k n ip port : Nat) (s : State) : Shape (.fdpStreamOpen t k n ip port) s := .full _ rfl rfl rfl
theorem shape_fdpStreamClose (t : Nat) (k n : Nat) (s : State) : Shape (.fdpStreamClose t k n) s := .full _ rfl rfl rfl
theorem shape_fdpRequest (t : Nat) (g peer : Nat) (dgram : List Byte) (s : State) : Shape (.fdpRequest t g peer dgram) s := .full _ rfl rfl rfl
theorem shape_sessionTimeout (t : Nat) (k : Nat) (s : State) : Shape (.sessionTimeout t k) s := .full _ rfl rfl rfl
theorem shape_unitCmdOff (t : Nat) (m : Master) (u : Nat) (s : State) : Shape (.unitCmdOff t m u) s := .main _ rfl rfl rfl
theorem shape_unitCmdInService (t : Nat) (m : Master) (u : Nat) (s : State) : Shape (.unitCmdInService t m u) s := .main _ rfl rfl rfl
theorem shape_unitCmdShadow (t : Nat) (m : Master) (u : Nat) (s : State) : Shape (.unitCmdShadow t m u) s := .main _ rfl rfl rfl
theorem shape_unitCmdTest (t : Nat) (m : Master) (u : Nat) (s : State) : Shape (.unitCmdTest t m u) s := .main _ rfl rfl rfl
theorem shape_unitCmdBypass (t : Nat) (m : Master) (u : Nat) (s : State) : Shape (.unitCmdBypass t m u) s := .main _ rfl rfl rfl
theorem shape_unitCmdReset (t : Nat) (m : Master) (u : Nat) (s : State) : Shape (.unitCmdReset t m u) s := .main _ rfl rfl rfl
theorem shape_unitCmdCancel (t : Nat) (m : Master) (u : Nat) (s : State) : Shape (.unitCmdCancel t m u) s := .main _ rfl rfl rfl
theorem shape_unitStateTakesEffect (t : Nat) (u : Nat) (s : State) : Shape (.unitStateTakesEffect t u) s := .main _ rfl rfl rfl
theorem shape_ovlStore (t : Nat) (m : Master) (k : Nat) (v : Int) (s : State) : Shape (.ovlStore t m k v) s := .main _ rfl rfl rfl
theorem shape_ovlActivate (t : Nat) (m : Master) (k : Nat) (s : State) : Shape (.ovlActivate t m k) s := .main _ rfl rfl rfl
theorem shape_ovlDeactivate (t : Nat) (m : Master) (k : Nat) (s : State) : Shape (.ovlDeactivate t m k) s := .main _ rfl rfl rfl
theorem shape_ovlCancel (t : Nat) (m : Master) (k : Nat) (s : State) : Shape (.ovlCancel t m k) s := .main _ rfl rfl rfl
theorem shape_ovlBoundaryReached (t : Nat) (k u : Nat) (s : State) : Shape (.ovlBoundaryReached t k u) s := .main _ rfl rfl rfl
theorem shape_configSave (t : Nat) (m : Master) (v : Int) (s : State) : Shape (.configSave t m v) s := .main _ rfl rfl rfl
theorem shape_configSaveDone (t : Nat) (s : State) : Shape (.configSaveDone t) s := .main _ rfl rfl rfl
theorem shape_snapshotLatch (t : Nat) (m : Master) (idx : Nat) (s : State) : Shape (.snapshotLatch t m idx) s := .main _ rfl rfl rfl
theorem shape_apertureOffsetWrite (t : Nat) (m : Master) (idx sub off : Nat) (s : State) : Shape (.apertureOffsetWrite t m idx sub off) s := .main _ rfl rfl rfl
theorem shape_aperturePortRead (t : Nat) (m : Master) (idx sub : Nat) (s : State) : Shape (.aperturePortRead t m idx sub) s := .main _ rfl rfl rfl
theorem shape_aperturePortWrite (t : Nat) (m : Master) (idx sub v : Nat) (s : State) : Shape (.aperturePortWrite t m idx sub v) s := .full _ rfl rfl rfl
theorem shape_objectWrite (t : Nat) (m : Master) (idx sub ty : Nat) (v : Int) (data : List Byte) (s : State) : Shape (.objectWrite t m idx sub ty v data) s := .full _ rfl rfl rfl
theorem shape_intClaim (t : Nat) (m : Master) (c : Nat) (s : State) : Shape (.intClaim t m c) s := .main _ rfl rfl rfl
theorem shape_intComplete (t : Nat) (m : Master) (c : Nat) (v : Int) (s : State) : Shape (.intComplete t m c v) s := .main _ rfl rfl rfl
theorem shape_mbSend (t : Nat) (m : Master) (b : Nat) (v : Int) (s : State) : Shape (.mbSend t m b v) s := .main _ rfl rfl rfl
theorem shape_mbRecv (t : Nat) (m : Master) (b : Nat) (s : State) : Shape (.mbRecv t m b) s := .main _ rfl rfl rfl
theorem shape_dbRing (t : Nat) (m : Master) (v : Int) (s : State) : Shape (.dbRing t m v) s := .main _ rfl rfl rfl
theorem shape_dbClear (t : Nat) (m : Master) (v : Int) (s : State) : Shape (.dbClear t m v) s := .main _ rfl rfl rfl
theorem shape_lockAcquire (t : Nat) (m : Master) (n : Nat) (s : State) : Shape (.lockAcquire t m n) s := .main _ rfl rfl rfl
theorem shape_lockFree (t : Nat) (m : Master) (n : Nat) (v : Int) (s : State) : Shape (.lockFree t m n v) s := .main _ rfl rfl rfl
theorem shape_lockBreak (t : Nat) (m : Master) (v : Int) (s : State) : Shape (.lockBreak t m v) s := .main _ rfl rfl rfl
theorem shape_metFilterAccept (t : Nat) (s : State) : Shape (.metFilterAccept t) s := .sealed (fun now r => if r.m.powered then (metAccept) now r else r) rfl rfl rfl rfl rfl
theorem shape_metPulseEnd (t : Nat) (s : State) : Shape (.metPulseEnd t) s := .sealed (fun now r => if r.m.powered then (metPulseOver) now r else r) rfl rfl rfl rfl rfl
theorem shape_rollEnd (t : Nat) (m : Master) (v : Int) (s : State) : Shape (.rollEnd t m v) s := .full _ rfl rfl rfl
theorem shape_metParamWrite (t : Nat) (m : Master) (sub : Nat) (v : Int) (data : List Byte) (s : State) : Shape (.metParamWrite t m sub v data) s := .full _ rfl rfl rfl
theorem shape_approve (t : Nat) (m : Master) (v : Int) (s : State) : Shape (.approve t m v) s := .full _ rfl rfl rfl
theorem shape_metRestart (t : Nat) (m : Master) (v : Int) (s : State) : Shape (.metRestart t m v) s := .full _ rfl rfl rfl
theorem shape_rtcSet (t : Nat) (m : Master) (v : Int) (s : State) : Shape (.rtcSet t m v) s := .full _ rfl rfl rfl
theorem shape_totalizerSlotWrite (t : Nat) (s : State) : Shape (.totalizerSlotWrite t) s := .sealed (fun now r => if r.m.powered then (metTickNow) now r else r) rfl rfl rfl rfl rfl
theorem shape_metMessageSend (t : Nat) (s : State) : Shape (.metMessageSend t) s := .message rfl rfl rfl rfl rfl
theorem shape_sealChange (t : Nat) (level : Bool) (s : State) : Shape (.sealChange t level) s := .sealed (fun _ r => metSeal r level) rfl rfl rfl rfl rfl
theorem shape_vddMetWarning (t : Nat) (s : State) : Shape (.vddMetWarning t) s := .sealed (fun now r => { r with m := metWarning now r.m }) rfl rfl rfl rfl rfl
theorem shape_vddMetPowerOn (t : Nat) (image version : List Byte) (badSlots : List Nat) (s : State) : Shape (.vddMetPowerOn t image version badSlots) s := .sealed (fun now r => { r with m := metPowerOn now r.m image version badSlots }) rfl rfl rfl rfl rfl
theorem shape_metWatchdog (t : Nat) (s : State) : Shape (.metWatchdog t) s := .sealed (fun now r => if r.m.powered then metReset now r else r) rfl rfl rfl rfl rfl
theorem shape_monSample (t : Nat) (k : Nat) (xs : List Int) (s : State) : Shape (.monSample t k xs) s := .main _ rfl rfl rfl
theorem shape_monWindowEnd (t : Nat) (k : Nat) (s : State) : Shape (.monWindowEnd t k) s := .main _ rfl rfl rfl
theorem shape_monPublishWrite (t : Nat) (m : Master) (k : Nat) (v : Int) (s : State) : Shape (.monPublishWrite t m k v) s := .main _ rfl rfl rfl
theorem shape_testFeed (t : Nat) (m : Master) (k : Nat) (v : Int) (s : State) : Shape (.testFeed t m k v) s := .main _ rfl rfl rfl
theorem shape_tempRead (t : Nat) (temps : List Int) (s : State) : Shape (.tempRead t temps) s := .main _ rfl rfl rfl
theorem shape_rotStepStart (t : Nat) (pace : Nat) (s : State) : Shape (.rotStepStart t pace) s := .main _ rfl rfl rfl
theorem shape_rotCmdStart (t : Nat) (m : Master) (s : State) : Shape (.rotCmdStart t m) s := .main _ rfl rfl rfl
theorem shape_rotCmdAbort (t : Nat) (m : Master) (s : State) : Shape (.rotCmdAbort t m) s := .main _ rfl rfl rfl
theorem shape_bistDone (t : Nat) (k : Nat) (pass : Bool) (s : State) : Shape (.bistDone t k pass) s := .main _ rfl rfl rfl
theorem shape_govPeriod (t : Nat) (paces : List (Nat × Nat)) (mv : Nat) (reached : Bool) (s : State) : Shape (.govPeriod t paces mv reached) s := .main _ rfl rfl rfl
theorem shape_avsTransactionDone (t : Nat) (ok : Bool) (s : State) : Shape (.avsTransactionDone t ok) s := .main _ rfl rfl rfl
theorem shape_powerOnReset (t : Nat) (ready : Bool) (dev mode : Nat) (avs : Bool) (s : State) : Shape (.powerOnReset t ready dev mode avs) s := .reset (fun now s => let s1 := powerOn now s; if ready then coldRelease dev mode avs now s1 else s1) rfl rfl rfl (.inl rfl) rfl
theorem shape_resetNLow (t : Nat) (s : State) : Shape (.resetNLow t) s := .reset ((coldReset 1)) rfl rfl rfl (.inl rfl) rfl
theorem shape_brownout (t : Nat) (s : State) : Shape (.brownout t) s := .reset ((coldReset 2)) rfl rfl rfl (.inl rfl) rfl
theorem shape_clockLoss (t : Nat) (s : State) : Shape (.clockLoss t) s := .reset ((coldReset 3)) rfl rfl rfl (.inl rfl) rfl
theorem shape_warmReset (t : Nat) (m : Master) (v : Int) (s : State) : Shape (.warmReset t m v) s := .full _ rfl rfl rfl
theorem shape_fwWatchdog (t : Nat) (s : State) : Shape (.fwWatchdog t) s := .reset (fun _ s => warmCause 5 s) rfl rfl rfl (.inr (.inl ⟨_, rfl⟩)) rfl
theorem shape_thermalTrip (t : Nat) (s : State) : Shape (.thermalTrip t) s := .reset (fun _ s => if tripDue s then warmCause 6 s else s) rfl rfl rfl (.inr (.inr ⟨_, rfl⟩)) rfl
theorem shape_recoveryAnnounce (t : Nat) (s : State) : Shape (.recoveryAnnounce t) s := .main _ rfl rfl rfl
theorem shape_recoveryData (t : Nat) (g : Nat) (frame : List Byte) (s : State) : Shape (.recoveryData t g frame) s := .main _ rfl rfl rfl
theorem shape_recoveryGo (t : Nat) (g : Nat) (frame : List Byte) (s : State) : Shape (.recoveryGo t g frame) s := .main _ rfl rfl rfl
theorem shape_inspectKick (t : Nat) (m : Master) (v : Int) (s : State) : Shape (.inspectKick t m v) s := .main _ rfl rfl rfl
theorem shape_inspectWdogTimeWrite (t : Nat) (m : Master) (v : Int) (s : State) : Shape (.inspectWdogTimeWrite t m v) s := .main _ rfl rfl rfl
theorem shape_inspectWdogExpired (t : Nat) (s : State) : Shape (.inspectWdogExpired t) s := .main _ rfl rfl rfl
theorem shape_laneMapRequestRx (t : Nat) (l : Nat) (blk : List Byte) (s : State) : Shape (.laneMapRequestRx t l blk) s := .main _ rfl rfl rfl
theorem shape_alignmentBlockSend (t : Nat) (g : Nat) (s : State) : Shape (.alignmentBlockSend t g) s := .main _ rfl rfl rfl
theorem shape_linkUp (t : Nat) (g speed : Nat) (s : State) : Shape (.linkUp t g speed) s := .main _ rfl rfl rfl
theorem shape_linkDown (t : Nat) (g : Nat) (s : State) : Shape (.linkDown t g) s := .main _ rfl rfl rfl
theorem shape_metEncPinChange (t : Nat) (pin : EncPin) (level : Bool) (s : State) : Shape (.metEncPinChange t pin level) s := .sealed (fun now r => { r with m := metPinChange now r.m pin level }) rfl rfl rfl rfl rfl
theorem shape_coldResetRelease (t : Nat) (dev mode : Nat) (avs : Bool) (s : State) : Shape (.coldResetRelease t dev mode avs) s := .reset ((coldRelease dev mode avs)) rfl rfl rfl (.inl rfl) rfl
theorem shape_bootMetCheck (t : Nat) (report : Bool) (slotA slotB : List Byte) (s : State) : Shape (.bootMetCheck t report slotA slotB) s := .main _ rfl rfl rfl
theorem shape_vddMetWarningEnd (t : Nat) (s : State) : Shape (.vddMetWarningEnd t) s := .sealed (fun _ r => { r with m := metWarningEnd r.m }) rfl rfl rfl rfl rfl

/-- The shape of every command. -/
theorem exec_shape (c : Instr) (s : State) : Shape c s :=
  match c with
  | .offsetWrite t m v => shape_offsetWrite t m v s
  | .rateWrite t m v => shape_rateWrite t m v s
  | .declareValid t m v => shape_declareValid t m v s
  | .slewLimitWrite t m v => shape_slewLimitWrite t m v s
  | .epochPtpSWrite t m v => shape_epochPtpSWrite t m v s
  | .slewEnd t => shape_slewEnd t s
  | .tcArm t m n ctl => shape_tcArm t m n ctl s
  | .tcDisarm t m n ctl => shape_tcDisarm t m n ctl s
  | .tcFire t n => shape_tcFire t n s
  | .ttoPulseEnd t k => shape_ttoPulseEnd t k s
  | .encPinChange t n pin level => shape_encPinChange t n pin level s
  | .encFilterAccept t n => shape_encFilterAccept t n s
  | .standstill t n => shape_standstill t n s
  | .encModeWrite t m n v => shape_encModeWrite t m n v s
  | .indexArm t m n v => shape_indexArm t m n v s
  | .setValueWrite t m n v => shape_setValueWrite t m n v s
  | .setAtNextCount t m n => shape_setAtNextCount t m n s
  | .setAtPosSetGrant t m n => shape_setAtPosSetGrant t m n s
  | .cmpArm t m n ctl => shape_cmpArm t m n ctl s
  | .cmpDisarm t m n ctl => shape_cmpDisarm t m n ctl s
  | .cmpFire t n => shape_cmpFire t n s
  | .trgPulseEnd t p => shape_trgPulseEnd t p s
  | .blockLockAcquired t l => shape_blockLockAcquired t l s
  | .lockLoss t l => shape_lockLoss t l s
  | .alignmentBlockRx t l blk bip => shape_alignmentBlockRx t l blk bip s
  | .alignmentMissing t l => shape_alignmentMissing t l s
  | .portStreamStopped t p => shape_portStreamStopped t p s
  | .laneBlockBad t l blk => shape_laneBlockBad t l blk s
  | .trainingRequestRx t l blk => shape_trainingRequestRx t l blk s
  | .trainingStatusRx t l blk => shape_trainingStatusRx t l blk s
  | .trainTimeout t l => shape_trainTimeout t l s
  | .trainStepDone t l margin vert => shape_trainStepDone t l margin vert s
  | .trainStart t m l => shape_trainStart t m l s
  | .trainAbort t m l => shape_trainAbort t m l s
  | .mapRequest t m p mask => shape_mapRequest t m p mask s
  | .laneMapAckRx t l blk => shape_laneMapAckRx t l blk s
  | .mapNoAck t p => shape_mapNoAck t p s
  | .laneShadowTimeout t l => shape_laneShadowTimeout t l s
  | .injectSingle t m l => shape_injectSingle t m l s
  | .injectBurst t m l => shape_injectBurst t m l s
  | .injectHeader t m l => shape_injectHeader t m l s
  | .chkLock t l => shape_chkLock t l s
  | .chkRelock t l errors => shape_chkRelock t l errors s
  | .laneClearCounts t m l v => shape_laneClearCounts t m l v s
  | .linePacketRx t p head packet => shape_linePacketRx t p head packet s
  | .badBlockRx t p blk opened => shape_badBlockRx t p blk opened s
  | .responseRx t p packet => shape_responseRx t p packet s
  | .statusMsgRx t p packet => shape_statusMsgRx t p packet s
  | .userDataRx t p packet => shape_userDataRx t p packet s
  | .delayRespRx t p head packet => shape_delayRespRx t p head packet s
  | .beaconSend t p => shape_beaconSend t p s
  | .delayReqSend t p => shape_delayReqSend t p s
  | .delayLost t p => shape_delayLost t p s
  | .cmdRequest t m p payload => shape_cmdRequest t m p payload s
  | .cmdResend t p => shape_cmdResend t p s
  | .cmdTimeout t p => shape_cmdTimeout t p s
  | .cameraBusyRetry t p => shape_cameraBusyRetry t p s
  | .transportClearCounts t m p v => shape_transportClearCounts t m p v s
  | .lineCorrect t p skip diff => shape_lineCorrect t p skip diff s
  | .swapNextLine t m p => shape_swapNextLine t m p s
  | .swapNextSos t m p => shape_swapNextSos t m p s
  | .swapAtLine t m p => shape_swapAtLine t m p s
  | .swapCancel t m p => shape_swapCancel t m p s
  | .bankCopy t m p v => shape_bankCopy t m p v s
  | .bankCopyDone t p => shape_bankCopyDone t p s
  | .bankCrcUpdate t kind n b => shape_bankCrcUpdate t kind n b s
  | .tapArm t m p k v => shape_tapArm t m p k v s
  | .stopLullOpen t => shape_stopLullOpen t s
  | .sacrificeNext t m v => shape_sacrificeNext t m v s
  | .calTriggerFire t => shape_calTriggerFire t s
  | .jobStartDark t m p => shape_jobStartDark t m p s
  | .jobStartGain t m p => shape_jobStartGain t m p s
  | .jobStartGeometryEdge t m p => shape_jobStartGeometryEdge t m p s
  | .jobStartGeometryFull t m p => shape_jobStartGeometryFull t m p s
  | .jobStartColour t m p => shape_jobStartColour t m p s
  | .jobStartDelay t m p => shape_jobStartDelay t m p s
  | .illumSettleExpired t p => shape_illumSettleExpired t p s
  | .delayRefGrant t k => shape_delayRefGrant t k s
  | .jobComputeDone t p => shape_jobComputeDone t p s
  | .acqTimeout t p => shape_acqTimeout t p s
  | .commit t m p v => shape_commit t m p v s
  | .jobAbort t m p v => shape_jobAbort t m p v s
  | .deadReset t m p v => shape_deadReset t m p v s
  | .jobCommitProceed t p crcOk => shape_jobCommitProceed t p crcOk s
  | .scaleStart t m v => shape_scaleStart t m v s
  | .scaleDone t => shape_scaleDone t s
  | .retrainStart t l => shape_retrainStart t l s
  | .linePlace t p full => shape_linePlace t p full s
  | .lineHold t p full => shape_lineHold t p full s
  | .gridLineEmit t p poison => shape_gridLineEmit t p poison s
  | .coefSwap t m => shape_coefSwap t m s
  | .coefSwapCancel t m => shape_coefSwapCancel t m s
  | .coefCopy t m v => shape_coefCopy t m v s
  | .rasterLineMake t => shape_rasterLineMake t s
  | .nbWaitExpired t => shape_nbWaitExpired t s
  | .exportRx t side packet => shape_exportRx t side packet s
  | .helloRx t side packet => shape_helloRx t side packet s
  | .helloSend t => shape_helloSend t s
  | .continueRx t side packet => shape_continueRx t side packet s
  | .settlePacketRx t side packet => shape_settlePacketRx t side packet s
  | .tapPacketRx t side packet => shape_tapPacketRx t side packet s
  | .geoSwapAtPlaced t m p => shape_geoSwapAtPlaced t m p s
  | .geoSwapAtWp t m p => shape_geoSwapAtWp t m p s
  | .geoSwapCancel t m p => shape_geoSwapCancel t m p s
  | .geoCopy t m p v => shape_geoCopy t m p v s
  | .cdCoefSwap t m => shape_cdCoefSwap t m s
  | .cdCoefSwapCancel t m => shape_cdCoefSwapCancel t m s
  | .cdCoefCopy t m v => shape_cdCoefCopy t m v s
  | .chainSample t c => shape_chainSample t c s
  | .chainRun t m c => shape_chainRun t m c s
  | .chainStop t m c => shape_chainStop t m c s
  | .feed t m c data => shape_feed t m c data s
  | .chainSwapNext t m c => shape_chainSwapNext t m c s
  | .chainSwapAtTime t m c => shape_chainSwapAtTime t m c s
  | .chainSwapCancel t m c => shape_chainSwapCancel t m c s
  | .detClear t m c v => shape_detClear t m c v s
  | .classLine t => shape_classLine t s
  | .relearn t m v => shape_relearn t m v s
  | .classLineTrack t => shape_classLineTrack t s
  | .lineEntryWaitExpired t => shape_lineEntryWaitExpired t s
  | .squallCmdEnter t m => shape_squallCmdEnter t m s
  | .squallCmdExit t m => shape_squallCmdExit t m s
  | .treeSwap t m => shape_treeSwap t m s
  | .treeSwapCancel t m => shape_treeSwapCancel t m s
  | .treeCopy t m v => shape_treeCopy t m v s
  | .recordsReadyTimer t => shape_recordsReadyTimer t s
  | .markAccept t => shape_markAccept t s
  | .rowFire t h => shape_rowFire t h s
  | .firePulseEnd t h => shape_firePulseEnd t h s
  | .headIdReadDone t h regs => shape_headIdReadDone t h regs s
  | .rcheckStart t h => shape_rcheckStart t h s
  | .rcheckResult t h reply => shape_rcheckResult t h reply s
  | .headPower t m v => shape_headPower t m v s
  | .headPwrSettled t => shape_headPwrSettled t s
  | .fireTest t m h data => shape_fireTest t m h data s
  | .remapWrite t m data => shape_remapWrite t m data s
  | .eventOffer t c delay => shape_eventOffer t c delay s
  | .handshakeComplete t c => shape_handshakeComplete t c s
  | .taskActionEnd t k => shape_taskActionEnd t k s
  | .evpEdge t k level => shape_evpEdge t k level s
  | .evpPulseEnd t k => shape_evpPulseEnd t k s
  | .swFire t m v => shape_swFire t m v s
  | .channelOwnerWrite t m c v => shape_channelOwnerWrite t m c v s
  | .memRequestAccept t port addr len ask => shape_memRequestAccept t port addr len ask s
  | .memReadDone t port kind symbol rank slot => shape_memReadDone t port kind symbol rank slot s
  | .refreshDue t r trackLimit => shape_refreshDue t r trackLimit s
  | .gustEnd t r => shape_gustEnd t r s
  | .mr4Read t r v => shape_mr4Read t r v s
  | .calmEntry t r => shape_calmEntry t r s
  | .migrateCmd t m v => shape_migrateCmd t m v s
  | .migrationStart t => shape_migrationStart t s
  | .migrationDone t => shape_migrationDone t s
  | .scrubRead t kind blk symbol => shape_scrubRead t kind blk symbol s
  | .memoryStartup t density failed => shape_memoryStartup t density failed s
  | .budgetRecompute t p => shape_budgetRecompute t p s
  | .paceShort t p => shape_paceShort t p s
  | .queueClearCounts t m v => shape_queueClearCounts t m v s
  | .tileWritten t credit mismatch => shape_tileWritten t credit mismatch s
  | .cropStart t => shape_cropStart t s
  | .cropDone t mismatch => shape_cropDone t mismatch s
  | .cropTimeout t => shape_cropTimeout t s
  | .jobTailWrite t m v => shape_jobTailWrite t m v s
  | .jobComplete t k mismatch => shape_jobComplete t k mismatch s
  | .frameRx t g fcsOk frame => shape_frameRx t g fcsOk frame s
  | .txTailWrite t m g v => shape_txTailWrite t m g v s
  | .tsPop t m => shape_tsPop t m s
  | .syncRx t g l2 msg => shape_syncRx t g l2 msg s
  | .followUpRx t g l2 msg => shape_followUpRx t g l2 msg s
  | .ptpDelayRespRx t g l2 msg => shape_ptpDelayRespRx t g l2 msg s
  | .announceRx t g way msg => shape_announceRx t g way msg s
  | .pdelayReqRx t g l2 msg => shape_pdelayReqRx t g l2 msg s
  | .pdelayRespRx t g l2 msg => shape_pdelayRespRx t g l2 msg s
  | .pdelayRespFollowUpRx t g l2 msg => shape_pdelayRespFollowUpRx t g l2 msg s
  | .delayReqPtpSend t k => shape_delayReqPtpSend t k s
  | .syncTimeout t k => shape_syncTimeout t k s
  | .announceTimeout t k => shape_announceTimeout t k s
  | .switchHoldExpired t => shape_switchHoldExpired t s
  | .ptpEnableWrite t m v => shape_ptpEnableWrite t m v s
  | .ppsOutSecond t => shape_ppsOutSecond t s
  | .ppsInEdge t => shape_ppsInEdge t s
  | .fdpRead t k idx sub => shape_fdpRead t k idx sub s
  | .fdpWrite t k idx sub ty value => shape_fdpWrite t k idx sub ty value s
  | .fdpReadSeg t k idx sub off count => shape_fdpReadSeg t k idx sub off count s
  | .fdpWriteSeg t k idx sub off data => shape_fdpWriteSeg t k idx sub off data s
  | .fdpDescribe t k idx sub => shape_fdpDescribe t k idx sub s
  | .fdpOpen t g peer role nonce => shape_fdpOpen t g peer role nonce s
  | .fdpClose t k => shape_fdpClose t k s
  | .fdpKeepalive t k => shape_fdpKeepalive t k s
  | .fdpStreamOpen t k n ip port => shape_fdpStreamOpen t k n ip port s
  | .fdpStreamClose t k n => shape_fdpStreamClose t k n s
  | .fdpRequest t g peer dgram => shape_fdpRequest t g peer dgram s
  | .sessionTimeout t k => shape_sessionTimeout t k s
  | .unitCmdOff t m u => shape_unitCmdOff t m u s
  | .unitCmdInService t m u => shape_unitCmdInService t m u s
  | .unitCmdShadow t m u => shape_unitCmdShadow t m u s
  | .unitCmdTest t m u => shape_unitCmdTest t m u s
  | .unitCmdBypass t m u => shape_unitCmdBypass t m u s
  | .unitCmdReset t m u => shape_unitCmdReset t m u s
  | .unitCmdCancel t m u => shape_unitCmdCancel t m u s
  | .unitStateTakesEffect t u => shape_unitStateTakesEffect t u s
  | .ovlStore t m k v => shape_ovlStore t m k v s
  | .ovlActivate t m k => shape_ovlActivate t m k s
  | .ovlDeactivate t m k => shape_ovlDeactivate t m k s
  | .ovlCancel t m k => shape_ovlCancel t m k s
  | .ovlBoundaryReached t k u => shape_ovlBoundaryReached t k u s
  | .configSave t m v => shape_configSave t m v s
  | .configSaveDone t => shape_configSaveDone t s
  | .snapshotLatch t m idx => shape_snapshotLatch t m idx s
  | .apertureOffsetWrite t m idx sub off => shape_apertureOffsetWrite t m idx sub off s
  | .aperturePortRead t m idx sub => shape_aperturePortRead t m idx sub s
  | .aperturePortWrite t m idx sub v => shape_aperturePortWrite t m idx sub v s
  | .objectWrite t m idx sub ty v data => shape_objectWrite t m idx sub ty v data s
  | .intClaim t m c => shape_intClaim t m c s
  | .intComplete t m c v => shape_intComplete t m c v s
  | .mbSend t m b v => shape_mbSend t m b v s
  | .mbRecv t m b => shape_mbRecv t m b s
  | .dbRing t m v => shape_dbRing t m v s
  | .dbClear t m v => shape_dbClear t m v s
  | .lockAcquire t m n => shape_lockAcquire t m n s
  | .lockFree t m n v => shape_lockFree t m n v s
  | .lockBreak t m v => shape_lockBreak t m v s
  | .metFilterAccept t => shape_metFilterAccept t s
  | .metPulseEnd t => shape_metPulseEnd t s
  | .rollEnd t m v => shape_rollEnd t m v s
  | .metParamWrite t m sub v data => shape_metParamWrite t m sub v data s
  | .approve t m v => shape_approve t m v s
  | .metRestart t m v => shape_metRestart t m v s
  | .rtcSet t m v => shape_rtcSet t m v s
  | .totalizerSlotWrite t => shape_totalizerSlotWrite t s
  | .metMessageSend t => shape_metMessageSend t s
  | .sealChange t level => shape_sealChange t level s
  | .vddMetWarning t => shape_vddMetWarning t s
  | .vddMetPowerOn t image version badSlots => shape_vddMetPowerOn t image version badSlots s
  | .metWatchdog t => shape_metWatchdog t s
  | .monSample t k xs => shape_monSample t k xs s
  | .monWindowEnd t k => shape_monWindowEnd t k s
  | .monPublishWrite t m k v => shape_monPublishWrite t m k v s
  | .testFeed t m k v => shape_testFeed t m k v s
  | .tempRead t temps => shape_tempRead t temps s
  | .rotStepStart t pace => shape_rotStepStart t pace s
  | .rotCmdStart t m => shape_rotCmdStart t m s
  | .rotCmdAbort t m => shape_rotCmdAbort t m s
  | .bistDone t k pass => shape_bistDone t k pass s
  | .govPeriod t paces mv reached => shape_govPeriod t paces mv reached s
  | .avsTransactionDone t ok => shape_avsTransactionDone t ok s
  | .powerOnReset t ready dev mode avs => shape_powerOnReset t ready dev mode avs s
  | .resetNLow t => shape_resetNLow t s
  | .brownout t => shape_brownout t s
  | .clockLoss t => shape_clockLoss t s
  | .warmReset t m v => shape_warmReset t m v s
  | .fwWatchdog t => shape_fwWatchdog t s
  | .thermalTrip t => shape_thermalTrip t s
  | .recoveryAnnounce t => shape_recoveryAnnounce t s
  | .recoveryData t g frame => shape_recoveryData t g frame s
  | .recoveryGo t g frame => shape_recoveryGo t g frame s
  | .inspectKick t m v => shape_inspectKick t m v s
  | .inspectWdogTimeWrite t m v => shape_inspectWdogTimeWrite t m v s
  | .inspectWdogExpired t => shape_inspectWdogExpired t s
  | .laneMapRequestRx t l blk => shape_laneMapRequestRx t l blk s
  | .alignmentBlockSend t g => shape_alignmentBlockSend t g s
  | .linkUp t g speed => shape_linkUp t g speed s
  | .linkDown t g => shape_linkDown t g s
  | .metEncPinChange t pin level => shape_metEncPinChange t pin level s
  | .coldResetRelease t dev mode avs => shape_coldResetRelease t dev mode avs s
  | .bootMetCheck t report slotA slotB => shape_bootMetCheck t report slotA slotB s
  | .vddMetWarningEnd t => shape_vddMetWarningEnd t s

end Sys2Proof.Machine
end

