-- ==== Sys2Proof/Laws/Reset.lean ====
section
/-! SUPPORT. What resets and the ends of a command can do: which parts of the state each of them leaves alone. -/

namespace Sys2Proof.Machine

/-! ### Resets (R572): none touches the queue, physical time or the sealed domain -/

@[simp] theorem powerOn_now (now : Nat) (s : State) : (powerOn now s).now = s.now := rfl
@[simp] theorem powerOn_pending (now : Nat) (s : State) : (powerOn now s).pending = s.pending := rfl
@[simp] theorem powerOn_met (now : Nat) (s : State) : (powerOn now s).met = s.met := rfl
@[simp] theorem powerOn_tu (now : Nat) (s : State) : (powerOn now s).tu = { rawBase := now } := rfl
@[simp] theorem powerOn_tuOps (now : Nat) (s : State) : (powerOn now s).d.tuOps = [] := rfl

@[simp] theorem coldReset_now (bit now : Nat) (s : State) : (coldReset bit now s).now = s.now := by
  unfold coldReset; split <;> rfl
@[simp] theorem coldReset_pending (bit now : Nat) (s : State) : (coldReset bit now s).pending = s.pending := by
  unfold coldReset; split <;> rfl
@[simp] theorem coldReset_met (bit now : Nat) (s : State) : (coldReset bit now s).met = s.met := by
  unfold coldReset; split <;> rfl

/-- A cold reset that is taken starts the raw counter again; one that falls into a held reset changes no time. -/
theorem coldReset_tu (bit now : Nat) (s : State) :
    (coldReset bit now s).tu = s.tu ∨ (coldReset bit now s).tu = { rawBase := now } := by
  unfold coldReset; split
  · exact .inl rfl
  · exact .inr rfl

theorem powKeep_tuOps (d old : Dev) : (powKeep d old).tuOps = d.tuOps := by
  unfold powKeep; dsimp only
  split <;> split <;> rfl

theorem coldReset_tuOps (bit now : Nat) (s : State) (h : s.d.tuOps = []) : (coldReset bit now s).d.tuOps = [] := by
  unfold coldReset; split
  · exact h
  · dsimp only; rw [powKeep_tuOps]; rfl

theorem bootBegin_tuOps (d : Dev) : (bootBegin d).tuOps = d.tuOps := by
  unfold bootBegin; split <;> rfl

@[simp] theorem coldRelease_now (dev mode : Nat) (avs : Bool) (now : Nat) (s : State) :
    (coldRelease dev mode avs now s).now = s.now := by
  unfold coldRelease; split <;> rfl
@[simp] theorem coldRelease_pending (dev mode : Nat) (avs : Bool) (now : Nat) (s : State) :
    (coldRelease dev mode avs now s).pending = s.pending := by
  unfold coldRelease; split <;> rfl
@[simp] theorem coldRelease_met (dev mode : Nat) (avs : Bool) (now : Nat) (s : State) :
    (coldRelease dev mode avs now s).met = s.met := by
  unfold coldRelease; split <;> rfl

/-- The end of a held reset starts the raw counter again; without one nothing happens. -/
theorem coldRelease_tu (dev mode : Nat) (avs : Bool) (now : Nat) (s : State) :
    (coldRelease dev mode avs now s).tu = s.tu ∨ (coldRelease dev mode avs now s).tu = { rawBase := now } := by
  unfold coldRelease; split
  · exact .inl rfl
  · exact .inr rfl

theorem coldRelease_tuOps (dev mode : Nat) (avs : Bool) (now : Nat) (s : State) (h : s.d.tuOps = []) :
    (coldRelease dev mode avs now s).d.tuOps = [] := by
  unfold coldRelease; split
  · exact h
  · dsimp only; rw [bootBegin_tuOps]; split <;> exact h

@[simp] theorem warmReset_now (bit : Nat) (s : State) : (warmReset bit s).now = s.now := rfl
@[simp] theorem warmReset_pending (bit : Nat) (s : State) : (warmReset bit s).pending = s.pending := rfl
@[simp] theorem warmReset_met (bit : Nat) (s : State) : (warmReset bit s).met = s.met := rfl
/-- A warm reset keeps the raw counter and the parameters of applied time (R31). -/
@[simp] theorem warmReset_tu (bit : Nat) (s : State) : (warmReset bit s).tu = s.tu := rfl
@[simp] theorem warmReset_tuOps (bit : Nat) (s : State) : (warmReset bit s).d.tuOps = [] := by
  unfold warmReset; dsimp only; rw [bootBegin_tuOps]
  show (powKeep _ _).tuOps = []
  rw [powKeep_tuOps]; rfl

@[simp] theorem warmCause_now (bit : Nat) (s : State) : (warmCause bit s).now = s.now := by
  unfold warmCause; split <;> rfl
@[simp] theorem warmCause_pending (bit : Nat) (s : State) : (warmCause bit s).pending = s.pending := by
  unfold warmCause; split <;> rfl
@[simp] theorem warmCause_met (bit : Nat) (s : State) : (warmCause bit s).met = s.met := by
  unfold warmCause; split <;> rfl
@[simp] theorem warmCause_tu (bit : Nat) (s : State) : (warmCause bit s).tu = s.tu := by
  unfold warmCause; split <;> rfl
theorem warmCause_tuOps (bit : Nat) (s : State) (h : s.d.tuOps = []) : (warmCause bit s).d.tuOps = [] := by
  unfold warmCause; split
  · exact h
  · exact warmReset_tuOps bit s

/-! ### The ends of a command -/

@[simp] theorem warmAsked_now (s : State) : (warmAsked s).now = s.now := by unfold warmAsked; split <;> rfl
@[simp] theorem warmAsked_pending (s : State) : (warmAsked s).pending = s.pending := by unfold warmAsked; split <;> rfl
@[simp] theorem warmAsked_met (s : State) : (warmAsked s).met = s.met := by unfold warmAsked; split <;> rfl
@[simp] theorem warmAsked_tu (s : State) : (warmAsked s).tu = s.tu := by unfold warmAsked; split <;> rfl
theorem warmAsked_tuOps (s : State) (h : s.d.tuOps = []) : (warmAsked s).d.tuOps = [] := by
  unfold warmAsked; split
  · exact warmReset_tuOps 4 s
  · exact h

/-- Offering events touches only the offers. -/
theorem foldRaise_eq (l : List (Nat × Nat)) (raw : Nat) (d : Dev) :
    (l.foldl (fun d p => d.raiseFrom p.1 p.2 raw none) d) =
      { d with offers := (l.foldl (fun d p => d.raiseFrom p.1 p.2 raw none) d).offers } := by
  induction l generalizing d with
  | nil => rfl
  | cons p r ih => rw [List.foldl_cons, ih]; rfl

@[simp] theorem metDrain_now (s : State) : (metDrain s).now = s.now := by unfold metDrain; split <;> rfl
@[simp] theorem metDrain_pending (s : State) : (metDrain s).pending = s.pending := by unfold metDrain; split <;> rfl
@[simp] theorem metDrain_tu (s : State) : (metDrain s).tu = s.tu := by unfold metDrain; split <;> rfl
@[simp] theorem metDrain_tuOps (s : State) : (metDrain s).d.tuOps = s.d.tuOps := by
  unfold metDrain; split
  · rfl
  · dsimp only; rw [foldRaise_eq]
theorem metDrain_none (s : State) (h : s.d.metOps = []) : metDrain s = s := by unfold metDrain; rw [h]

/-- A main-domain command leaves no request to the time unit behind. -/
theorem runMain_tuOps (a : Env → Dev → Dev) (t : Nat) (s : State) (f : Env → Dev → Dev) (h : s.d.tuOps = []) :
    (runMain a t s f).d.tuOps = [] := by
  unfold runMain; split
  · exact h
  · rfl

/-- What a main-domain command makes of the time unit: it stays, or does the requests in order. -/
theorem runMain_tu (a : Env → Dev → Dev) (t : Nat) (s : State) (f : Env → Dev → Dev) :
    ∃ ops : List TuOp, (runMain a t s f).tu = ops.foldl (TuOp.apply (edge16 (rawAt t s))) s.tu := by
  unfold runMain; split
  · exact ⟨[], rfl⟩
  · exact ⟨(f (envOf t s) (begun s.d)).tuOps, rfl⟩

theorem mainFull_next (t : Nat) (s : State) (f : Env → Dev → Dev) :
    mainFull true t s f = .next (warmAsked (metDrain (runMain tcJudgeAll t s f))) := rfl
theorem mainFull_fault (t : Nat) (s : State) (f : Env → Dev → Dev) : mainFull false t s f = .fault .noInstance := rfl

/-- A command that ends with nothing asked of the sealed domain and no warm reset asked for is one of the main domain. -/
theorem mainFull_plain (t : Nat) (s : State) (f : Env → Dev → Dev) (h : Awake s)
    (h1 : (f (envOf t s) (begun s.d)).tuOps = []) (h2 : (f (envOf t s) (begun s.d)).metOps = [])
    (h3 : (f (envOf t s) (begun s.d)).warmAsk = false) :
    mainFull true t s f = .next { s with now := max s.now t, d := f (envOf t s) (begun s.d) } := by
  rw [mainFull_next, runMain_awake _ _ _ _ h, settled_quiet _ _ _ _ h1, metDrain_none _ h2]
  unfold warmAsked
  rw [if_neg]
  simp only [h3]
  exact Bool.false_ne_true

/-! ### Steps of the sealed domain -/

@[simp] theorem metDeliver_now (s : State) (now : Nat) (r : MetRun) : (metDeliver s now r).now = now := rfl
@[simp] theorem metDeliver_pending (s : State) (now : Nat) (r : MetRun) : (metDeliver s now r).pending = s.pending := rfl
@[simp] theorem metDeliver_tu (s : State) (now : Nat) (r : MetRun) : (metDeliver s now r).tu = s.tu := rfl
@[simp] theorem metDeliver_met (s : State) (now : Nat) (r : MetRun) : (metDeliver s now r).met = r.m := rfl
/-- All that a step of the sealed domain does to the main domain: events offered, pins driven. -/
theorem metDeliver_d (s : State) (now : Nat) (r : MetRun) :
    (metDeliver s now r).d = { s.d with out := r.out, resp := {}, offers := (metDeliver s now r).d.offers } := by
  unfold metDeliver; dsimp only
  split
  · rfl
  · rw [foldRaise_eq]

theorem metStep_next (t : Nat) (s : State) (f : Nat → MetRun → MetRun) :
    metStep t s f = .next (metDeliver s (max s.now t) (metSettle (max s.now t) (f (max s.now t) { m := s.met }))) := rfl

/-! ### What is common to every step of one shape -/

/-- A message of the sealed domain changes neither the queue nor the time unit, and leaves no request behind. -/
theorem metSendStep_rest (t : Nat) (s : State) : ∃ s', metSendStep t s = .next s' ∧ s'.now = max s.now t ∧ s'.pending = s.pending ∧ s'.tu = s.tu ∧ (s.d.tuOps = [] → s'.d.tuOps = []) := by
  unfold metSendStep metNowAt; dsimp only
  split
  · exact ⟨_, rfl, rfl, rfl, rfl, id⟩
  · split <;> exact ⟨_, rfl, rfl, rfl, rfl, fun _ => rfl⟩

/-- Every reset completes at its instant; it leaves the queue and the sealed domain alone, and the raw counter starts again only at a
power-on or cold reset. -/
theorem reset_rest (c : Instr) (s : State) (h : restarts c = true ∨ (∃ t, c = .fwWatchdog t) ∨ ∃ t, c = .thermalTrip t) :
   ∃ s', exec c s = .next s' ∧ s'.now = max s.now (instrTime c) ∧ s'.pending = s.pending ∧ s'.met = s.met ∧
    (s'.tu = s.tu ∨ (s'.tu = { rawBase := max s.now (instrTime c) } ∧ restarts c = true)) ∧ (s.d.tuOps = [] → s'.d.tuOps = []) := by
  rcases h with h | ⟨t, rfl⟩ | ⟨t, rfl⟩
  · cases c <;> (try cases h)
    case inl.powerOnReset.refl t ready dev mode avs =>
      refine ⟨_, rfl, ?_⟩
      cases ready
      · exact ⟨by simp [instrTime], by simp, by simp, .inr ⟨rfl, rfl⟩, fun _ => rfl⟩
      · refine ⟨by simp [instrTime], by simp, by simp, ?_, fun _ => ?_⟩
        · right
          simp only [if_true]
          rcases coldRelease_tu dev mode avs (max s.now t) (powerOn (max s.now t) { s with now := max s.now t, d := { s.d with out := [], resp := {} } }) with h | h
          · rw [h]; exact ⟨rfl, rfl⟩
          · rw [h]; exact ⟨rfl, rfl⟩
        · simp only [if_true]
          exact coldRelease_tuOps _ _ _ _ _ rfl
    all_goals
      refine ⟨_, rfl, by simp [instrTime], by simp, by simp, ?_, ?_⟩
    case inl.resetNLow.refl.refine_1 t => exact (coldReset_tu _ _ _).imp id (fun h => ⟨h, rfl⟩)
    case inl.brownout.refl.refine_1 t => exact (coldReset_tu _ _ _).imp id (fun h => ⟨h, rfl⟩)
    case inl.clockLoss.refl.refine_1 t => exact (coldReset_tu _ _ _).imp id (fun h => ⟨h, rfl⟩)
    case inl.coldResetRelease.refl.refine_1 t _ _ _ => exact (coldRelease_tu _ _ _ _ _).imp id (fun h => ⟨h, rfl⟩)
    case inl.coldResetRelease.refl.refine_2 t _ _ _ => exact fun h => coldRelease_tuOps _ _ _ _ _ h
    all_goals exact fun h => coldReset_tuOps _ _ _ h
  · refine ⟨_, rfl, by simp [instrTime], by simp, by simp, .inl (by simp), fun h => warmCause_tuOps _ _ h⟩
  · refine ⟨_, rfl, ?_⟩
    dsimp only
    split
    · exact ⟨by simp [instrTime], by simp, by simp, .inl (by simp), fun h => warmCause_tuOps _ _ h⟩
    · exact ⟨by simp [instrTime], by simp, by simp, .inl (by simp), fun h => h⟩

end Sys2Proof.Machine
end

