-- ==== Sys2Proof/Laws/Met.lean ====
section
/-! SUPPORT. What the operations of the sealed domain keep: its bounds, and a counter of events that never turns back. -/

namespace Sys2Proof.Machine

/-- What one operation of the sealed domain makes of it: the bounds hold on, and EVENT_COUNTER does not decrease. -/
def MetGrows (m m' : Met) : Prop := MetSound m → MetSound m' ∧ m.eventCounter ≤ m'.eventCounter

theorem MetGrows.rfl {m : Met} : MetGrows m m := fun h => ⟨h, Nat.le_refl _⟩

theorem MetGrows.trans {a b c : Met} (h : MetGrows a b) (k : MetGrows b c) : MetGrows a c :=
  fun s => ⟨(k (h s).1).1, Nat.le_trans (h s).2 (k (h s).1).2⟩

/-- Operations that touch none of the bounded fields. -/
theorem metGrows_same {m m' : Met} (h : (m'.slots, m'.rollLog, m'.audit, m'.queue, m'.pulsesDue, m'.eventCounter, m'.msgSeq, m'.kept) =
    (m.slots, m.rollLog, m.audit, m.queue, m.pulsesDue, m.eventCounter, m.msgSeq, m.kept)) : MetGrows m m' := by
  simp only [Prod.mk.injEq] at h
  obtain ⟨h1, h2, h3, h4, h5, h6, h7, h8⟩ := h
  intro s
  unfold MetSound at s ⊢
  rw [h1, h2, h3, h4, h5, h6, h7, h8]
  exact ⟨s, Nat.le_refl _⟩

theorem metSettle_grows (now : Nat) (r : MetRun) : MetGrows r.m (metSettle now r).m := by
  unfold metSettle; split
  · exact .rfl
  · exact metGrows_same (Eq.refl _)

theorem slotWrite_grows (m : Met) (now : Nat) (p : Bool) : MetGrows m (slotWrite m now p) := by
  unfold slotWrite; split
  · exact .rfl
  · rintro ⟨h1, h2⟩
    exact ⟨⟨by simp [List.length_take], h2⟩, Nat.le_refl _⟩

theorem extraSlot_grows (m : Met) (now : Nat) : MetGrows m (extraSlot m now) := by
  unfold extraSlot; split
  · exact .rfl
  split
  · split
    · exact .rfl
    · rename_i x r hs
      rintro ⟨h1, h2⟩
      refine ⟨⟨?_, h2⟩, Nat.le_refl _⟩
      rw [hs] at h1; exact h1
  · exact (slotWrite_grows m now false).trans (metGrows_same (Eq.refl _))

theorem msgQueue_grows (m : Met) (x : MetMsg) : MetGrows m (msgQueue m x) := by
  unfold msgQueue; split
  · rename_i hl
    rintro ⟨h1, h2, h3, h4, h5⟩
    refine ⟨⟨h1, h2, h3, ?_, h5⟩, Nat.le_refl _⟩
    simp only [List.length_append, List.length_singleton]; omega
  · exact metGrows_same (Eq.refl _)

theorem metChange_grows (now : Nat) (r : MetRun) (sub kind old new : Nat) : MetGrows r.m (metChange now r sub kind old new).m := by
  unfold metChange MetRun.offer; dsimp only
  refine MetGrows.trans (b := { r.m with eventCounter := _, audit := _ }) ?_ ((extraSlot_grows _ now).trans (msgQueue_grows _ _))
  rintro ⟨h1, h2, h3, h4, h5, h6, h7, h8⟩
  refine ⟨⟨h1, h2, ?_, h4, h5, ?_, h7, h8⟩, ?_⟩
  · simp only [List.length_take]; omega
  · dsimp only; omega
  · dsimp only; omega

theorem metRollEnd_grows (now : Nat) (r : MetRun) : MetGrows r.m (metRollEnd now r).m := by
  unfold metRollEnd MetRun.offer; dsimp only
  refine MetGrows.trans ?_ ((extraSlot_grows _ now).trans (msgQueue_grows _ _))
  rintro ⟨h1, h2, h3⟩
  exact ⟨⟨h1, by simp only [List.length_take]; omega, h3⟩, Nat.le_refl _⟩

theorem pulseStart_grows (now : Nat) (r : MetRun) : MetGrows r.m (pulseStart now r).m := by
  unfold pulseStart; dsimp only; split
  · exact .rfl
  · rintro ⟨h1, h2, h3, h4, h5, h6⟩
    exact ⟨⟨h1, h2, h3, h4, by dsimp only [MetRun.drive]; omega, h6⟩, Nat.le_refl _⟩

theorem pulsesFor_grows (now : Nat) (r : MetRun) (b : Int) : MetGrows r.m (pulsesFor now r b).m := by
  unfold pulsesFor; dsimp only; split
  · exact .rfl
  · refine MetGrows.trans ?_ (pulseStart_grows _ _)
    rintro ⟨h1, h2, h3, h4, h5, h6⟩
    exact ⟨⟨h1, h2, h3, h4, Nat.min_le_right _ _, h6⟩, Nat.le_refl _⟩

theorem metCount_grows (now : Nat) (r : MetRun) (up : Bool) : MetGrows r.m (metCount now r up).m := by
  unfold metCount
  refine MetGrows.trans ?_ (pulsesFor_grows now _ _)
  exact metGrows_same (Eq.refl _)

theorem metEdge_grows (now : Nat) (r : MetRun) (a b : Bool) : MetGrows r.m (metEdge now r a b).m := by
  unfold metEdge
  repeat' split
  all_goals first | exact metCount_grows _ _ _ | exact .rfl

theorem metTakePin_grows (now : Nat) (r : MetRun) (p : EncPin) : MetGrows r.m (metTakePin now r p).m := by
  unfold metTakePin; dsimp only; cases p <;> dsimp only
  · refine MetGrows.trans ?_ (metEdge_grows now _ _ _)
    exact metGrows_same (Eq.refl _)
  · refine MetGrows.trans ?_ (metEdge_grows now _ _ _)
    exact metGrows_same (Eq.refl _)
  · exact metGrows_same (Eq.refl _)

/-- What each step of a fold keeps, the fold keeps. -/
theorem fold_grows {α : Type} (f : MetRun → α → MetRun) (h : ∀ r a, MetGrows r.m (f r a).m) (l : List α) (r : MetRun) :
    MetGrows r.m (l.foldl f r).m := by
  induction l generalizing r with
  | nil => exact .rfl
  | cons a l ih => exact (h r a).trans (ih _)

theorem metAccept_grows (now : Nat) (r : MetRun) : MetGrows r.m (metAccept now r).m := by
  unfold metAccept; dsimp only; split
  · refine MetGrows.trans ?_ (fold_grows _ (fun r (a : Nat × EncPin) => metTakePin_grows now r a.2) _ _)
    exact metGrows_same (Eq.refl _)
  · exact fold_grows _ (fun r (a : Nat × EncPin) => metTakePin_grows now r a.2) _ _

theorem metPulseOver_grows (now : Nat) (r : MetRun) : MetGrows r.m (metPulseOver now r).m := by
  unfold metPulseOver; split
  · exact .rfl
  · split
    · exact .rfl
    · refine MetGrows.trans ?_ (pulseStart_grows _ _)
      exact metGrows_same (Eq.refl _)

theorem metReset_grows (now : Nat) (r : MetRun) : MetGrows r.m (metReset now r).m := by
  unfold metReset; dsimp only
  split <;> exact metGrows_same (Eq.refl _)

theorem metNum_grows (now : Nat) (r : MetRun) (sub v : Nat) : MetGrows r.m (metNum now r sub v).m := by
  unfold metNum; dsimp only
  split
  · refine MetGrows.trans ?_ (metChange_grows now _ _ _ _ _)
    exact metGrows_same (Eq.refl _)
  split
  · split
    · exact .rfl
    · refine MetGrows.trans ?_ (metChange_grows now _ _ _ _ _)
      exact metGrows_same (Eq.refl _)
  split
  · split
    · exact .rfl
    · exact (metChange_grows now r _ _ _ _).trans (metReset_grows _ _)
  split
  · split
    · exact .rfl
    · exact metRollEnd_grows now r
  · refine MetGrows.trans ?_ (metChange_grows now _ _ _ _ _)
    split
    · exact (metRollEnd_grows now r).trans (metGrows_same (Eq.refl _))
    · exact metGrows_same (Eq.refl _)

theorem metOp_grows (now : Nat) (r : MetRun) (op : MetOp) : MetGrows r.m (metOp now r op).2.m := by
  unfold metOp
  cases op <;> dsimp only <;> split <;> (try exact .rfl)
  · (repeat' split) <;> first | exact .rfl | exact metNum_grows _ _ _ _
  · (repeat' split) <;> first | exact .rfl | skip
    all_goals
      refine MetGrows.trans ?_ (metChange_grows now _ _ _ _ _)
      exact metGrows_same (Eq.refl _)

theorem metTickNow_grows (now : Nat) (r : MetRun) : MetGrows r.m (metTickNow now r).m := by
  unfold metTickNow; dsimp only; split
  · exact .rfl
  · exact (slotWrite_grows r.m now false).trans (metGrows_same (Eq.refl _))

theorem metWarning_grows (now : Nat) (m : Met) : MetGrows m (metWarning now m) := by
  unfold metWarning; split
  · exact .rfl
  · dsimp only
    refine MetGrows.trans (b := if m.warnUsed then m else { slotWrite m now true with warnUsed := true }) ?_ ?_
    · split
      · exact .rfl
      · exact (slotWrite_grows m now true).trans (metGrows_same (Eq.refl _))
    · rintro ⟨h1, h2, h3, h4, h5, h6, h7, h8⟩
      refine ⟨⟨h1, h2, h3, h4, h5, h6, h7, ?_⟩, Nat.le_refl _⟩
      intro k hk
      cases hk
      exact ⟨h2, h3, h6⟩

theorem metWarningEnd_grows (m : Met) : MetGrows m (metWarningEnd m) := by
  rintro ⟨h1, h2, h3, h4, h5, h6, h7, h8⟩
  exact ⟨⟨h1, h2, h3, h4, h5, h6, h7, fun k hk => by cases hk⟩, Nat.le_refl _⟩

theorem metPowerOn_sound (now : Nat) (m : Met) (image version : List Byte) (bad : List Nat) (h : MetSound m) :
    MetSound (metPowerOn now m image version bad) := by
  obtain ⟨h1, h2, h3, h4, h5, h6, h7, h8⟩ := h
  have hf : (m.slots.filter (fun x => !bad.contains x.seq)).length ≤ 256 := (List.length_filter_le _ _).trans h1
  have n : ([] : List MetMsg).length ≤ 16 := by simp
  have z : 0 ≤ 64 := by decide
  have q : 0 < 16777216 := by decide
  unfold metPowerOn; dsimp only
  cases hk : m.kept with
  | none => split <;> exact ⟨hf, h2, h3, n, z, h6, q, fun k hk => by cases hk⟩
  | some k =>
    obtain ⟨a, b, c⟩ := h8 k hk
    split <;> exact ⟨hf, a, b, n, z, c, q, fun k hk => by cases hk⟩

theorem metSeal_grows (r : MetRun) (l : Bool) : MetGrows r.m (metSeal r l).m := by
  unfold metSeal; dsimp only; split
  · exact metGrows_same (Eq.refl _)
  · split <;> exact metGrows_same (Eq.refl _)

theorem metNext_grows (m : Met) (x : MetMsg) (m1 : Met) (h : metNext m = some (x, m1)) : MetGrows m m1 := by
  unfold metNext at h; split at h
  · rename_i y r hq
    cases h
    rintro ⟨h1, h2, h3, h4, h5⟩
    refine ⟨⟨h1, h2, h3, ?_, h5⟩, Nat.le_refl _⟩
    rw [hq] at h4; dsimp only; simp only [List.length_cons] at h4; omega
  · split at h
    · cases h; exact metGrows_same (Eq.refl _)
    · cases h

theorem metSend_grows (m : Met) (a b : Bool) : MetGrows m (metSend m a b).1 := by
  unfold metSend; split
  · exact .rfl
  · dsimp only
    split
    · exact metGrows_same (Eq.refl _)
    · rename_i x m1 hn
      have g : MetGrows m m1 := by
        refine MetGrows.trans ?_ (metNext_grows _ _ _ hn)
        exact metGrows_same (Eq.refl _)
      split
      · exact g.trans (metGrows_same (Eq.refl _))
      split
      · refine g.trans ?_
        rintro ⟨h1, h2, h3, h4, h5, h6, h7, h8⟩
        exact ⟨⟨h1, h2, h3, h4, h5, h6, Nat.mod_lt _ (by decide), h8⟩, Nat.le_refl _⟩
      split
      · exact g.trans (metGrows_same (Eq.refl _))
      · exact metGrows_same (Eq.refl _)

/-- What a session's writes ask of the sealed domain keeps its bounds. -/
theorem metDrain_grows (s : State) : MetGrows s.met (metDrain s).met := by
  unfold metDrain; split
  · exact .rfl
  · dsimp only
    refine MetGrows.trans ?_ (metSettle_grows _ _)
    exact fold_grows _ (fun r a => metOp_grows s.now r a) _ ({ m := s.met } : MetRun)

end Sys2Proof.Machine
end

