-- ==== Sys2Proof/Laws/PerInstr.lean ====
section
/-! SUPPORT. One lemma for each command: a well-formed command that a master makes names a master that the part has (R477, R498). -/

namespace Sys2Proof.Laws.OperandsInRange

open Sys2Proof.Machine

/-- The left side of a conjunction of checks. -/
theorem and_true_left {a b : Bool} (h : (a && b) = true) : a = true := (Bool.and_eq_true_iff.mp h).1

/-- A well-formed command names no master that the part does not have. -/
def Statement (i : Instr) : Prop := wellFormed i = true → ∀ m, instrMaster i = some m → masterOk m = true

theorem offsetWrite (t : Nat) (m : Master) (v : Int) : Statement (.offsetWrite t m v) := fun h _ e => Option.some.inj e ▸ h
theorem rateWrite (t : Nat) (m : Master) (v : Int) : Statement (.rateWrite t m v) := fun h _ e => Option.some.inj e ▸ h
theorem declareValid (t : Nat) (m : Master) (v : Int) : Statement (.declareValid t m v) := fun h _ e => Option.some.inj e ▸ h
theorem slewLimitWrite (t : Nat) (m : Master) (v : Int) : Statement (.slewLimitWrite t m v) := fun h _ e => Option.some.inj e ▸ h
theorem epochPtpSWrite (t : Nat) (m : Master) (v : Int) : Statement (.epochPtpSWrite t m v) := fun h _ e => Option.some.inj e ▸ h
theorem slewEnd (t : Nat) : Statement (.slewEnd t) := fun _ _ h => nomatch h
theorem tcArm (t : Nat) (m : Master) (n ctl : Nat) : Statement (.tcArm t m n ctl) := fun h _ e => Option.some.inj e ▸ (and_true_left h)
theorem tcDisarm (t : Nat) (m : Master) (n ctl : Nat) : Statement (.tcDisarm t m n ctl) := fun h _ e => Option.some.inj e ▸ (and_true_left h)
theorem tcFire (t : Nat) (n : Nat) : Statement (.tcFire t n) := fun _ _ h => nomatch h
theorem ttoPulseEnd (t : Nat) (k : Nat) : Statement (.ttoPulseEnd t k) := fun _ _ h => nomatch h
theorem encPinChange (t : Nat) (n : Nat) (pin : EncPin) (level : Bool) : Statement (.encPinChange t n pin level) := fun _ _ h => nomatch h
theorem encFilterAccept (t : Nat) (n : Nat) : Statement (.encFilterAccept t n) := fun _ _ h => nomatch h
theorem standstill (t : Nat) (n : Nat) : Statement (.standstill t n) := fun _ _ h => nomatch h
theorem encModeWrite (t : Nat) (m : Master) (n : Nat) (v : Int) : Statement (.encModeWrite t m n v) := fun h _ e => Option.some.inj e ▸ (and_true_left h)
theorem indexArm (t : Nat) (m : Master) (n : Nat) (v : Int) : Statement (.indexArm t m n v) := fun h _ e => Option.some.inj e ▸ (and_true_left h)
theorem setValueWrite (t : Nat) (m : Master) (n : Nat) (v : Int) : Statement (.setValueWrite t m n v) := fun h _ e => Option.some.inj e ▸ (and_true_left h)
theorem setAtNextCount (t : Nat) (m : Master) (n : Nat) : Statement (.setAtNextCount t m n) := fun h _ e => Option.some.inj e ▸ (and_true_left h)
theorem setAtPosSetGrant (t : Nat) (m : Master) (n : Nat) : Statement (.setAtPosSetGrant t m n) := fun h _ e => Option.some.inj e ▸ (and_true_left h)
theorem cmpArm (t : Nat) (m : Master) (n ctl : Nat) : Statement (.cmpArm t m n ctl) := fun h _ e => Option.some.inj e ▸ (and_true_left h)
theorem cmpDisarm (t : Nat) (m : Master) (n ctl : Nat) : Statement (.cmpDisarm t m n ctl) := fun h _ e => Option.some.inj e ▸ (and_true_left h)
theorem cmpFire (t : Nat) (n : Nat) : Statement (.cmpFire t n) := fun _ _ h => nomatch h
theorem trgPulseEnd (t : Nat) (p : Nat) : Statement (.trgPulseEnd t p) := fun _ _ h => nomatch h
theorem blockLockAcquired (t : Nat) (l : Nat) : Statement (.blockLockAcquired t l) := fun _ _ h => nomatch h
theorem lockLoss (t : Nat) (l : Nat) : Statement (.lockLoss t l) := fun _ _ h => nomatch h
theorem alignmentBlockRx (t : Nat) (l : Nat) (blk : List Byte) (bip : Nat) : Statement (.alignmentBlockRx t l blk bip) := fun _ _ h => nomatch h
theorem alignmentMissing (t : Nat) (l : Nat) : Statement (.alignmentMissing t l) := fun _ _ h => nomatch h
theorem portStreamStopped (t : Nat) (p : Nat) : Statement (.portStreamStopped t p) := fun _ _ h => nomatch h
theorem laneBlockBad (t : Nat) (l : Nat) (blk : List Byte) : Statement (.laneBlockBad t l blk) := fun _ _ h => nomatch h
theorem trainingRequestRx (t : Nat) (l : Nat) (blk : List Byte) : Statement (.trainingRequestRx t l blk) := fun _ _ h => nomatch h
theorem trainingStatusRx (t : Nat) (l : Nat) (blk : List Byte) : Statement (.trainingStatusRx t l blk) := fun _ _ h => nomatch h
theorem trainTimeout (t : Nat) (l : Nat) : Statement (.trainTimeout t l) := fun _ _ h => nomatch h
theorem trainStepDone (t : Nat) (l margin vert : Nat) : Statement (.trainStepDone t l margin vert) := fun _ _ h => nomatch h
theorem trainStart (t : Nat) (m : Master) (l : Nat) : Statement (.trainStart t m l) := fun h _ e => Option.some.inj e ▸ (and_true_left h)
theorem trainAbort (t : Nat) (m : Master) (l : Nat) : Statement (.trainAbort t m l) := fun h _ e => Option.some.inj e ▸ (and_true_left h)
theorem mapRequest (t : Nat) (m : Master) (p : Nat) (mask : Int) : Statement (.mapRequest t m p mask) := fun h _ e => Option.some.inj e ▸ (and_true_left h)
theorem laneMapAckRx (t : Nat) (l : Nat) (blk : List Byte) : Statement (.laneMapAckRx t l blk) := fun _ _ h => nomatch h
theorem mapNoAck (t : Nat) (p : Nat) : Statement (.mapNoAck t p) := fun _ _ h => nomatch h
theorem laneShadowTimeout (t : Nat) (l : Nat) : Statement (.laneShadowTimeout t l) := fun _ _ h => nomatch h
theorem injectSingle (t : Nat) (m : Master) (l : Nat) : Statement (.injectSingle t m l) := fun h _ e => Option.some.inj e ▸ (and_true_left h)
theorem injectBurst (t : Nat) (m : Master) (l : Nat) : Statement (.injectBurst t m l) := fun h _ e => Option.some.inj e ▸ (and_true_left h)
theorem injectHeader (t : Nat) (m : Master) (l : Nat) : Statement (.injectHeader t m l) := fun h _ e => Option.some.inj e ▸ (and_true_left h)
theorem chkLock (t : Nat) (l : Nat) : Statement (.chkLock t l) := fun _ _ h => nomatch h
theorem chkRelock (t : Nat) (l errors : Nat) : Statement (.chkRelock t l errors) := fun _ _ h => nomatch h
theorem laneClearCounts (t : Nat) (m : Master) (l : Nat) (v : Int) : Statement (.laneClearCounts t m l v) := fun h _ e => Option.some.inj e ▸ (and_true_left h)
theorem linePacketRx (t : Nat) (p : Nat) (head : Nat) (packet : List Byte) : Statement (.linePacketRx t p head packet) := fun _ _ h => nomatch h
theorem badBlockRx (t p : Nat) (blk opened : Option (List Byte)) : Statement (.badBlockRx t p blk opened) := fun _ _ h => nomatch h
theorem responseRx (t : Nat) (p : Nat) (packet : List Byte) : Statement (.responseRx t p packet) := fun _ _ h => nomatch h
theorem statusMsgRx (t : Nat) (p : Nat) (packet : List Byte) : Statement (.statusMsgRx t p packet) := fun _ _ h => nomatch h
theorem userDataRx (t : Nat) (p : Nat) (packet : List Byte) : Statement (.userDataRx t p packet) := fun _ _ h => nomatch h
theorem delayRespRx (t : Nat) (p : Nat) (head : Nat) (packet : List Byte) : Statement (.delayRespRx t p head packet) := fun _ _ h => nomatch h
theorem beaconSend (t : Nat) (p : Nat) : Statement (.beaconSend t p) := fun _ _ h => nomatch h
theorem delayReqSend (t : Nat) (p : Nat) : Statement (.delayReqSend t p) := fun _ _ h => nomatch h
theorem delayLost (t : Nat) (p : Nat) : Statement (.delayLost t p) := fun _ _ h => nomatch h
theorem cmdRequest (t : Nat) (m : Master) (p : Nat) (payload : List Byte) : Statement (.cmdRequest t m p payload) := fun h _ e => Option.some.inj e ▸ (and_true_left h)
theorem cmdResend (t : Nat) (p : Nat) : Statement (.cmdResend t p) := fun _ _ h => nomatch h
theorem cmdTimeout (t : Nat) (p : Nat) : Statement (.cmdTimeout t p) := fun _ _ h => nomatch h
theorem cameraBusyRetry (t : Nat) (p : Nat) : Statement (.cameraBusyRetry t p) := fun _ _ h => nomatch h
theorem transportClearCounts (t : Nat) (m : Master) (p : Nat) (v : Int) : Statement (.transportClearCounts t m p v) := fun h _ e => Option.some.inj e ▸ (and_true_left h)
theorem lineCorrect (t : Nat) (p : Nat) (skip : Bool) (diff : Option Nat) : Statement (.lineCorrect t p skip diff) := fun _ _ h => nomatch h
theorem swapNextLine (t : Nat) (m : Master) (p : Nat) : Statement (.swapNextLine t m p) := fun h _ e => Option.some.inj e ▸ (and_true_left h)
theorem swapNextSos (t : Nat) (m : Master) (p : Nat) : Statement (.swapNextSos t m p) := fun h _ e => Option.some.inj e ▸ (and_true_left h)
theorem swapAtLine (t : Nat) (m : Master) (p : Nat) : Statement (.swapAtLine t m p) := fun h _ e => Option.some.inj e ▸ (and_true_left h)
theorem swapCancel (t : Nat) (m : Master) (p : Nat) : Statement (.swapCancel t m p) := fun h _ e => Option.some.inj e ▸ (and_true_left h)
theorem bankCopy (t : Nat) (m : Master) (p : Nat) (v : Int) : Statement (.bankCopy t m p v) := fun h _ e => Option.some.inj e ▸ (and_true_left h)
theorem bankCopyDone (t : Nat) (p : Nat) : Statement (.bankCopyDone t p) := fun _ _ h => nomatch h
theorem bankCrcUpdate (t : Nat) (kind n b : Nat) : Statement (.bankCrcUpdate t kind n b) := fun _ _ h => nomatch h
theorem tapArm (t : Nat) (m : Master) (p k : Nat) (v : Int) : Statement (.tapArm t m p k v) := fun h _ e => Option.some.inj e ▸ (and_true_left (and_true_left h))
theorem stopLullOpen (t : Nat) : Statement (.stopLullOpen t) := fun _ _ h => nomatch h
theorem sacrificeNext (t : Nat) (m : Master) (v : Int) : Statement (.sacrificeNext t m v) := fun h _ e => Option.some.inj e ▸ h
theorem calTriggerFire (t : Nat) : Statement (.calTriggerFire t) := fun _ _ h => nomatch h
theorem jobStartDark (t : Nat) (m : Master) (p : Nat) : Statement (.jobStartDark t m p) := fun h _ e => Option.some.inj e ▸ (and_true_left h)
theorem jobStartGain (t : Nat) (m : Master) (p : Nat) : Statement (.jobStartGain t m p) := fun h _ e => Option.some.inj e ▸ (and_true_left h)
theorem jobStartGeometryEdge (t : Nat) (m : Master) (p : Nat) : Statement (.jobStartGeometryEdge t m p) := fun h _ e => Option.some.inj e ▸ (and_true_left h)
theorem jobStartGeometryFull (t : Nat) (m : Master) (p : Nat) : Statement (.jobStartGeometryFull t m p) := fun h _ e => Option.some.inj e ▸ (and_true_left h)
theorem jobStartColour (t : Nat) (m : Master) (p : Nat) : Statement (.jobStartColour t m p) := fun h _ e => Option.some.inj e ▸ (and_true_left h)
theorem jobStartDelay (t : Nat) (m : Master) (p : Nat) : Statement (.jobStartDelay t m p) := fun h _ e => Option.some.inj e ▸ (and_true_left h)
theorem illumSettleExpired (t : Nat) (p : Nat) : Statement (.illumSettleExpired t p) := fun _ _ h => nomatch h
theorem delayRefGrant (t : Nat) (k : Nat) : Statement (.delayRefGrant t k) := fun _ _ h => nomatch h
theorem jobComputeDone (t : Nat) (p : Nat) : Statement (.jobComputeDone t p) := fun _ _ h => nomatch h
theorem acqTimeout (t : Nat) (p : Nat) : Statement (.acqTimeout t p) := fun _ _ h => nomatch h
theorem commit (t : Nat) (m : Master) (p : Nat) (v : Int) : Statement (.commit t m p v) := fun h _ e => Option.some.inj e ▸ (and_true_left h)
theorem jobAbort (t : Nat) (m : Master) (p : Nat) (v : Int) : Statement (.jobAbort t m p v) := fun h _ e => Option.some.inj e ▸ (and_true_left h)
theorem deadReset (t : Nat) (m : Master) (p : Nat) (v : Int) : Statement (.deadReset t m p v) := fun h _ e => Option.some.inj e ▸ (and_true_left h)
theorem jobCommitProceed (t : Nat) (p : Nat) (crcOk : Bool) : Statement (.jobCommitProceed t p crcOk) := fun _ _ h => nomatch h
theorem scaleStart (t : Nat) (m : Master) (v : Int) : Statement (.scaleStart t m v) := fun h _ e => Option.some.inj e ▸ h
theorem scaleDone (t : Nat) : Statement (.scaleDone t) := fun _ _ h => nomatch h
theorem retrainStart (t : Nat) (l : Nat) : Statement (.retrainStart t l) := fun _ _ h => nomatch h
theorem linePlace (t : Nat) (p : Nat) (full : Bool) : Statement (.linePlace t p full) := fun _ _ h => nomatch h
theorem lineHold (t : Nat) (p : Nat) (full : Bool) : Statement (.lineHold t p full) := fun _ _ h => nomatch h
theorem gridLineEmit (t : Nat) (p : Nat) (poison : List (Nat × Nat × Nat)) : Statement (.gridLineEmit t p poison) := fun _ _ h => nomatch h
theorem coefSwap (t : Nat) (m : Master) : Statement (.coefSwap t m) := fun h _ e => Option.some.inj e ▸ h
theorem coefSwapCancel (t : Nat) (m : Master) : Statement (.coefSwapCancel t m) := fun h _ e => Option.some.inj e ▸ h
theorem coefCopy (t : Nat) (m : Master) (v : Int) : Statement (.coefCopy t m v) := fun h _ e => Option.some.inj e ▸ h
theorem rasterLineMake (t : Nat) : Statement (.rasterLineMake t) := fun _ _ h => nomatch h
theorem nbWaitExpired (t : Nat) : Statement (.nbWaitExpired t) := fun _ _ h => nomatch h
theorem exportRx (t : Nat) (side : Nat) (packet : List Byte) : Statement (.exportRx t side packet) := fun _ _ h => nomatch h
theorem helloRx (t : Nat) (side : Nat) (packet : List Byte) : Statement (.helloRx t side packet) := fun _ _ h => nomatch h
theorem helloSend (t : Nat) : Statement (.helloSend t) := fun _ _ h => nomatch h
theorem continueRx (t : Nat) (side : Nat) (packet : List Byte) : Statement (.continueRx t side packet) := fun _ _ h => nomatch h
theorem settlePacketRx (t : Nat) (side : Nat) (packet : List Byte) : Statement (.settlePacketRx t side packet) := fun _ _ h => nomatch h
theorem tapPacketRx (t : Nat) (side : Nat) (packet : List Byte) : Statement (.tapPacketRx t side packet) := fun _ _ h => nomatch h
theorem geoSwapAtPlaced (t : Nat) (m : Master) (p : Nat) : Statement (.geoSwapAtPlaced t m p) := fun h _ e => Option.some.inj e ▸ (and_true_left h)
theorem geoSwapAtWp (t : Nat) (m : Master) (p : Nat) : Statement (.geoSwapAtWp t m p) := fun h _ e => Option.some.inj e ▸ (and_true_left h)
theorem geoSwapCancel (t : Nat) (m : Master) (p : Nat) : Statement (.geoSwapCancel t m p) := fun h _ e => Option.some.inj e ▸ (and_true_left h)
theorem geoCopy (t : Nat) (m : Master) (p : Nat) (v : Int) : Statement (.geoCopy t m p v) := fun h _ e => Option.some.inj e ▸ (and_true_left h)
theorem cdCoefSwap (t : Nat) (m : Master) : Statement (.cdCoefSwap t m) := fun h _ e => Option.some.inj e ▸ h
theorem cdCoefSwapCancel (t : Nat) (m : Master) : Statement (.cdCoefSwapCancel t m) := fun h _ e => Option.some.inj e ▸ h
theorem cdCoefCopy (t : Nat) (m : Master) (v : Int) : Statement (.cdCoefCopy t m v) := fun h _ e => Option.some.inj e ▸ h
theorem chainSample (t : Nat) (c : Nat) : Statement (.chainSample t c) := fun _ _ h => nomatch h
theorem chainRun (t : Nat) (m : Master) (c : Nat) : Statement (.chainRun t m c) := fun h _ e => Option.some.inj e ▸ (and_true_left h)
theorem chainStop (t : Nat) (m : Master) (c : Nat) : Statement (.chainStop t m c) := fun h _ e => Option.some.inj e ▸ (and_true_left h)
theorem feed (t : Nat) (m : Master) (c : Nat) (data : List Byte) : Statement (.feed t m c data) := fun h _ e => Option.some.inj e ▸ (and_true_left h)
theorem chainSwapNext (t : Nat) (m : Master) (c : Nat) : Statement (.chainSwapNext t m c) := fun h _ e => Option.some.inj e ▸ (and_true_left h)
theorem chainSwapAtTime (t : Nat) (m : Master) (c : Nat) : Statement (.chainSwapAtTime t m c) := fun h _ e => Option.some.inj e ▸ (and_true_left h)
theorem chainSwapCancel (t : Nat) (m : Master) (c : Nat) : Statement (.chainSwapCancel t m c) := fun h _ e => Option.some.inj e ▸ (and_true_left h)
theorem detClear (t : Nat) (m : Master) (c : Nat) (v : Int) : Statement (.detClear t m c v) := fun h _ e => Option.some.inj e ▸ (and_true_left h)
theorem classLine (t : Nat) : Statement (.classLine t) := fun _ _ h => nomatch h
theorem relearn (t : Nat) (m : Master) (v : Int) : Statement (.relearn t m v) := fun h _ e => Option.some.inj e ▸ h
theorem classLineTrack (t : Nat) : Statement (.classLineTrack t) := fun _ _ h => nomatch h
theorem lineEntryWaitExpired (t : Nat) : Statement (.lineEntryWaitExpired t) := fun _ _ h => nomatch h
theorem squallCmdEnter (t : Nat) (m : Master) : Statement (.squallCmdEnter t m) := fun h _ e => Option.some.inj e ▸ h
theorem squallCmdExit (t : Nat) (m : Master) : Statement (.squallCmdExit t m) := fun h _ e => Option.some.inj e ▸ h
theorem treeSwap (t : Nat) (m : Master) : Statement (.treeSwap t m) := fun h _ e => Option.some.inj e ▸ h
theorem treeSwapCancel (t : Nat) (m : Master) : Statement (.treeSwapCancel t m) := fun h _ e => Option.some.inj e ▸ h
theorem treeCopy (t : Nat) (m : Master) (v : Int) : Statement (.treeCopy t m v) := fun h _ e => Option.some.inj e ▸ h
theorem recordsReadyTimer (t : Nat) : Statement (.recordsReadyTimer t) := fun _ _ h => nomatch h
theorem markAccept (t : Nat) : Statement (.markAccept t) := fun _ _ h => nomatch h
theorem rowFire (t : Nat) (h : Nat) : Statement (.rowFire t h) := fun _ _ h => nomatch h
theorem firePulseEnd (t : Nat) (h : Nat) : Statement (.firePulseEnd t h) := fun _ _ h => nomatch h
theorem headIdReadDone (t : Nat) (h : Nat) (regs : Option (List Byte)) : Statement (.headIdReadDone t h regs) := fun _ _ h => nomatch h
theorem rcheckStart (t : Nat) (h : Nat) : Statement (.rcheckStart t h) := fun _ _ h => nomatch h
theorem rcheckResult (t : Nat) (h : Nat) (reply : Option (Bool × Nat)) : Statement (.rcheckResult t h reply) := fun _ _ h => nomatch h
theorem headPower (t : Nat) (m : Master) (v : Int) : Statement (.headPower t m v) := fun h _ e => Option.some.inj e ▸ h
theorem headPwrSettled (t : Nat) : Statement (.headPwrSettled t) := fun _ _ h => nomatch h
theorem fireTest (t : Nat) (m : Master) (h : Nat) (data : List Byte) : Statement (.fireTest t m h data) := fun h _ e => Option.some.inj e ▸ (and_true_left h)
theorem remapWrite (t : Nat) (m : Master) (data : List Byte) : Statement (.remapWrite t m data) := fun h _ e => Option.some.inj e ▸ h
theorem eventOffer (t : Nat) (c delay : Nat) : Statement (.eventOffer t c delay) := fun _ _ h => nomatch h
theorem handshakeComplete (t : Nat) (c : Nat) : Statement (.handshakeComplete t c) := fun _ _ h => nomatch h
theorem taskActionEnd (t : Nat) (k : Nat) : Statement (.taskActionEnd t k) := fun _ _ h => nomatch h
theorem evpEdge (t : Nat) (k : Nat) (level : Bool) : Statement (.evpEdge t k level) := fun _ _ h => nomatch h
theorem evpPulseEnd (t : Nat) (k : Nat) : Statement (.evpPulseEnd t k) := fun _ _ h => nomatch h
theorem swFire (t : Nat) (m : Master) (v : Int) : Statement (.swFire t m v) := fun h _ e => Option.some.inj e ▸ h
theorem channelOwnerWrite (t : Nat) (m : Master) (c : Nat) (v : Int) : Statement (.channelOwnerWrite t m c v) := fun h _ e => Option.some.inj e ▸ (and_true_left h)
theorem memRequestAccept (t : Nat) (port addr len : Nat) (ask : MemAsk) : Statement (.memRequestAccept t port addr len ask) := fun _ _ h => nomatch h
theorem memReadDone (t : Nat) (port kind symbol rank slot : Nat) : Statement (.memReadDone t port kind symbol rank slot) := fun _ _ h => nomatch h
theorem refreshDue (t : Nat) (r : Nat) (trackLimit : Bool) : Statement (.refreshDue t r trackLimit) := fun _ _ h => nomatch h
theorem gustEnd (t : Nat) (r : Nat) : Statement (.gustEnd t r) := fun _ _ h => nomatch h
theorem mr4Read (t : Nat) (r v : Nat) : Statement (.mr4Read t r v) := fun _ _ h => nomatch h
theorem calmEntry (t : Nat) (r : Nat) : Statement (.calmEntry t r) := fun _ _ h => nomatch h
theorem migrateCmd (t : Nat) (m : Master) (v : Int) : Statement (.migrateCmd t m v) := fun h _ e => Option.some.inj e ▸ h
theorem migrationStart (t : Nat) : Statement (.migrationStart t) := fun _ _ h => nomatch h
theorem migrationDone (t : Nat) : Statement (.migrationDone t) := fun _ _ h => nomatch h
theorem scrubRead (t : Nat) (kind blk symbol : Nat) : Statement (.scrubRead t kind blk symbol) := fun _ _ h => nomatch h
theorem memoryStartup (t : Nat) (density : Nat) (failed : List Nat) : Statement (.memoryStartup t density failed) := fun _ _ h => nomatch h
theorem budgetRecompute (t : Nat) (p : Nat) : Statement (.budgetRecompute t p) := fun _ _ h => nomatch h
theorem paceShort (t : Nat) (p : Nat) : Statement (.paceShort t p) := fun _ _ h => nomatch h
theorem queueClearCounts (t : Nat) (m : Master) (v : Int) : Statement (.queueClearCounts t m v) := fun h _ e => Option.some.inj e ▸ h
theorem tileWritten (t : Nat) (credit mismatch : Bool) : Statement (.tileWritten t credit mismatch) := fun _ _ h => nomatch h
theorem cropStart (t : Nat) : Statement (.cropStart t) := fun _ _ h => nomatch h
theorem cropDone (t : Nat) (mismatch : List Nat) : Statement (.cropDone t mismatch) := fun _ _ h => nomatch h
theorem cropTimeout (t : Nat) : Statement (.cropTimeout t) := fun _ _ h => nomatch h
theorem jobTailWrite (t : Nat) (m : Master) (v : Int) : Statement (.jobTailWrite t m v) := fun h _ e => Option.some.inj e ▸ h
theorem jobComplete (t : Nat) (k : Nat) (mismatch : Bool) : Statement (.jobComplete t k mismatch) := fun _ _ h => nomatch h
theorem frameRx (t : Nat) (g : Nat) (fcsOk : Bool) (frame : List Byte) : Statement (.frameRx t g fcsOk frame) := fun _ _ h => nomatch h
theorem txTailWrite (t : Nat) (m : Master) (g : Nat) (v : Int) : Statement (.txTailWrite t m g v) := fun h _ e => Option.some.inj e ▸ (and_true_left h)
theorem tsPop (t : Nat) (m : Master) : Statement (.tsPop t m) := fun h _ e => Option.some.inj e ▸ h
theorem syncRx (t : Nat) (g : Nat) (l2 : Bool) (msg : List Byte) : Statement (.syncRx t g l2 msg) := fun _ _ h => nomatch h
theorem followUpRx (t : Nat) (g : Nat) (l2 : Bool) (msg : List Byte) : Statement (.followUpRx t g l2 msg) := fun _ _ h => nomatch h
theorem ptpDelayRespRx (t : Nat) (g : Nat) (l2 : Bool) (msg : List Byte) : Statement (.ptpDelayRespRx t g l2 msg) := fun _ _ h => nomatch h
theorem announceRx (t : Nat) (g : Nat) (way : PtpWay) (msg : List Byte) : Statement (.announceRx t g way msg) := fun _ _ h => nomatch h
theorem pdelayReqRx (t : Nat) (g : Nat) (l2 : Bool) (msg : List Byte) : Statement (.pdelayReqRx t g l2 msg) := fun _ _ h => nomatch h
theorem pdelayRespRx (t : Nat) (g : Nat) (l2 : Bool) (msg : List Byte) : Statement (.pdelayRespRx t g l2 msg) := fun _ _ h => nomatch h
theorem pdelayRespFollowUpRx (t : Nat) (g : Nat) (l2 : Bool) (msg : List Byte) : Statement (.pdelayRespFollowUpRx t g l2 msg) := fun _ _ h => nomatch h
theorem delayReqPtpSend (t : Nat) (k : Nat) : Statement (.delayReqPtpSend t k) := fun _ _ h => nomatch h
theorem syncTimeout (t : Nat) (k : Nat) : Statement (.syncTimeout t k) := fun _ _ h => nomatch h
theorem announceTimeout (t : Nat) (k : Nat) : Statement (.announceTimeout t k) := fun _ _ h => nomatch h
theorem switchHoldExpired (t : Nat) : Statement (.switchHoldExpired t) := fun _ _ h => nomatch h
theorem ptpEnableWrite (t : Nat) (m : Master) (v : Int) : Statement (.ptpEnableWrite t m v) := fun h _ e => Option.some.inj e ▸ h
theorem ppsOutSecond (t : Nat) : Statement (.ppsOutSecond t) := fun _ _ h => nomatch h
theorem ppsInEdge (t : Nat) : Statement (.ppsInEdge t) := fun _ _ h => nomatch h
theorem fdpRead (t : Nat) (k idx sub : Nat) : Statement (.fdpRead t k idx sub) := fun _ _ h => nomatch h
theorem fdpWrite (t : Nat) (k idx sub ty : Nat) (value : List Byte) : Statement (.fdpWrite t k idx sub ty value) := fun _ _ h => nomatch h
theorem fdpReadSeg (t : Nat) (k idx sub off count : Nat) : Statement (.fdpReadSeg t k idx sub off count) := fun _ _ h => nomatch h
theorem fdpWriteSeg (t : Nat) (k idx sub off : Nat) (data : List Byte) : Statement (.fdpWriteSeg t k idx sub off data) := fun _ _ h => nomatch h
theorem fdpDescribe (t : Nat) (k idx sub : Nat) : Statement (.fdpDescribe t k idx sub) := fun _ _ h => nomatch h
theorem fdpOpen (t : Nat) (g peer role : Nat) (nonce : List Byte) : Statement (.fdpOpen t g peer role nonce) := fun _ _ h => nomatch h
theorem fdpClose (t : Nat) (k : Nat) : Statement (.fdpClose t k) := fun _ _ h => nomatch h
theorem fdpKeepalive (t : Nat) (k : Nat) : Statement (.fdpKeepalive t k) := fun _ _ h => nomatch h
theorem fdpStreamOpen (t : Nat) (k n ip port : Nat) : Statement (.fdpStreamOpen t k n ip port) := fun _ _ h => nomatch h
theorem fdpStreamClose (t : Nat) (k n : Nat) : Statement (.fdpStreamClose t k n) := fun _ _ h => nomatch h
theorem fdpRequest (t : Nat) (g peer : Nat) (dgram : List Byte) : Statement (.fdpRequest t g peer dgram) := fun _ _ h => nomatch h
theorem sessionTimeout (t : Nat) (k : Nat) : Statement (.sessionTimeout t k) := fun _ _ h => nomatch h
theorem unitCmdOff (t : Nat) (m : Master) (u : Nat) : Statement (.unitCmdOff t m u) := fun h _ e => Option.some.inj e ▸ (and_true_left h)
theorem unitCmdInService (t : Nat) (m : Master) (u : Nat) : Statement (.unitCmdInService t m u) := fun h _ e => Option.some.inj e ▸ (and_true_left h)
theorem unitCmdShadow (t : Nat) (m : Master) (u : Nat) : Statement (.unitCmdShadow t m u) := fun h _ e => Option.some.inj e ▸ (and_true_left h)
theorem unitCmdTest (t : Nat) (m : Master) (u : Nat) : Statement (.unitCmdTest t m u) := fun h _ e => Option.some.inj e ▸ (and_true_left h)
theorem unitCmdBypass (t : Nat) (m : Master) (u : Nat) : Statement (.unitCmdBypass t m u) := fun h _ e => Option.some.inj e ▸ (and_true_left h)
theorem unitCmdReset (t : Nat) (m : Master) (u : Nat) : Statement (.unitCmdReset t m u) := fun h _ e => Option.some.inj e ▸ (and_true_left h)
theorem unitCmdCancel (t : Nat) (m : Master) (u : Nat) : Statement (.unitCmdCancel t m u) := fun h _ e => Option.some.inj e ▸ (and_true_left h)
theorem unitStateTakesEffect (t : Nat) (u : Nat) : Statement (.unitStateTakesEffect t u) := fun _ _ h => nomatch h
theorem ovlStore (t : Nat) (m : Master) (k : Nat) (v : Int) : Statement (.ovlStore t m k v) := fun h _ e => Option.some.inj e ▸ (and_true_left h)
theorem ovlActivate (t : Nat) (m : Master) (k : Nat) : Statement (.ovlActivate t m k) := fun h _ e => Option.some.inj e ▸ (and_true_left h)
theorem ovlDeactivate (t : Nat) (m : Master) (k : Nat) : Statement (.ovlDeactivate t m k) := fun h _ e => Option.some.inj e ▸ (and_true_left h)
theorem ovlCancel (t : Nat) (m : Master) (k : Nat) : Statement (.ovlCancel t m k) := fun h _ e => Option.some.inj e ▸ (and_true_left h)
theorem ovlBoundaryReached (t : Nat) (k u : Nat) : Statement (.ovlBoundaryReached t k u) := fun _ _ h => nomatch h
theorem configSave (t : Nat) (m : Master) (v : Int) : Statement (.configSave t m v) := fun h _ e => Option.some.inj e ▸ h
theorem configSaveDone (t : Nat) : Statement (.configSaveDone t) := fun _ _ h => nomatch h
theorem snapshotLatch (t : Nat) (m : Master) (idx : Nat) : Statement (.snapshotLatch t m idx) := fun h _ e => Option.some.inj e ▸ h
theorem apertureOffsetWrite (t : Nat) (m : Master) (idx sub off : Nat) : Statement (.apertureOffsetWrite t m idx sub off) := fun h _ e => Option.some.inj e ▸ h
theorem aperturePortRead (t : Nat) (m : Master) (idx sub : Nat) : Statement (.aperturePortRead t m idx sub) := fun h _ e => Option.some.inj e ▸ h
theorem aperturePortWrite (t : Nat) (m : Master) (idx sub v : Nat) : Statement (.aperturePortWrite t m idx sub v) := fun h _ e => Option.some.inj e ▸ h
theorem objectWrite (t : Nat) (m : Master) (idx sub ty : Nat) (v : Int) (data : List Byte) : Statement (.objectWrite t m idx sub ty v data) := fun h _ e => Option.some.inj e ▸ h
theorem intClaim (t : Nat) (m : Master) (c : Nat) : Statement (.intClaim t m c) := fun h _ e => Option.some.inj e ▸ (and_true_left h)
theorem intComplete (t : Nat) (m : Master) (c : Nat) (v : Int) : Statement (.intComplete t m c v) := fun h _ e => Option.some.inj e ▸ (and_true_left h)
theorem mbSend (t : Nat) (m : Master) (b : Nat) (v : Int) : Statement (.mbSend t m b v) := fun h _ e => Option.some.inj e ▸ (and_true_left h)
theorem mbRecv (t : Nat) (m : Master) (b : Nat) : Statement (.mbRecv t m b) := fun h _ e => Option.some.inj e ▸ (and_true_left h)
theorem dbRing (t : Nat) (m : Master) (v : Int) : Statement (.dbRing t m v) := fun h _ e => Option.some.inj e ▸ h
theorem dbClear (t : Nat) (m : Master) (v : Int) : Statement (.dbClear t m v) := fun h _ e => Option.some.inj e ▸ h
theorem lockAcquire (t : Nat) (m : Master) (n : Nat) : Statement (.lockAcquire t m n) := fun h _ e => Option.some.inj e ▸ (and_true_left h)
theorem lockFree (t : Nat) (m : Master) (n : Nat) (v : Int) : Statement (.lockFree t m n v) := fun h _ e => Option.some.inj e ▸ (and_true_left h)
theorem lockBreak (t : Nat) (m : Master) (v : Int) : Statement (.lockBreak t m v) := fun h _ e => Option.some.inj e ▸ h
theorem metFilterAccept (t : Nat) : Statement (.metFilterAccept t) := fun _ _ h => nomatch h
theorem metPulseEnd (t : Nat) : Statement (.metPulseEnd t) := fun _ _ h => nomatch h
theorem rollEnd (t : Nat) (m : Master) (v : Int) : Statement (.rollEnd t m v) := fun h _ e => Option.some.inj e ▸ h
theorem metParamWrite (t : Nat) (m : Master) (sub : Nat) (v : Int) (data : List Byte) : Statement (.metParamWrite t m sub v data) := fun h _ e => Option.some.inj e ▸ (and_true_left h)
theorem approve (t : Nat) (m : Master) (v : Int) : Statement (.approve t m v) := fun h _ e => Option.some.inj e ▸ h
theorem metRestart (t : Nat) (m : Master) (v : Int) : Statement (.metRestart t m v) := fun h _ e => Option.some.inj e ▸ h
theorem rtcSet (t : Nat) (m : Master) (v : Int) : Statement (.rtcSet t m v) := fun h _ e => Option.some.inj e ▸ h
theorem totalizerSlotWrite (t : Nat) : Statement (.totalizerSlotWrite t) := fun _ _ h => nomatch h
theorem metMessageSend (t : Nat) : Statement (.metMessageSend t) := fun _ _ h => nomatch h
theorem sealChange (t : Nat) (level : Bool) : Statement (.sealChange t level) := fun _ _ h => nomatch h
theorem vddMetWarning (t : Nat) : Statement (.vddMetWarning t) := fun _ _ h => nomatch h
theorem vddMetPowerOn (t : Nat) (image version : List Byte) (badSlots : List Nat) : Statement (.vddMetPowerOn t image version badSlots) := fun _ _ h => nomatch h
theorem metWatchdog (t : Nat) : Statement (.metWatchdog t) := fun _ _ h => nomatch h
theorem monSample (t : Nat) (k : Nat) (xs : List Int) : Statement (.monSample t k xs) := fun _ _ h => nomatch h
theorem monWindowEnd (t : Nat) (k : Nat) : Statement (.monWindowEnd t k) := fun _ _ h => nomatch h
theorem monPublishWrite (t : Nat) (m : Master) (k : Nat) (v : Int) : Statement (.monPublishWrite t m k v) := fun h _ e => Option.some.inj e ▸ (and_true_left h)
theorem testFeed (t : Nat) (m : Master) (k : Nat) (v : Int) : Statement (.testFeed t m k v) := fun h _ e => Option.some.inj e ▸ (and_true_left h)
theorem tempRead (t : Nat) (temps : List Int) : Statement (.tempRead t temps) := fun _ _ h => nomatch h
theorem rotStepStart (t : Nat) (pace : Nat) : Statement (.rotStepStart t pace) := fun _ _ h => nomatch h
theorem rotCmdStart (t : Nat) (m : Master) : Statement (.rotCmdStart t m) := fun h _ e => Option.some.inj e ▸ h
theorem rotCmdAbort (t : Nat) (m : Master) : Statement (.rotCmdAbort t m) := fun h _ e => Option.some.inj e ▸ h
theorem bistDone (t : Nat) (k : Nat) (pass : Bool) : Statement (.bistDone t k pass) := fun _ _ h => nomatch h
theorem govPeriod (t : Nat) (paces : List (Nat × Nat)) (mv : Nat) (reached : Bool) : Statement (.govPeriod t paces mv reached) := fun _ _ h => nomatch h
theorem avsTransactionDone (t : Nat) (ok : Bool) : Statement (.avsTransactionDone t ok) := fun _ _ h => nomatch h
theorem powerOnReset (t : Nat) (ready : Bool) (dev mode : Nat) (avs : Bool) : Statement (.powerOnReset t ready dev mode avs) := fun _ _ h => nomatch h
theorem resetNLow (t : Nat) : Statement (.resetNLow t) := fun _ _ h => nomatch h
theorem brownout (t : Nat) : Statement (.brownout t) := fun _ _ h => nomatch h
theorem clockLoss (t : Nat) : Statement (.clockLoss t) := fun _ _ h => nomatch h
theorem warmReset (t : Nat) (m : Master) (v : Int) : Statement (.warmReset t m v) := fun h _ e => Option.some.inj e ▸ h
theorem fwWatchdog (t : Nat) : Statement (.fwWatchdog t) := fun _ _ h => nomatch h
theorem thermalTrip (t : Nat) : Statement (.thermalTrip t) := fun _ _ h => nomatch h
theorem recoveryAnnounce (t : Nat) : Statement (.recoveryAnnounce t) := fun _ _ h => nomatch h
theorem recoveryData (t : Nat) (g : Nat) (frame : List Byte) : Statement (.recoveryData t g frame) := fun _ _ h => nomatch h
theorem recoveryGo (t : Nat) (g : Nat) (frame : List Byte) : Statement (.recoveryGo t g frame) := fun _ _ h => nomatch h
theorem inspectKick (t : Nat) (m : Master) (v : Int) : Statement (.inspectKick t m v) := fun h _ e => Option.some.inj e ▸ h
theorem inspectWdogTimeWrite (t : Nat) (m : Master) (v : Int) : Statement (.inspectWdogTimeWrite t m v) := fun h _ e => Option.some.inj e ▸ h
theorem inspectWdogExpired (t : Nat) : Statement (.inspectWdogExpired t) := fun _ _ h => nomatch h
theorem laneMapRequestRx (t : Nat) (l : Nat) (blk : List Byte) : Statement (.laneMapRequestRx t l blk) := fun _ _ h => nomatch h
theorem alignmentBlockSend (t : Nat) (g : Nat) : Statement (.alignmentBlockSend t g) := fun _ _ h => nomatch h
theorem linkUp (t : Nat) (g speed : Nat) : Statement (.linkUp t g speed) := fun _ _ h => nomatch h
theorem linkDown (t : Nat) (g : Nat) : Statement (.linkDown t g) := fun _ _ h => nomatch h
theorem metEncPinChange (t : Nat) (pin : EncPin) (level : Bool) : Statement (.metEncPinChange t pin level) := fun _ _ h => nomatch h
theorem coldResetRelease (t : Nat) (dev mode : Nat) (avs : Bool) : Statement (.coldResetRelease t dev mode avs) := fun _ _ h => nomatch h
theorem bootMetCheck (t : Nat) (report : Bool) (slotA slotB : List Byte) : Statement (.bootMetCheck t report slotA slotB) := fun _ _ h => nomatch h
theorem vddMetWarningEnd (t : Nat) : Statement (.vddMetWarningEnd t) := fun _ _ h => nomatch h

end Sys2Proof.Laws.OperandsInRange
end

