-- ==== Sys2Proof/Laws/Write.lean ====
section
/-! SUPPORT. What a command that ends normally comes to: events and accepted writes as one equation each. -/

namespace Sys2Proof.Machine

/-- A write that the dictionary lets through does what its own rules say. -/
theorem accepts_asWrite (d : Dev) (m : Master) (idx sub : Nat) (v : Int) (f : Dev → Dev)
    (h : d.accepts m idx sub v = true) : d.asWrite m idx sub v f = f d := by
  unfold Dev.accepts at h
  unfold Dev.asWrite
  cases hr : objInfo idx sub with
  | none => rw [hr] at h; cases h
  | some r =>
    rw [hr] at h
    simp only [Bool.and_eq_true, Bool.not_eq_true'] at h
    obtain ⟨⟨⟨h1, h2⟩, h3⟩, h4⟩ := h
    simp [h1, h2, h3, h4]

/-- A master that may make a write may make it for an object whose rules take no number (`asWriter`). -/
theorem accepts_asWriter (d : Dev) (m : Master) (idx sub : Nat) (v : Int) (f : Dev → Dev)
    (h : d.accepts m idx sub v = true) : d.asWriter m idx sub f = f d := by
  unfold Dev.accepts at h
  unfold Dev.asWriter objWr
  cases hr : objInfo idx sub with
  | none => rw [hr] at h; cases h
  | some r =>
    rw [hr] at h
    simp only [Bool.and_eq_true, Bool.not_eq_true'] at h
    obtain ⟨⟨_, h3⟩, _⟩ := h
    simp [h3]

@[simp] theorem accepts_begun (d : Dev) (m : Master) (i k : Nat) (v : Int) : (begun d).accepts m i k v = d.accepts m i k v := rfl

/-- Two conditions of a command that both hold. -/
theorem ok2 {a b : Bool} (h1 : a = true) (h2 : b = true) : (a && b) = true := by rw [h1, h2]; rfl

/-- A refused write asks nothing of the time unit. -/
theorem reject_tuOps (d : Dev) (m : Master) (i : Nat) : (d.reject m i).tuOps = d.tuOps := by unfold Dev.reject; split <;> rfl

/-- A command of the main domain that asks nothing of the time unit. -/
theorem main_moved {ok : Bool} {t : Nat} {s : State} {f : Env → Dev → Dev} {d : Dev} (hk : ok = true) (ha : Awake s)
    (hd : f (envOf t s) (begun s.d) = d) (hq : d.tuOps = []) : mainStep ok t s f = .next (s.moved t d) := by
  subst hk hd
  exact mainStep_quiet t s f ha hq

/-- An accepted write of the main domain that asks nothing of the time unit. -/
theorem write_moved {ok : Bool} {t : Nat} {s : State} {m : Master} {i k : Nat} {v : Int} {g : Env → Dev → Dev} {d : Dev}
    (hk : ok = true) (ha : Awake s) (hw : s.d.accepts m i k v = true) (hd : g (envOf t s) (begun s.d) = d)
    (hq : d.tuOps = []) : mainStep ok t s (fun e d => d.asWrite m i k v (g e)) = .next (s.moved t d) :=
  main_moved hk ha ((accepts_asWrite (begun s.d) m i k v _ hw).trans hd) hq

/-- A command of the main domain, whatever it asks of the time unit. -/
theorem main_settled {ok : Bool} {t : Nat} {s : State} {f : Env → Dev → Dev} {d : Dev} (hk : ok = true) (ha : Awake s)
    (hd : f (envOf t s) (begun s.d) = d) : mainStep ok t s f = .next (settled tcJudgeAll t s d) := by
  subst hk hd; rw [mainStep_next, runMain_awake _ _ _ _ ha]

/-- An accepted write of the main domain, whatever it asks of the time unit. -/
theorem write_settled {ok : Bool} {t : Nat} {s : State} {m : Master} {i k : Nat} {v : Int} {g : Env → Dev → Dev} {d : Dev}
    (hk : ok = true) (ha : Awake s) (hw : s.d.accepts m i k v = true) (hd : g (envOf t s) (begun s.d) = d) :
    mainStep ok t s (fun e d => d.asWrite m i k v (g e)) = .next (settled tcJudgeAll t s d) :=
  main_settled hk ha ((accepts_asWrite (begun s.d) m i k v _ hw).trans hd)

/-- What every step of a fold over the main domain leaves alone, the fold leaves alone. -/
theorem foldl_keeps {α β : Type} (g : Dev → β) (f : Dev → α → Dev) (h : ∀ d a, g (f d a) = g d) (l : List α) (d : Dev) :
    g (l.foldl f d) = g d := by
  induction l generalizing d with
  | nil => rfl
  | cons a l ih => rw [List.foldl_cons, ih, h]

/-- A command that has asked nothing of the time unit leaves no request. -/
theorem dev_eta (d : Dev) (h : d.tuOps = []) : { d with tuOps := [] } = d := by rw [← h]

/-- What the time unit makes of one request of a command whose effect steps no applied time: stamps of instants still to come
follow parameters that it changes. -/
theorem settled_asked (a : Env → Dev → Dev) (t : Nat) (s : State) (d : Dev) (op : TuOp) (h : d.tuOps = [op])
    (hs : (TuOp.apply (edge16 (rawAt t s)) s.tu op).par.applied (edge16 (rawAt t s)) =
      s.tu.par.applied (edge16 (rawAt t s))) :
    let tu := TuOp.apply (edge16 (rawAt t s)) s.tu op
    let quiet : Dev := { d with tuOps := [] }
    let stamped : Dev := if tu.par = s.tu.par then quiet else restamp tu (edge16 (rawAt t s)) quiet
    settled a t s d = { s with now := max s.now t, tu := tu, d := { stamped with tuOps := [] } } := by
  unfold settled tuOf
  simp only [h, List.foldl_cons, List.foldl_nil, envOf]
  rw [hs]
  simp only [bne_self_eq_false, Bool.false_eq_true, if_false, instant]

end Sys2Proof.Machine
end

