-- ==== Sys2Proof/Tests/Slice0.lean ====
section
/-! SUPPORT. Tests of the model: an ill-formed command for each check; and for every statement with hypotheses, named after it and
its conjunct, concrete states and operands that meet the hypotheses of each of its clauses together. -/

open Sys2Proof Sys2Proof.Machine

namespace Sys2Proof.Tests

set_option Elab.async false

/-- A core of the main domain in the secure state. -/
def C : Master := .core 0 true
/-- The machine at reset, ten seconds of raw time on. -/
def S : State := { State.reset with now := 10000000000 }
/-- A port with the given camera state. -/
def P (s : State) (n : Nat) (x : PortT) : State := { s with d := s.d.setPt n x }
/-- A unit in the given state. -/
def U (s : State) (u : Nat) (x : UState) : State := { s with d := s.d.setUnit u { state := x } }
/-- A group of lanes with the given link. -/
def LK (s : State) (p : Nat) (x : PortLanes) : State := { s with d := s.d.setPort p x }
/-- A number in the object store. -/
def O (s : State) (i k : Nat) (v : Int) : State := { s with d := s.d.put i k v }
/-- Bytes in the object store. -/
def OB (s : State) (i k : Nat) (v : List Byte) : State := { s with d := s.d.putB i k v }
/-- A change of the main domain. -/
def D (s : State) (f : Dev → Dev) : State := { s with d := f s.d }
/-- The state that a command answers. -/
def nextOf (o : Host.Outcome State Fault Refusal) : State := match o with | .next s => s | _ => State.reset

/-- An ill-formed command for each check. -/
theorem test_ill_formed :
    wellFormed (.offsetWrite 0 (.core 8 true) 0) = false ∧ wellFormed (.offsetWrite 0 (.fdp 16) 0) = false ∧
    wellFormed (.tcFire 0 32) = false ∧ wellFormed (.ttoPulseEnd 0 8) = false ∧ wellFormed (.encPinChange 0 4 .a true) = false ∧
    wellFormed (.cmpFire 0 64) = false ∧ wellFormed (.trgPulseEnd 0 16) = false ∧ wellFormed (.blockLockAcquired 0 144) = false ∧
    wellFormed (.mapNoAck 0 20) = false ∧ wellFormed (.chainSample 0 32) = false ∧ wellFormed (.rowFire 0 8) = false ∧
    wellFormed (.eventOffer 0 256 0) = false ∧ wellFormed (.delayRefGrant 0 64) = false ∧ wellFormed (.taskActionEnd 0 0x46) = false ∧
    wellFormed (.delayReqPtpSend 0 2) = false ∧ wellFormed (.unitCmdOff 0 C 0x35) = false ∧ wellFormed (.ovlActivate 0 C 0) = false ∧
    wellFormed (.fdpRead 0 16 0 0) = false ∧ wellFormed (.intClaim 0 C 8) = false ∧ wellFormed (.mbSend 0 C 32 0) = false ∧
    wellFormed (.lockAcquire 0 C 128) = false ∧ wellFormed (.memRequestAccept 0 24 0 0 ⟨none, false⟩) = false ∧ wellFormed (.memReadDone 0 0 0 0 96 0) = false ∧
    wellFormed (.bistDone 0 17 true) = false ∧ wellFormed (.frameRx 0 2 true []) = false ∧ wellFormed (.metParamWrite 0 C 0 0 []) = false ∧
    wellFormed (.exportRx 0 2 []) = false ∧ wellFormed (.tapArm 0 C 0 5 1) = false ∧ wellFormed (.bankCrcUpdate 0 0 3 2) = false := by
  decide

namespace WGen
/-- A state in HELD with a slew running and an earlier parameter set kept. -/
def heldSlew : State := { S with
  tu := { S.tu with state := .held, par := { S.tu.par with slew := some { total := 5, start := 9, limit := 1000 } }, past := [(9, S.tu.par)] } }
/-- A state with a master reset held, and one that differs from `S` in the main domain alone. -/
def asleep : State := D S fun d => { d with pow := { d.pow with heldBy := some 0 } }
def other : State := { O S 0x1340 3 77 with tu := heldSlew.tu }

theorem test_StepRunsFront_1 : S.pending = [] := rfl

theorem test_WellFormedCompletes : wellFormed (.tcFire 0 31) = true ∧ wellFormed (.tcFire 0 32) = false := by decide

theorem test_TimeSoundKept_0 : heldSlew.d.tuOps = [] ∧ TimeSound heldSlew ∧ ∃ s', step heldSlew = .next s' := by
  refine ⟨rfl, ⟨by decide, ⟨by decide, ?_⟩, ?_⟩, _, rfl⟩
  · intro x h; cases h; decide
  · intro q h; cases h with
    | head => exact ⟨by decide, by decide, fun x h => by cases h⟩
    | tail _ h => cases h

theorem test_RawCounterRestartsOnlyAtResets_0 :
    (∃ s', exec (.declareValid 7 C 1) heldSlew = .next s') ∧ restarts (.declareValid 7 C 1) = false ∧ heldSlew.tu.state ≠ .free ∧
    (∃ s', exec (.powerOnReset 7 true 0 0 true) heldSlew = .next s') ∧ restarts (.powerOnReset 7 true 0 0 true) = true ∧
    (∃ s', exec (.fwWatchdog 7) heldSlew = .next s') ∧ (∃ s', exec (.thermalTrip 7) heldSlew = .next s') :=
  ⟨⟨_, rfl⟩, rfl, by decide, ⟨_, rfl⟩, rfl, ⟨_, rfl⟩, ⟨_, rfl⟩⟩

theorem test_SealedDomainKeepsItsBounds : MetSound S.met ∧ (∃ s', step { S with pending := [.metEncPinChange 7 .a true] } = .next s') ∧
    (∀ t image version bad, Instr.metEncPinChange 7 .a true ≠ .vddMetPowerOn t image version bad) ∧ ∃ s', exec (.metEncPinChange 7 .a true) S = .next s' :=
  ⟨⟨by decide, by decide, by decide, by decide, by decide, by decide, by decide, fun k h => by cases h⟩, ⟨_, rfl⟩,
    fun _ _ _ _ h => (by cases h), _, rfl⟩

theorem test_MainDomainNeverReachesSealed_0 : touchesSealed (.fwWatchdog 7) = false ∧ ∃ s', exec (.fwWatchdog 7) S = .next s' :=
  ⟨rfl, _, rfl⟩

theorem test_SealedDomainSeesOnlyItsPins_0 : touchesSealed (.metEncPinChange 7 .a true) = true ∧ sleepless (.metEncPinChange 7 .a true) = true ∧ (∀ t, Instr.metEncPinChange 7 .a true ≠ .metMessageSend t) ∧
    S.met = other.met ∧ S.now = other.now ∧ S.d ≠ other.d :=
  ⟨rfl, rfl, fun _ h => (by cases h), rfl, rfl, by decide +kernel⟩

theorem test_HeldResetStopsMainDomain_0 : ¬ Awake asleep ∧ sleepless (.declareValid 7 C 1) = false ∧
    wellFormed (.declareValid 7 C 1) = true ∧ Between asleep :=
  ⟨fun h => (by cases h), rfl, by decide, by decide, by decide, by decide⟩
end WGen

namespace W02
def held : State := { S with tu := { S.tu with state := .held } }
def slew (n : Nat) : State := { held with tu := { held.tu with par := { held.tu.par with slew := some { total := 5, start := 0, limit := n } } } }
def tc (f : State → State) : State := f (O (O (O (O S 0x1313 1 99) 0x1313 2 1000) 0x1313 3 5) 0x1313 5 160)
def pin : PinFilter := {lvl := true, acc := false, primed := true, since := 5}
def cm : State := O (O (O S 0x3500 1 2) 0x3543 3 1000) 0x3543 1 0

def st7 : State := (slew 1000)
def st11 : State := (slew 1000)
def st13 : State := (slew 1000)
def st15 : State := (O S 0x1313 5 10)
def st16 : State := (O (tc id) 0x1313 1 10000000001)
def st17 : State := (tc id)
def st18 : State := (O (tc id) 0x1313 2 0)
def st19 : State := (O (tc id) 0x1313 3 0)
def st20 : State := (tc id)
def st21 : State := (tc id)
def st22 : State := (D (tc id) fun d => d.setTc 3 {armed := true, target := 10000000000, period := 1000, left := some 1})
def st23 : State := (D (O (tc id) 0x1313 4 16) fun d => d.setTc 3 {armed := true, target := 9999990000, period := 1000, left := none, late := true})
def st24 : State := (D (O (tc id) 0x1313 2 0) fun d => d.setTc 3 {armed := true, target := 10000000000, period := 1000, left := none, shPeriod := true})
def st26 : State := (O (O (D S fun d => {d with tto := [(5,10000000000)]}) 0x1330 6 3) 0x1313 4 8)
def st34 : State := (D S fun d => d.setEnc 0 {reverse := true})
def st36 : State := (D (O (O S 0x3500 1 2) 0x3500 3 4) fun d => d.setEnc 0 {pinA := pin, pinB := {primed := true}, pinZ := {primed := true}})
def st37 : State := (D (O S 0x3500 1 2) fun d => d.setEnc 0 {standstill := false})
def st41 : State := (O cm 0x3543 2 65536000)
def st43 : State := (D cm fun d => d.setCmp 3 {armed := true, target := 0, period := 65536000000, left := some 5})
def st45 : State := (D S fun d => d.setTrig 3 {pulseEnd := some 99})

theorem test_TimeUnitCommandsTakeEffect_0 :
    (masterOk C = true ∧ S.d.pow.heldBy = none ∧ S.d.accepts C 4864 3 (-5 : ℤ) = true ∧ S.tu.state = TimeState.free ∧ 0 < 256 ∧ (¬(4880 ≤ 0 ∧ 0 < 4912 ∧ (0 = 6 ∨ 0 = 8))) ∧ (¬(13696 ≤ 0 ∧ 0 < 13712 ∧ 0 = 8)) ∧ (0, 0) ≠ (5381, 2)) := by decide +kernel

theorem test_TimeUnitCommandsTakeEffect_1 :
    (masterOk C = true ∧ st7.d.pow.heldBy = none ∧ st7.d.accepts C 4864 3 (-5 : ℤ) = true ∧ st7.tu.state = TimeState.held) := by decide +kernel

theorem test_TimeUnitCommandsTakeEffect_2 :
    (masterOk C = true ∧ S.d.pow.heldBy = none ∧ S.d.accepts C 4864 4 (5 : ℤ) = true ∧ (S.tu.state = TimeState.free ∨ S.tu.state = TimeState.held)) := by decide +kernel

theorem test_TimeUnitCommandsTakeEffect_3 :
    (masterOk C = true ∧ S.d.pow.heldBy = none ∧ S.d.accepts C 4864 7 (1 : ℤ) = true) := by decide +kernel

theorem test_TimeUnitCommandsTakeEffect_4 :
    (masterOk C = true ∧ st11.d.pow.heldBy = none ∧ st11.d.accepts C 4864 8 (1000 : ℤ) = true) := by decide +kernel

theorem test_TimeUnitCommandsTakeEffect_5 :
    (masterOk C = true ∧ S.d.pow.heldBy = none ∧ S.d.accepts C 4864 10 (9 : ℤ) = true ∧ S.tu.state = TimeState.free) := by decide +kernel

theorem test_TimeUnitCommandsTakeEffect_6 :
    (st13.d.pow.heldBy = none ∧ st13.tu.par.slew = some { total := (5 : ℤ), start := 0, limit := 1000 : Slew } ∧ { total := (5 : ℤ), start := 0, limit := 1000 : Slew }.total.natAbs ≤ { total := (5 : ℤ), start := 0, limit := 1000 : Slew }.limit * (edge16 (rawAt 7 st13) - { total := (5 : ℤ), start := 0, limit := 1000 : Slew }.start) / 1000000000) := by decide +kernel

theorem test_TimeCompareUnitsFollowTheirRules_0 :
    (masterOk C = true ∧ okTc 3 = true ∧ st15.d.pow.heldBy = none ∧ st15.d.accepts C (4880 + 3) 4 ((1 : Nat) : Int) = true ∧ tabFind st15.d.inForce (okey (4880 + 3) 4) = none ∧ bit 1 0 = true ∧ bit 1 1 = false ∧ (¬((st15.d.gn (4880 + 3) 2 = 0 ∨ 320 ≤ st15.d.gn (4880 + 3) 2 ∧ st15.d.gn (4880 + 3) 5 < st15.d.gn (4880 + 3) 2) ∧ 160 ≤ st15.d.gn (4880 + 3) 5 ∧ field 1 5 4 ≠ 3))) ∧
    (masterOk C = true ∧ okTc 3 = true ∧ st16.d.pow.heldBy = none ∧ st16.d.accepts C (4880 + 3) 4 ((1 : Nat) : Int) = true ∧ tabFind st16.d.inForce (okey (4880 + 3) 4) = none ∧ bit 1 0 = true ∧ bit 1 1 = false ∧ ((st16.d.gn (4880 + 3) 2 = 0 ∨ 320 ≤ st16.d.gn (4880 + 3) 2 ∧ st16.d.gn (4880 + 3) 5 < st16.d.gn (4880 + 3) 2) ∧ 160 ≤ st16.d.gn (4880 + 3) 5 ∧ field 1 5 4 ≠ 3) ∧ tcReached (st16.applied 7) (st16.d.gn (4880 + 3) 1) = false) ∧
    (masterOk C = true ∧ okTc 3 = true ∧ st17.d.pow.heldBy = none ∧ st17.d.accepts C (4880 + 3) 4 ((17 : Nat) : Int) = true ∧ tabFind st17.d.inForce (okey (4880 + 3) 4) = none ∧ bit 17 0 = true ∧ bit 17 1 = false ∧ ((st17.d.gn (4880 + 3) 2 = 0 ∨ 320 ≤ st17.d.gn (4880 + 3) 2 ∧ st17.d.gn (4880 + 3) 5 < st17.d.gn (4880 + 3) 2) ∧ 160 ≤ st17.d.gn (4880 + 3) 5 ∧ field 17 5 4 ≠ 3) ∧ tcReached (st17.applied 7) (st17.d.gn (4880 + 3) 1) = true ∧ field 17 5 4 = 1) ∧
    (masterOk C = true ∧ okTc 3 = true ∧ st18.d.pow.heldBy = none ∧ st18.d.accepts C (4880 + 3) 4 ((1 : Nat) : Int) = true ∧ tabFind st18.d.inForce (okey (4880 + 3) 4) = none ∧ bit 1 0 = true ∧ bit 1 1 = false ∧ ((st18.d.gn (4880 + 3) 2 = 0 ∨ 320 ≤ st18.d.gn (4880 + 3) 2 ∧ st18.d.gn (4880 + 3) 5 < st18.d.gn (4880 + 3) 2) ∧ 160 ≤ st18.d.gn (4880 + 3) 5 ∧ field 1 5 4 ≠ 3) ∧ tcReached (st18.applied 7) (st18.d.gn (4880 + 3) 1) = true ∧ field 1 5 4 ≠ 1 ∧ st18.d.gn (4880 + 3) 2 = 0) ∧
    (masterOk C = true ∧ okTc 3 = true ∧ st19.d.pow.heldBy = none ∧ st19.d.accepts C (4880 + 3) 4 ((1 : Nat) : Int) = true ∧ tabFind st19.d.inForce (okey (4880 + 3) 4) = none ∧ bit 1 0 = true ∧ bit 1 1 = false ∧ ((st19.d.gn (4880 + 3) 2 = 0 ∨ 320 ≤ st19.d.gn (4880 + 3) 2 ∧ st19.d.gn (4880 + 3) 5 < st19.d.gn (4880 + 3) 2) ∧ 160 ≤ st19.d.gn (4880 + 3) 5 ∧ field 1 5 4 ≠ 3) ∧ st19.d.gn (4880 + 3) 1 ≤ st19.applied 7 ∧ st19.applied 7 < 2 ^ 63 ∧ st19.d.gn (4880 + 3) 2 < 2 ^ 63 ∧ field 1 5 4 ≠ 1 ∧ st19.d.gn (4880 + 3) 2 ≠ 0 ∧ (st19.d.gn (4880 + 3) 3 = 0 ∨ (st19.applied 7 - st19.d.gn (4880 + 3) 1) / st19.d.gn (4880 + 3) 2 + 1 < st19.d.gn (4880 + 3) 3)) ∧
    (masterOk C = true ∧ okTc 3 = true ∧ st20.d.pow.heldBy = none ∧ st20.d.accepts C (4880 + 3) 4 ((1 : Nat) : Int) = true ∧ tabFind st20.d.inForce (okey (4880 + 3) 4) = none ∧ bit 1 0 = true ∧ bit 1 1 = false ∧ ((st20.d.gn (4880 + 3) 2 = 0 ∨ 320 ≤ st20.d.gn (4880 + 3) 2 ∧ st20.d.gn (4880 + 3) 5 < st20.d.gn (4880 + 3) 2) ∧ 160 ≤ st20.d.gn (4880 + 3) 5 ∧ field 1 5 4 ≠ 3) ∧ st20.d.gn (4880 + 3) 1 ≤ st20.applied 7 ∧ st20.applied 7 < 2 ^ 63 ∧ st20.d.gn (4880 + 3) 2 < 2 ^ 63 ∧ field 1 5 4 ≠ 1 ∧ st20.d.gn (4880 + 3) 2 ≠ 0 ∧ st20.d.gn (4880 + 3) 3 ≠ 0 ∧ st20.d.gn (4880 + 3) 3 ≤ (st20.applied 7 - st20.d.gn (4880 + 3) 1) / st20.d.gn (4880 + 3) 2 + 1) :=
  ⟨by decide +kernel, by decide +kernel, by decide +kernel, by decide +kernel, by decide +kernel, by decide +kernel⟩

theorem test_TimeCompareUnitsFollowTheirRules_1 :
    (masterOk C = true ∧ okTc 3 = true ∧ st21.d.pow.heldBy = none ∧ st21.d.accepts C (4880 + 3) 4 ((2 : Nat) : Int) = true ∧ bit 2 1 = true) := by decide +kernel

theorem test_TimeCompareUnitsFollowTheirRules_2 :
    (okTc 3 = true ∧ st22.d.pow.heldBy = none ∧ (st22.d.tc 3).armed = true ∧ tcReached (st22.applied 7) (st22.d.tc 3).target = true ∧ ((((st22.d.tc 3).late || (st22.d.tc 3).shTarget || (st22.d.tc 3).shPeriod) && (if (st22.d.tc 3).period = 0 then { st22.d.tc 3 with armed := false, late := false } else if (st22.d.tc 3).left = some 1 then { st22.d.tc 3 with armed := false, left := some 0, late := false } else { armed := true, target := if (st22.d.tc 3).shTarget = true then st22.d.gn (4880 + 3) 1 else wrapU 64 (↑(st22.d.tc 3).target + ↑(if (st22.d.tc 3).shPeriod = true then st22.d.gn (4880 + 3) 2 else (st22.d.tc 3).period)), period := if (st22.d.tc 3).shPeriod = true then st22.d.gn (4880 + 3) 2 else (st22.d.tc 3).period, left := if (st22.d.tc 3).shRepeat = true then if st22.d.gn (4880 + 3) 3 = 0 then none else some (st22.d.gn (4880 + 3) 3) else Option.map (fun (x : ℕ) => x - 1) (st22.d.tc 3).left : TcWork }).armed && tcReached (st22.applied 7) (if (st22.d.tc 3).period = 0 then { st22.d.tc 3 with armed := false, late := false } else if (st22.d.tc 3).left = some 1 then { st22.d.tc 3 with armed := false, left := some 0, late := false } else { armed := true, target := if (st22.d.tc 3).shTarget = true then st22.d.gn (4880 + 3) 1 else wrapU 64 (↑(st22.d.tc 3).target + ↑(if (st22.d.tc 3).shPeriod = true then st22.d.gn (4880 + 3) 2 else (st22.d.tc 3).period)), period := if (st22.d.tc 3).shPeriod = true then st22.d.gn (4880 + 3) 2 else (st22.d.tc 3).period, left := if (st22.d.tc 3).shRepeat = true then if st22.d.gn (4880 + 3) 3 = 0 then none else some (st22.d.gn (4880 + 3) 3) else Option.map (fun (x : ℕ) => x - 1) (st22.d.tc 3).left : TcWork }).target) = false)) ∧
    (okTc 3 = true ∧ st23.d.pow.heldBy = none ∧ (st23.d.tc 3).armed = true ∧ tcReached (st23.applied 7) (st23.d.tc 3).target = true ∧ ((((st23.d.tc 3).late || (st23.d.tc 3).shTarget || (st23.d.tc 3).shPeriod) && (if (st23.d.tc 3).period = 0 then { st23.d.tc 3 with armed := false, late := false } else if (st23.d.tc 3).left = some 1 then { st23.d.tc 3 with armed := false, left := some 0, late := false } else { armed := true, target := if (st23.d.tc 3).shTarget = true then st23.d.gn (4880 + 3) 1 else wrapU 64 (↑(st23.d.tc 3).target + ↑(if (st23.d.tc 3).shPeriod = true then st23.d.gn (4880 + 3) 2 else (st23.d.tc 3).period)), period := if (st23.d.tc 3).shPeriod = true then st23.d.gn (4880 + 3) 2 else (st23.d.tc 3).period, left := if (st23.d.tc 3).shRepeat = true then if st23.d.gn (4880 + 3) 3 = 0 then none else some (st23.d.gn (4880 + 3) 3) else Option.map (fun (x : ℕ) => x - 1) (st23.d.tc 3).left : TcWork }).armed && tcReached (st23.applied 7) (if (st23.d.tc 3).period = 0 then { st23.d.tc 3 with armed := false, late := false } else if (st23.d.tc 3).left = some 1 then { st23.d.tc 3 with armed := false, left := some 0, late := false } else { armed := true, target := if (st23.d.tc 3).shTarget = true then st23.d.gn (4880 + 3) 1 else wrapU 64 (↑(st23.d.tc 3).target + ↑(if (st23.d.tc 3).shPeriod = true then st23.d.gn (4880 + 3) 2 else (st23.d.tc 3).period)), period := if (st23.d.tc 3).shPeriod = true then st23.d.gn (4880 + 3) 2 else (st23.d.tc 3).period, left := if (st23.d.tc 3).shRepeat = true then if st23.d.gn (4880 + 3) 3 = 0 then none else some (st23.d.gn (4880 + 3) 3) else Option.map (fun (x : ℕ) => x - 1) (st23.d.tc 3).left : TcWork }).target) = true) ∧ field (st23.d.gn (4880 + 3) 4) 5 4 = 1) ∧
    (okTc 3 = true ∧ st24.d.pow.heldBy = none ∧ (st24.d.tc 3).armed = true ∧ tcReached (st24.applied 7) (st24.d.tc 3).target = true ∧ ((((st24.d.tc 3).late || (st24.d.tc 3).shTarget || (st24.d.tc 3).shPeriod) && (if (st24.d.tc 3).period = 0 then { st24.d.tc 3 with armed := false, late := false } else if (st24.d.tc 3).left = some 1 then { st24.d.tc 3 with armed := false, left := some 0, late := false } else { armed := true, target := if (st24.d.tc 3).shTarget = true then st24.d.gn (4880 + 3) 1 else wrapU 64 (↑(st24.d.tc 3).target + ↑(if (st24.d.tc 3).shPeriod = true then st24.d.gn (4880 + 3) 2 else (st24.d.tc 3).period)), period := if (st24.d.tc 3).shPeriod = true then st24.d.gn (4880 + 3) 2 else (st24.d.tc 3).period, left := if (st24.d.tc 3).shRepeat = true then if st24.d.gn (4880 + 3) 3 = 0 then none else some (st24.d.gn (4880 + 3) 3) else Option.map (fun (x : ℕ) => x - 1) (st24.d.tc 3).left : TcWork }).armed && tcReached (st24.applied 7) (if (st24.d.tc 3).period = 0 then { st24.d.tc 3 with armed := false, late := false } else if (st24.d.tc 3).left = some 1 then { st24.d.tc 3 with armed := false, left := some 0, late := false } else { armed := true, target := if (st24.d.tc 3).shTarget = true then st24.d.gn (4880 + 3) 1 else wrapU 64 (↑(st24.d.tc 3).target + ↑(if (st24.d.tc 3).shPeriod = true then st24.d.gn (4880 + 3) 2 else (st24.d.tc 3).period)), period := if (st24.d.tc 3).shPeriod = true then st24.d.gn (4880 + 3) 2 else (st24.d.tc 3).period, left := if (st24.d.tc 3).shRepeat = true then if st24.d.gn (4880 + 3) 3 = 0 then none else some (st24.d.gn (4880 + 3) 3) else Option.map (fun (x : ℕ) => x - 1) (st24.d.tc 3).left : TcWork }).target) = true) ∧ field (st24.d.gn (4880 + 3) 4) 5 4 ≠ 1 ∧ ((if (st24.d.tc 3).shPeriod = true then st24.d.gn (4880 + 3) 2 else (st24.d.tc 3).period) = 0)) :=
  ⟨by decide +kernel, by decide +kernel, by decide +kernel⟩

theorem test_TimeCompareUnitsFollowTheirRules_3 :
    (okTto 5 = true ∧ st26.d.pow.heldBy = none ∧ tabFind st26.d.tto 5 = some 10000000000 ∧ tcReached (st26.applied 7) 10000000000 = true) := by decide +kernel

theorem test_PositionInputWritesTakeEffect_0 :
    (masterOk C = true ∧ okEnc 0 = true ∧ S.d.pow.heldBy = none ∧ S.d.accepts C (13568 + 0) 1 (2 : ℤ) = true) := by decide +kernel

theorem test_PositionInputWritesTakeEffect_1 :
    (masterOk C = true ∧ okEnc 0 = true ∧ S.d.pow.heldBy = none ∧ S.d.accepts C (13568 + 0) 12 (1 : ℤ) = true) := by decide +kernel

theorem test_PositionInputWritesTakeEffect_2 :
    (masterOk C = true ∧ okEnc 0 = true ∧ S.d.pow.heldBy = none ∧ S.d.accepts C (13580 + 0) 1 (65536 : ℤ) = true ∧ (65536 : ℤ) % (65536 : ℤ) = (0 : ℤ)) ∧
    (masterOk C = true ∧ okEnc 0 = true ∧ S.d.pow.heldBy = none ∧ S.d.accepts C (13580 + 0) 1 (65537 : ℤ) = true ∧ (65537 : ℤ) % (65536 : ℤ) ≠ (0 : ℤ)) :=
  ⟨by decide +kernel, by decide +kernel⟩

theorem test_PositionInputWritesTakeEffect_3 :
    (masterOk C = true ∧ okEnc 0 = true ∧ S.d.pow.heldBy = none ∧ S.d.accepts C (13580 + 0) 2 (1 : ℤ) = true ∧ (S.d.enc 0).reverse = false ∧ S.d.accepts C (13580 + 0) 2 (2 : ℤ) = true) ∧
    (masterOk C = true ∧ okEnc 0 = true ∧ st34.d.pow.heldBy = none ∧ st34.d.accepts C (13580 + 0) 2 (1 : ℤ) = true ∧ (st34.d.enc 0).reverse = true ∧ st34.d.accepts C (13580 + 0) 2 (2 : ℤ) = true) :=
  ⟨by decide +kernel, by decide +kernel⟩

theorem test_PositionPinsCount_0 :
    (okEnc 0 = true ∧ S.d.pow.heldBy = none) := by decide +kernel

theorem test_PositionPinsCount_1 :
    (okEnc 0 = true ∧ st36.d.pow.heldBy = none ∧ st36.d.gn (13568 + 0) 1 = 2 ∧ st36.d.gn (13568 + 0) 3 = 4 ∧ (st36.d.enc 0).pinA.primed = true ∧ (st36.d.enc 0).setPend = none ∧ st36.d.lulls.stop = false ∧ st36.d.lulls.splice = none ∧ pinDue st36.d 0 (st36.d.enc 0) (st36.d.enc 0).pinA (rawAt 7 st36) = true ∧ pinDue st36.d 0 (st36.d.enc 0) (st36.d.enc 0).pinB (rawAt 7 st36) = false ∧ pinDue st36.d 0 (st36.d.enc 0) (st36.d.enc 0).pinZ (rawAt 7 st36) = false ∧ 1 ≠ 0) := by decide +kernel

theorem test_PositionPinsCount_2 :
    (okEnc 0 = true ∧ st37.d.pow.heldBy = none ∧ st37.d.gn (13568 + 0) 1 ≠ 0 ∧ (st37.d.enc 0).standstill = false ∧ max (st37.d.enc 0).lastClock (st37.d.enc 0).onSince + st37.d.gn (13568 + 0) 17 * 16000 ≤ rawAt 7 st37) := by decide +kernel

theorem test_CompareUnitsFollowTheirRules_0 :
    (masterOk C = true ∧ okCmp 3 = true ∧ cm.d.pow.heldBy = none ∧ cm.d.accepts C (13632 + 3) 5 ((129 : Nat) : Int) = true ∧ tabFind cm.d.inForce (okey (13632 + 3) 5) = none ∧ bit 129 0 = true ∧ bit 129 1 = false ∧ (field (cm.d.gn (13632 + 3) 5) 7 6 = 2 ∨ field 129 7 6 = 2)) ∧
    (masterOk C = true ∧ okCmp 3 = true ∧ S.d.pow.heldBy = none ∧ S.d.accepts C (13632 + 3) 5 ((1 : Nat) : Int) = true ∧ tabFind S.d.inForce (okey (13632 + 3) 5) = none ∧ bit 1 0 = true ∧ bit 1 1 = false ∧ field (S.d.gn (13632 + 3) 5) 7 6 ≠ 2 ∧ field 1 7 6 ≠ 2 ∧ (¬((if field 1 7 6 = 1 then 2 else field 1 5 4) ≠ 3 ∧ field 1 7 6 ≠ 3 ∧ S.d.gn (13568 + S.d.gn (13632 + 3) 1) 1 ≠ 0))) ∧
    (masterOk C = true ∧ okCmp 3 = true ∧ st41.d.pow.heldBy = none ∧ st41.d.accepts C (13632 + 3) 5 ((1 : Nat) : Int) = true ∧ tabFind st41.d.inForce (okey (13632 + 3) 5) = none ∧ bit 1 0 = true ∧ bit 1 1 = false ∧ field (st41.d.gn (13632 + 3) 5) 7 6 ≠ 2 ∧ field 1 7 6 ≠ 2 ∧ ((if field 1 7 6 = 1 then 2 else field 1 5 4) ≠ 3 ∧ field 1 7 6 ≠ 3 ∧ st41.d.gn (13568 + st41.d.gn (13632 + 3) 1) 1 ≠ 0) ∧ wrapI 64 (encEst (envOf 7 st41) (begun st41.d) (st41.d.gn (13632 + 3) 1) - st41.d.gi (13632 + 3) 2) < (0 : ℤ)) :=
  ⟨by decide +kernel, by decide +kernel, by decide +kernel⟩

theorem test_CompareUnitsFollowTheirRules_1 :
    (masterOk C = true ∧ okCmp 3 = true ∧ cm.d.pow.heldBy = none ∧ cm.d.accepts C (13632 + 3) 5 ((2 : Nat) : Int) = true ∧ bit 2 1 = true ∧ field (cm.d.gn (13632 + 3) 5) 7 6 ≠ 2 ∧ field 2 7 6 ≠ 2) := by decide +kernel

theorem test_CompareUnitsFollowTheirRules_2 :
    (okCmp 3 = true ∧ st43.d.pow.heldBy = none ∧ headOf st43.d 3 = none ∧ st43.d.ovls = [] ∧ (st43.d.cmp 3).armed = true ∧ (0 : ℤ) ≤ wrapI 64 (encEst (envOf 7 st43) (begun st43.d) (st43.d.gn (13632 + 3) 1) - (st43.d.cmp 3).target / (65536 : ℤ)) ∧ (st43.d.cmp 3).lastClk ≠ some (clk200 (rawAt 7 st43)) ∧ ((if (st43.d.cmp 3).period = 0 then { st43.d.cmp 3 with armed := false, late := false } else if (st43.d.cmp 3).left = some 1 then { st43.d.cmp 3 with armed := false, left := some 0, late := false } else { armed := true, target := if (st43.d.cmp 3).shTarget = true then st43.d.gi (13632 + 3) 2 * (65536 : ℤ) else (st43.d.cmp 3).target + ↑(if (st43.d.cmp 3).shPeriod = true then st43.d.gn (13632 + 3) 3 else (st43.d.cmp 3).period), period := if (st43.d.cmp 3).shPeriod = true then st43.d.gn (13632 + 3) 3 else (st43.d.cmp 3).period, left := if (st43.d.cmp 3).shRepeat = true then if st43.d.gn (13632 + 3) 4 = 0 then none else some (st43.d.gn (13632 + 3) 4) else Option.map (fun (x : ℕ) => x - 1) (st43.d.cmp 3).left : CmpWork }).armed = true → wrapI 64 (encEst (envOf 7 st43) (begun st43.d) (st43.d.gn (13632 + 3) 1) - (if (st43.d.cmp 3).period = 0 then { st43.d.cmp 3 with armed := false, late := false } else if (st43.d.cmp 3).left = some 1 then { st43.d.cmp 3 with armed := false, left := some 0, late := false } else { armed := true, target := if (st43.d.cmp 3).shTarget = true then st43.d.gi (13632 + 3) 2 * (65536 : ℤ) else (st43.d.cmp 3).target + ↑(if (st43.d.cmp 3).shPeriod = true then st43.d.gn (13632 + 3) 3 else (st43.d.cmp 3).period), period := if (st43.d.cmp 3).shPeriod = true then st43.d.gn (13632 + 3) 3 else (st43.d.cmp 3).period, left := if (st43.d.cmp 3).shRepeat = true then if st43.d.gn (13632 + 3) 4 = 0 then none else some (st43.d.gn (13632 + 3) 4) else Option.map (fun (x : ℕ) => x - 1) (st43.d.cmp 3).left : CmpWork }).target / (65536 : ℤ)) < (0 : ℤ))) := by decide +kernel

theorem test_CompareUnitsFollowTheirRules_3 :
    (okPort 3 = true ∧ st45.d.pow.heldBy = none ∧ (st45.d.trig 3).pulseEnd = some 99 ∧ 99 ≤ rawAt 7 st45) := by decide +kernel



end W02

namespace W04
def l0 (x : Lane) : State := { State.reset with now := 1000000, d := { State.reset.d with lanes := [(5, x)] } }
def bk : List Byte := laneBlk [0xA5, 5, 9, 33, 0x20, 0]
def bk2 : List Byte := laneBlk [0xA5, 5, 9, 33, 0x60, 0]
def ps : State := let s := (l0 { powered := true, locked := true, link := .locked, run := 1, seq := some 8 })
  { s with now := 10000000000, d := ((s.d.setPort 0 { link := .up, mask := 1, stoppedAt := some 4}).setUnit 0x10 { state := .inService }).setUnit 0x205 { state := .inService } }
def tr : State := let s := l0 { powered := true, link := .hunt }
  { s with d := (s.d.setPort 0 { link := .training }).put 0x2000 2 8 }

def st7 : State := (l0 { powered := true, locked := true, link := .locked })
def st8 : State := (l0 { powered := true, locked := true, link := .locked, run := 1, seq := some 8 })
def st9 : State := (l0 { powered := true, locked := true, link := .locked, run := 1, seq := some 8 })
def st10 : State := (l0 { powered := true, locked := true, link := .locked, run := 1, seq := some 8 })
def st16 : State := (l0 { powered := true, link := .locked })
def st17 : State := (l0 { powered := true, link := .hunt })
def st19 : State := (l0 { powered := true, locked := true, link := .aligned })
def st20 : State := (l0 { powered := true, locked := true, link := .locked })
def st21 : State := (l0 { powered := true, locked := true, link := .aligned, missed := 1 })
def st22 : State := (l0 { powered := true, locked := true, link := .aligned, missed := 2 })

theorem test_LaneLockAndAlignmentFollowTheirRules_2 :
    (okLane 5 = true ∧ st7.d.pow.heldBy = none ∧ st7.d.retrains = [] ∧ (st7.d.lane 5).locked = true ∧ (st7.d.lane 5).link = LinkState.locked ∧ (st7.d.lane 5).leaveTest = none ∧ blkOk bk = true ∧ blkAt bk 0 = 165 ∧ blkAt bk 3 = 33 % 256 ∧ field (blkAt bk 1) 3 0 = laneIx 5 ∧ (∀ y ∈ otherMask st7.d (laneGroup st7.d 5) 5 (blkAt bk 2), y = blkAt bk 4) ∧ hearsBall st7.d 5 = true ∧ (st7.d.lane 5).seq = none ∧ bit (blkAt bk 4) (laneIx 5) = true) ∧
    (okLane 5 = true ∧ st8.d.pow.heldBy = none ∧ st8.d.retrains = [] ∧ (st8.d.lane 5).locked = true ∧ (st8.d.lane 5).link = LinkState.locked ∧ (st8.d.lane 5).leaveTest = none ∧ blkOk bk2 = true ∧ blkAt bk2 0 = 165 ∧ blkAt bk2 3 = 33 % 256 ∧ field (blkAt bk2 1) 3 0 = laneIx 5 ∧ (∀ y ∈ otherMask st8.d (laneGroup st8.d 5) 5 (blkAt bk2 2), y = blkAt bk2 4) ∧ hearsBall st8.d 5 = true ∧ (st8.d.lane 5).seq = some 8 ∧ (8 + 1) % 256 = blkAt bk2 2 ∧ 1 ≤ (st8.d.lane 5).run ∧ 6 < 8 ∧ bit (blkAt bk2 4) 6 = true ∧ groupBase (laneGroup st8.d 5) + 6 ≠ 5 ∧ (st8.d.lane (groupBase (laneGroup st8.d 5) + 6)).link ≠ LinkState.aligned ∧ 0 ≠ 5) :=
  ⟨by decide +kernel, by decide +kernel⟩

theorem test_LaneLockAndAlignmentFollowTheirRules_4 :
    (okLane 5 = true ∧ st9.d.pow.heldBy = none ∧ (st9.d.lane 5).locked = true ∧ field (blkAt [(175 : Byte)] 0) 7 4 = 10 ∧ blkAt [(175 : Byte)] 0 ≠ 165 ∧ blkOk [(175 : Byte)] = false ∧ hearsBall st9.d 5 = true) := by decide +kernel

theorem test_LaneLockAndAlignmentFollowTheirRules_5 :
    (okGroup 0 = true ∧ st10.d.pow.heldBy = none ∧ (List.filter (fun (l : ℕ) => laneGroup st10.d l == 0 && (st10.d.lane l).powered) (List.map (fun (i : ℕ) => groupBase 0 + i) (List.range 8)) ≠ []) ∧ 0 < 16 ∧ (st10.d.port 0).txChange = none ∧ (∀ l ∈ List.filter (fun (l : ℕ) => laneGroup st10.d l == 0 && (st10.d.lane l).powered) (List.map (fun (i : ℕ) => groupBase 0 + i) (List.range 8)), hearsBall st10.d l = true) ∧ (∀ a ∈ (st10.d.port 0).txAt, a + alignPeriod st10.d 0 ≤ rawAt 7 st10) ∧ (0 ∉ List.filter (fun (l : ℕ) => laneGroup st10.d l == 0 && (st10.d.lane l).powered) (List.map (fun (i : ℕ) => groupBase 0 + i) (List.range 8))) ∧ (5 ∈ List.filter (fun (l : ℕ) => laneGroup st10.d l == 0 && (st10.d.lane l).powered) (List.map (fun (i : ℕ) => groupBase 0 + i) (List.range 8)))) := by decide +kernel

theorem test_LaneLockAndAlignmentFollowTheirRules_6 :
    (okPort 0 = true ∧ ps.d.pow.heldBy = none ∧ (ps.d.port 0).stoppedAt = some 4 ∧ 4 + 3 * alignPeriod ps.d 0 ≤ rawAt 7 ps ∧ ps.d.ustate (uPort 0) = UState.inService ∧ (ps.d.pt 0).cam = CameraState.absent ∧ ps.d.rot.pipe ≠ 0 ∧ 0 < 8) := by decide +kernel

theorem test_LaneLockAndAlignmentFollowTheirRules_0 :
    (okLane 5 = true ∧ st16.d.pow.heldBy = none ∧ (st16.d.lane 5).powered = true ∧ (st16.d.lane 5).locked = false ∧ (st16.d.lane 5).link ≠ LinkState.hunt) ∧
    (okLane 5 = true ∧ st17.d.pow.heldBy = none ∧ (st17.d.lane 5).powered = true ∧ (st17.d.lane 5).locked = false ∧ (st17.d.lane 5).link = LinkState.hunt ∧ (bringingUp st17.d (laneGroup st17.d 5) && bit (groupLanes st17.d (laneGroup st17.d 5)) (laneIx 5)) = false) ∧
    (okLane 5 = true ∧ tr.d.pow.heldBy = none ∧ (tr.d.lane 5).powered = true ∧ (tr.d.lane 5).locked = false ∧ (tr.d.lane 5).link = LinkState.hunt ∧ (bringingUp tr.d (laneGroup tr.d 5) && bit (groupLanes tr.d (laneGroup tr.d 5)) (laneIx 5)) = true) :=
  ⟨by decide +kernel, by decide +kernel, by decide +kernel⟩

theorem test_LaneLockAndAlignmentFollowTheirRules_1 :
    (okLane 5 = true ∧ st19.d.pow.heldBy = none ∧ (st19.d.lane 5).locked = true ∧ (linkUp st19.d (laneGroup st19.d 5) && bit (st19.d.port (laneGroup st19.d 5)).mask (laneIx 5)) = false ∧ ((st19.d.port (laneGroup st19.d 5)).stoppedAt = none ∨ ∀ c ∈ (st19.d.port (laneGroup st19.d 5)).change, bit c.mask (laneIx 5) = false)) := by decide +kernel

theorem test_LaneLockAndAlignmentFollowTheirRules_3 :
    (okLane 5 = true ∧ st20.d.pow.heldBy = none ∧ (st20.d.lane 5).locked = true ∧ (st20.d.lane 5).link = LinkState.locked) ∧
    (okLane 5 = true ∧ st21.d.pow.heldBy = none ∧ (st21.d.lane 5).locked = true ∧ (st21.d.lane 5).link = LinkState.aligned ∧ (st21.d.lane 5).missed < 2) ∧
    (okLane 5 = true ∧ st22.d.pow.heldBy = none ∧ (st22.d.lane 5).locked = true ∧ (st22.d.lane 5).link = LinkState.aligned ∧ 2 ≤ (st22.d.lane 5).missed ∧ (linkUp st22.d (laneGroup st22.d 5) && bit (st22.d.port (laneGroup st22.d 5)).mask (laneIx 5)) = false ∧ ((st22.d.port (laneGroup st22.d 5)).stoppedAt = none ∨ ∀ c ∈ (st22.d.port (laneGroup st22.d 5)).change, bit c.mask (laneIx 5) = false)) :=
  ⟨by decide +kernel, by decide +kernel, by decide +kernel⟩



end W04

namespace W04b
def l0 (n : Nat) (x : Lane) : State := { State.reset with now := 1000000, d := { State.reset.d with lanes := [(n, x)], units := [(0x200+n, {state := .test})] } }
def T1 : Training := { start := 3, seq := 4, req := 9, sentAt := 77, taps := 5000, margin := 3, best := some (5016, 9) }
def C1 : MapChange := { mask := 1, target := 5, sentAt := 6 }
def l1 (x : PortLanes) : State := let s := l0 5 { powered := true, link := .aligned, locked := true }
  { s with now := 10000000000, d := { s.d with ports := [(0, x)], units := [(0x205, {state := .shadow})] } }
def l2 : State := let s := l0 128 { powered := true, link := .aligned, locked := true, leaveTest := some (4, 3) }
  { s with now := 10000000000, d := { s.d with ports := [(18, {mask := 3})], units := [(0x200+128, {state := .test})] } }
def l3 : State := {l2 with d := (((l2.d.put (laneTst 128) 4 1).put (laneTst 128) 1 1).put (laneTst 128) 7 5).setLane 128 {powered := true, chk := 2, chkFrom := 77}}

def st6 : State := (l0 5 { powered := true, link := .hunt })
def st7 : State := (l0 5 { powered := true, link := .hunt })
def st8 : State := (l0 5 { powered := true, link := .hunt , training := some T1})
def st11 : State := (l0 5 { powered := true, link := .hunt , remoteSeq := some 9, remoteAns := 3})
def st12 : State := (l0 5 { powered := true, link := .hunt , training := some T1})
def st13 : State := (l0 5 { powered := true, link := .train , training := some {T1 with phase := .ready}})
def st15 : State := (l0 5 { powered := true, link := .train , training := some {T1 with phase := .measuring}})
def st16 : State := (l0 5 { powered := true, link := .train , training := some T1})
def st17 : State := (l0 5 { powered := true, link := .train , training := some {T1 with timeouts := 7}})
def st18 : State := (l0 5 { powered := true, link := .train , training := some {T1 with phase := .measuring}})
def st19 : State := (l0 5 { powered := true, link := .train , training := some {T1 with phase := .measuring}})
def st23 : State := (l1 {mask := 5})
def st24 : State := (l1 {mask := 5})
def st25 : State := (l1 {mask := 5, change := some C1})
def st26 : State := (l1 {mask := 5, change := some C1})
def st27 : State := (l1 {mask := 5, change := some C1})
def st36 : State := {l3 with d := l3.d.setLane 128 {chk := 1}}
def st37 : State := {l3 with d := l3.d.setLane 128 {chk := 1}}
def st38 : State := {l3 with d := l3.d.put (laneTst 128) 1 3}

theorem test_LaneTrainingFollowsItsRules_0 :
    (masterOk (Master.core 0 true) = true ∧ okLane 5 = true ∧ st6.d.pow.heldBy = none ∧ st6.d.accepts (Master.core 0 true) (laneCfg 5) 5 (1 : ℤ) = true ∧ ((st6.d.ustate (uLane 5) = UState.test ∨ st6.d.ustate (uLane 5) = UState.shadow) ∧ bit (st6.d.port (laneGroup st6.d 5)).mask (laneIx 5) = false)) ∧
    (masterOk (Master.core 0 true) = true ∧ okLane 6 = true ∧ st7.d.pow.heldBy = none ∧ st7.d.accepts (Master.core 0 true) (laneCfg 6) 5 (1 : ℤ) = true ∧ (¬((st7.d.ustate (uLane 6) = UState.test ∨ st7.d.ustate (uLane 6) = UState.shadow) ∧ bit (st7.d.port (laneGroup st7.d 6)).mask (laneIx 6) = false))) :=
  ⟨by decide +kernel, by decide +kernel⟩

theorem test_LaneTrainingFollowsItsRules_1 :
    (masterOk (Master.core 0 true) = true ∧ okLane 5 = true ∧ st8.d.pow.heldBy = none ∧ st8.d.accepts (Master.core 0 true) (laneCfg 5) 5 (2 : ℤ) = true ∧ (st8.d.lane 5).training = some T1) := by decide +kernel

theorem test_LaneTrainingFollowsItsRules_2 :
    (okLane 5 = true ∧ st11.d.pow.heldBy = none ∧ (st11.d.lane 5).powered = true ∧ blkOk (laneBlk [(168 : Byte), (9 : Byte), (128 : Byte)]) = true ∧ blkAt (laneBlk [(168 : Byte), (9 : Byte), (128 : Byte)]) 0 = 168 ∧ hearsBall st11.d 5 = true ∧ (st11.d.lane 5).remoteSeq = some (blkAt (laneBlk [(168 : Byte), (9 : Byte), (128 : Byte)]) 1)) ∧
    (okLane 128 = true ∧ st38.d.pow.heldBy = none ∧ (st38.d.lane 128).powered = true ∧ blkOk (laneBlk [(168 : Byte), (9 : Byte), (128 : Byte)]) = true ∧ blkAt (laneBlk [(168 : Byte), (9 : Byte), (128 : Byte)]) 0 = 168 ∧ hearsBall st38.d 128 = true ∧ (st38.d.lane 128).remoteSeq ≠ some (blkAt (laneBlk [(168 : Byte), (9 : Byte), (128 : Byte)]) 1) ∧ (128 ≤ 128 ∨ st38.d.gb (laneCfg 128) 4 = true) ∧ bit (blkAt (laneBlk [(168 : Byte), (9 : Byte), (128 : Byte)]) 2) 7 = true) :=
  ⟨by decide +kernel, by decide +kernel⟩

theorem test_LaneTrainingFollowsItsRules_3 :
    (okLane 5 = true ∧ st12.d.pow.heldBy = none ∧ st12.d.retrains = [] ∧ (st12.d.lane 5).powered = true ∧ blkOk (laneBlk [(169 : Byte), (4 : Byte), (128 : Byte), (0 : Byte), (7 : Byte), (9 : Byte)]) = true ∧ blkAt (laneBlk [(169 : Byte), (4 : Byte), (128 : Byte), (0 : Byte), (7 : Byte), (9 : Byte)]) 0 = 169 ∧ (st12.d.lane 5).training = some T1 ∧ blkAt (laneBlk [(169 : Byte), (4 : Byte), (128 : Byte), (0 : Byte), (7 : Byte), (9 : Byte)]) 1 = T1.seq ∧ hearsBall st12.d 5 = true ∧ T1.phase = TrainPhase.asked) ∧
    (okLane 5 = true ∧ st13.d.pow.heldBy = none ∧ st13.d.retrains = [] ∧ (st13.d.lane 5).powered = true ∧ blkOk (laneBlk [(169 : Byte), (4 : Byte), (128 : Byte), (0 : Byte), (7 : Byte), (9 : Byte)]) = true ∧ blkAt (laneBlk [(169 : Byte), (4 : Byte), (128 : Byte), (0 : Byte), (7 : Byte), (9 : Byte)]) 0 = 169 ∧ (st13.d.lane 5).training = some { T1 with phase := TrainPhase.ready } ∧ blkAt (laneBlk [(169 : Byte), (4 : Byte), (128 : Byte), (0 : Byte), (7 : Byte), (9 : Byte)]) 1 = { T1 with phase := TrainPhase.ready }.seq ∧ hearsBall st13.d 5 = true ∧ { T1 with phase := TrainPhase.ready }.phase = TrainPhase.ready ∧ (st13.d.lane 5).link = LinkState.train ∧ (st13.d.port (laneGroup st13.d 5)).link ≠ PortLink.training ∧ 0 ≠ 5) ∧
    (okLane 5 = true ∧ st15.d.pow.heldBy = none ∧ st15.d.retrains = [] ∧ (st15.d.lane 5).powered = true ∧ blkOk (laneBlk [(169 : Byte), (4 : Byte), (128 : Byte), (0 : Byte), (7 : Byte), (9 : Byte)]) = true ∧ blkAt (laneBlk [(169 : Byte), (4 : Byte), (128 : Byte), (0 : Byte), (7 : Byte), (9 : Byte)]) 0 = 169 ∧ (st15.d.lane 5).training = some { T1 with phase := TrainPhase.measuring } ∧ blkAt (laneBlk [(169 : Byte), (4 : Byte), (128 : Byte), (0 : Byte), (7 : Byte), (9 : Byte)]) 1 = { T1 with phase := TrainPhase.measuring }.seq ∧ hearsBall st15.d 5 = true ∧ { T1 with phase := TrainPhase.measuring }.phase = TrainPhase.measuring) :=
  ⟨by decide +kernel, by decide +kernel, by decide +kernel⟩

theorem test_LaneTrainingFollowsItsRules_4 :
    (okLane 5 = true ∧ st16.d.pow.heldBy = none ∧ st16.d.retrains = [] ∧ (st16.d.lane 5).training = some T1 ∧ T1.phase ≠ TrainPhase.measuring ∧ T1.sentAt + 32000 ≤ rawAt 7 st16 ∧ T1.timeouts < 7) ∧
    (okLane 5 = true ∧ st17.d.pow.heldBy = none ∧ st17.d.retrains = [] ∧ (st17.d.lane 5).training = some { T1 with timeouts := 7 } ∧ { T1 with timeouts := 7 }.phase ≠ TrainPhase.measuring ∧ { T1 with timeouts := 7 }.sentAt + 32000 ≤ rawAt 7 st17 ∧ 7 ≤ { T1 with timeouts := 7 }.timeouts ∧ (st17.d.lane 5).link = LinkState.train) :=
  ⟨by decide +kernel, by decide +kernel⟩

theorem test_LaneTrainingFollowsItsRules_5 :
    (okLane 5 = true ∧ st18.d.pow.heldBy = none ∧ (st18.d.lane 5).training = some { T1 with phase := TrainPhase.measuring } ∧ { T1 with phase := TrainPhase.measuring }.phase = TrainPhase.measuring ∧ { T1 with phase := TrainPhase.measuring }.sentAt + 544000 ≤ rawAt 7 st18 ∧ trainTarget st18.d 5 ≤ 99) ∧
    (okLane 5 = true ∧ st19.d.pow.heldBy = none ∧ (st19.d.lane 5).training = some { T1 with phase := TrainPhase.measuring } ∧ { T1 with phase := TrainPhase.measuring }.phase = TrainPhase.measuring ∧ { T1 with phase := TrainPhase.measuring }.sentAt + 544000 ≤ rawAt 7 st19 ∧ 3 < trainTarget st19.d 5 ∧ { T1 with phase := TrainPhase.measuring }.steps < 512) :=
  ⟨by decide +kernel, by decide +kernel⟩

theorem test_LaneMapsAndTestsFollowTheirRules_0 :
    (masterOk (Master.core 0 true) = true ∧ okPort 0 = true ∧ st23.d.pow.heldBy = none ∧ st23.d.accepts (Master.core 0 true) (8194 + 256 * 0) 1 (1 : ℤ) = true ∧ (st23.d.port 0).change = none ∧ maskOk st23.d 0 (Int.toNat (1 : ℤ)) = false) ∧
    (masterOk (Master.core 0 true) = true ∧ okPort 0 = true ∧ st24.d.pow.heldBy = none ∧ st24.d.accepts (Master.core 0 true) (8194 + 256 * 0) 1 (32 : ℤ) = true ∧ (st24.d.port 0).change = none ∧ maskOk st24.d 0 (Int.toNat (32 : ℤ)) = true) ∧
    (masterOk (Master.core 0 true) = true ∧ okPort 0 = true ∧ st25.d.pow.heldBy = none ∧ st25.d.accepts (Master.core 0 true) (8194 + 256 * 0) 1 (32 : ℤ) = true ∧ (st25.d.port 0).change ≠ none) :=
  ⟨by decide +kernel, by decide +kernel, by decide +kernel⟩

theorem test_LaneMapsAndTestsFollowTheirRules_1 :
    (okLane 5 = true ∧ st26.d.pow.heldBy = none ∧ (st26.d.lane 5).locked = true ∧ blkOk (laneBlk [(172 : Byte), (128 : Byte), (6 : Byte), (1 : Byte)]) = true ∧ blkAt (laneBlk [(172 : Byte), (128 : Byte), (6 : Byte), (1 : Byte)]) 0 = 172 ∧ bit (blkAt (laneBlk [(172 : Byte), (128 : Byte), (6 : Byte), (1 : Byte)]) 1) 7 = true ∧ hearsBall st26.d 5 = true ∧ (st26.d.port (laneGroup st26.d 5)).change = some C1 ∧ blkAt (laneBlk [(172 : Byte), (128 : Byte), (6 : Byte), (1 : Byte)]) 3 = C1.mask ∧ (blkAt (laneBlk [(172 : Byte), (128 : Byte), (6 : Byte), (1 : Byte)]) 2 = C1.target ∨ blkAt (laneBlk [(172 : Byte), (128 : Byte), (6 : Byte), (1 : Byte)]) 2 = (C1.target + 1) % 256)) := by decide +kernel

theorem test_LaneMapsAndTestsFollowTheirRules_2 :
    (okPort 0 = true ∧ st27.d.pow.heldBy = none ∧ (st27.d.port 0).change = some C1 ∧ C1.acked = none ∧ C1.sentAt + blocksTt st27.d 0 512 + 32000 ≤ rawAt 7 st27) := by decide +kernel

theorem test_LaneMapsAndTestsFollowTheirRules_3 :
    (okLane 128 = true ∧ l2.d.pow.heldBy = none ∧ 128 ≤ 128 ∧ (l2.d.lane 128).locked = true ∧ blkOk (laneBlk [(172 : Byte), (0 : Byte), (6 : Byte), (1 : Byte)]) = true ∧ blkAt (laneBlk [(172 : Byte), (0 : Byte), (6 : Byte), (1 : Byte)]) 0 = 172 ∧ bit (blkAt (laneBlk [(172 : Byte), (0 : Byte), (6 : Byte), (1 : Byte)]) 1) 7 = false ∧ hearsBall l2.d 128 = true ∧ l2.d.gn (6930 + laneGroup l2.d 128 % 2) 2 ≤ l2.d.gn 4096 4) := by decide +kernel

theorem test_LaneMapsAndTestsFollowTheirRules_4 :
    (okLane 128 = true ∧ l2.d.pow.heldBy = none ∧ (l2.d.lane 128).leaveTest = some (4, 3) ∧ 3 ≤ rawAt 7 l2) := by decide +kernel

theorem test_LaneMapsAndTestsFollowTheirRules_5 :
    (masterOk (Master.core 0 true) = true ∧ okLane 128 = true ∧ l2.d.pow.heldBy = none ∧ l2.d.ustate (uLane 128) = UState.test ∧ l2.d.accepts (Master.core 0 true) (laneTst 128) 6 (1 : ℤ) = true ∧ l2.d.accepts (Master.core 0 true) (laneTst 128) 6 (2 : ℤ) = true ∧ l2.d.accepts (Master.core 0 true) (laneTst 128) 6 (3 : ℤ) = true) := by decide +kernel

theorem test_LaneMapsAndTestsFollowTheirRules_6 :
    (okLane 128 = true ∧ l3.d.pow.heldBy = none ∧ (l3.d.lane 128).chk = 2) ∧
    (okLane 128 = true ∧ st36.d.pow.heldBy = none ∧ (st36.d.lane 128).chk = 1) :=
  ⟨by decide +kernel, by decide +kernel⟩

theorem test_LaneMapsAndTestsFollowTheirRules_7 :
    (masterOk (Master.core 0 true) = true ∧ okLane 128 = true ∧ st37.d.pow.heldBy = none ∧ st37.d.accepts (Master.core 0 true) (laneCfg 128) 8 (1 : ℤ) = true) := by decide +kernel



end W04b

namespace W05
def C : Master := .core 0 true
def S : State := { State.reset with now := 10000000000 }
def P (s : State) (n : Nat) (x : PortT) : State := { s with d := s.d.setPt n x }
def U (s : State) (u : Nat) (x : UState) : State := { s with d := s.d.setUnit u { state := x } }
def L (s : State) (p : Nat) (x : PortLanes) : State := { s with d := s.d.setPort p x }
def O (s : State) (i k : Nat) (v : Int) : State := { s with d := s.d.put i k v }
def s1 : State := L S 3 { link := .up, mask := 1 }
def mk (h : List Byte) (pay : List Byte) : List Byte := let g := padTo h 14 0; g ++ toBE 2 (crc16 g) ++ pay ++ toBE 4 (crc32c pay)
def im : List Byte := mk [0,0,0,1, 0,0,0,9, 0,4, 0,7, 0,4] [1,2,3,4]
def s2 : State := O (O (O (O (U (P s1 3 { lastLine := some 3, lastSettings := some 4, settings := [⟨4, 5, 6⟩] }) 0x23 .inService) 0x2320 1 4) 0x2320 2 0) 0x2320 3 0) 0x2320 4 1
def s3 : State := { s2 with d := s2.d.setTrig 3 { sent := [{ id := 7, raw := 80, stamp := 88, trim := 3, cal := false, used := false }] } }
def C1 : CamCmd := { seq := 5, opcode := 1, settings := 2, payload := [], sends := 1, first := 3, last := 4, step := 0 }
def bk : TxBlk := {prio := 2, lanes := [3], bytes := [1], due := 5}
def C2 : CamCmd := {C1 with first := 9999999990, last := 9990000000}

def st12 : State := (P s1 3 {dropLog := []})
def st21 : State := (P s1 3 {cmd := some C1})
def st25 : State := (P s1 3 {delayReqs := [(5,77,3)]})
def st29 : State := (U (O (P s1 3 {}) 0x2320 7 1) 0x13 .inService)
def st31 : State := (P s1 3 {delayReqs := [(5,77,3),(6,7,9999999999)]})
def st34 : State := (P s1 3 {cmd := some C1})
def st36 : State := (P s1 3 {cmd := some C2})
def st37 : State := (P s1 3 {cmd := some C1})
def st38 : State := (P s1 3 {retry := some (9,2)})
def st39 : State := (P s1 3 {retry := some (9,2)})

theorem test_PacketsFollowTheirRules_0 :
    (okPort 3 = true ∧ st12.d.pow.heldBy = none ∧ streamRuns st12.d 3 = true ∧ headerOk [(1 : Byte), (2 : Byte), (3 : Byte)] = false ∧ (st12.d.pt 3).sosAt = none) := by decide +kernel

theorem test_PacketsFollowTheirRules_1 :
    (okPort 3 = true ∧ s3.d.pow.heldBy = none ∧ streamRuns s3.d 3 = true ∧ packetFault im = none ∧ (readHeader im).vc < 2 ∧ (readHeader im).sos = false ∧ selected s3.d 3 (readHeader im) = true ∧ planeList s3.d 3 = [(readHeader im).plane] ∧ lineFault s3.d 3 (readHeader im) 99 false = none ∧ (s3.d.pt 3).planes = none ∧ (s3.d.pt 3).strip = none ∧ (s3.d.pt 3).lastSettings = some (readHeader im).settings ∧ s3.d.ovls = [] ∧ s3.d.gn (8224 + 256 * 3) 5 ≠ 1) := by decide +kernel

theorem test_PacketsFollowTheirRules_2 :
    (okPort 3 = true ∧ s1.d.pow.heldBy = none ∧ streamRuns s1.d 3 = true) := by decide +kernel

theorem test_PacketsFollowTheirRules_3 :
    (okPort 3 = true ∧ s1.d.pow.heldBy = none ∧ streamRuns s1.d 3 = true ∧ blkAt [(132 : Byte)] 0 = 132 ∧ headerOk [(1 : Byte)] = false) := by decide +kernel

theorem test_PacketsFollowTheirRules_4 :
    (okPort 3 = true ∧ st21.d.pow.heldBy = none ∧ streamRuns st21.d 3 = true ∧ packetFault (mk [(131 : Byte), (0 : Byte), (0 : Byte), (3 : Byte)] [(0 : Byte), (5 : Byte), (0 : Byte), (1 : Byte), (0 : Byte), (0 : Byte), (0 : Byte), (0 : Byte), (1 : Byte), (2 : Byte), (3 : Byte), (4 : Byte)]) = none ∧ (readHeader (mk [(131 : Byte), (0 : Byte), (0 : Byte), (3 : Byte)] [(0 : Byte), (5 : Byte), (0 : Byte), (1 : Byte), (0 : Byte), (0 : Byte), (0 : Byte), (0 : Byte), (1 : Byte), (2 : Byte), (3 : Byte), (4 : Byte)])).vcType = 131 ∧ 2 ≤ (readHeader (mk [(131 : Byte), (0 : Byte), (0 : Byte), (3 : Byte)] [(0 : Byte), (5 : Byte), (0 : Byte), (1 : Byte), (0 : Byte), (0 : Byte), (0 : Byte), (0 : Byte), (1 : Byte), (2 : Byte), (3 : Byte), (4 : Byte)])).words ∧ (readHeader (mk [(131 : Byte), (0 : Byte), (0 : Byte), (3 : Byte)] [(0 : Byte), (5 : Byte), (0 : Byte), (1 : Byte), (0 : Byte), (0 : Byte), (0 : Byte), (0 : Byte), (1 : Byte), (2 : Byte), (3 : Byte), (4 : Byte)])).words = 2 + beAt (readHeader (mk [(131 : Byte), (0 : Byte), (0 : Byte), (3 : Byte)] [(0 : Byte), (5 : Byte), (0 : Byte), (1 : Byte), (0 : Byte), (0 : Byte), (0 : Byte), (0 : Byte), (1 : Byte), (2 : Byte), (3 : Byte), (4 : Byte)])).payload 3 1 ∧ (st21.d.pt 3).cmd = some C1 ∧ beAt (readHeader (mk [(131 : Byte), (0 : Byte), (0 : Byte), (3 : Byte)] [(0 : Byte), (5 : Byte), (0 : Byte), (1 : Byte), (0 : Byte), (0 : Byte), (0 : Byte), (0 : Byte), (1 : Byte), (2 : Byte), (3 : Byte), (4 : Byte)])).payload 0 2 = C1.seq ∧ C1.step = 0 ∧ C1.opcode ≠ 3) := by decide +kernel

theorem test_PacketsFollowTheirRules_5 :
    (okPort 3 = true ∧ s1.d.pow.heldBy = none ∧ streamRuns s1.d 3 = true ∧ packetFault (mk [(132 : Byte), (0 : Byte), (0 : Byte), (3 : Byte)] [(0 : Byte), (5 : Byte), (0 : Byte), (1 : Byte), (0 : Byte), (0 : Byte), (0 : Byte), (0 : Byte), (1 : Byte), (2 : Byte), (3 : Byte), (4 : Byte)]) = none ∧ (readHeader (mk [(132 : Byte), (0 : Byte), (0 : Byte), (3 : Byte)] [(0 : Byte), (5 : Byte), (0 : Byte), (1 : Byte), (0 : Byte), (0 : Byte), (0 : Byte), (0 : Byte), (1 : Byte), (2 : Byte), (3 : Byte), (4 : Byte)])).vcType = 132 ∧ 1 ≤ (readHeader (mk [(132 : Byte), (0 : Byte), (0 : Byte), (3 : Byte)] [(0 : Byte), (5 : Byte), (0 : Byte), (1 : Byte), (0 : Byte), (0 : Byte), (0 : Byte), (0 : Byte), (1 : Byte), (2 : Byte), (3 : Byte), (4 : Byte)])).words) ∧
    (okPort 3 = true ∧ s1.d.pow.heldBy = none ∧ streamRuns s1.d 3 = true ∧ packetFault (mk [(192 : Byte), (0 : Byte), (0 : Byte), (3 : Byte)] [(0 : Byte), (5 : Byte), (0 : Byte), (1 : Byte), (0 : Byte), (0 : Byte), (0 : Byte), (0 : Byte), (1 : Byte), (2 : Byte), (3 : Byte), (4 : Byte)]) = none ∧ (readHeader (mk [(192 : Byte), (0 : Byte), (0 : Byte), (3 : Byte)] [(0 : Byte), (5 : Byte), (0 : Byte), (1 : Byte), (0 : Byte), (0 : Byte), (0 : Byte), (0 : Byte), (1 : Byte), (2 : Byte), (3 : Byte), (4 : Byte)])).vc = 3) :=
  ⟨by decide +kernel, by decide +kernel⟩

theorem test_PacketsFollowTheirRules_6 :
    (okPort 3 = true ∧ st25.d.pow.heldBy = none ∧ streamRuns st25.d 3 = true ∧ packetFault (mk [(134 : Byte), (0 : Byte), (0 : Byte), (2 : Byte)] [(0 : Byte), (5 : Byte), (0 : Byte), (1 : Byte), (0 : Byte), (0 : Byte), (0 : Byte), (9 : Byte)]) = none ∧ (readHeader (mk [(134 : Byte), (0 : Byte), (0 : Byte), (2 : Byte)] [(0 : Byte), (5 : Byte), (0 : Byte), (1 : Byte), (0 : Byte), (0 : Byte), (0 : Byte), (9 : Byte)])).vcType = 134 ∧ (readHeader (mk [(134 : Byte), (0 : Byte), (0 : Byte), (2 : Byte)] [(0 : Byte), (5 : Byte), (0 : Byte), (1 : Byte), (0 : Byte), (0 : Byte), (0 : Byte), (9 : Byte)])).words = 2 ∧ (List.find? (fun (r : ℕ × ℕ × ℕ) => r.1 == beAt (readHeader (mk [(134 : Byte), (0 : Byte), (0 : Byte), (2 : Byte)] [(0 : Byte), (5 : Byte), (0 : Byte), (1 : Byte), (0 : Byte), (0 : Byte), (0 : Byte), (9 : Byte)])).payload 0 2) (st25.d.pt 3).delayReqs = some (5, 77, 3)) ∧ (st25.d.pt 3).filling = true ∧ (st25.d.pt 3).history.length < 7) := by decide +kernel

theorem test_CameraCommandsFollowTheirRules_0 :
    (txPick [bk, { bk with prio := 1 }, bk] 7 = some 1) := by decide +kernel

theorem test_CameraCommandsFollowTheirRules_2 :
    (okPort 3 = true ∧ st29.d.pow.heldBy = none ∧ st29.d.ustate (uPort 3) ≠ UState.off ∧ (st29.d.port 3).mask ≠ 0 ∧ st29.d.gb (8224 + 256 * 3) 7 = true ∧ (∀ a ∈ (st29.d.pt 3).beaconAt, a + 16000000 ≤ rawAt 7 st29)) := by decide +kernel

theorem test_CameraCommandsFollowTheirRules_3 :
    (okPort 3 = true ∧ s1.d.pow.heldBy = none ∧ (s1.d.port 3).mask ≠ 0 ∧ (∀ a ∈ (s1.d.pt 3).delayAt, (a + if (s1.d.pt 3).filling = true then 1600000 else s1.d.gn (8224 + 256 * 3) 8 * 16000) ≤ rawAt 7 s1)) := by decide +kernel

theorem test_CameraCommandsFollowTheirRules_4 :
    (okPort 3 = true ∧ st31.d.pow.heldBy = none ∧ (List.filter (fun (r : ℕ × ℕ × ℕ) => decide (r.2.2 + 16000000 ≤ rawAt 7 st31)) (st31.d.pt 3).delayReqs ≠ [])) := by decide +kernel

theorem test_CameraCommandsFollowTheirRules_5 :
    (masterOk C = true ∧ okPort 3 = true ∧ s1.d.pow.heldBy = none ∧ s1.d.hasRole C (objWr (8228 + 256 * 3) 1) = true ∧ (s1.d.pt 3).cmd = none ∧ cmdBad s1.d 3 [(1 : Byte), (1 : Byte), (0 : Byte), (5 : Byte), (0 : Byte), (0 : Byte), (1 : Byte), (2 : Byte), (3 : Byte), (4 : Byte), (5 : Byte), (6 : Byte), (7 : Byte), (8 : Byte)] = false) ∧
    (masterOk C = true ∧ okPort 3 = true ∧ s1.d.pow.heldBy = none ∧ s1.d.hasRole C (objWr (8228 + 256 * 3) 1) = true ∧ (s1.d.pt 3).cmd = none ∧ cmdBad s1.d 3 [(1 : Byte), (1 : Byte), (0 : Byte), (5 : Byte)] = true) ∧
    (masterOk C = true ∧ okPort 3 = true ∧ st34.d.pow.heldBy = none ∧ st34.d.hasRole C (objWr (8228 + 256 * 3) 1) = true ∧ (st34.d.pt 3).cmd ≠ none) :=
  ⟨by decide +kernel, by decide +kernel, by decide +kernel⟩

theorem test_CameraCommandsFollowTheirRules_6 :
    (okPort 3 = true ∧ st36.d.pow.heldBy = none ∧ (st36.d.pt 3).cmd = some C2 ∧ (¬(8 ≤ C2.sends ∧ C2.last + 1600000 ≤ rawAt 7 st36 ∨ C2.first + st36.d.gn (8228 + 256 * 3) 4 * 16000 ≤ rawAt 7 st36)) ∧ C2.last + 1600000 ≤ rawAt 7 st36) ∧
    (okPort 3 = true ∧ st37.d.pow.heldBy = none ∧ (st37.d.pt 3).cmd = some C1 ∧ (8 ≤ C1.sends ∧ C1.last + 1600000 ≤ rawAt 7 st37 ∨ C1.first + st37.d.gn (8228 + 256 * 3) 4 * 16000 ≤ rawAt 7 st37) ∧ (st37.d.pt 3).cam ≠ CameraState.fault) :=
  ⟨by decide +kernel, by decide +kernel⟩

theorem test_CameraCommandsFollowTheirRules_7 :
    (okPort 3 = true ∧ st38.d.pow.heldBy = none ∧ (st38.d.pt 3).retry = some (9, 2) ∧ 9 ≤ rawAt 7 st38 ∧ (st38.d.pt 3).cmd = none) := by decide +kernel

theorem test_CameraCommandsFollowTheirRules_8 :
    (masterOk C = true ∧ okPort 3 = true ∧ st39.d.pow.heldBy = none ∧ st39.d.accepts C (8224 + 256 * 3) 11 (1 : ℤ) = true) := by decide +kernel



end W05

namespace W06
def ln : CamLine := { line := 9, vcType := 0, flags := 0, settings := 4, trig := 7, trigStamp := 88, trim := 3, freeNs := none, arrival := 99, linkDelay := 3, expDelay := 2, exposure := 2, planes := [(0, [1,2,3,4])], bank := 1, cal := false }
def s1 : State := O (O (O (O (P S 3 { ingress := [ln], banks := [some 3, none] }) 0x2320 1 4) 0x2320 2 0) 0x2320 3 0) 0x2320 4 1
def s2 : State := D s1 fun d => { d with place := tabSet d.place 3 { queue := [{ cam := ln, lost := false }] } }

def st9 : State := (D (P s1 3 {lastDone := some 5}) fun d => d.setPx 3 {swap := some {value := 1, line := 4, late := false, fixed := false}})
def st11 : State := (D s1 fun d => d.setPx 3 {held := true})
def st12 : State := (D (OB s1 0x2344 5 [3,4]) fun d => d.setPx 3 {copy := some (0,1)})
def st14 : State := (O s1 0x23a8 3 4096)

theorem test_PixelCorrectionFollowsItsRules_0 :
    (okPort 3 = true ∧ s2.d.pow.heldBy = none ∧ (s2.d.pt 3).ingress = [ln] ∧ ln.cal = false ∧ ln.bankSwap = false ∧ s2.d.ovls = [] ∧ s2.d.shadow = [] ∧ s2.d.jobs = [] ∧ s2.d.rot.shadow = none ∧ tabGet s2.d.placed [] 3 = [] ∧ (((s2.d.pl 3).queue.any fun (q : PlaceIn) => q.cam.line == ln.line && q.cam.arrival == ln.arrival) = true)) := by decide +kernel

theorem test_PixelCorrectionFollowsItsRules_1 :
    (masterOk C = true ∧ okPort 3 = true ∧ s1.d.pow.heldBy = none ∧ s1.d.accepts C (8258 + 256 * 3) 2 (1 : ℤ) = true ∧ s1.d.accepts C (8258 + 256 * 3) 2 (2 : ℤ) = true ∧ s1.d.accepts C (8258 + 256 * 3) 2 (3 : ℤ) = true ∧ (Option.any (fun (l : ℕ) => lineAhead l (s1.d.gn (8258 + 256 * 3) 3)) (s1.d.pt 3).lastDone = false)) ∧
    (masterOk C = true ∧ okPort 3 = true ∧ st9.d.pow.heldBy = none ∧ st9.d.accepts C (8258 + 256 * 3) 2 (3 : ℤ) = true ∧ (Option.any (fun (l : ℕ) => lineAhead l (st9.d.gn (8258 + 256 * 3) 3)) (st9.d.pt 3).lastDone = true) ∧ st9.d.accepts C (8258 + 256 * 3) 2 (4 : ℤ) = true ∧ (st9.d.px 3).swap ≠ none) :=
  ⟨by decide +kernel, by decide +kernel⟩

theorem test_PixelCorrectionFollowsItsRules_2 :
    (masterOk C = true ∧ okPort 3 = true ∧ s1.d.pow.heldBy = none ∧ s1.d.accepts C (8258 + 256 * 3) 7 (1 : ℤ) = true ∧ (s1.d.px 3).swap = none ∧ (s1.d.px 3).copy = none ∧ (s1.d.px 3).held = false) ∧
    (masterOk C = true ∧ okPort 3 = true ∧ st11.d.pow.heldBy = none ∧ st11.d.accepts C (8258 + 256 * 3) 7 (1 : ℤ) = true ∧ ((st11.d.px 3).swap ≠ none ∨ (st11.d.px 3).copy ≠ none ∨ (st11.d.px 3).held = true)) :=
  ⟨by decide +kernel, by decide +kernel⟩

theorem test_PixelCorrectionFollowsItsRules_3 :
    (okPort 3 = true ∧ st12.d.pow.heldBy = none ∧ (st12.d.px 3).copy = some (0, 1) ∧ 0 < 2 ∧ 1 < 2 ∧ 0 ≠ 1 ∧ 4 < 7 ∧ tabFind st12.d.o (okey (8260 + 256 * 3 + 0) (4 + 1)) = some (ObjVal.blob [(3 : Byte), (4 : Byte)])) := by decide +kernel

theorem test_PixelCorrectionFollowsItsRules_4 :
    (s1.d.pow.heldBy = none ∧ 0 < 2 ∧ okPort 3 = true ∧ okChain 3 = true) := by decide +kernel

theorem test_PixelCorrectionFollowsItsRules_5 :
    (masterOk C = true ∧ okPort 3 = true ∧ okTap 2 = true ∧ st14.d.pow.heldBy = none ∧ st14.d.accepts C (tapIx 3 2) 14 (1 : ℤ) = true) := by decide +kernel



end W06

namespace W07
def J (s : State) (p : Nat) (j : Job) : State := D s fun d => d.setJob p j
def lulls (s : State) (l : Lulls) : State := D s fun d => {d with lulls := l}
def s2 : State := J (U (O (O (lulls S {stop := true}) 0x3583 2 3) 0x3583 1 4) (uPort 3) .inService) 3 {state := .waiting, kind := 1}
def s3 : State := J (O S 0x2384 2 5) 3 {state := .waiting, kind := 6}
def s6 : State := LK (U (lulls (O (O S 0x3803 2 5) 0x3803 3 15) {stop := true}) (uPort 1) .inService) 1 {mask := 15, link := .up}
def jd : Job := {state := .computing, kind := 6, pairs := [(100,10),(110,20),(125,30)]}


def st6 : State := (D S fun d => d.setEnc 0 {d.enc 0 with standstill := true, stillAt := 77})
def st14 : State := (D (O S 0x3802 7 1) fun d => {d with scale := {first := some (0,0), last := some (100000000,6553600000)}})
def st15 : State := (D (O S 0x3802 7 1) fun d => {d with scale := {first := some (0,0), last := some (1000000000,6553600000)}})
def st20 : State := (J S 3 {state := .candidate, kind := 2})
def st21 : State := (J S 3 {state := .computing, kind := 2})
def st25 : State := (J S 3 {state := .waiting, kind := 1})
def st26 : State := (J S 3 {state := .waiting, kind := 1})
def st28 : State := (J S 3 {state := .committing, kind := 2, step := 2})
def st31 : State := (J S 3 jd)
def st32 : State := (J (O S 0x2382 14 30000) 3 jd)
def st34 : State := (J S 3 {state := .computing, kind := 1})
def st35 : State := (J S 3 {state := .computing, kind := 1})
def st36 : State := (J S 3 {state := .candidate, kind := 1})
def st37 : State := (J S 3 {state := .candidate, kind := 1})
def st38 : State := (J S 3 {state := .acquiring, kind := 1})
def st39 : State := (J S 3 {state := .acquiring, kind := 1})
def st40 : State := (J S 3 {state := .committing, kind := 6})
def st41 : State := (J S 3 {state := .committing, kind := 2})
def st42 : State := (J S 3 {state := .committing, kind := 5, step := 1})
def st43 : State := (J S 3 {state := .committing, kind := 5, step := 1})

theorem test_LullsFollowTheirRules_0 :
    (st6.d.pow.heldBy = none ∧ bit (st6.d.gn 14336 1) 2 = true ∧ (st6.d.enc (st6.d.gn 14336 2)).standstill = true ∧ st6.d.lulls.stop = false ∧ (st6.d.enc (st6.d.gn 14336 2)).stillAt + st6.d.gn 14336 3 * 16000 ≤ rawAt 7 st6) := by decide +kernel

theorem test_LullsFollowTheirRules_1 :
    (masterOk C = true ∧ S.d.pow.heldBy = none ∧ S.d.accepts C 14336 6 (1 : ℤ) = true) := by decide +kernel

theorem test_LullsFollowTheirRules_2 :
    (okPort 3 = true ∧ s2.d.pow.heldBy = none ∧ s2.d.inForce = [] ∧ s2.d.lulls.stop = true ∧ (∀ a ∈ s2.d.lulls.trigAt, a + s2.d.gn 14336 7 ≤ rawAt 7 s2) ∧ (List.filter (fun (q : ℕ) => jobAcquires (s2.d.job q) && bit (jobLulls s2.d q) 2) (List.range 16) = [3]) ∧ s2.d.gn (13696 + 3) 2 ≠ 0 ∧ s2.d.inSvc (uPort 3) = true ∧ (∀ x ∈ (s2.d.trig 3).lastSent, x + s2.d.gn (13696 + 3) 3 ≤ clk200 (rawAt 7 s2)) ∧ 0 ≠ 3) := by decide +kernel

theorem test_LullsFollowTheirRules_3 :
    (okEvp 5 = true ∧ okPort 3 = true ∧ s3.d.pow.heldBy = none ∧ s3.d.gn (8324 + 256 * 3) 2 = 5 ∧ (s3.d.job 3).kind = 6 ∧ ((s3.d.job 3).state = JobState.waiting ∨ (s3.d.job 3).state = JobState.acquiring) ∧ 0 < 16 ∧ s3.d.gn (8324 + 256 * 0) 2 ≠ 5) := by decide +kernel

theorem test_LullsFollowTheirRules_4 :
    (masterOk C = true ∧ S.d.pow.heldBy = none ∧ S.d.accepts C 14338 6 (1 : ℤ) = true) := by decide +kernel

theorem test_LullsFollowTheirRules_5 :
    (st14.d.pow.heldBy = none ∧ st14.d.gn 14338 7 = 1 ∧ st14.d.scale.first = some (0, (0 : ℤ)) ∧ st14.d.scale.last = some (100000000, (6553600000 : ℤ)) ∧ (0 : ℤ) ≠ (6553600000 : ℤ) ∧ st14.d.gi 14338 4 ≤ ↑((6553600000 : ℤ) - (0 : ℤ)).natAbs ∧ (f64Val (st14.d.gn (13568 + st14.d.gn 14338 1) 19)).n ≠ (0 : ℤ) ∧ (Frac.ofInt ↑(st14.d.gn 14338 5)).lt ((({ n := ↑(wrapI 64 (((100000000 : Nat) : Int) - ((0 : Nat) : Int))).natAbs * (65536 : ℤ), d := ((6553600000 : ℤ) - (0 : ℤ)).natAbs : Frac }.norm.sub (f64Val (st14.d.gn (13568 + st14.d.gn 14338 1) 19))).abs.mul (Frac.ofInt (1000000 : ℤ))).div (f64Val (st14.d.gn (13568 + st14.d.gn 14338 1) 19))) = false) ∧
    (st15.d.pow.heldBy = none ∧ st15.d.gn 14338 7 = 1 ∧ st15.d.scale.first = some (0, (0 : ℤ)) ∧ st15.d.scale.last = some (1000000000, (6553600000 : ℤ)) ∧ (0 : ℤ) ≠ (6553600000 : ℤ) ∧ st15.d.gi 14338 4 ≤ ↑((6553600000 : ℤ) - (0 : ℤ)).natAbs ∧ (Frac.ofInt ↑(st15.d.gn 14338 5)).lt ((({ n := ↑(wrapI 64 (((1000000000 : Nat) : Int) - ((0 : Nat) : Int))).natAbs * (65536 : ℤ), d := ((6553600000 : ℤ) - (0 : ℤ)).natAbs : Frac }.norm.sub (f64Val (st15.d.gn (13568 + st15.d.gn 14338 1) 19))).abs.mul (Frac.ofInt (1000000 : ℤ))).div (f64Val (st15.d.gn (13568 + st15.d.gn 14338 1) 19))) = true) :=
  ⟨by decide +kernel, by decide +kernel⟩

theorem test_LullsFollowTheirRules_6 :
    (okLane 8 = true ∧ 8 < 128 ∧ s6.d.pow.heldBy = none ∧ bit (s6.d.port (8 / 8 : ℕ)).mask (8 % 8) = true ∧ retrainFits (envOf 7 s6) (begun s6.d) (8 / 8 : ℕ) = true ∧ (field (s6.d.gn (laneRes 8) 6) 15 8 < s6.d.gn 14339 2 ∨ s6.d.gn 14339 1 ≠ 0 ∧ (s6.d.lane 8).trainedAt + s6.d.gn 14339 1 * 16000000000 ≤ rawAt 7 s6)) := by decide +kernel

theorem test_CalibrationJobsFollowTheirRules_0 :
    (masterOk C = true ∧ okPort 3 = true ∧ S.d.pow.heldBy = none ∧ (Instr.jobStartDark 7 C 3, 1) ∈ [(Instr.jobStartDark 7 C 3, 1), (Instr.jobStartGain 7 C 3, 2), (Instr.jobStartGeometryEdge 7 C 3, 3), (Instr.jobStartGeometryFull 7 C 3, 4), (Instr.jobStartColour 7 C 3, 5), (Instr.jobStartDelay 7 C 3, 6)] ∧ S.d.accepts C (8320 + 256 * 3) 1 ↑(Instr.jobStartDark 7 C 3, 1).2 = true ∧ (S.d.job 3).state = JobState.idle) ∧
    (masterOk C = true ∧ okPort 3 = true ∧ st20.d.pow.heldBy = none ∧ (Instr.jobStartDelay 7 C 3, 6) ∈ [(Instr.jobStartDark 7 C 3, 1), (Instr.jobStartGain 7 C 3, 2), (Instr.jobStartGeometryEdge 7 C 3, 3), (Instr.jobStartGeometryFull 7 C 3, 4), (Instr.jobStartColour 7 C 3, 5), (Instr.jobStartDelay 7 C 3, 6)] ∧ st20.d.accepts C (8320 + 256 * 3) 1 ↑(Instr.jobStartDelay 7 C 3, 6).2 = true ∧ (st20.d.job 3).state = JobState.candidate) ∧
    (masterOk C = true ∧ okPort 3 = true ∧ st21.d.pow.heldBy = none ∧ (Instr.jobStartColour 7 C 3, 5) ∈ [(Instr.jobStartDark 7 C 3, 1), (Instr.jobStartGain 7 C 3, 2), (Instr.jobStartGeometryEdge 7 C 3, 3), (Instr.jobStartGeometryFull 7 C 3, 4), (Instr.jobStartColour 7 C 3, 5), (Instr.jobStartDelay 7 C 3, 6)] ∧ st21.d.accepts C (8320 + 256 * 3) 1 ↑(Instr.jobStartColour 7 C 3, 5).2 = true ∧ (st21.d.job 3).state ≠ JobState.idle ∧ (st21.d.job 3).state ≠ JobState.candidate) :=
  ⟨by decide +kernel, by decide +kernel, by decide +kernel⟩

theorem test_CalibrationJobsFollowTheirRules_1 :
    (okPort 3 = true ∧ st25.d.pow.heldBy = none ∧ (st25.d.job 3).state = JobState.waiting ∧ (st25.d.job 3).settled = false ∧ (st25.d.job 3).settleAt ≤ rawAt 7 st25) := by decide +kernel

theorem test_CalibrationJobsFollowTheirRules_2 :
    (okPort 3 = true ∧ st26.d.pow.heldBy = none ∧ (st26.d.job 3).start + st26.d.gn (8320 + 256 * 3) 4 * 16000000000 ≤ rawAt 99000000000000 st26 ∧ (st26.d.job 3).state ≠ JobState.idle ∧ (st26.d.job 3).state ≠ JobState.committing) ∧
    (okPort 3 = true ∧ st28.d.pow.heldBy = none ∧ (st28.d.job 3).start + st28.d.gn (8320 + 256 * 3) 4 * 16000000000 ≤ rawAt 99000000000000 st28 ∧ (st28.d.job 3).state = JobState.committing) :=
  ⟨by decide +kernel, by decide +kernel⟩

theorem test_CalibrationJobsFollowTheirRules_3 :
    (okPort 3 = true ∧ st31.d.pow.heldBy = none ∧ (st31.d.job 3).state = JobState.computing ∧ (st31.d.job 3).kind = 6 ∧ delayFit (st31.d.job 3) = some ((-20000 : ℤ), (87 : ℤ)) ∧ st31.d.gn (8322 + 256 * 3) 14 < (-20000 : ℤ).natAbs) ∧
    (okPort 3 = true ∧ st32.d.pow.heldBy = none ∧ (st32.d.job 3).state = JobState.computing ∧ (st32.d.job 3).kind = 6 ∧ delayFit (st32.d.job 3) = some ((-20000 : ℤ), (87 : ℤ)) ∧ (-20000 : ℤ).natAbs ≤ st32.d.gn (8322 + 256 * 3) 14) ∧
    (okPort 3 = true ∧ st34.d.pow.heldBy = none ∧ (st34.d.job 3).state = JobState.computing ∧ ((st34.d.job 3).kind = 1 ∨ (st34.d.job 3).kind = 2)) :=
  ⟨by decide +kernel, by decide +kernel, by decide +kernel⟩

theorem test_CalibrationJobsFollowTheirRules_4 :
    (masterOk C = true ∧ okPort 3 = true ∧ st35.d.pow.heldBy = none ∧ st35.d.accepts C (8320 + 256 * 3) 7 (1 : ℤ) = true ∧ (st35.d.job 3).state ≠ JobState.candidate) ∧
    (masterOk C = true ∧ okPort 3 = true ∧ st36.d.pow.heldBy = none ∧ st36.d.accepts C (8320 + 256 * 3) 7 (1 : ℤ) = true ∧ (st36.d.job 3).state = JobState.candidate) :=
  ⟨by decide +kernel, by decide +kernel⟩

theorem test_CalibrationJobsFollowTheirRules_5 :
    (masterOk C = true ∧ okPort 3 = true ∧ st37.d.pow.heldBy = none ∧ st37.d.accepts C (8320 + 256 * 3) 8 (1 : ℤ) = true ∧ (st37.d.job 3).state = JobState.candidate) ∧
    (masterOk C = true ∧ okPort 3 = true ∧ st38.d.pow.heldBy = none ∧ st38.d.accepts C (8320 + 256 * 3) 8 (1 : ℤ) = true ∧ ((st38.d.job 3).state = JobState.waiting ∨ (st38.d.job 3).state = JobState.acquiring ∨ (st38.d.job 3).state = JobState.computing)) :=
  ⟨by decide +kernel, by decide +kernel⟩

theorem test_CalibrationJobsFollowTheirRules_6 :
    (masterOk C = true ∧ okPort 3 = true ∧ st39.d.pow.heldBy = none ∧ st39.d.accepts C (8320 + 256 * 3) 14 (1 : ℤ) = true) := by decide +kernel

theorem test_CalibrationJobsFollowTheirRules_7 :
    (okPort 3 = true ∧ st40.d.pow.heldBy = none ∧ (st40.d.job 3).state = JobState.committing ∧ (st40.d.job 3).kind = 6) ∧
    (okPort 3 = true ∧ st41.d.pow.heldBy = none ∧ (st41.d.job 3).state = JobState.committing ∧ ((st41.d.job 3).kind = 1 ∨ (st41.d.job 3).kind = 2 ∨ (st41.d.job 3).kind = 5) ∧ (st41.d.job 3).step = 0 ∧ (st41.d.px 3).swap = none ∧ (st41.d.px 3).copy = none) ∧
    (okPort 3 = true ∧ st42.d.pow.heldBy = none ∧ (st42.d.job 3).state = JobState.committing ∧ ((st42.d.job 3).kind = 1 ∨ (st42.d.job 3).kind = 2 ∨ (st42.d.job 3).kind = 5) ∧ (st42.d.job 3).step = 1 ∧ (st42.d.px 3).copy = none ∧ true = true) ∧
    (okPort 3 = true ∧ st43.d.pow.heldBy = none ∧ (st43.d.job 3).state = JobState.committing ∧ ((st43.d.job 3).kind = 1 ∨ (st43.d.job 3).kind = 2 ∨ (st43.d.job 3).kind = 5) ∧ (st43.d.job 3).step = 1 ∧ (st43.d.px 3).copy = none ∧ false = false) :=
  ⟨by decide +kernel, by decide +kernel, by decide +kernel, by decide +kernel⟩



end W07

namespace W08
def ln : CamLine := { line := 9, vcType := 0, flags := 0x40, settings := 4, trig := 7, trigStamp := 1088, trim := 3, freeNs := none, arrival := 99, linkDelay := 3, expDelay := 2, exposure := 2, planes := [], bank := 1, cal := false }
def ea : Edge := {stamp := 1000, pos := 65536, step := 65536, dt := 300, suspect := false}
def eb : Edge := {stamp := 1300, pos := 131072, step := 65536, dt := 300, suspect := true}
def pl (s : State) (p : Nat) (x : PlacePort) : State := D s fun d => d.setPl p x
def edges (s : State) (l : List Edge) : State := D s fun d => d.setEnc 0 {d.enc 0 with edges := l}
def q : PlaceIn := {cam := ln, lost := false}
def s0 := edges (pl S 3 {queue := [q]}) [eb,ea]
def s1 := edges (pl S 3 {queue := [q]}) [ea]
def al (k : Nat) : AccLine := {line := k, trig := k, tTrig := 5, mid := 5, wp := 65536*k+20, flags := 4*(k%2)*(k%3), settings := k+2, arrival := k, hole := k == 4}
def g0 := U (U (O (pl S 3 {acc := (List.range 8).map al, next := some 4}) 0x3000 3 (65536*65536)) 0xA .inService) 0xB .inService
def cl (k : Nat) : CorrLine := {cam := {ln with line := k, arrival := k}, planes := [(0,[1000*k,5,6,7])], bits := 16, runs := [], overflow := false, clip := false, bank := 0, means := []}
def g1 := O (O (pl (D g0 fun d => {d with corr := [(3, (List.range 8).map cl)]}) 3 {acc := (List.range 8).map fun k => {al k with hole := false}, next := some 4}) 0x2320 1 4) 0x2340 2 1

def st14 : State := (edges s0 [{ea with stamp := 2000}])
def st23 : State := (OB S 0x3002 1 [1,2,3])
def st24 : State := (OB S 0x3002 1 [1,2,3])
def st26 : State := (D S fun d => {d with mdCoef := {pending := true}})
def st28 : State := (D S fun d => {d with mdCoef := {pending := true}})

theorem test_LinesArePlacedByTheirMidpoint_0 :
    (okPort 3 = true ∧ s0.d.pow.heldBy = none ∧ s0.d.inForce = [] ∧ q.cam.freeNs = none ∧ q.lost = false ∧ (s0.d.pl 3).queue = [q] ∧ (s0.d.pl 3).acc = [] ∧ (s0.d.pl 3).count = 0 ∧ (s0.d.enc (s0.d.gn 12288 1)).edges = [eb, ea] ∧ stampDiff (wrapU 64 (↑q.cam.trigStamp + ↑q.cam.linkDelay + q.cam.trim + (16 : ℤ) * ↑q.cam.expDelay + (8 : ℤ) * ↑q.cam.exposure)) eb.stamp < (0 : ℤ) ∧ (0 : ℤ) ≤ stampDiff (wrapU 64 (↑q.cam.trigStamp + ↑q.cam.linkDelay + q.cam.trim + (16 : ℤ) * ↑q.cam.expDelay + (8 : ℤ) * ↑q.cam.exposure)) ea.stamp ∧ wrapU 64 (↑eb.stamp - ↑ea.stamp) ≠ 0 ∧ inReversal s0.d (s0.d.gn 12288 1) (wrapU 64 (↑q.cam.trigStamp + ↑q.cam.linkDelay + q.cam.trim + (16 : ℤ) * ↑q.cam.expDelay + (8 : ℤ) * ↑q.cam.exposure)) = false ∧ tabGet s0.d.corr [] 3 = [] ∧ (tabGet s0.d.placed [] 3).length < 64) := by decide +kernel

theorem test_LinesArePlacedByTheirMidpoint_1 :
    (okPort 3 = true ∧ s1.d.pow.heldBy = none ∧ s1.d.inForce = [] ∧ q.lost = false ∧ (s1.d.pl 3).queue = [q] ∧ (s1.d.pl 3).acc = [] ∧ (s1.d.pl 3).count = 0 ∧ (s1.d.enc (s1.d.gn 12288 1)).edges = [ea] ∧ (0 : ℤ) ≤ stampDiff (midTime q.cam) ea.stamp ∧ stoodStill s1.d (s1.d.gn 12288 1) (midTime q.cam) = false ∧ ↑(s1.d.gn 12288 4 * 16000) ≤ stampDiff (s1.applied 7) (midTime q.cam) ∧ inReversal s1.d (s1.d.gn 12288 1) (midTime q.cam) = false ∧ tabGet s1.d.corr [] 3 = []) := by decide +kernel

theorem test_LinesArePlacedByTheirMidpoint_2 :
    (okPort 3 = true ∧ st14.d.pow.heldBy = none ∧ st14.d.inForce = [] ∧ (st14.d.pl 3).queue = [q] ∧ (st14.d.pl 3).acc = [] ∧ (st14.d.enc (st14.d.gn 12288 1)).edges ≠ [] ∧ (∀ g ∈ (st14.d.enc (st14.d.gn 12288 1)).edges, stampDiff (midTime q.cam) g.stamp < (0 : ℤ))) := by decide +kernel

theorem test_GridLinesFollowTheirRules_0 :
    (okPort 3 = true ∧ g0.d.pow.heldBy = none ∧ g0.d.ovls = [] ∧ placerOn g0.d = true ∧ g0.d.ustate 11 ≠ UState.off ∧ g0.d.stitch.next = none ∧ g0.d.mdCoef = { : CoefSwap } ∧ (∀ l ∈ (g0.d.pl 3).lastM, l < (4 : ℤ)) ∧ (g0.d.pl 3).next = some (4 : ℤ) ∧ lineA (g0.d.pl 3) ((g0.d.gi 12288 2 * (65536 : ℤ) + (4 : ℤ) * ↑(g0.d.gn 12288 3)) / (65536 : ℤ)) = some 3 ∧ (g0.d.pl 3).acc.length = 8 ∧ (g0.d.pl 3).acc[3]? = some (al 3) ∧ (g0.d.pl 3).acc[4]? = some (al 4) ∧ (al 4).hole = true) := by decide +kernel

theorem test_GridLinesFollowTheirRules_1 :
    (okPort 3 = true ∧ g1.d.pow.heldBy = none ∧ g1.d.ovls = [] ∧ placerOn g1.d = true ∧ g1.d.ustate 11 ≠ UState.off ∧ g1.d.stitch.next = none ∧ g1.d.mdCoef = { : CoefSwap } ∧ (∀ l ∈ (g1.d.pl 3).lastM, l < (4 : ℤ)) ∧ (g1.d.pl 3).next = some (4 : ℤ) ∧ lineA (g1.d.pl 3) ((g1.d.gi 12288 2 * (65536 : ℤ) + (4 : ℤ) * ↑(g1.d.gn 12288 3)) / (65536 : ℤ)) = some 3 ∧ (g1.d.pl 3).acc.length = 8 ∧ (∀ l ∈ List.drop 1 (g1.d.pl 3).acc, l.hole = false) ∧ (List.map cl (List.range 8)).length = 8 ∧ List.map (corrOf g1.d 3) (g1.d.pl 3).acc = List.map some (List.map cl (List.range 8))) := by decide +kernel

theorem test_GridLinesFollowTheirRules_2 :
    (masterOk C = true ∧ st23.d.pow.heldBy = none ∧ st23.d.accepts C 12289 1 (1 : ℤ) = true ∧ tabFind st23.d.inForce (okey 12289 2) = none ∧ 0 ∈ badPhase 1024 0 (st23.d.gB 12290 1)) ∧
    (masterOk C = true ∧ st24.d.pow.heldBy = none ∧ st24.d.accepts C 12289 1 (1 : ℤ) = true ∧ tabFind st24.d.inForce (okey 12289 2) = none ∧ 0 ∈ badPhase 1024 0 (st24.d.gB 12290 1)) :=
  ⟨by decide +kernel, by decide +kernel⟩

theorem test_GridLinesFollowTheirRules_3 :
    (masterOk C = true ∧ S.d.pow.heldBy = none ∧ S.d.accepts C 12289 1 (2 : ℤ) = true ∧ S.d.mdCoef.pending = false) ∧
    (masterOk C = true ∧ st26.d.pow.heldBy = none ∧ st26.d.accepts C 12289 1 (2 : ℤ) = true ∧ st26.d.mdCoef.pending = true) :=
  ⟨by decide +kernel, by decide +kernel⟩

theorem test_GridLinesFollowTheirRules_4 :
    (masterOk C = true ∧ S.d.pow.heldBy = none ∧ S.d.accepts C 12289 5 (1 : ℤ) = true ∧ S.d.mdCoef.pending = false) ∧
    (masterOk C = true ∧ st28.d.pow.heldBy = none ∧ st28.d.accepts C 12289 5 (1 : ℤ) = true ∧ st28.d.mdCoef.pending = true) :=
  ⟨by decide +kernel, by decide +kernel⟩

theorem badPhase_sound (n : Nat) : ∀ k, badPhase n k (List.replicate n ([0, 64] ++ List.replicate 14 (0 : Byte))).flatten = none := by
  induction n with
  | zero => intro k; rfl
  | succ n ih =>
    intro k
    have h : sumI ((u16s ([0, 64] ++ List.replicate 14 (0 : Byte))).map i16) = 16384 := by decide
    rw [List.replicate_succ, List.flatten_cons, badPhase, List.take_left' (by decide), List.drop_left' (by decide), if_pos h]
    exact ih (k + 1)

def soundTable : State := OB S 0x3002 1 (List.replicate 1024 ([0, 64] ++ List.replicate 14 (0 : Byte))).flatten

theorem test_GridLinesFollowTheirRules_2_sound :
    (masterOk C = true ∧ soundTable.d.pow.heldBy = none ∧ soundTable.d.accepts C 12289 1 (1 : ℤ) = true ∧ tabFind soundTable.d.inForce (okey 12289 2) = none) ∧
    badPhase 1024 0 (soundTable.d.gB 12290 1) = none :=
  ⟨by decide +kernel, badPhase_sound 1024 0⟩

end W08

namespace W09
def mdl (s : State) (u : Nat) := U s u .inService
def gl : GridLine := {m := 4, wp := 65536*4, gap := false, flags := 0, setA := 3, setB := 4, planes := [(0, List.range 20)], runs := [], arrival := 77}
-- polynomial u = 3 + t : c0=3.0, c1 = 1.0
def r0 := O (O (O (O (O (O (O (U (U S (uPort 3) .inService) 0xB .inService) 0x1B00 1 8) 0x1B00 3 1) 0x23a2 5 0) 0x23a2 6 7) 0x23a2 1 0x4008000000000000) 0x23a2 2 0x3ff0000000000000) 0x3000 3 (65536*65536)
def r1 := D (O (O r0 0x2320 1 20) 0x2340 1 12) fun d => {d with stitch := {next := some 4}, grid := [(3,[gl])]}
def r2 := D r1 fun d => d.setSide 0 {state := .present}
def up (s : State) (g : Nat) := LK s g {mask := 1, link := .up}
def pkt (k : Nat) (pay : List Byte) : List Byte := cascPacket k 5 0 pay
def c0 := up (up (U (O (O r2 0x1B00 6 2) 0x1B00 7 2) 8 .inService) 16) 18
def hp := [0,0,1] ++ helloConfig c0.d 0 ++ [1,0,0,0] ++ toBE 8 0 ++ toBE 8 0 ++ toBE 8 (c0.d.gn 0x1B00 4) ++ List.replicate 8 0
def c1 : State := {c0 with tu := {c0.tu with state := .held}}
def gb := O (O (O (O r1 0x23a3 1 0x4008000000000000) 0x23a3 2 0x3ff0000000000000) 0x23a3 5 0) 0x23a3 6 7

def st22 : State := (D c1 fun d => d.setSide 0 {state := .mismatch})
def st28 : State := (D (O (O gb 0x3013 8 5) 0x3013 3 (99*65536)) fun d => {d with stitch := {next := some 5, last := some 4}})
def st30 : State := (D S fun d => {d with geo := [(3,{at_ := none, late := false})]})
def st32 : State := (D S fun d => {d with geo := [(3,{at_ := none, late := false})]})
def st33 : State := (OB S 0x1B03 1 [1])
def st34 : State := (OB S 0x1B03 1 [1])
def st35 : State := (D S fun d => {d with cdCoef := {pending := true}})

theorem test_RasterAndCascadeFollowTheirRules_0 :
    (okPort 3 = true ∧ r1.d.pow.heldBy = none ∧ r1.d.ovls = [] ∧ r1.d.shadow = [] ∧ r1.d.geo = [] ∧ r1.d.cdCoef = { : CoefSwap } ∧ r1.d.ustate 11 ≠ UState.off ∧ linePorts r1.d (4 : ℤ) = [3] ∧ r1.d.stitch.next = some (4 : ℤ) ∧ (r1.d.side 0).state = NbState.none ∧ (r1.d.side 1).state = NbState.none ∧ gridAt r1.d 3 (4 : ℤ) = some gl ∧ gl.gap = false ∧ 0 < r1.d.gn 6912 1 ∧ (geoOf r1.d 3 (geoBank r1.d 3)).first ≤ 0 ∧ 0 ≤ (geoOf r1.d 3 (geoBank r1.d 3)).last) := by decide +kernel

theorem test_RasterAndCascadeFollowTheirRules_1 :
    (okPort 3 = true ∧ r2.d.pow.heldBy = none ∧ r2.d.shadow = [] ∧ r2.d.geo = [] ∧ r2.d.cdCoef = { : CoefSwap } ∧ r2.d.ustate 11 ≠ UState.off ∧ linePorts r2.d (4 : ℤ) = [3] ∧ r2.d.stitch.next = some (4 : ℤ) ∧ (r2.d.side 0).state = NbState.present ∧ (r2.d.side 1).state = NbState.none ∧ (gridAt r2.d 3 (4 : ℤ)).isSome = true ∧ (List.find? (fun (q : Export) => q.m == (4 : ℤ)) (r2.d.side 0).exports = none) ∧ ownComplete r2.d (4 : ℤ) + r2.d.gn 6928 4 ≤ rawAt 7 r2 ∧ 1 < r2.d.gn 6928 5) := by decide +kernel

theorem test_RasterAndCascadeFollowTheirRules_2 :
    (okSide 0 = true ∧ c0.d.pow.heldBy = none ∧ c0.d.takesCascade 0 1 (pkt 1 (toBE 8 (65536 * 4) ++ List.replicate 16 (0 : Byte))) = true ∧ (c0.d.side 0).state = NbState.present ∧ gridCeil c0.d (wrapI 64 ↑(beAt (slice (pkt 1 (toBE 8 (65536 * 4) ++ List.replicate 16 (0 : Byte))) 16 (4 * beAt (pkt 1 (toBE 8 (65536 * 4) ++ List.replicate 16 (0 : Byte))) 2 2)) 0 8)) = (4 : ℤ) ∧ gridWp c0.d (4 : ℤ) = wrapI 64 ↑(beAt (slice (pkt 1 (toBE 8 (65536 * 4) ++ List.replicate 16 (0 : Byte))) 16 (4 * beAt (pkt 1 (toBE 8 (65536 * 4) ++ List.replicate 16 (0 : Byte))) 2 2)) 0 8) ∧ (Option.all (fun (n : ℤ) => decide (n ≤ (4 : ℤ)) && decide ((4 : ℤ) < n + (64 : ℤ))) c0.d.stitch.next = true) ∧ (c0.d.side 0).exports.length < 64) ∧
    (okSide 0 = true ∧ c0.d.pow.heldBy = none ∧ c0.d.takesCascade 0 1 (pkt 1 (toBE 8 (65536 * 3) ++ List.replicate 16 (0 : Byte))) = true ∧ (c0.d.side 0).state = NbState.present ∧ gridCeil c0.d (wrapI 64 ↑(beAt (slice (pkt 1 (toBE 8 (65536 * 3) ++ List.replicate 16 (0 : Byte))) 16 (4 * beAt (pkt 1 (toBE 8 (65536 * 3) ++ List.replicate 16 (0 : Byte))) 2 2)) 0 8)) = (3 : ℤ) ∧ gridWp c0.d (3 : ℤ) = wrapI 64 ↑(beAt (slice (pkt 1 (toBE 8 (65536 * 3) ++ List.replicate 16 (0 : Byte))) 16 (4 * beAt (pkt 1 (toBE 8 (65536 * 3) ++ List.replicate 16 (0 : Byte))) 2 2)) 0 8) ∧ c0.d.inForce = [] ∧ (∀ n ∈ c0.d.stitch.next, (3 : ℤ) < n) ∧ c0.d.stitch.next ≠ none) :=
  ⟨by decide +kernel, by decide +kernel⟩

theorem test_RasterAndCascadeFollowTheirRules_3 :
    (okSide 0 = true ∧ c1.d.pow.heldBy = none ∧ c1.d.takesCascade 0 4 (pkt 4 hp) = true ∧ (c1.d.side 0).state ≠ NbState.none ∧ (c1.d.side 0).state ≠ NbState.linkDown ∧ slice (slice (pkt 4 hp) 16 (4 * beAt (pkt 4 hp) 2 2)) 3 25 = helloConfig c1.d 0 ∧ slice (slice (pkt 4 hp) 16 (4 * beAt (pkt 4 hp) 2 2)) 48 8 = toBE 8 (c1.d.gn 6912 4) ∧ beAt (slice (pkt 4 hp) 16 (4 * beAt (pkt 4 hp) 2 2)) 28 1 ≠ 0 ∧ c1.tu.state ≠ TimeState.free ∧ ↑(posAt c1.d (beAt (slice (pkt 4 hp) 16 (4 * beAt (pkt 4 hp) 2 2)) 32 8) - wrapI 64 ↑(beAt (slice (pkt 4 hp) 16 (4 * beAt (pkt 4 hp) 2 2)) 40 8)).natAbs ≤ c1.d.gi 6928 6 ∧ edgeCovers c1.d 0 = true) ∧
    (okSide 0 = true ∧ st22.d.pow.heldBy = none ∧ st22.d.takesCascade 0 4 (pkt 4 (hp.set 4 (9 : Byte))) = true ∧ (st22.d.side 0).state ≠ NbState.none ∧ (st22.d.side 0).state ≠ NbState.linkDown ∧ 4 ∈ firstDiff 3 (helloConfig st22.d 0) (slice (slice (pkt 4 (hp.set 4 (9 : Byte))) 16 (4 * beAt (pkt 4 (hp.set 4 (9 : Byte))) 2 2)) 3 25) ∧ st22.d.inForce = [] ∧ ((st22.d.side 0).state = NbState.hello ∨ (st22.d.side 0).state = NbState.mismatch)) :=
  ⟨by decide +kernel, by decide +kernel⟩

theorem test_RasterAndCascadeFollowTheirRules_4 :
    (okSide 0 = true ∧ c1.d.pow.heldBy = none ∧ (c1.d.side (1 - 0)).state = NbState.none ∧ (c1.d.side 0).state ≠ NbState.none ∧ (c1.d.side 0).state ≠ NbState.linkDown ∧ (∀ a ∈ (c1.d.side 0).helloAt, a + 16000000 ≤ rawAt 7 c1) ∧ linkUp c1.d (16 + 0) = true) := by decide +kernel

theorem test_RasterAndCascadeFollowTheirRules_5 :
    (okSide 0 = true ∧ c1.d.pow.heldBy = none ∧ c1.d.takesCascade 0 5 (pkt 5 [(1 : Byte), (2 : Byte), (3 : Byte), (4 : Byte)]) = true ∧ (tabFind (c1.d.side 0).seqs 5 = some (beAt (pkt 5 [(1 : Byte), (2 : Byte), (3 : Byte), (4 : Byte)]) 4 4) ∨ tabFind (c1.d.side 0).seqs 5 = none)) := by decide +kernel

theorem test_GeometryAndCoefficientSwapsFollowTheirRules_0 :
    (masterOk C = true ∧ okPort 3 = true ∧ S.d.pow.heldBy = none ∧ tabFind S.d.inForce (okey (8352 + 256 * 3) 4) = none ∧ S.d.accepts C (8352 + 256 * 3) 2 (1 : ℤ) = true ∧ geoFault S.d 3 (1 - S.d.gn (8352 + 256 * 3) 1) ≠ 0 ∧ S.d.accepts C (8352 + 256 * 3) 2 (2 : ℤ) = true) ∧
    (masterOk C = true ∧ okPort 3 = true ∧ gb.d.pow.heldBy = none ∧ tabFind gb.d.inForce (okey (8352 + 256 * 3) 4) = none ∧ gb.d.accepts C (8352 + 256 * 3) 2 (1 : ℤ) = true ∧ geoFault gb.d 3 (1 - gb.d.gn (8352 + 256 * 3) 1) = 0 ∧ (¬gb.d.gn (12304 + 3) 8 ≠ 0) ∧ gb.d.accepts C (8352 + 256 * 3) 2 (2 : ℤ) = true ∧ (∀ l ∈ stitchBegun gb.d, l < gridCeil gb.d (gb.d.gi (8352 + 256 * 3) 3))) ∧
    (masterOk C = true ∧ okPort 3 = true ∧ st28.d.pow.heldBy = none ∧ tabFind st28.d.inForce (okey (8352 + 256 * 3) 4) = none ∧ st28.d.accepts C (8352 + 256 * 3) 2 (1 : ℤ) = true ∧ geoFault st28.d 3 (1 - st28.d.gn (8352 + 256 * 3) 1) = 0 ∧ st28.d.gn (12304 + 3) 8 ≠ 0 ∧ (∀ l ∈ stitchBegun st28.d, l < gridCeil st28.d (st28.d.gi (12304 + 3) 3)) ∧ st28.d.accepts C (8352 + 256 * 3) 2 (2 : ℤ) = true ∧ (4 : ℤ) ∈ stitchBegun st28.d ∧ gridCeil st28.d (st28.d.gi (8352 + 256 * 3) 3) ≤ (4 : ℤ)) :=
  ⟨by decide +kernel, by decide +kernel, by decide +kernel⟩

theorem test_GeometryAndCoefficientSwapsFollowTheirRules_1 :
    (masterOk C = true ∧ okPort 3 = true ∧ S.d.pow.heldBy = none ∧ S.d.accepts C (8352 + 256 * 3) 2 (3 : ℤ) = true ∧ tabFind S.d.geo 3 = none) ∧
    (masterOk C = true ∧ okPort 3 = true ∧ st30.d.pow.heldBy = none ∧ st30.d.accepts C (8352 + 256 * 3) 2 (3 : ℤ) = true ∧ tabFind st30.d.geo 3 ≠ none) :=
  ⟨by decide +kernel, by decide +kernel⟩

theorem test_GeometryAndCoefficientSwapsFollowTheirRules_2 :
    (masterOk C = true ∧ okPort 3 = true ∧ S.d.pow.heldBy = none ∧ S.d.accepts C (8352 + 256 * 3) 6 (1 : ℤ) = true ∧ tabFind S.d.geo 3 = none ∧ S.d.gn (8352 + 256 * 3) 1 < 2 ∧ 0 < 8) ∧
    (masterOk C = true ∧ okPort 3 = true ∧ st32.d.pow.heldBy = none ∧ st32.d.accepts C (8352 + 256 * 3) 6 (1 : ℤ) = true ∧ tabFind st32.d.geo 3 ≠ none) :=
  ⟨by decide +kernel, by decide +kernel⟩

theorem test_GeometryAndCoefficientSwapsFollowTheirRules_3 :
    (masterOk C = true ∧ st33.d.pow.heldBy = none ∧ st33.d.accepts C 6914 1 (1 : ℤ) = true ∧ tabFind st33.d.inForce (okey 6914 2) = none ∧ 0 ∈ badPhase 512 0 (st33.d.gB 6915 1) ∧ st33.d.accepts C 6914 4 (1 : ℤ) = true ∧ st33.d.cdCoef.pending = false) ∧
    (masterOk C = true ∧ st34.d.pow.heldBy = none ∧ st34.d.accepts C 6914 1 (1 : ℤ) = true ∧ tabFind st34.d.inForce (okey 6914 2) = none ∧ 0 ∈ badPhase 512 0 (st34.d.gB 6915 1)) ∧
    (masterOk C = true ∧ st35.d.pow.heldBy = none ∧ st35.d.accepts C 6914 1 (2 : ℤ) = true ∧ st35.d.cdCoef.pending = true ∧ st35.d.accepts C 6914 4 (1 : ℤ) = true) :=
  ⟨by decide +kernel, by decide +kernel, by decide +kernel⟩

def soundTable : State := OB S 0x1B03 1 (List.replicate 512 ([0, 64] ++ List.replicate 14 (0 : Byte))).flatten

theorem test_GeometryAndCoefficientSwapsFollowTheirRules_3_sound :
    (masterOk C = true ∧ soundTable.d.pow.heldBy = none ∧ soundTable.d.accepts C 6914 1 (1 : ℤ) = true ∧ tabFind soundTable.d.inForce (okey 6914 2) = none) ∧
    badPhase 512 0 (soundTable.d.gB 6915 1) = none :=
  ⟨by decide +kernel, W08.badPhase_sound 512 0⟩

end W09

namespace W10
def ch (s : State) (c : Nat) (x : Chain) := D s fun d => d.setChain c x
def q : ChainIn := {held := 0, stamp := 555, wp := -7, val := some (-4)}

def st7 : State := (ch (O S 0x3112 0x11 0) 2 {running := true, queue := [q]})
def st8 : State := (ch (O (O S 0x3112 6 4) 0x3112 8 2) 2 {running := true, index := 3, queue := [q], acc := [1,2], combs := [[],[]]})
def st10 : State := (O (O S 0x3112 1 5) 0x3112 8 3)
def st12 : State := (ch S 2 {running := true, queue := [q]})
def st13 : State := (ch (U (O S 0x3112 1 5) 9 .inService) 2 {running := true, queue := [q]})
def st14 : State := (ch S 2 {running := true, lastFeed := some (289360691352306693)})
def st16 : State := (OB S 0x3185 5 (List.replicate 1024 1))

theorem test_ChainsFollowTheirRules_0 :
    (okChain 2 = true ∧ st7.d.pow.heldBy = none ∧ (st7.d.chain 2).running = true ∧ (st7.d.chain 2).queue = [q] ∧ q.held = 0 ∧ q.val = some (-4 : ℤ) ∧ (st7.d.chain 2).heldRun ≤ st7.d.gn (12560 + 2) 14 ∧ (st7.d.chain 2).swap = none ∧ st7.d.gn (12560 + 2) 6 = 1 ∧ st7.d.gn (12560 + 2) 9 = 0 ∧ st7.d.gn (12560 + 2) 11 = 0 ∧ st7.d.gn (12560 + 2) 13 = 0 ∧ st7.d.gn (12560 + 2) 17 = 0 ∧ st7.d.gb (12560 + 2) 21 = false ∧ st7.d.gb (12560 + 2) 16 = false ∧ st7.d.shadow = [] ∧ st7.d.inForce = [] ∧ (st7.d.chain 2).boundary = none ∧ (st7.d.chain 2).count = (st7.d.chain 2).index) ∧
    (okChain 2 = true ∧ st8.d.pow.heldBy = none ∧ (st8.d.chain 2).running = true ∧ (st8.d.chain 2).queue = [q] ∧ q.held = 0 ∧ q.val = some (-4 : ℤ) ∧ (st8.d.chain 2).heldRun ≤ st8.d.gn (12560 + 2) 14 ∧ (st8.d.chain 2).swap = none ∧ (st8.d.chain 2).index % st8.d.gn (12560 + 2) 6 ≠ 0 ∧ st8.d.gn (12560 + 2) 6 ≠ 1 ∧ 0 ≠ 2) :=
  ⟨by decide +kernel, by decide +kernel⟩

theorem test_ChainsFollowTheirRules_1 :
    (masterOk C = true ∧ okChain 2 = true ∧ S.d.pow.heldBy = none ∧ S.d.accepts C (12560 + 2) 15 (1 : ℤ) = true ∧ runCause S.d 2 ≠ 0) ∧
    (masterOk C = true ∧ okChain 2 = true ∧ st10.d.pow.heldBy = none ∧ st10.d.accepts C (12560 + 2) 15 (1 : ℤ) = true ∧ runCause st10.d 2 = 0 ∧ 0 ≠ 2) :=
  ⟨by decide +kernel, by decide +kernel⟩

theorem test_ChainsFollowTheirRules_2 :
    (masterOk C = true ∧ okChain 2 = true ∧ st12.d.pow.heldBy = none ∧ st12.d.accepts C (12560 + 2) 15 (2 : ℤ) = true) := by decide +kernel

theorem test_ChainsFollowTheirRules_3 :
    (masterOk C = true ∧ okChain 2 = true ∧ st13.d.pow.heldBy = none ∧ st13.d.hasRole C (objWr (12736 + 2) 1) = true ∧ (st13.d.chain 2).running = true ∧ (List.replicate 16 (4 : Byte)).length = 16 ∧ st13.d.gn (12560 + 2) 1 = 5 ∧ st13.d.ustate 9 ≠ UState.off ∧ (st13.d.chain 2).queue.length < 64 ∧ (∀ a ∈ (st13.d.chain 2).lastFeed, (0 : ℤ) ≤ stampDiff (leAt (List.replicate 16 (4 : Byte)) 8 8) a) ∧ 0 ≠ 2) ∧
    (masterOk C = true ∧ okChain 2 = true ∧ st14.d.pow.heldBy = none ∧ st14.d.hasRole C (objWr (12736 + 2) 1) = true ∧ (st14.d.chain 2).running = true ∧ 289360691352306693 ∈ (st14.d.chain 2).lastFeed ∧ stampDiff (leAt (List.replicate 16 (4 : Byte)) 8 8) 289360691352306693 < (0 : ℤ)) :=
  ⟨by decide +kernel, by decide +kernel⟩

theorem test_ChainsFollowTheirRules_4 :
    (masterOk C = true ∧ okChain 2 = true ∧ S.d.pow.heldBy = none ∧ S.d.accepts C (12560 + 2) 26 (1 : ℤ) = true ∧ sumsOk (S.d.gB (12672 + 2 * 2 + (1 - S.d.gn (12560 + 2) 28)) 5) = true ∧ S.d.accepts C (12560 + 2) 26 (2 : ℤ) = true ∧ S.d.accepts C (12560 + 2) 26 (3 : ℤ) = true ∧ S.d.accepts C (12560 + 2) 25 (1 : ℤ) = true) ∧
    (masterOk C = true ∧ okChain 2 = true ∧ st16.d.pow.heldBy = none ∧ st16.d.accepts C (12560 + 2) 26 (1 : ℤ) = true ∧ sumsOk (st16.d.gB (12672 + 2 * 2 + (1 - st16.d.gn (12560 + 2) 28)) 5) = false ∧ st16.d.accepts C (12560 + 2) 26 (2 : ℤ) = true) :=
  ⟨by decide +kernel, by decide +kernel⟩



end W10

namespace W11
def sl (s : State) := (List.range 16).foldl (fun s k => U s (0x50+k) .inService) s
def rl : RasterLine := {m := 5, wp := 0, flags := 0, planes := [(0,[100,200,300,0])], runs := [(3,3)], gaps := [], settings := [], arrival := 7}
def a0 := D (sl (U (O (O S 0x1B00 1 4) 0x3200 3 4) 0xC .inService)) fun d => {d with raster := [rl], seg := {cols := [{mean := 6553600, var := 5, n := 10},{mean := 6553600, var := 5, n := 10},{n := 2},{n := 8}]}}
def a1 : State := match exec (.classLine 7) a0 with | .next s => s | _ => a0
def a2 := D a1 fun d => {d with raster := [{rl with m := 6}]}
def cl : ClassLine := {m := 5, wp := 3, flags := 0, time := 99, codes := [0,5,5,0,7], dev := [0,3,4,0,0], planes := [], gaps := [], settings := [], arrival := 5}
def t0 := D (U (O (O S 0x1B00 1 5) 0x3000 3 (65536*65536)) 0xD .inService) fun d => {d with classLines := [cl]}
def rr : TrackRun := {a := 1, b := 2, pol := 2}
def up (s : State) (g : Nat) := LK s g {mask := 1, link := .up}
def pkt (k : Nat) (pay : List Byte) : List Byte := cascPacket k 5 0 pay
def c0 := up (up (U t0 8 .inService) 16) 18
def rec : List Byte := [1,4,0,0] ++ toLE 2 0 ++ List.replicate 58 1
def c1 := U (O c0 0x3400 3 3) 0xE .inService

def st21 : State := (D t0 fun d => {d with trk := {mid := some (cl,[rr],5)}})
def st28 : State := (OB S 0x3221 1 (List.replicate 7 0 ++ [64]))
def st29 : State := (D (OB S 0x3221 1 [1]) fun d => {d with trk := {tree := {pending := true}}})
def st30 : State := (OB S 0x3221 1 (List.replicate 8 255))
def st35 : State := (D S fun d => {d with settle := {notify := 3}})

theorem test_ClassLinesFollowTheirRules_0 :
    (a0.d.pow.heldBy = none ∧ a0.d.ovls = [] ∧ a0.d.shadow = [] ∧ a0.d.raster = [rl] ∧ a0.d.ustate 12 ≠ UState.off ∧ a0.d.seg.wait = none ∧ a0.d.seg.relearn = false ∧ a0.d.seg.cols.length = a0.d.gn 6912 1 ∧ a0.d.seg.left.state = 0 ∧ a0.d.seg.right.state = 0 ∧ bit rl.flags 0 = false ∧ rl.gaps = [] ∧ statMasks a0.d = [] ∧ a0.d.gn 12803 17 = 0 ∧ (∀ k < 16, a0.d.inSvc (80 + k) = true) ∧ 0 < a0.d.gn 6912 1) := by decide +kernel

theorem test_ClassLinesFollowTheirRules_1 :
    (a2.d.pow.heldBy = none ∧ a2.d.ovls = [] ∧ a2.d.shadow = [] ∧ a2.d.raster = [{ rl with m := (6 : ℤ) }] ∧ a2.d.ustate 12 ≠ UState.off ∧ a2.d.seg.wait = some (a1.d.seg.wait.getD (classRow (envOf 7 a0) a0.d rl)) ∧ a2.d.seg.relearn = false ∧ a2.d.seg.cols.length = a2.d.gn 6912 1 ∧ a2.d.openCols = [] ∧ (a1.d.seg.wait.getD (classRow (envOf 7 a0) a0.d rl)).updated = false ∧ (a1.d.seg.wait.getD (classRow (envOf 7 a0) a0.d rl)).frozen = false ∧ 2 < (a1.d.seg.wait.getD (classRow (envOf 7 a0) a0.d rl)).codes.length ∧ nth (a1.d.seg.wait.getD (classRow (envOf 7 a0) a0.d rl)).codes 2 7 = 7) ∧
    (a2.d.pow.heldBy = none ∧ a2.d.ovls = [] ∧ a2.d.shadow = [] ∧ a2.d.raster = [{ rl with m := (6 : ℤ) }] ∧ a2.d.ustate 12 ≠ UState.off ∧ a2.d.seg.wait = some (a1.d.seg.wait.getD (classRow (envOf 7 a0) a0.d rl)) ∧ a2.d.seg.relearn = false ∧ a2.d.seg.cols.length = a2.d.gn 6912 1 ∧ a2.d.openCols = [] ∧ (a1.d.seg.wait.getD (classRow (envOf 7 a0) a0.d rl)).updated = false ∧ (a1.d.seg.wait.getD (classRow (envOf 7 a0) a0.d rl)).frozen = false ∧ 0 < a2.d.gn 6912 1 ∧ 0 < (a1.d.seg.wait.getD (classRow (envOf 7 a0) a0.d rl)).codes.length ∧ 0 < (a1.d.seg.wait.getD (classRow (envOf 7 a0) a0.d rl)).hard.length ∧ 0 < (a1.d.seg.wait.getD (classRow (envOf 7 a0) a0.d rl)).soft.length ∧ nth (a1.d.seg.wait.getD (classRow (envOf 7 a0) a0.d rl)).codes 0 7 = 0 ∧ nth (a1.d.seg.wait.getD (classRow (envOf 7 a0) a0.d rl)).hard 0 true = false ∧ nth (a1.d.seg.wait.getD (classRow (envOf 7 a0) a0.d rl)).soft 0 false = false) :=
  ⟨by decide +kernel, by decide +kernel⟩

theorem test_ClassLinesFollowTheirRules_2 :
    (masterOk C = true ∧ S.d.pow.heldBy = none ∧ S.d.accepts C 12800 15 (1 : ℤ) = true) := by decide +kernel

theorem test_RegionsFollowTheirRules_0 :
    (t0.d.pow.heldBy = none ∧ t0.d.ovls = [] ∧ t0.d.shadow = [] ∧ t0.d.classLines = [cl] ∧ t0.d.inSvc 13 = true ∧ nbWaits (t0.d.side 0).state = false ∧ nbWaits (t0.d.side 1).state = false ∧ t0.d.trk.mid = none ∧ t0.d.trk.regions = [] ∧ t0.d.trk.merged = [] ∧ t0.d.trk.prev = none ∧ t0.d.trk.prev2 = none ∧ t0.d.trk.inbox = [] ∧ t0.d.trk.squall = false ∧ t0.d.trk.cmd = 0 ∧ t0.d.trk.tree.pending = false ∧ trackRuns t0.d cl.codes = [rr] ∧ rr.a ≤ rr.b ∧ 0 < t0.d.gn 12817 (sliceOf t0.d rr.a + 1) ∧ (2 : ℤ) * ↑(t0.d.gn 12288 3) ≤ t0.d.gi 12816 3 * (65536 : ℤ)) := by decide +kernel

theorem test_RegionsFollowTheirRules_1 :
    (st21.d.pow.heldBy = none ∧ st21.d.trk.mid = some (cl, [rr], 5) ∧ 5 + st21.d.gn 6928 4 ≤ rawAt 7000000000000 st21) := by decide +kernel

theorem test_RegionsFollowTheirRules_2 :
    (okSide 0 = true ∧ c0.d.pow.heldBy = none ∧ c0.d.takesCascade 0 2 (pkt 2 ([(1 : Byte), (13 : Byte), (0 : Byte), (0 : Byte)] ++ toBE 4 55 ++ toBE 8 9)) = true ∧ c0.d.inSvc 13 = true ∧ c0.d.trk.mid = none ∧ splitEntries 1100 (slice (pkt 2 ([(1 : Byte), (13 : Byte), (0 : Byte), (0 : Byte)] ++ toBE 4 55 ++ toBE 8 9)) 16 (4 * beAt (pkt 2 ([(1 : Byte), (13 : Byte), (0 : Byte), (0 : Byte)] ++ toBE 4 55 ++ toBE 8 9)) 2 2)) = [[(1 : Byte), (13 : Byte), (0 : Byte), (0 : Byte)] ++ toBE 4 55 ++ toBE 8 9] ∧ beAt ([(1 : Byte), (13 : Byte), (0 : Byte), (0 : Byte)] ++ toBE 4 55 ++ toBE 8 9) 0 1 = 1) ∧
    (okSide 0 = true ∧ c0.d.pow.heldBy = none ∧ c0.d.takesCascade 0 2 (pkt 2 ([(2 : Byte), (0 : Byte), (0 : Byte), (0 : Byte)] ++ toBE 4 55 ++ toBE 8 9)) = true ∧ c0.d.inSvc 13 = true ∧ c0.d.trk.mid = none ∧ splitEntries 1100 (slice (pkt 2 ([(2 : Byte), (0 : Byte), (0 : Byte), (0 : Byte)] ++ toBE 4 55 ++ toBE 8 9)) 16 (4 * beAt (pkt 2 ([(2 : Byte), (0 : Byte), (0 : Byte), (0 : Byte)] ++ toBE 4 55 ++ toBE 8 9)) 2 2)) = [[(2 : Byte), (0 : Byte), (0 : Byte), (0 : Byte)] ++ toBE 4 55 ++ toBE 8 9] ∧ beAt ([(2 : Byte), (0 : Byte), (0 : Byte), (0 : Byte)] ++ toBE 4 55 ++ toBE 8 9) 0 1 ≠ 1) :=
  ⟨by decide +kernel, by decide +kernel⟩

theorem test_RegionsFollowTheirRules_3 :
    (masterOk C = true ∧ S.d.pow.heldBy = none ∧ S.d.accepts C 12816 7 (1 : ℤ) = true ∧ S.d.accepts C 12816 7 (2 : ℤ) = true) := by decide +kernel

theorem test_RegionsFollowTheirRules_4 :
    (masterOk C = true ∧ st28.d.pow.heldBy = none ∧ st28.d.accepts C 12832 1 (1 : ℤ) = true ∧ treeBad (st28.d.gB 12833 1) 64 0 [0] = none ∧ st28.d.accepts C 12832 1 (2 : ℤ) = true ∧ st28.d.trk.tree.pending = false ∧ st28.d.accepts C 12832 5 (1 : ℤ) = true) ∧
    (masterOk C = true ∧ st29.d.pow.heldBy = none ∧ st29.d.accepts C 12832 1 (1 : ℤ) = true ∧ 0 ∈ treeBad (st29.d.gB 12833 1) 64 0 [0] ∧ st29.d.accepts C 12832 1 (2 : ℤ) = true ∧ st29.d.trk.tree.pending = true ∧ st29.d.accepts C 12832 5 (1 : ℤ) = true) ∧
    (masterOk C = true ∧ st30.d.pow.heldBy = none ∧ st30.d.accepts C 12832 1 (1 : ℤ) = true ∧ 0 ∈ treeBad (st30.d.gB 12833 1) 64 0 [0]) :=
  ⟨by decide +kernel, by decide +kernel, by decide +kernel⟩

theorem test_SettleFollowsItsRules_0 :
    (okSide 0 = true ∧ c1.d.pow.heldBy = none ∧ c1.d.takesCascade 0 3 (pkt 3 rec) = true ∧ bit (c1.d.gn 13312 3) 0 = true ∧ c1.d.inSvc 14 = true ∧ c1.d.gn 13312 2 = 0 ∧ settleM c1.d = none ∧ c1.d.settle.last = none ∧ c1.d.settle.hold.length < 8192 ∧ tabGet c1.d.settle.sideQ [] 0 = [] ∧ splitRecs 1024 (slice (pkt 3 rec) 16 (4 * beAt (pkt 3 rec) 2 2)) = [rec] ∧ (leAt rec 0 1 = 1 ∨ leAt rec 0 1 = 2) ∧ leAt rec 4 2 / 1024 = ownEpoch c1.d) := by decide +kernel

theorem test_SettleFollowsItsRules_1 :
    (okSide 0 = true ∧ c0.d.pow.heldBy = none ∧ c0.d.takesCascade 0 3 (pkt 3 rec) = true ∧ bit (c0.d.gn 13312 3) 0 = false ∧ c0.d.inForce = []) := by decide +kernel

theorem test_SettleFollowsItsRules_2 :
    (st35.d.pow.heldBy = none ∧ 0 < st35.d.settle.notify ∧ st35.d.settle.notifyAt + st35.d.gn 13313 7 * 16000 ≤ rawAt 7000000000000 st35) := by decide +kernel



end W11

namespace W14
def hd (s : State) (h : Nat) (x : Head) := D s fun d => d.setHead h x
def svc (s : State) := U (U s 0xF .inService) 0x62 .inService
def rec : Rec := {bytes := [1,4,0,0] ++ toLE 2 0 ++ List.replicate 58 1, mdStart := 655360, mdEnd := 983040, cdFirst := 3, cdLast := 6}
def m0 := O (O (O (O (O (O (hd (svc S) 2 {armed := true, nextRow := 0}) 0x3620 1 4) 0x3652 1 1) 0x3612 2 5) 0x3612 4 (65536*65536)) 0x3600 7 1048576) 0x3612 6 65536
def m1 := D m0 fun d => {d with markQ := [rec]}

def m2 := U m1 0x32 .inService
def row : HeadRow := {k := 0, t0 := 80, f := 5, latch := 100}
def r0 := hd (D m2 fun d => {d with headPow := {on := true, settled := true}}) 2 {cur := some row}
def id0 := (U S 0x62 .inService)
def idb : List Byte := [0,1,0,0,0,0,128,0,0,0,255,255,0,0,0,0,0,0,0,0,0]
def rr := hd (OB S 0x3652 0x13 [0,0,0,0,0,0,0,0,3,232]) 2 {checking := true, nozzle := 5}
def ft := toLE 16 5 ++ toLE 4 3 ++ toLE 4 9

def st17 : State := (D r0 fun d => {d with headPow := {}})
def st21 : State := (hd S 2 {fireEnd := some 55})
def st28 : State := (O (svc (O S 0x3612 0xD 1)) 0x3652 1 1)
def st31 : State := (svc S)
def st35 : State := (U (svc S) 0x62 .test)

theorem test_MarksFollowTheirRules_0 :
    (okHead 2 = true ∧ m2.d.pow.heldBy = none ∧ m2.d.ovls = [] ∧ m2.d.shadow = [] ∧ m2.d.markQ = [rec] ∧ m2.d.inSvc 15 = true ∧ m2.d.inSvc (96 + 2) = true ∧ rec.epoch = ownEpoch m2.d ∧ rec.kind ≠ 3 ∧ (∀ q < 8, bit (m2.d.gn (13856 + field (m2.d.gn 12836 (rec.cls + 1)) 11 8) 1) q = decide (q = 2)) ∧ m2.d.gn (13904 + 2) 1 = 1 ∧ m2.d.gn (13840 + 2) 2 ≠ 255 ∧ ruleSel m2.d 2 (field (m2.d.gn 12836 (rec.cls + 1)) 11 8) rec = some (3, 7) ∧ ↑(m2.d.gn (13840 + 2) 4) ≠ (0 : ℤ) ∧ -(-((rec.mdStart - m2.d.gi (13856 + field (m2.d.gn 12836 (rec.cls + 1)) 11 8) 3 - m2.d.gi 12288 2) * (65536 : ℤ)) / ↑(m2.d.gn (13840 + 2) 4)) ≤ max ((rec.mdEnd + m2.d.gi (13856 + field (m2.d.gn 12836 (rec.cls + 1)) 11 8) 4 - m2.d.gi 12288 2) * (65536 : ℤ) / ↑(m2.d.gn (13840 + 2) 4)) (-(-((rec.mdStart - m2.d.gi (13856 + field (m2.d.gn 12836 (rec.cls + 1)) 11 8) 3 - m2.d.gi 12288 2) * (65536 : ℤ)) / ↑(m2.d.gn (13840 + 2) 4)) + ↑(m2.d.gn (13856 + field (m2.d.gn 12836 (rec.cls + 1)) 11 8) 7) - (1 : ℤ)) ∧ max ((rec.mdEnd + m2.d.gi (13856 + field (m2.d.gn 12836 (rec.cls + 1)) 11 8) 4 - m2.d.gi 12288 2) * (65536 : ℤ) / ↑(m2.d.gn (13840 + 2) 4)) (-(-((rec.mdStart - m2.d.gi (13856 + field (m2.d.gn 12836 (rec.cls + 1)) 11 8) 3 - m2.d.gi 12288 2) * (65536 : ℤ)) / ↑(m2.d.gn (13840 + 2) 4)) + ↑(m2.d.gn (13856 + field (m2.d.gn 12836 (rec.cls + 1)) 11 8) 7) - (1 : ℤ)) - -(-((rec.mdStart - m2.d.gi (13856 + field (m2.d.gn 12836 (rec.cls + 1)) 11 8) 3 - m2.d.gi 12288 2) * (65536 : ℤ)) / ↑(m2.d.gn (13840 + 2) 4)) < (16384 : ℤ) ∧ (m2.d.head 2).queue = [] ∧ (m2.d.head 2).armed = true ∧ (m2.d.head 2).nextRow ≤ -(-((rec.mdStart - m2.d.gi (13856 + field (m2.d.gn 12836 (rec.cls + 1)) 11 8) 3 - m2.d.gi 12288 2) * (65536 : ℤ)) / ↑(m2.d.gn (13840 + 2) 4)) ∧ dotUsed m2.d + 16 * (max ((rec.mdEnd + m2.d.gi (13856 + field (m2.d.gn 12836 (rec.cls + 1)) 11 8) 4 - m2.d.gi 12288 2) * (65536 : ℤ) / ↑(m2.d.gn (13840 + 2) 4)) (-(-((rec.mdStart - m2.d.gi (13856 + field (m2.d.gn 12836 (rec.cls + 1)) 11 8) 3 - m2.d.gi 12288 2) * (65536 : ℤ)) / ↑(m2.d.gn (13840 + 2) 4)) + ↑(m2.d.gn (13856 + field (m2.d.gn 12836 (rec.cls + 1)) 11 8) 7) - (1 : ℤ)) + (1 : ℤ) - -(-((rec.mdStart - m2.d.gi (13856 + field (m2.d.gn 12836 (rec.cls + 1)) 11 8) 3 - m2.d.gi 12288 2) * (65536 : ℤ)) / ↑(m2.d.gn (13840 + 2) 4))).toNat ≤ m2.d.gn 13824 7 ∧ memReady m2.d = true ∧ 0 ≠ 2) := by decide +kernel

theorem test_MarksFollowTheirRules_1 :
    (okHead 2 = true ∧ r0.d.pow.heldBy = none ∧ r0.d.inForce = [] ∧ (r0.d.head 2).cur = some row ∧ (r0.d.head 2).rows = [] ∧ (r0.d.head 2).queue = [] ∧ (r0.d.head 2).tests = none ∧ row.test = false ∧ row.marks = [] ∧ headDrives r0.d 2 row = true ∧ rowWeb r0.d 2 row.k - headLead r0.d 2 (encSpeed (envOf 7 r0) (begun r0.d) (r0.d.gn 12288 1)) ≤ encEst (envOf 7 r0) (begun r0.d) (r0.d.gn 12288 1) ∧ row.latch ≤ clk200 (rawAt 7 r0) ∧ (∀ z ∈ row.heatEnd, z + r0.d.gn (13840 + 2) 10 * 16 ≤ clk200 (rawAt 7 r0)) ∧ r0.d.headPow.on = true ∧ r0.d.headPow.settled = true ∧ 2 < 128 ∧ bit row.f 2 = true) ∧
    (okHead 2 = true ∧ st17.d.pow.heldBy = none ∧ st17.d.inForce = [] ∧ (st17.d.head 2).cur = some row ∧ (st17.d.head 2).rows = [] ∧ (st17.d.head 2).queue = [] ∧ (st17.d.head 2).tests = none ∧ row.test = false ∧ row.marks = [] ∧ headDrives st17.d 2 row = true ∧ rowWeb st17.d 2 row.k - headLead st17.d 2 (encSpeed (envOf 7 st17) (begun st17.d) (st17.d.gn 12288 1)) ≤ encEst (envOf 7 st17) (begun st17.d) (st17.d.gn 12288 1) ∧ (clk200 (rawAt 7 st17) < row.latch ∨ st17.d.headPow.on = false ∨ st17.d.headPow.settled = false)) :=
  ⟨by decide +kernel, by decide +kernel⟩

theorem test_MarksFollowTheirRules_2 :
    (okHead 2 = true ∧ st21.d.pow.heldBy = none ∧ (st21.d.head 2).fireEnd = some 55 ∧ 55 ≤ rawAt 7 st21) := by decide +kernel

theorem test_HeadsFollowTheirRules_0 :
    (okHead 2 = true ∧ id0.d.pow.heldBy = none ∧ id0.d.ustate (96 + 2) ≠ UState.off ∧ id0.d.gn (13904 + 2) 1 = 0 ∧ idb.length = 21 ∧ beAt idb 0 2 = 1 ∧ id0.d.gn (13840 + 2) 1 ≤ leAt idb 6 1 ∧ id0.d.gn (13840 + 2) 9 ≤ beAt idb 10 2) ∧
    (okHead 2 = true ∧ id0.d.pow.heldBy = none ∧ id0.d.ustate (96 + 2) ≠ UState.off ∧ id0.d.gn (13904 + 2) 1 = 0 ∧ (idb.set 1 (3 : Byte)).length = 21 ∧ (¬beAt (idb.set 1 (3 : Byte)) 0 2 = 1)) ∧
    (okHead 2 = true ∧ id0.d.pow.heldBy = none ∧ id0.d.ustate (96 + 2) ≠ UState.off ∧ id0.d.gn (13904 + 2) 1 = 0 ∧ (idb.set 6 (3 : Byte)).length = 21 ∧ beAt (idb.set 6 (3 : Byte)) 0 2 = 1 ∧ (¬id0.d.gn (13840 + 2) 1 ≤ leAt (idb.set 6 (3 : Byte)) 6 1)) ∧
    (okHead 2 = true ∧ id0.d.pow.heldBy = none ∧ id0.d.ustate (96 + 2) ≠ UState.off ∧ id0.d.gn (13904 + 2) 1 = 0 ∧ ((idb.set 10 (0 : Byte)).set 11 (1 : Byte)).length = 21 ∧ beAt ((idb.set 10 (0 : Byte)).set 11 (1 : Byte)) 0 2 = 1 ∧ id0.d.gn (13840 + 2) 1 ≤ leAt ((idb.set 10 (0 : Byte)).set 11 (1 : Byte)) 6 1 ∧ (¬id0.d.gn (13840 + 2) 9 ≤ beAt ((idb.set 10 (0 : Byte)).set 11 (1 : Byte)) 10 2)) :=
  ⟨by decide +kernel, by decide +kernel, by decide +kernel, by decide +kernel⟩

theorem test_HeadsFollowTheirRules_1 :
    (okHead 2 = true ∧ st28.d.pow.heldBy = none ∧ headMeasures st28.d 2 = true ∧ (st28.d.head 2).checkedAt + st28.d.gn (13840 + 2) 14 * 16000000 ≤ rawAt 7000000000000000 st28 ∧ (st28.d.head 2).checking = false ∧ rowDueSoon (envOf 7000000000000000 st28) (begun st28.d) 2 = false) := by decide +kernel

theorem test_HeadsFollowTheirRules_2 :
    (okHead 2 = true ∧ rr.d.pow.heldBy = none ∧ (rr.d.head 2).checking = true ∧ 0 < 1000 ∧ 1000 < 65535 ∧ beAt (rr.d.gB (13904 + 2) 19) 8 2 * (100 - rr.d.gn (13840 + 2) 16) ≤ 1000 * 100 ∧ 1000 * 100 ≤ beAt (rr.d.gB (13904 + 2) 19) 8 2 * (100 + rr.d.gn (13840 + 2) 16) ∧ (rr.d.head 2).nacks < 2) := by decide +kernel

theorem test_HeadsFollowTheirRules_3 :
    (masterOk C = true ∧ st31.d.pow.heldBy = none ∧ st31.d.inForce = [] ∧ st31.d.accepts C 13824 1 (1 : ℤ) = true ∧ st31.d.inSvc 15 = true ∧ st31.d.headPow.on = false) ∧
    (masterOk C = true ∧ r0.d.pow.heldBy = none ∧ r0.d.inForce = [] ∧ r0.d.accepts C 13824 1 (0 : ℤ) = true ∧ r0.d.headPow.on = true ∧ (∀ h < 8, (∀ z ∈ (r0.d.head h).fireEnd, z ≤ rawAt 7 r0) ∧ ∀ r ∈ (r0.d.head h).cur, ∀ z ∈ r.heatEnd, z ≤ rawAt 7 r0)) :=
  ⟨by decide +kernel, by decide +kernel⟩

theorem test_HeadsFollowTheirRules_4 :
    (r0.d.pow.heldBy = none ∧ r0.d.headPow.on = true ∧ r0.d.headPow.since + r0.d.gn 13824 2 * 16000 ≤ rawAt 9000000000000 r0) := by decide +kernel

theorem test_HeadsFollowTheirRules_5 :
    (masterOk C = true ∧ okHead 2 = true ∧ st35.d.pow.heldBy = none ∧ st35.d.hasRole C (objWr (13840 + 2) 17) = true ∧ ft.length = 24 ∧ headEff st35.d 2 = UState.test ∧ leAt ft 0 16 ≠ 0 ∧ leAt ft 16 4 ≠ 0 ∧ (st35.d.head 2).cur = none) ∧
    (masterOk C = true ∧ okHead 2 = true ∧ S.d.pow.heldBy = none ∧ S.d.hasRole C (objWr (13840 + 2) 17) = true ∧ (ft.length ≠ 24 ∨ headEff S.d 2 ≠ UState.test)) :=
  ⟨by decide +kernel, by decide +kernel⟩

/-- The table that maps every dot to its own nozzle. -/
def ownNozzles : List Byte := (List.range 1024).flatMap (toLE 2)

theorem ofLE_toLE (n : Nat) (h : n < 65536) (r : List Byte) : ofLE ((toLE 2 n ++ r).take 2) = n := by
  simp [toLE, byteAt, ofLE, List.range_succ]
  omega

theorem length_flatMap (l : List Nat) : (l.flatMap (toLE 2)).length = 2 * l.length := by
  induction l with
  | nil => rfl
  | cons a l ih => rw [List.flatMap_cons, List.length_append, ih, List.length_cons, show (toLE 2 a).length = 2 from rfl]; omega

theorem remapAt_flatMap (l : List Nat) : ∀ i, (∀ x ∈ l, x < 65536) → remapAt (l.flatMap (toLE 2)) i = nth l i 0 := by
  induction l with
  | nil => intro i _; simp [remapAt, leAt, slice, ofLE, nth]
  | cons a l ih =>
    intro i h
    cases i with
    | zero => exact ofLE_toLE a (h a (List.mem_cons_self ..)) _
    | succ i =>
      have e : ((a :: l).flatMap (toLE 2)).drop (2 * (i + 1)) = (l.flatMap (toLE 2)).drop (2 * i) := by
        rw [List.flatMap_cons, show 2 * (i + 1) = (toLE 2 a).length + 2 * i from by simp [toLE]; omega, ← List.drop_drop, List.drop_left]
      have k := ih i fun x m => h x (List.mem_cons_of_mem _ m)
      simp only [remapAt, leAt, slice, nth, e, List.getElem?_cons_succ] at k ⊢
      exact k

theorem ownNozzles_at (i : Nat) (h : i < 1024) : remapAt ownNozzles i = i := by
  have k := remapAt_flatMap (List.range 1024) i fun x m => Nat.lt_trans (List.mem_range.1 m) (by decide)
  rw [ownNozzles, k, nth, List.getElem?_range h, Option.getD_some]

theorem ownNozzles_ok (d : Dev) : remapOk d ownNozzles = true := by
  have e (h : Nat) (m : h < 8) : (List.range 128).map (fun p => remapAt ownNozzles (128 * h + p)) = (List.range 128).map (fun p => 128 * h + p) :=
    List.map_congr_left fun p m => ownNozzles_at _ (by have := List.mem_range.1 m; omega)
  have n : ownNozzles.length = 2048 := by rw [ownNozzles, length_flatMap, List.length_range]
  have k : ∀ h < 8, let es := (List.range 128).map (fun p => 128 * h + p)
      (es.all (fun v => field v 9 7 == h && field v 12 10 == 0) &&
        (List.range 128).all (fun p => !bit (nth es p 0) 14 && !bit (nth es p 0) 13) &&
        (es.map (· % 128)).eraseDups.length == 128) = true := by decide +kernel
  rw [remapOk, n, Bool.and_eq_true]
  refine ⟨rfl, List.all_eq_true.2 fun h m => ?_⟩
  rw [e h (List.mem_range.1 m)]
  have j := k h (List.mem_range.1 m)
  simp only [Bool.and_eq_true] at j ⊢
  refine ⟨⟨j.1.1, List.all_eq_true.2 fun p q => ?_⟩, j.2⟩
  have x := List.all_eq_true.1 j.1.2 p q
  simp only [Bool.and_eq_true] at x
  simp only [takesInside, x.1, x.2, Bool.true_or, Bool.and_true]

theorem test_HeadsFollowTheirRules_6 :
    (masterOk C = true ∧ S.d.pow.heldBy = none ∧ S.d.hasRole C (objWr 13888 1) = true) ∧ remapOk S.d [(5 : Byte)] = false :=
  ⟨by decide +kernel, by decide +kernel⟩

theorem test_HeadsFollowTheirRules_6_sound : remapOk S.d ownNozzles = true ∧
    ∀ i < 1024, bit (remapAt ownNozzles i) 15 = true → bit (remapAt (S.d.gB 13888 1) i) 15 = true := by
  refine ⟨ownNozzles_ok _, fun i h k => ?_⟩
  rw [ownNozzles_at i h, bit, Nat.shiftRight_eq_div_pow, Nat.div_eq_of_lt (Nat.lt_trans h (by decide))] at k
  cases k

end W14

namespace W15
def o : Offer := {chan := 5, prod := 0x141, data := 1, at_ := 1000, relay := none}
def dst (s : State) (c i v : Nat) := O s (chIdx c) (chSub c (2+i)) v
def e0 := O (dst (O (D (U S 2 .inService) fun d => {d with offers := [{o with chan := 4}, o], chanOn := [5]}) (chIdx 5) (chSub 5 10) 1) 5 0 33) (evIdx 33) (evSub 33 1) 2
def g : Granted := {at_ := 0, stamp := 5, data := 6, chan := 7, seq := 8}

def st9 : State := (O e0 (chIdx 5) (chSub 5 10) 5)
def st10 : State := (D e0 fun d => d.setChan 5 {busy := true})
def st13 : State := (D e0 fun d => d.setChan 5 {busy := true, cur := some o})
def st15 : State := (D S fun d => d.setTask 33 {work := some g})
def st16 : State := (D S fun d => d.setTask 33 {work := some g, held := [{g with seq := 9}]})
def st17 : State := (O S (evIdx 33) (evSub 33 1) 1)
def st18 : State := (O S (evIdx 33) (evSub 33 1) 1)
def st19 : State := (D S fun d => d.setEvp 33 {pulseEnd := some 5})
def st23 : State := (O S (chIdx 5) (chSub 5 12) (S.d.domOfM C))

theorem test_EventsFollowTheirRules_0 :
    (okChan 5 = true ∧ 33 < 64 ∧ e0.d.pow.heldBy = none ∧ e0.d.shadow = [] ∧ e0.d.inForce = [] ∧ e0.d.inSvc 2 = true ∧ (List.find? (fun (q : Offer) => q.chan == 5) e0.d.offers = some o) ∧ offerWaits e0.d 5 o 200 = false ∧ o.relay = none ∧ chOn e0.d 5 = true ∧ (e0.d.chan 5).busy = false ∧ gatePasses (envOf 7 e0) { begun e0.d with offers := e0.d.offers.erase o } 5 = true ∧ chSync e0.d 5 = false ∧ eddyFails (e0.d.chan 5) o.at_ = false ∧ chDests e0.d 5 = [33] ∧ (e0.d.task 33).work = none ∧ e0.d.gn (evIdx 33) (evSub 33 1) = 2) ∧
    (okChan 5 = true ∧ 33 < 64 ∧ st9.d.pow.heldBy = none ∧ st9.d.shadow = [] ∧ st9.d.inForce = [] ∧ st9.d.inSvc 2 = true ∧ (List.find? (fun (q : Offer) => q.chan == 5) st9.d.offers = some o) ∧ offerWaits st9.d 5 o 200 = false ∧ o.relay = none ∧ chOn st9.d 5 = true ∧ (st9.d.chan 5).busy = false ∧ gatePasses (envOf 7 st9) { begun st9.d with offers := st9.d.offers.erase o } 5 = false) ∧
    (okChan 5 = true ∧ 33 < 64 ∧ st10.d.pow.heldBy = none ∧ st10.d.shadow = [] ∧ st10.d.inForce = [] ∧ st10.d.inSvc 2 = true ∧ (List.find? (fun (q : Offer) => q.chan == 5) st10.d.offers = some o) ∧ offerWaits st10.d 5 o 200 = false ∧ o.relay = none ∧ chOn st10.d 5 = true ∧ (st10.d.chan 5).busy = true ∧ (st10.d.chan 5).latch = none) :=
  ⟨by decide +kernel, by decide +kernel, by decide +kernel⟩

theorem test_EventsFollowTheirRules_1 :
    (okChan 5 = true ∧ st13.d.pow.heldBy = none ∧ st13.d.shadow = [] ∧ (st13.d.chan 5).busy = true ∧ (st13.d.chan 5).waitRelays = [] ∧ (st13.d.chan 5).doneAt ≤ rawAt 7 st13 ∧ (st13.d.chan 5).latch = none ∧ (st13.d.chan 5).cur = some o ∧ o.relay = none) := by decide +kernel

theorem test_EventsFollowTheirRules_2 :
    (okTask 33 = true ∧ st15.d.pow.heldBy = none ∧ 33 < 64 ∧ (st15.d.task 33).work ≠ none ∧ (st15.d.task 33).busyTill ≤ rawAt 7 st15 ∧ (st15.d.task 33).held = []) ∧
    (okTask 33 = true ∧ st16.d.pow.heldBy = none ∧ 33 < 64 ∧ (st16.d.task 33).work ≠ none ∧ (st16.d.task 33).busyTill ≤ rawAt 7 st16 ∧ { g with seq := 9 } ∈ (st16.d.task 33).held.head? ∧ st16.d.gn (evIdx 33) (evSub 33 1) ≠ 2) :=
  ⟨by decide +kernel, by decide +kernel⟩

theorem test_EventsFollowTheirRules_3 :
    (okEvp 33 = true ∧ st17.d.pow.heldBy = none ∧ ((st17.d.evp 33).lvl ≠ true ∧ st17.d.gn (evIdx 33) (evSub 33 1) = 1 ∧ ¬(st17.d.gn (evIdx 33) (evSub 33 2) = 0 ∧ true = false) ∧ ¬(st17.d.gn (evIdx 33) (evSub 33 2) = 1 ∧ true = true))) ∧
    (okEvp 33 = true ∧ st18.d.pow.heldBy = none ∧ (¬((st18.d.evp 33).lvl ≠ false ∧ st18.d.gn (evIdx 33) (evSub 33 1) = 1 ∧ ¬(st18.d.gn (evIdx 33) (evSub 33 2) = 0 ∧ false = false) ∧ ¬(st18.d.gn (evIdx 33) (evSub 33 2) = 1 ∧ false = true)))) :=
  ⟨by decide +kernel, by decide +kernel⟩

theorem test_EventsFollowTheirRules_4 :
    (okEvp 33 = true ∧ st19.d.pow.heldBy = none ∧ (st19.d.evp 33).pulseEnd = some 5 ∧ 5 ≤ rawAt 7 st19) := by decide +kernel

theorem test_EventsFollowTheirRules_5 :
    (masterOk C = true ∧ S.d.pow.heldBy = none ∧ S.d.accepts C 5378 2 ((5 : Nat) : Int) = true ∧ (5 < 65536 ∨ S.d.secureM C = true ∧ S.d.hasRole C Role.integrator = true)) ∧
    (masterOk (Master.core 0 false) = true ∧ S.d.pow.heldBy = none ∧ S.d.accepts (Master.core 0 false) 5378 2 ((65536 : Nat) : Int) = true ∧ 65536 ≤ 65536 ∧ S.d.secureM (Master.core 0 false) = false) :=
  ⟨by decide +kernel, by decide +kernel⟩

theorem test_EventsFollowTheirRules_6 :
    (masterOk C = true ∧ okChan 5 = true ∧ S.d.pow.heldBy = none ∧ S.d.hasRole C Role.integrator = true ∧ S.d.gn (chIdx 5) (chSub 5 12) = 0 ∧ S.d.domOfM C = S.d.domOfM C ∧ S.d.domOfM C ≠ 0) ∧
    (masterOk C = true ∧ okChan 5 = true ∧ st23.d.pow.heldBy = none ∧ st23.d.hasRole C Role.integrator = true ∧ st23.d.gn (chIdx 5) (chSub 5 12) ≠ 0 ∧ st23.d.domOfM C = st23.d.gn (chIdx 5) (chSub 5 12) ∧ 2 ≠ 0) :=
  ⟨by decide +kernel, by decide +kernel⟩



end W15

namespace W16
def m0 := U (O S 0x1700 3 1000000) 0x32 .inService
def q : MemReq := {port := 3, addr := 100, len := 7, at_ := 55}
def m1 := D m0 fun d => {d with memReads := [q, {q with port := 4}], mem := [(99,5),(101,6),(107,8)], slots := [(0,[0,1,2,3,4,5,6])]}

def st11 : State := (D m0 fun d => {d with memReads := List.replicate 32 {port := 3, addr := 100, len := 5, at_ := 0}})
def st21 : State := (O m1 0x1700 2 16)
def st23 : State := (D m1 fun d => d.setRank 3 {lastRt := some 10000000000})
def st24 : State := (D m1 fun d => d.setRank 3 {lastRt := some 10000000000, postponed := 8})
def st25 : State := (D (O m1 0x1700 4 5) fun d => d.setRank 3 {lastRt := some 100})
def st28 : State := (D m1 fun d => {d with spares := [(0,7)]})
def st30 : State := (D m1 fun d => {d with migs := [3,4], spares := [(0,7)]})
def st31 : State := (D m1 fun d => {d with mig := some {src := 3, dst := 7, at_ := 5}, spares := [(0,7)]})

theorem test_MemoryRequestsFollowTheirRules_0 :
    (okMemPort 3 = true ∧ m0.d.pow.heldBy = none ∧ memReady m0.d = true ∧ Memory.wf m0.d.mem = true ∧ [(1 : Byte), (0 : Byte), (3 : Byte)] ≠ [] ∧ (3 = 20 → physArea 100 = some PhysArea.dram ∧ coreBusError m0.d 100 [(1 : Byte), (0 : Byte), (3 : Byte)].length true false = false) ∧ 100 + [(1 : Byte), (0 : Byte), (3 : Byte)].length ≤ m0.d.gn 5888 3 ∧ (m0.d.queuedAt 3 100 [(1 : Byte), (0 : Byte), (3 : Byte)].length).2.length < 32) ∧
    (okMemPort 3 = true ∧ m0.d.pow.heldBy = none ∧ memReady m0.d = true ∧ Memory.wf m0.d.mem = true ∧ [(1 : Byte), (0 : Byte), (3 : Byte)] ≠ [] ∧ (3 = 20 → physArea 999999 = some PhysArea.dram ∧ coreBusError m0.d 999999 [(1 : Byte), (0 : Byte), (3 : Byte)].length true false = false) ∧ m0.d.gn 5888 3 < 999999 + [(1 : Byte), (0 : Byte), (3 : Byte)].length ∧ m0.d.inForce = []) :=
  ⟨by decide +kernel, by decide +kernel⟩

theorem test_MemoryRequestsFollowTheirRules_1 :
    (okMemPort 3 = true ∧ m0.d.pow.heldBy = none ∧ memReady m0.d = true ∧ 0 < 5 ∧ 100 + 5 ≤ m0.d.gn 5888 3 ∧ (3 = 20 → physArea 100 = some PhysArea.dram ∧ coreBusError m0.d 100 5 false false = false) ∧ (m0.d.queuedAt 3 100 5).1.length < 32) ∧
    (okMemPort 3 = true ∧ st11.d.pow.heldBy = none ∧ memReady st11.d = true ∧ 0 < 5 ∧ 100 + 5 ≤ st11.d.gn 5888 3 ∧ (3 = 20 → physArea 100 = some PhysArea.dram ∧ coreBusError st11.d 100 5 false false = false) ∧ 32 ≤ (st11.d.queuedAt 3 100 5).1.length) :=
  ⟨by decide +kernel, by decide +kernel⟩

theorem test_MemoryRequestsFollowTheirRules_2 :
    (m0.d.pow.heldBy = none ∧ (coreBusError m0.d 13194139533312 (match (none : Option (List Byte)) with | some b => b.length | none => 4) (none : Option (List Byte)).isSome true = true)) := by decide +kernel

theorem test_MemoryRequestsFollowTheirRules_3 :
    (okMemPort 3 = true ∧ okRank 0 = true ∧ m1.d.pow.heldBy = none ∧ nextRead (envOf 7 m1) (begun m1.d) 3 = some q ∧ m1.d.mig = none ∧ (3 ≠ 20 ∨ (memRead m1.d q.addr q.len).2 = false) ∧ (∀ b ∈ m1.d.poison, b ≠ q.addr / 64) ∧ (∀ a ∈ hostAddr m1.d (hostDecode m1.d q.addr).1 (hostDecode m1.d q.addr).2.1, m1.d.poison.contains (a / 64) = false) ∧ 64 ∈ hostAddr m1.d (hostDecode m1.d q.addr).1 (hostDecode m1.d q.addr).2.1 ∧ m1.d.poison.contains (64 / 64 : ℕ) = false ∧ m1.d.inForce = []) := by decide +kernel

theorem test_MemoryRequestsFollowTheirRules_4 :
    (st21.d.pow.heldBy = none ∧ memReady st21.d = true ∧ scrubFirst st21.d st21.d.scrubAt.1 = some st21.d.scrubAt.1 ∧ (∀ a ∈ hostAddr st21.d st21.d.scrubAt.1 (10 * st21.d.scrubAt.2 + min 0 8), st21.d.poison.contains (a / 64) = false) ∧ st21.d.scrubAt.2 + 1 < eccGroups st21.d) := by decide +kernel

theorem test_RefreshAndMigrationFollowTheirRules_0 :
    (okRank 3 = true ∧ m1.d.pow.heldBy = none ∧ memReady m1.d = true ∧ (m1.d.rank 3).pulled = 0 ∧ inGust (envOf 7 m1) (begun m1.d) 3 = false) ∧
    (okRank 3 = true ∧ st23.d.pow.heldBy = none ∧ memReady st23.d = true ∧ (st23.d.rank 3).pulled = 0 ∧ inGust (envOf 7 st23) (begun st23.d) 3 = true ∧ (st23.d.rank 3).postponed < 8) ∧
    (okRank 3 = true ∧ st24.d.pow.heldBy = none ∧ memReady st24.d = true ∧ (st24.d.rank 3).pulled = 0 ∧ inGust (envOf 7 st24) (begun st24.d) 3 = true ∧ 8 ≤ (st24.d.rank 3).postponed) :=
  ⟨by decide +kernel, by decide +kernel, by decide +kernel⟩

theorem test_RefreshAndMigrationFollowTheirRules_1 :
    (okRank 3 = true ∧ st25.d.pow.heldBy = none ∧ memReady st25.d = true ∧ inGust (envOf 7 st25) (begun st25.d) 3 = false ∧ (st25.d.rank 3).lastRt ≠ none ∧ st25.d.gn 5888 4 ≠ 0 ∧ (st25.d.rank 3).calm = false ∧ rankQueued st25.d 3 false = false ∧ (st25.d.rank 3).postponed = 0 ∧ (st25.d.rank 3).lastServed + st25.d.gn 5888 4 * 16 ≤ rawAt 7 st25) := by decide +kernel

theorem test_RefreshAndMigrationFollowTheirRules_2 :
    (okRank 3 = true ∧ m1.d.pow.heldBy = none ∧ memReady m1.d = true ∧ 7 < 256) := by decide +kernel

theorem test_RefreshAndMigrationFollowTheirRules_3 :
    (masterOk C = true ∧ st28.d.pow.heldBy = none ∧ st28.d.accepts C 5888 14 ((3 : Nat) : Int) = true ∧ 3 < 96 ∧ slotOf st28.d 3 ≠ none ∧ migBusy st28.d 3 = false ∧ tabFind st28.d.spares (3 / 8 : ℕ) ≠ none) ∧
    (masterOk C = true ∧ m1.d.pow.heldBy = none ∧ m1.d.accepts C 5888 14 ((3 : Nat) : Int) = true ∧ 3 < 96 ∧ slotOf m1.d 3 ≠ none ∧ migBusy m1.d 3 = false ∧ tabFind m1.d.spares (3 / 8 : ℕ) = none) :=
  ⟨by decide +kernel, by decide +kernel⟩

theorem test_RefreshAndMigrationFollowTheirRules_4 :
    (st30.d.pow.heldBy = none ∧ st30.d.mig = none ∧ st30.d.migs = [3, 4] ∧ tabFind st30.d.spares (3 / 8 : ℕ) = some 7) := by decide +kernel

theorem test_RefreshAndMigrationFollowTheirRules_5 :
    (st31.d.pow.heldBy = none ∧ st31.d.mig = some { src := 3, dst := 7, at_ := 5 : Mig } ∧ { src := 3, dst := 7, at_ := 5 : Mig }.at_ + migTime st31.d ≤ rawAt 700000000000000 st31 ∧ { src := 3, dst := 7, at_ := 5 : Mig }.src ≠ { src := 3, dst := 7, at_ := 5 : Mig }.dst) := by decide +kernel



end W16

namespace W16m
def b4 := D S fun d => {d with pow := {d.pow with boot := .step 4}, mem := [(4,5)]}

theorem test_RefreshAndMigrationFollowTheirRules_6 :
    (b4.d.pow.heldBy = none ∧ b4.d.pow.boot = BootState.step 4 ∧ (∀ x ∈ List.map (fun (g : ℕ) => groupUp g (b4.d.gn (5896 + g) 1) [3, 9]) (List.range 12), x ≠ none) ∧ tabFind b4.d.inForce (okey 5888 3) = none ∧ 5 < 12) ∧
    (b4.d.pow.heldBy = none ∧ b4.d.pow.boot = BootState.step 4 ∧ (∃ x ∈ List.map (fun (g : ℕ) => groupUp g (b4.d.gn (5896 + g) 1) [0, 1, 2, 3, 4, 5, 6, 7, 8, 9, 17, 18, 19, 20]) (List.range 12), x = none)) :=
  ⟨by decide +kernel, by decide +kernel⟩



end W16m

namespace W17
def dm := O (O (O (O (O (U (D S fun d => {d with paceLow := [(3,(5,false))]}) 0x13 .inService) 0x3583 1 2) 0x3542 3 100) 0x3542 1 0) 0x2320 1 16000) 0x2320 4 1
def dm2 := D dm fun d => {d with peaks := [(0,[(9999999999, 10000)])]}
def tl : Tile := { ring := 0, first := 64, tile := 1, plane := 1, cols := 2, lines := 3, near := 0, bits := 8, flags := 1, samples := [1,2,3,4,5,6], lane := some 5, last := false }
def bo : BandOut := { start := 4096 }
def w0 := D (U (O S 0x1700 3 1000000) 0x32 .inService) fun d => {d with comp := {d.comp with work := [tl], rings := [(0,{writing := some bo})]}}
def w1 := O (O (O w0 0x1A01 3 1) 0x1A01 4 4096) 0x1A01 5 100000
def rc : Rec := { bytes := toLE 32 0x0304050607, mdStart := 0, mdEnd := 0, cdFirst := 0, cdLast := 0}
def hd : BlockHead := { coding := 1, near := 0, bits := 8, layout := 0, flags := 1, wp := 0, col := 0, cols := 3, lines := 6, origin := 0, bytes := 18 }
def smp := (List.range 18)
def blk := (makeBlock hd smp true false).1
def cr : Crop := { src := rc, m0 := 2, m1 := 5, c0 := 1, c1 := 2, clipped := false, at_ := 100 }
def k0 := O (U (U (U (O S 0x1700 3 1000000) 0x32 .inService) 0x31 .inService) 0x69 .inService) 0x1B00 3 1
def k1 := D k0 fun d => {d with comp := {d.comp with crops := [cr], rings := [(0,{index := [{first := 0, start := 4096, len := blk.length}]})]}, mem := memPut [] 4096 blk}
def cr2 := {cr with cut := some (5, [(0,[1,2,3,4,5,6,7,8]),(1,[9,8,7,6,5,4,3,2])]), lanes := [4,7]}
def k2 := O (O (O (D k1 fun d => {d with comp := {d.comp with crops := [cr2], lanes := [3,4,7,8]}}) 0x1A03 1 8192) 0x1A03 2 4096) 0x1A03 3 9000
def j0 := O (O (O k0 0x1A04 2 16) 0x1A04 4 3) 0x1A04 1 8192
def j0d := D j0 fun d => {d with mem := memPut [] (8192+64*3) [2]}
def ds (op : Nat) : List Byte := [BitVec.ofNat 8 op, 0,0,0,0,0,0,0] ++ toLE 8 4096 ++ toLE 8 blk.length ++ toLE 8 20000 ++ toLE 8 5000 ++ toLE 8 0 ++ toLE 8 1234567
def j1 (op : Nat) := O (O (O (D j0 fun d => {d with comp := {d.comp with jobs := [{desc := ds op, lane := 50}], lanes := [50]}, mem := memPut [] 4096 blk}) 0x1A04 3 3) 0x1A04 5 30000) 0x1A04 6 2

def st11 : State := (O (O (O S 0x1880 0 4) 0x1880 4 5) 0x1885 9 2)
def st16 : State := (D w0 fun d => {d with comp := {d.comp with rings := [(0,{writing := some bo, dropAt := some 9999999990})]}})
def st35 : State := (O (D k1 fun d => {d with comp := {d.comp with rings := []}}) 0x1A03 9 5)
def st37 : State := (U j0 0x31 .shadow)
def st43 : State := (j1 3)
def st44 : State := (j1 2)

theorem test_QueueCountersAndBudgetFollowTheirRules_0 :
    (okPort 3 = true ∧ S.d.pow.heldBy = none) := by decide +kernel

theorem test_QueueCountersAndBudgetFollowTheirRules_1 :
    (okPort 3 = true ∧ dm2.d.pow.heldBy = none ∧ tabFind dm2.d.paceLow (servedBy dm2.d 3) = some (5, false) ∧ demandOf (envOf 7 dm2) (begun dm2.d) 3 ≠ 0 ∧ paceOf dm2.d 3 < demandOf (envOf 7 dm2) (begun dm2.d) 3 ∧ 5 + 16000000 ≤ rawAt 7 dm2) := by decide +kernel

theorem test_QueueCountersAndBudgetFollowTheirRules_2 :
    (masterOk C = true ∧ st11.d.pow.heldBy = none ∧ st11.d.accepts C 6144 3 (1 : ℤ) = true ∧ st11.d.inForce = [] ∧ st11.d.accepts C 6144 3 (0 : ℤ) = true) := by decide +kernel

theorem test_TilesAndCropsFollowTheirRules_0 :
    (w0.d.pow.heldBy = none ∧ w0.d.comp.work = [tl] ∧ tl.lane ≠ none ∧ tl.last = false ∧ (w0.d.lring tl.ring).writing = some bo ∧ (w0.d.lring tl.ring).dropAt = none) ∧
    (st16.d.pow.heldBy = none ∧ st16.d.comp.work = [tl] ∧ tl.lane ≠ none ∧ tl.last = false ∧ (st16.d.lring tl.ring).writing = some bo ∧ 9999999990 ∈ (st16.d.lring tl.ring).dropAt ∧ rawAt 7 st16 < 9999999990 + 16000000) :=
  ⟨by decide +kernel, by decide +kernel⟩

theorem test_TilesAndCropsFollowTheirRules_1 :
    (w1.d.pow.heldBy = none ∧ w1.d.comp.work = [tl] ∧ tl.lane ≠ none ∧ tl.last = false ∧ tl.ring = 0 ∧ (w1.d.lring 0).writing = some bo ∧ w1.d.gn 6657 3 = 1 ∧ memReady w1.d = true ∧ bo.start + bo.bytes.length + (padTo ({ coding := 1, near := 0, bits := tl.bits, layout := tl.plane * 64, flags := tl.flags, wp := gridWp w1.d tl.first, col := w1.d.gn 6912 2 + tl.tile * w1.d.gn 6656 1, cols := tl.cols, lines := tl.lines, origin := ownOrigin w1.d, bytes := (packLsb tl.bits tl.samples).length : BlockHead }.put ++ packLsb tl.bits tl.samples ++ toLE 4 (dataCrc tl.samples)) (blockLen { coding := 1, near := 0, bits := tl.bits, layout := tl.plane * 64, flags := tl.flags, wp := gridWp w1.d tl.first, col := w1.d.gn 6912 2 + tl.tile * w1.d.gn 6656 1, cols := tl.cols, lines := tl.lines, origin := ownOrigin w1.d, bytes := (packLsb tl.bits tl.samples).length : BlockHead }.bytes) (0 : Byte)).length ≤ w1.d.gn 6657 4 + w1.d.gn 6657 5 ∧ bo.bytes.length + (padTo ({ coding := 1, near := 0, bits := tl.bits, layout := tl.plane * 64, flags := tl.flags, wp := gridWp w1.d tl.first, col := w1.d.gn 6912 2 + tl.tile * w1.d.gn 6656 1, cols := tl.cols, lines := tl.lines, origin := ownOrigin w1.d, bytes := (packLsb tl.bits tl.samples).length : BlockHead }.put ++ packLsb tl.bits tl.samples ++ toLE 4 (dataCrc tl.samples)) (blockLen { coding := 1, near := 0, bits := tl.bits, layout := tl.plane * 64, flags := tl.flags, wp := gridWp w1.d tl.first, col := w1.d.gn 6912 2 + tl.tile * w1.d.gn 6656 1, cols := tl.cols, lines := tl.lines, origin := ownOrigin w1.d, bytes := (packLsb tl.bits tl.samples).length : BlockHead }.bytes) (0 : Byte)).length ≤ w1.d.gn 6657 5 ∧ bo.start + bo.bytes.length + (padTo ({ coding := 1, near := 0, bits := tl.bits, layout := tl.plane * 64, flags := tl.flags, wp := gridWp w1.d tl.first, col := w1.d.gn 6912 2 + tl.tile * w1.d.gn 6656 1, cols := tl.cols, lines := tl.lines, origin := ownOrigin w1.d, bytes := (packLsb tl.bits tl.samples).length : BlockHead }.put ++ packLsb tl.bits tl.samples ++ toLE 4 (dataCrc tl.samples)) (blockLen { coding := 1, near := 0, bits := tl.bits, layout := tl.plane * 64, flags := tl.flags, wp := gridWp w1.d tl.first, col := w1.d.gn 6912 2 + tl.tile * w1.d.gn 6656 1, cols := tl.cols, lines := tl.lines, origin := ownOrigin w1.d, bytes := (packLsb tl.bits tl.samples).length : BlockHead }.bytes) (0 : Byte)).length ≤ hostBytes w1.d ∧ w1.d.inForce = []) := by decide +kernel

theorem test_TilesAndCropsFollowTheirRules_4 :
    (st35.d.pow.heldBy = none ∧ st35.d.cropQ = [] ∧ st35.d.comp.crops = [cr] ∧ cr.cut = none ∧ bandIndexed st35.d (cr.m1 - cr.m1 % (64 : ℤ)) = false ∧ cr.at_ + st35.d.gn 6659 9 * 16000 ≤ rawAt 7 st35) := by decide +kernel

theorem test_JobsFollowTheirRules_0 :
    (masterOk C = true ∧ st37.d.pow.heldBy = none ∧ st37.d.accepts C 6660 3 (4 : ℤ) = true ∧ (st37.d.ustate 49 = UState.shadow ∨ st37.d.ustate 49 = UState.bypass)) ∧
    (masterOk C = true ∧ j0.d.pow.heldBy = none ∧ j0.d.accepts C 6660 3 (4 : ℤ) = true ∧ (j0.d.ustate 49 = UState.inService ∨ j0.d.ustate 49 = UState.test) ∧ j0.d.inForce = [] ∧ j0.d.comp.jobs = [] ∧ 1 < j0.d.gn 6660 2 ∧ j0.d.gn 6660 4 + 1 < j0.d.gn 6660 2 ∧ (4 : ℤ) = ↑(j0.d.gn 6660 4) + (1 : ℤ) ∧ jobLane (begun j0.d) (memRead j0.d (j0.d.gn 6660 1 + 64 * j0.d.gn 6660 4) 64).1 = some (((jobLane (begun j0.d) (memRead j0.d (8192 + 64 * 3) 64).1).getD ({ desc := [], lane := 44 : CompJob }, j0.d)).1, ((jobLane (begun j0.d) (memRead j0.d (8192 + 64 * 3) 64).1).getD ({ desc := [], lane := 44 : CompJob }, j0.d)).2) ∧ ((jobLane (begun j0.d) (memRead j0.d (8192 + 64 * 3) 64).1).getD ({ desc := [], lane := 44 : CompJob }, j0.d)).1.dec = false) ∧
    (masterOk C = true ∧ j0d.d.pow.heldBy = none ∧ j0d.d.accepts C 6660 3 (4 : ℤ) = true ∧ (j0d.d.ustate 49 = UState.inService ∨ j0d.d.ustate 49 = UState.test) ∧ j0d.d.inForce = [] ∧ j0d.d.comp.jobs = [] ∧ 1 < j0d.d.gn 6660 2 ∧ j0d.d.gn 6660 4 + 1 < j0d.d.gn 6660 2 ∧ (4 : ℤ) = ↑(j0d.d.gn 6660 4) + (1 : ℤ) ∧ jobLane (begun j0d.d) (memRead j0d.d (j0d.d.gn 6660 1 + 64 * j0d.d.gn 6660 4) 64).1 = some (((jobLane (begun j0d.d) (memRead j0d.d (8192 + 64 * 3) 64).1).getD ({ desc := [], lane := 44 : CompJob }, j0.d)).1, ((jobLane (begun j0d.d) (memRead j0d.d (8192 + 64 * 3) 64).1).getD ({ desc := [], lane := 44 : CompJob }, j0.d)).2) ∧ ((jobLane (begun j0d.d) (memRead j0d.d (8192 + 64 * 3) 64).1).getD ({ desc := [], lane := 44 : CompJob }, j0.d)).1.dec = true) :=
  ⟨by decide +kernel, by decide +kernel, by decide +kernel⟩

theorem test_JobsFollowTheirRules_1 :
    (st43.d.pow.heldBy = none ∧ st43.d.comp.jobs = [{ desc := ds 3, lane := 50 : CompJob }] ∧ st43.d.inForce = [] ∧ memReady st43.d = true ∧ st43.d.gn 6660 6 + 1 < st43.d.gn 6660 2 ∧ jobsWaiting st43.d = 0 ∧ st43.d.gn 6660 5 + 32 * st43.d.gn 6660 6 + 32 ≤ hostBytes st43.d ∧ leAt (ds 3) 0 1 ≠ 1 ∧ leAt (ds 3) 0 1 ≠ 2) ∧
    (st44.d.pow.heldBy = none ∧ st44.d.comp.jobs = [{ desc := ds 2, lane := 50 : CompJob }] ∧ st44.d.inForce = [] ∧ memReady st44.d = true ∧ st44.d.gn 6660 6 + 1 < st44.d.gn 6660 2 ∧ jobsWaiting st44.d = 0 ∧ st44.d.gn 6660 5 + 32 * st44.d.gn 6660 6 + 32 ≤ hostBytes st44.d ∧ leAt (ds 2) 0 1 = 2 ∧ leAt (ds 2) 1 1 = 0 ∧ leAt (ds 2) 40 8 % 4096 = 0 ∧ memRead st44.d (leAt (ds 2) 8 8) (leAt (ds 2) 16 4) = (blk, false) ∧ BlockHead.get blk = some hd ∧ hd.cols * hd.lines * 2 ≤ leAt (ds 2) 32 8 ∧ 36 + hd.bytes ≤ leAt (ds 2) 16 4 ∧ smp ≠ [] ∧ leAt (ds 2) 24 8 + 2 * smp.length ≤ hostBytes st44.d ∧ blockSamples hd (slice blk 32 hd.bytes) (leAt blk (32 + hd.bytes) 4) = (0, smp)) :=
  ⟨by decide +kernel, by decide +kernel⟩

def k1d : Dev := (lanesTake (begun k1.d) 1).2
def k1r := cropRead 44 k1d cr 1 0 []
def rightOf {α β : Type} (x : α ⊕ List β) : List β := match x with | .inr y => y | .inl _ => []
def k1t : List CropTile := rightOf k1r.2

theorem sum_inr {α β : Type} (x : α ⊕ List β) (h : (match x with | .inr _ => true | .inl _ => false) = true) :
    x = .inr (rightOf x) := by
  cases x with
  | inl a => cases h
  | inr b => rfl

theorem test_TilesAndCropsFollowTheirRules_2 :
    ((k1.d.pow.heldBy = none ∧ k1.d.cropQ = [] ∧ k1.d.comp.crops = [cr] ∧ cr.cut = none ∧ k1.d.ustate 49 = UState.inService ∧
      bandIndexed k1.d (cr.m1 - cr.m1 % 64) = true ∧ (rasterPlanes k1.d).length = 1 ∧ (lanesTake (begun k1.d) 1).1 = some [44]) ∧
    (((cr.m1 - cr.m1 % 64 - (cr.m0 - cr.m0 % 64)) / 64 + 1).toNat = 1 ∧ cr.m0 - cr.m0 % 64 = 0 ∧ k1r.1.comp.crops = k1.d.comp.crops ∧
      ∀ p ∈ rasterPlanes k1.d, ∀ r ∈ (List.range (cr.m1 + 1 - cr.m0).toNat).map (fun (j : Nat) => cropRow (k1r.1.gn 0x1B00 2) cr k1t p (cr.m0 + j)),
        ∀ v ∈ r, v ≠ none)) ∧
    k1r.2 = .inr k1t :=
  ⟨⟨by decide +kernel, by decide +kernel⟩, sum_inr k1r.2 (by decide +kernel)⟩

/-- A block is no longer than its samples would be RAW, with its header, its checksum and its padding. -/
theorem makeBlock_length (h : BlockHead) (l : List Nat) : (makeBlock h l false false).1.length ≤ 51 + (packLsb h.bits l).length := by
  have e (n v : Nat) : (toLE n v).length = n := by simp [toLE]
  have p (b : BlockHead) : b.put.length = 32 := by simp [BlockHead.put, e]
  by_cases c : (packLsb h.bits l).length < (Config.jpegLsCode h.bits h.near h.cols l).length
  · simp [makeBlock, c, padTo, p, e, blockLen, ceilDiv]; omega
  · simp [makeBlock, c, padTo, p, e, blockLen, ceilDiv]; omega

theorem test_TilesAndCropsFollowTheirRules_3 :
    (k2.d.pow.heldBy = none ∧ k2.d.comp.crops = [cr2] ∧ cr2.cut = some (5, [(0, [1, 2, 3, 4, 5, 6, 7, 8]), (1, [9, 8, 7, 6, 5, 4, 3, 2])]) ∧
      memReady k2.d = true ∧ k2.d.gn 6659 1 ≤ k2.d.gn 6659 3 ∧ k2.d.inForce = []) ∧
    ∀ h1 h2 : BlockHead, h1.bits = rasterBits k2.d → h2.bits = rasterBits k2.d →
      let n := 32 + ([(makeBlock h1 [1, 2, 3, 4, 5, 6, 7, 8] false false).1, (makeBlock h2 [9, 8, 7, 6, 5, 4, 3, 2] false false).1]).flatten.length
      k2.d.gn 6659 3 + n ≤ k2.d.gn 6659 1 + k2.d.gn 6659 2 ∧ k2.d.gn 6659 3 + n ≤ hostBytes k2.d := by
  refine ⟨by decide +kernel, fun h1 h2 e1 e2 => ?_⟩
  have a := makeBlock_length h1 [1, 2, 3, 4, 5, 6, 7, 8]
  have b := makeBlock_length h2 [9, 8, 7, 6, 5, 4, 3, 2]
  rw [e1] at a
  rw [e2] at b
  have ka : (packLsb (rasterBits k2.d) [1, 2, 3, 4, 5, 6, 7, 8]).length = 12 := by decide +kernel
  have kb : (packLsb (rasterBits k2.d) [9, 8, 7, 6, 5, 4, 3, 2]).length = 12 := by decide +kernel
  have k1 : k2.d.gn 6659 3 = 9000 ∧ k2.d.gn 6659 1 = 8192 ∧ k2.d.gn 6659 2 = 4096 ∧ 12000 ≤ hostBytes k2.d := by decide +kernel
  simp only [List.flatten_cons, List.flatten_nil, List.length_append, List.length_nil]
  omega

end W17

namespace W19
def OS (s : State) (l : List (Nat × Nat × Int)) : State := l.foldl (fun s x => O s x.1 x.2.1 x.2.2) s
def T (s : State) (f : TimeUnit → TimeUnit) : State := { s with tu := f s.tu }
def n0 := OS (U (U (O S 0x1700 3 1000000) 0x32 .inService) 6 .inService) [(0x1401,3,0x0102030405),(0x1401,4,0x0A000001),(0x1405,2,16),(0x1405,6,16),(0x1405,8,5),(0x1405,1,4096),(0x1405,5,65536),(0x1402+1,1,1),(0x1405,4,3),(0x1405,3,3)]
def mac : List Byte := toBE 6 0x0102030405
def arp : List Byte := padTo (List.replicate 6 255 ++ [9,9,9,9,9,9,8,6] ++ [0,1,8,0,6,4,0,1] ++ [9,9,9,9,9,9] ++ [10,0,0,7] ++ [0,0,0,0,0,0,10,0,0,1]) 60 0
def fr : List Byte := padTo (mac ++ [9,9,9,9,9,9,0x12,0x34,1,2,3]) 62 7
def slotB (fl : Byte) : List Byte := toLE 2 20 ++ [fl, 0] ++ toLE 2 777 ++ List.replicate 26 0 ++ (List.range 20).map (fun i => BitVec.ofNat 8 (i+1))
def n1 (fl : Byte) := D n0 fun d => {d with mem := memPut [] (4096+2048*3) (slotB fl)}
def msg (ty fl seq : Nat) (corr : Int) (body : List Byte) (li : Nat := 0) : List Byte :=
  [BitVec.ofNat 8 ty, 0x12] ++ toBE 2 (34 + body.length) ++ [3, 0, BitVec.ofNat 8 fl, 0] ++ toBE 8 (wrapU 64 corr) ++ [0,0,0,0] ++ toBE 10 0x111111 ++ toBE 2 seq ++ [0] ++ toBE 1 li ++ body
def ts (sec ns : Nat) : List Byte := toBE 6 sec ++ toBE 4 ns
def p0 := D (OS n0 [(0x1340,1,2),(0x1342,2,1),(0x1342,1,3),(0x1342,3,1),(0x1345,1,2)]) fun d => d.setSlot 1 {master := some 0x111111, foreign := [{id := 0x111111, set := [], gm := 0, cls := 0, utc := 0, logInt := 0, from_ := [1,2,3,4,5,6,7,8,9,10], at_ := 100}]}
def w : SyncWait := {seq := 77, t2 := 10000000000, corr := 5}
def p1 := (D (OS p0 [(0x1342,9,100)]) fun d => d.setSlot 1 {d.slot 1 with mpd2 := some 800, wait := some w, near := 2, far := 3})
def own := ownPort p0.d 1
def ann := msg 11 0 9 0 (ts 0 0 ++ [0,37] ++ [0, 128, 6, 0x21, 0x4e, 0x5d, 128] ++ toBE 8 0xABCDEF ++ [0,0,0x20])
def p2 := D (O p0 0x1342 4 1) fun d => d.setPeer 1 {seq := 9, t1 := some 9999990000}
def p3 (s : State) := { s with now := 100000000000 }
def l0 := p3 (D (O p0 0x1345 1 3) fun d => d.setSlot 1 {d.slot 1 with syncAt := some 5, iNum := 5, near := 6})
def l1 := T (OS {l0 with now := 10000000000000} [(0x1340,2,1),(0x1340,4,0),(0x1345,6,12345)]) fun u => {u with state := .tracking}

def st15 : State := (n1 0)
def st16 : State := (n1 1)
def st17 : State := (D (n1 1) fun d => {d with net := {d.net with stamps := List.replicate 16 (0,1,2)}})
def st19 : State := (D n0 fun d => {d with net := {d.net with stamps := [(1,5,777777),(0,1,2)]}})
def st20 : State := (OS n0 [(0x1401,1,2),(0x1403,1,0)])
def st21 : State := (OS n0 [(0x1401,1,1)])
def st30 : State := (T (D (OS p0 [(0x1345,1,3),(0x1340,4,1)]) fun d => d.setSlot 1 {d.slot 1 with mpd2 := some 800}) fun u => {u with state := .tracking})
def st36 : State := (D p0 fun d => d.setSlot 1 {d.slot 1 with req := some (9, 9999998600), ms := some 700})
def st38 : State := (D (O p0 0x1345 1 1) fun d => d.setSlot 1 {})
def st39 : State := (O p0 0x1342 4 1)
def st43 : State := (D p2 fun d => d.setPeer 1 {seq := 9, t1 := some 9999990000, resp := some (9999999000, 30, 4)})
def st45 : State := (p3 p0)
def st46 : State := (p3 p2)
def st51 : State := (T (O l0 0x1340 4 1) fun u => {u with state := .tracking})
def st54 : State := (D l1 fun d => d.setSlot 1 {e := 555})
def st55 : State := (OS l1 [(0x1340,1,1),(0x1344,1,3)])
def st56 : State := (OS l1 [(0x1340,1,0)])
def st57 : State := (OS l1 [(0x1348,1,1)])
def st58 : State := (OS l1 [(0x1348,4,1)])

theorem test_ManagementFramesFollowTheirRules_0 :
    (okMg 1 = true ∧ n0.d.pow.heldBy = none ∧ mgTakes n0.d 1 = true ∧ 60 ≤ arp.length ∧ arp.length ≤ 1518 ∧ n0.d.gn (5120 + 1) 7 = 65535 ∧ beAt arp 12 2 = 2054 ∧ beAt (List.drop 14 arp) 6 2 = 1 ∧ slice (List.drop 14 arp) 24 4 = ipOf n0.d 1) ∧
    (okMg 1 = true ∧ n0.d.pow.heldBy = none ∧ mgTakes n0.d 1 = true ∧ 60 ≤ fr.length ∧ fr.length ≤ 1518 ∧ n0.d.gn (5120 + 1) 7 = 65535 ∧ beAt fr 12 2 ≠ 2054 ∧ beAt fr 12 2 ≠ 2048 ∧ beAt fr 12 2 ≠ 35063 ∧ slice fr 0 6 = macOf n0.d 1 ∧ memReady n0.d = true ∧ n0.d.gn (5124 + 1) 6 ≠ 0 ∧ (n0.d.gn (5124 + 1) 7 + 1) % n0.d.gn (5124 + 1) 6 ≠ n0.d.gn (5124 + 1) 8 % n0.d.gn (5124 + 1) 6 ∧ n0.d.gn (5124 + 1) 5 + 2048 * (n0.d.gn (5124 + 1) 7 % n0.d.gn (5124 + 1) 6) + 32 + fr.length ≤ hostBytes n0.d ∧ n0.d.inForce = []) :=
  ⟨by decide +kernel, by decide +kernel⟩

theorem test_ManagementFramesFollowTheirRules_1 :
    (masterOk C = true ∧ okMg 1 = true ∧ st15.d.pow.heldBy = none ∧ st15.d.inForce = [] ∧ st15.d.inSvc (5 + 1) = true ∧ st15.d.gn (5122 + 1) 1 = 1 ∧ st15.d.accepts C (5124 + 1) 3 ↑(st15.d.gn (5124 + 1) 4 + 1) = true ∧ st15.d.gn (5124 + 1) 4 + 1 < st15.d.gn (5124 + 1) 2 ∧ (memRead st15.d (st15.d.gn (5124 + 1) 1 + 2048 * st15.d.gn (5124 + 1) 4) 32).2 = false ∧ (memRead st15.d (st15.d.gn (5124 + 1) 1 + 2048 * st15.d.gn (5124 + 1) 4 + 32) (leAt (memRead st15.d (st15.d.gn (5124 + 1) 1 + 2048 * st15.d.gn (5124 + 1) 4) 32).1 0 2)).2 = false ∧ 14 ≤ leAt (memRead st15.d (st15.d.gn (5124 + 1) 1 + 2048 * st15.d.gn (5124 + 1) 4) 32).1 0 2 ∧ leAt (memRead st15.d (st15.d.gn (5124 + 1) 1 + 2048 * st15.d.gn (5124 + 1) 4) 32).1 0 2 ≤ 1518 ∧ leAt (memRead st15.d (st15.d.gn (5124 + 1) 1 + 2048 * st15.d.gn (5124 + 1) 4) 32).1 2 1 % 2 = 0) ∧
    (masterOk C = true ∧ okMg 1 = true ∧ st16.d.pow.heldBy = none ∧ st16.d.inForce = [] ∧ st16.d.inSvc (5 + 1) = true ∧ st16.d.gn (5122 + 1) 1 = 1 ∧ st16.d.accepts C (5124 + 1) 3 ↑(st16.d.gn (5124 + 1) 4 + 1) = true ∧ st16.d.gn (5124 + 1) 4 + 1 < st16.d.gn (5124 + 1) 2 ∧ (memRead st16.d (st16.d.gn (5124 + 1) 1 + 2048 * st16.d.gn (5124 + 1) 4) 32).2 = false ∧ (memRead st16.d (st16.d.gn (5124 + 1) 1 + 2048 * st16.d.gn (5124 + 1) 4 + 32) (leAt (memRead st16.d (st16.d.gn (5124 + 1) 1 + 2048 * st16.d.gn (5124 + 1) 4) 32).1 0 2)).2 = false ∧ 14 ≤ leAt (memRead st16.d (st16.d.gn (5124 + 1) 1 + 2048 * st16.d.gn (5124 + 1) 4) 32).1 0 2 ∧ leAt (memRead st16.d (st16.d.gn (5124 + 1) 1 + 2048 * st16.d.gn (5124 + 1) 4) 32).1 0 2 ≤ 1518 ∧ leAt (memRead st16.d (st16.d.gn (5124 + 1) 1 + 2048 * st16.d.gn (5124 + 1) 4) 32).1 2 1 % 2 = 1 ∧ st16.d.net.stamps.length < 16) ∧
    (masterOk C = true ∧ okMg 1 = true ∧ st17.d.pow.heldBy = none ∧ st17.d.inForce = [] ∧ st17.d.inSvc (5 + 1) = true ∧ st17.d.gn (5122 + 1) 1 = 1 ∧ st17.d.accepts C (5124 + 1) 3 ↑(st17.d.gn (5124 + 1) 4 + 1) = true ∧ st17.d.gn (5124 + 1) 4 + 1 < st17.d.gn (5124 + 1) 2 ∧ (memRead st17.d (st17.d.gn (5124 + 1) 1 + 2048 * st17.d.gn (5124 + 1) 4) 32).2 = false ∧ (memRead st17.d (st17.d.gn (5124 + 1) 1 + 2048 * st17.d.gn (5124 + 1) 4 + 32) (leAt (memRead st17.d (st17.d.gn (5124 + 1) 1 + 2048 * st17.d.gn (5124 + 1) 4) 32).1 0 2)).2 = false ∧ 14 ≤ leAt (memRead st17.d (st17.d.gn (5124 + 1) 1 + 2048 * st17.d.gn (5124 + 1) 4) 32).1 0 2 ∧ leAt (memRead st17.d (st17.d.gn (5124 + 1) 1 + 2048 * st17.d.gn (5124 + 1) 4) 32).1 0 2 ≤ 1518 ∧ leAt (memRead st17.d (st17.d.gn (5124 + 1) 1 + 2048 * st17.d.gn (5124 + 1) 4) 32).1 2 1 % 2 = 1 ∧ 16 ≤ st17.d.net.stamps.length) :=
  ⟨by decide +kernel, by decide +kernel, by decide +kernel⟩

theorem test_ManagementFramesFollowTheirRules_2 :
    (masterOk C = true ∧ n0.d.pow.heldBy = none ∧ n0.d.net.stamps = []) ∧
    (masterOk C = true ∧ st19.d.pow.heldBy = none ∧ st19.d.net.stamps = [(1, 5, 777777), (0, 1, 2)]) :=
  ⟨by decide +kernel, by decide +kernel⟩

theorem test_ManagementFramesFollowTheirRules_3 :
    (okMg 1 = true ∧ st20.d.pow.heldBy = none ∧ st20.d.inForce = [] ∧ st20.d.gn (5120 + 1) 1 ≠ 0 ∧ st20.d.inSvc (5 + 1) = true ∧ st20.d.gn (5122 + 1) 1 ≠ 1 ∧ st20.d.gn (5124 + 1) 4 % st20.d.gn (5124 + 1) 2 = st20.d.gn (5124 + 1) 3 % st20.d.gn (5124 + 1) 2) ∧
    (okMg 1 = true ∧ st21.d.pow.heldBy = none ∧ st21.d.inForce = [] ∧ st21.d.gn (5122 + 1) 1 ≠ 0) :=
  ⟨by decide +kernel, by decide +kernel⟩

theorem test_PtpMessagesFollowTheirRules_0 :
    (okMg 1 = true ∧ p0.d.pow.heldBy = none ∧ p0.d.inForce = [] ∧ slotsFor p0.d 1 true (msg 0 2 77 (9000 : ℤ) (ts 5 6)) 0 = [1] ∧ (p0.d.slot 1).master = some (ptpFrom (msg 0 2 77 (9000 : ℤ) (ts 5 6))) ∧ bit (beAt (msg 0 2 77 (9000 : ℤ) (ts 5 6)) 6 1) 1 = true) ∧
    (okMg 1 = true ∧ st30.d.pow.heldBy = none ∧ st30.d.inForce = [] ∧ slotsFor st30.d 1 true (msg 0 0 77 (9000 : ℤ) (ts 0 624999900)) 0 = [1] ∧ (st30.d.slot 1).master = some (ptpFrom (msg 0 0 77 (9000 : ℤ) (ts 0 624999900))) ∧ f32.read (st30.d.gn (4929 + 1) 10) = some ((f32.read (p0.d.gn 4930 10)).getD { n := (0 : ℤ) : Frac }) ∧ f32.read (st30.d.gn (4929 + 1) 11) = some ((f32.read (p0.d.gn 4930 11)).getD { n := (0 : ℤ) : Frac }) ∧ bit (beAt (msg 0 0 77 (9000 : ℤ) (ts 0 624999900)) 6 1) 1 = false ∧ st30.d.gn (4929 + 1) 4 = 0 ∧ (st30.d.slot 1).mpd2 = some (800 : ℤ) ∧ st30.d.gn 4928 4 = 1 ∧ 1 < 2 ∧ st30.d.gn (4932 + 1) 1 = 3 ∧ (st30.d.slot 1).far < 3) :=
  ⟨by decide +kernel, by decide +kernel⟩

theorem test_PtpMessagesFollowTheirRules_1 :
    (okMg 1 = true ∧ p1.d.pow.heldBy = none ∧ p1.d.inForce = [] ∧ f32.read (p1.d.gn (4929 + 1) 10) = some ((f32.read (p1.d.gn 4930 10)).getD { n := (0 : ℤ) : Frac }) ∧ f32.read (p1.d.gn (4929 + 1) 11) = some ((f32.read (p1.d.gn 4930 11)).getD { n := (0 : ℤ) : Frac }) ∧ slotsFor p1.d 1 true (msg 8 0 77 (9000 : ℤ) (ts 0 624999900)) 8 = [1] ∧ (p1.d.slot 1).master = some (ptpFrom (msg 8 0 77 (9000 : ℤ) (ts 0 624999900))) ∧ (p1.d.slot 1).wait = some w ∧ w.seq = beAt (msg 8 0 77 (9000 : ℤ) (ts 0 624999900)) 30 2 ∧ p1.d.gn (4929 + 1) 4 = 0 ∧ (p1.d.slot 1).mpd2 = some (800 : ℤ) ∧ p1.d.gn 4928 4 ≠ 1 ∧ p1.d.gn (4932 + 1) 1 ≠ 3 ∧ (p1.d.slot 1).near + 1 < p1.d.gn (4929 + 1) 13 ∧ (p1.d.slot 1).was = false) := by decide +kernel

theorem test_PtpMessagesFollowTheirRules_2 :
    (okMg 1 = true ∧ st36.d.pow.heldBy = none ∧ slotsFor st36.d 1 true (msg 9 0 9 (9000 : ℤ) (ts 0 624999900 ++ own)) 9 = [1] ∧ (st36.d.slot 1).master = some (ptpFrom (msg 9 0 9 (9000 : ℤ) (ts 0 624999900 ++ own))) ∧ (st36.d.slot 1).req = some (9, (9999998600 : ℤ)) ∧ (st36.d.slot 1).ms = some (700 : ℤ) ∧ 9 = beAt (msg 9 0 9 (9000 : ℤ) (ts 0 624999900 ++ own)) 30 2 ∧ slice (msg 9 0 9 (9000 : ℤ) (ts 0 624999900 ++ own)) 44 10 = ownPort st36.d 1 ∧ st36.d.gn (4929 + 1) 4 = 0) := by decide +kernel

theorem test_PtpMessagesFollowTheirRules_3 :
    (okMg 1 = true ∧ st38.d.pow.heldBy = none ∧ st38.d.inForce = [] ∧ slotsFor st38.d 1 true ann 11 = [1] ∧ (st38.d.slot 1).foreign = [] ∧ (st38.d.slot 1).master = none ∧ st38.d.gn (4932 + 1) 1 = 1 ∧ st38.d.gn 4928 4 = 255) := by decide +kernel

theorem test_PtpMessagesFollowTheirRules_4 :
    (okMg 1 = true ∧ st39.d.pow.heldBy = none ∧ st39.d.gn (5120 + 1) 7 = 65535 ∧ (List.filter (fun (k : ℕ) => st39.d.gn (4929 + k) 4 == 1) (slotsFor st39.d 1 true (msg 2 0 9 (12345 : ℤ) (List.replicate 20 (0 : Byte))) 2) = [1]) ∧ st39.d.gb (4929 + 1) 3 = true) := by decide +kernel

theorem test_PtpMessagesFollowTheirRules_5 :
    (okMg 1 = true ∧ p2.d.pow.heldBy = none ∧ (p2.d.peer 1).t1 = some (9999990000 : ℤ) ∧ (p2.d.peer 1).seq = beAt (msg 3 2 9 (12345 : ℤ) (ts 0 3 ++ own)) 30 2 ∧ slice (msg 3 2 9 (12345 : ℤ) (ts 0 3 ++ own)) 44 10 = ownPort p2.d 1 ∧ (∃ k ∈ slotsFor p2.d 1 true (msg 3 2 9 (12345 : ℤ) (ts 0 3 ++ own)) 3, p2.d.gn (4929 + k) 4 = 1) ∧ bit (beAt (msg 3 2 9 (12345 : ℤ) (ts 0 3 ++ own)) 6 1) 1 = true) ∧
    (okMg 1 = true ∧ p2.d.pow.heldBy = none ∧ (p2.d.peer 1).t1 = some (9999990000 : ℤ) ∧ (p2.d.peer 1).seq = beAt (msg 3 0 9 (12345 : ℤ) (ts 0 3 ++ own)) 30 2 ∧ slice (msg 3 0 9 (12345 : ℤ) (ts 0 3 ++ own)) 44 10 = ownPort p2.d 1 ∧ (∃ k ∈ slotsFor p2.d 1 true (msg 3 0 9 (12345 : ℤ) (ts 0 3 ++ own)) 3, p2.d.gn (4929 + k) 4 = 1) ∧ bit (beAt (msg 3 0 9 (12345 : ℤ) (ts 0 3 ++ own)) 6 1) 1 = false) ∧
    (okMg 1 = true ∧ st43.d.pow.heldBy = none ∧ (st43.d.peer 1).t1 = some (9999990000 : ℤ) ∧ (st43.d.peer 1).seq = beAt (msg 10 0 9 (12345 : ℤ) (ts 0 3 ++ own)) 30 2 ∧ slice (msg 10 0 9 (12345 : ℤ) (ts 0 3 ++ own)) 44 10 = ownPort st43.d 1 ∧ (∃ k ∈ slotsFor st43.d 1 true (msg 10 0 9 (12345 : ℤ) (ts 0 3 ++ own)) 10, st43.d.gn (4929 + k) 4 = 1) ∧ (st43.d.peer 1).resp = some ((9999999000 : ℤ), (30 : ℤ), (4 : ℤ)) ∧ (List.filter (fun (k : ℕ) => bit (st43.d.gn 4928 1) k && st43.d.gn (4929 + k) 2 == 1 && st43.d.gn (4929 + k) 4 == 1) [0, 1] = [1])) :=
  ⟨by decide +kernel, by decide +kernel, by decide +kernel⟩

theorem test_PtpMessagesFollowTheirRules_6 :
    (okSlot 1 = true ∧ st45.d.pow.heldBy = none ∧ bit (st45.d.gn 4928 1) 1 = true ∧ st45.d.inSvc (5 + st45.d.gn (4929 + 1) 2) = true ∧ st45.d.gn (5120 + st45.d.gn (4929 + 1) 2) 7 = 65535 ∧ st45.d.gb (4929 + 1) 3 = true ∧ st45.d.gn (4929 + 1) 4 = 0 ∧ (st45.d.slot 1).master ≠ none ∧ (st45.d.slot 1).reqAt + pow2Tt (st45.d.gi (4929 + 1) 6) ≤ rawAt 7 st45) ∧
    (okSlot 1 = true ∧ st46.d.pow.heldBy = none ∧ bit (st46.d.gn 4928 1) 1 = true ∧ st46.d.inSvc (5 + st46.d.gn (4929 + 1) 2) = true ∧ st46.d.gn (5120 + st46.d.gn (4929 + 1) 2) 7 = 65535 ∧ st46.d.gb (4929 + 1) 3 = true ∧ st46.d.gn (4929 + 1) 4 = 1 ∧ (st46.d.peer (st46.d.gn (4929 + 1) 2)).sentAt + pow2Tt (st46.d.gi (4929 + 1) 6) ≤ rawAt 7 st46) :=
  ⟨by decide +kernel, by decide +kernel⟩

theorem test_PtpSelectionFollowsItsRules_0 :
    (okSlot 1 = true ∧ l0.d.pow.heldBy = none ∧ l0.d.inForce = [] ∧ (l0.d.slot 1).syncAt = some 5 ∧ 5 + l0.d.gn (4929 + 1) 8 * pow2Tt (l0.d.slot 1).logSync ≤ rawAt 7 l0 ∧ l0.d.gn 4928 4 ≠ 1 ∧ l0.d.gn (4932 + 1) 1 = 3) ∧
    (okSlot 1 = true ∧ st51.d.pow.heldBy = none ∧ st51.d.inForce = [] ∧ (st51.d.slot 1).syncAt = some 5 ∧ 5 + st51.d.gn (4929 + 1) 8 * pow2Tt (st51.d.slot 1).logSync ≤ rawAt 7 st51 ∧ st51.d.gn 4928 4 = 1 ∧ st51.d.gn (4932 + 1) 1 = 3 ∧ st51.d.gn (4932 + (1 - 1)) 1 ≠ 3 ∧ st51.tu.state = TimeState.tracking) :=
  ⟨by decide +kernel, by decide +kernel⟩

theorem test_PtpSelectionFollowsItsRules_1 :
    (okSlot 1 = true ∧ l0.d.pow.heldBy = none ∧ l0.d.inForce = [] ∧ (l0.d.slot 1).foreign = [{ id := 1118481, from_ := [(1 : Byte), (2 : Byte), (3 : Byte), (4 : Byte), (5 : Byte), (6 : Byte), (7 : Byte), (8 : Byte), (9 : Byte), (10 : Byte)], set := [], gm := 0, cls := 0, utc := (0 : ℤ), logInt := (0 : ℤ), at_ := 100 : Foreign }] ∧ (l0.d.slot 1).master = some { id := 1118481, from_ := [(1 : Byte), (2 : Byte), (3 : Byte), (4 : Byte), (5 : Byte), (6 : Byte), (7 : Byte), (8 : Byte), (9 : Byte), (10 : Byte)], set := [], gm := 0, cls := 0, utc := (0 : ℤ), logInt := (0 : ℤ), at_ := 100 : Foreign }.id ∧ { id := 1118481, from_ := [(1 : Byte), (2 : Byte), (3 : Byte), (4 : Byte), (5 : Byte), (6 : Byte), (7 : Byte), (8 : Byte), (9 : Byte), (10 : Byte)], set := [], gm := 0, cls := 0, utc := (0 : ℤ), logInt := (0 : ℤ), at_ := 100 : Foreign }.at_ + l0.d.gn (4929 + 1) 7 * pow2Tt { id := 1118481, from_ := [(1 : Byte), (2 : Byte), (3 : Byte), (4 : Byte), (5 : Byte), (6 : Byte), (7 : Byte), (8 : Byte), (9 : Byte), (10 : Byte)], set := [], gm := 0, cls := 0, utc := (0 : ℤ), logInt := (0 : ℤ), at_ := 100 : Foreign }.logInt ≤ rawAt 7 l0 ∧ l0.d.gn 4928 4 ≠ 1) := by decide +kernel

theorem test_PtpSelectionFollowsItsRules_2 :
    (okSlot 1 = true ∧ st54.d.pow.heldBy = none ∧ st54.d.inForce = [] ∧ st54.d.gn 4928 2 = 1 ∧ st54.d.gn 4928 4 = 1 - 1 ∧ st54.d.gn (4932 + 1) 1 = 3 ∧ (st54.d.slot 1).lockedAt + st54.d.gn 4928 3 * 16000000000 ≤ rawAt 7 st54 ∧ st54.tu.state = TimeState.tracking) := by decide +kernel

theorem test_PtpSelectionFollowsItsRules_3 :
    (masterOk C = true ∧ st55.d.pow.heldBy = none ∧ st55.d.inForce = [] ∧ st55.d.accepts C 4928 1 (0 : ℤ) = true ∧ st55.d.gn 4928 1 = 1 ∧ (st55.tu.state = TimeState.tracking ∨ st55.tu.state = TimeState.holdover)) ∧
    (masterOk C = true ∧ st56.d.pow.heldBy = none ∧ st56.d.inForce = [] ∧ st56.d.accepts C 4928 1 (1 : ℤ) = true ∧ st56.d.gn 4928 1 = 0) :=
  ⟨by decide +kernel, by decide +kernel⟩

theorem test_PtpSelectionFollowsItsRules_4 :
    (st57.d.pow.heldBy = none ∧ st57.d.gb 4936 1 = true ∧ st57.tu.state ≠ TimeState.free ∧ (↑(st57.applied 7) + ↑st57.tu.epoch * (16000000000 : ℤ)) / (16000000000 : ℤ) ≠ st57.d.net.ppsSec) := by decide +kernel

theorem test_PpsInMonitorsTime_0 :
    (st58.d.pow.heldBy = none ∧ st58.d.gb 4936 4 = true) ∧
    (l1.d.pow.heldBy = none ∧ l1.d.gb 4936 4 = false) :=
  ⟨by decide +kernel, by decide +kernel⟩



end W19

namespace W20
def OS (s : State) (l : List (Nat × Nat × Int)) : State := l.foldl (fun s x => O s x.1 x.2.1 x.2.2) s
def T (s : State) (f : TimeUnit → TimeUnit) : State := { s with tu := f s.tu }
def tyc (i k : Nat) : Nat := ((objInfo i k).map (·.ty.code)).getD 0
def rowx (i k : Nat) : ObjRow := (objInfo i k).getD { sub := 0, nsub := 0, name := "", ty := .bool, acc := .rw, dflt := .num 0, wr := .service, shadow := false, stat := false, range := .any }
def off0 := D (OB S 0x1112 1 [1,2,3]) fun d => d.setMrec C {offsets := [(okey 0x1112 1, 16)]}
def off1 := D (OB S 0x1112 1 [1,2,3]) fun d => d.setMrec C {offsets := [(okey 0x1112 1, 1)]}
def ses : Session := {isOpen := true, id := 0x01020304, role := .service, port := 1, peer := 5, key := [1,2,3], last := 4, lastAt := 9999999999, lastResp := [7,7]}
def f0 := D (OS (U S 6 .inService) [(0x1420,1,2)]) fun d => d.setSession 3 ses
def dg (seq : Nat) (key : List Byte) := fdpDatagram 1 3 0x01020304 seq key [8,0,0,0]
def c0 : UnitCmd := {target := .shadow, steps := [(0x23,.shadow)], started := false, reset := false, at_ := 5}
def c1 := D (U S 0x23 .test) fun d => d.setUnit 0x23 {d.unit 0x23 with cmd := some c0, status := .pending}
def ent : List Byte := toLE 2 0x3200 ++ [10, BitVec.ofNat 8 (tyc 0x3200 10)] ++ [0,0,0,0] ++ toLE 8 77
def ov : Ovl := {state := .stored, entries := [{idx := 0x3200, sub := 10, val := 77}], owner := 1, role := .service}
def gt (s : State) := D s fun d => d.setPl 3 {d.pl 3 with lastM := some 41}
def vv (x : Ovl) := gt (D S fun d => d.setOvl 5 x)
def rl (s : State) := D s fun d => {d with raster := [{m := 42, wp := 0, flags := 0, planes := [], runs := [], gaps := [], settings := [], arrival := 0}]}
def x1 := {ov with state := .pendingOn, wIdx := some 40}
def x2 := {ov with state := .pendingOff, applied := [0], wIdx := some 4, offIdx := some 7, offAt := some 3}

def st12 : State := (D S fun d => {d with inForce := [(okey 0x3200 10, .num 9)]})
def st27 : State := (D S fun d => {d with saving := true})
def st28 : State := (D S fun d => {d with saving := true, flash := (List.range 30).map (BitVec.ofNat 8)})
def st33 : State := (OB f0 0x1112 1 [1,2,3,4])
def st34 : State := (OB f0 0x1112 1 [1,2,3,4])
def st35 : State := (D f0 fun d => d.setMrec (.fdp 3) {held := [{idx := 0x1402, seq := 5, vals := [(3,.num 77)]}]})
def st36 : State := (OB f0 0x1112 1 [9,9,9,9])
def st37 : State := (OB f0 0x1112 1 [9,9,9,9])
def st39 : State := (D f0 fun d => {d with streams := [(5,{isOpen := true, owner := 3})]})
def st40 : State := (D f0 fun d => {d with streams := [(5,{isOpen := true, owner := 4})]})
def st43 : State := (D f0 fun d => d.setSession 5 ses)
def st44 : State := {(D f0 fun d => d.setSession 5 ses) with now := 900000000000}
def st52 : State := (U S 0x23 .test)
def st53 : State := (D (U S 0x23 .test) fun d => {d with rot := {d.rot with state := 2, pipe := 3}})
def st60 : State := (OB S 0x1115 1 ent)
def st61 : State := (OB S 0x1115 1 (ent ++ ent))
def st62 : State := (D (OB S 0x1115 1 (ent ++ ent)) fun d => d.setOvl 5 {state := .active})
def st67 : State := (vv ov)
def st68 : State := (vv {ov with state := .active})
def st69 : State := (vv {ov with state := .active, applied := [0]})
def st70 : State := (vv ov)
def st71 : State := (vv {ov with state := .pendingOn})
def st72 : State := (vv {ov with state := .pendingOff, applied := [0], wIdx := some 4, offIdx := some 7, offAt := some 3})
def st75 : State := (rl (vv x1))
def st77 : State := (rl (vv x2))
def st78 : State := (vv {ov with entries := [{idx := 0x3200, sub := 10, val := 77},{idx := 0x3200, sub := 10, val := 777777}]})

theorem test_ObjectAccessFollowsItsRules_0 :
    (masterOk C = true ∧ S.d.pow.heldBy = none ∧ S.d.tuOps = [] ∧ S.d.metOps = [] ∧ S.d.warmAsk = false ∧ objInfo 4928 3 = some (rowx 4928 3) ∧ tyc 4928 3 = (rowx 4928 3).ty.code ∧ S.d.accepts C 4928 3 (77 : ℤ) = true ∧ tabFind S.d.inForce (okey 4928 3) = none ∧ (begun S.d).keepsNumber (envOf 7 S) C 4928 3 (77 : ℤ) = true ∧ (rowx 4928 3).shadow = false) ∧
    (masterOk C = true ∧ S.d.pow.heldBy = none ∧ S.d.tuOps = [] ∧ S.d.metOps = [] ∧ S.d.warmAsk = false ∧ objInfo 12800 10 = some (rowx 12800 10) ∧ tyc 12800 10 = (rowx 12800 10).ty.code ∧ S.d.accepts C 12800 10 (7 : ℤ) = true ∧ tabFind S.d.inForce (okey 12800 10) = none ∧ (begun S.d).keepsNumber (envOf 7 S) C 12800 10 (7 : ℤ) = true ∧ (rowx 12800 10).shadow = true) ∧
    (masterOk C = true ∧ st12.d.pow.heldBy = none ∧ st12.d.tuOps = [] ∧ st12.d.metOps = [] ∧ st12.d.warmAsk = false ∧ objInfo 12800 10 = some (rowx 12800 10) ∧ tyc 12800 10 = (rowx 12800 10).ty.code ∧ st12.d.accepts C 12800 10 (7 : ℤ) = true ∧ tabFind st12.d.inForce (okey 12800 10) ≠ none ∧ { begun st12.d with inForce := [] }.keepsNumber (envOf 7 st12) C 12800 10 (7 : ℤ) = true) ∧
    (masterOk (Master.fdp 3) = true ∧ S.d.pow.heldBy = none ∧ S.d.tuOps = [] ∧ S.d.metOps = [] ∧ S.d.warmAsk = false ∧ objInfo 4928 3 = some (rowx 4928 3) ∧ tyc 4928 3 = (rowx 4928 3).ty.code ∧ (rowx 4928 3).ty.holds (77 : ℤ) = true ∧ S.d.hasRole (Master.fdp 3) (rowx 4928 3).wr = false ∧ tabFind S.d.inForce (okey 4928 3) = none ∧ (begun S.d).keepsNumber (envOf 7 S) (Master.fdp 3) 4928 3 (77 : ℤ) = true) ∧
    (masterOk C = true ∧ S.d.pow.heldBy = none ∧ S.d.tuOps = [] ∧ S.d.metOps = [] ∧ S.d.warmAsk = false ∧ objInfo 4928 3 = some (rowx 4928 3) ∧ 1 ≠ (rowx 4928 3).ty.code) ∧
    (masterOk (Master.fdp 3) = true ∧ S.d.pow.heldBy = none ∧ S.d.tuOps = [] ∧ S.d.metOps = [] ∧ S.d.warmAsk = false ∧ objInfo 832 3 = none) :=
  ⟨by decide +kernel, by decide +kernel, by decide +kernel, by decide +kernel, by decide +kernel, by decide +kernel⟩

theorem test_ObjectAccessFollowsItsRules_1 :
    (masterOk C = true ∧ S.d.pow.heldBy = none ∧ isResultGroup 5122 = true ∧ latchPublishes 5122 = false ∧ objBase 5122 ≠ 8208 ∧ objBase 5122 ≠ 6960 ∧ objInfo 5122 0 ≠ none ∧ ((List.filter (fun (x : Held) => x.idx != 5122) (S.d.mrec C).held).length < 16)) := by decide +kernel

theorem test_ObjectAccessFollowsItsRules_2 :
    (masterOk C = true ∧ S.d.pow.heldBy = none ∧ onAperture C = true ∧ hasPort 4370 1 = true) := by decide +kernel

theorem test_ObjectAccessFollowsItsRules_3 :
    (masterOk C = true ∧ off1.d.pow.heldBy = none ∧ onAperture C = true ∧ hasPort 4370 1 = true ∧ readsPlainly 4370 = true) := by decide +kernel

theorem test_ObjectAccessFollowsItsRules_4 :
    (masterOk C = true ∧ off0.d.pow.heldBy = none ∧ off0.d.tuOps = [] ∧ off0.d.metOps = [] ∧ off0.d.warmAsk = false ∧ onAperture C = true ∧ 1 ≤ 2 ∧ 2 ≤ 31 ∧ off0.d.inForce = [] ∧ off0.d.hasRole C (objWr (4368 + 2) 1) = true ∧ tabGet (off0.d.mrec C).offsets 0 (okey (4368 + 2) 1) + 8 ≤ 4096 ∧ (off0.d.gB (4368 + 2) 1).length ≤ 4096 ∧ writeRule (envOf 7 off0) (begun off0.d) C (4368 + 2) 1 (ObjVal.blob (patch (padTo (off0.d.gB (4368 + 2) 1) (max (off0.d.gB (4368 + 2) 1).length (tabGet (off0.d.mrec C).offsets 0 (okey (4368 + 2) 1) + 8)) (0 : Byte)) (tabGet (off0.d.mrec C).offsets 0 (okey (4368 + 2) 1)) (toLE 8 4328719365))) = true) := by decide +kernel

theorem test_ObjectAccessFollowsItsRules_5 :
    (masterOk C = true ∧ S.d.pow.heldBy = none ∧ S.d.accepts C 4352 1 (1 : ℤ) = true ∧ S.d.saving = false) ∧
    (masterOk C = true ∧ st27.d.pow.heldBy = none ∧ st27.d.accepts C 4352 1 (1 : ℤ) = true ∧ st27.d.saving = true) :=
  ⟨by decide +kernel, by decide +kernel⟩

theorem test_ObjectAccessFollowsItsRules_6 :
    (st28.d.pow.heldBy = none ∧ st28.d.saving = true) := by decide +kernel

theorem test_FdpServicesFollowTheirRules_0 :
    (okSess 3 = true ∧ f0.d.pow.heldBy = none ∧ f0.d.tuOps = [] ∧ f0.d.metOps = [] ∧ f0.d.warmAsk = false ∧ (f0.d.session 3).isOpen = true ∧ objInfo 4928 3 = some (rowx 4928 3) ∧ readsPlainly 4928 = true ∧ ((rowx 4928 3).ty ≠ ObjType.domain ∨ (objBytes (envOf 7 f0) (begun f0.d) (Master.fdp 3) 4928 3).length ≤ 1024) ∧ (rowx 4928 3).ty.bytes = [(0 : Byte), (0 : Byte), (0 : Byte), (9 : Byte)].length ∧ (rowx 4928 3).shadow = false ∧ f0.d.accepts (Master.fdp 3) 4928 3 (numOfBytes (rowx 4928 3).ty [(0 : Byte), (0 : Byte), (0 : Byte), (9 : Byte)].reverse) = true ∧ tabFind f0.d.inForce (okey 4928 3) = none ∧ (begun f0.d).keepsNumber (envOf 7 f0) (Master.fdp 3) 4928 3 (numOfBytes (rowx 4928 3).ty [(0 : Byte), (0 : Byte), (0 : Byte), (9 : Byte)].reverse) = true ∧ hasPort 4928 3 = false ∧ sealedKey 4928 3 = false) ∧
    (okSess 3 = true ∧ st33.d.pow.heldBy = none ∧ st33.d.tuOps = [] ∧ st33.d.metOps = [] ∧ st33.d.warmAsk = false ∧ (st33.d.session 3).isOpen = true ∧ objInfo 4370 1 = some (rowx 4370 1) ∧ readsPlainly 4370 = true ∧ hasPort 4370 1 = true ∧ 2 ≤ 1024 ∧ 1 + 2 ≤ (objBytes (envOf 7 st33) (begun st33.d) (Master.fdp 3) 4370 1).length) ∧
    (okSess 3 = true ∧ st34.d.pow.heldBy = none ∧ st34.d.tuOps = [] ∧ st34.d.metOps = [] ∧ st34.d.warmAsk = false ∧ (st34.d.session 3).isOpen = true ∧ objInfo 4370 1 = some (rowx 4370 1) ∧ readsPlainly 4370 = true ∧ hasPort 4370 1 = true ∧ (1024 < 2 ∨ (objBytes (envOf 7 st34) (begun st34.d) (Master.fdp 3) 4370 1).length < 3 + 2)) ∧
    (okSess 3 = true ∧ st35.d.pow.heldBy = none ∧ st35.d.tuOps = [] ∧ st35.d.metOps = [] ∧ st35.d.warmAsk = false ∧ (st35.d.session 3).isOpen = true ∧ objInfo 5122 3 = some (rowx 5122 3) ∧ isResultGroup 5122 = true ∧ 3 ≠ 0 ∧ (rowx 5122 3).ty ≠ ObjType.domain ∧ heldOf st35.d (Master.fdp 3) 5122 = some { idx := 5122, seq := 5, vals := [(3, ObjVal.num (77 : ℤ))] : Held } ∧ { idx := 5122, seq := 5, vals := [(3, ObjVal.num (77 : ℤ))] : Held }.seq ≠ 0 ∧ (List.find? (fun (q : ℕ × ObjVal) => q.1 == 3) { idx := 5122, seq := 5, vals := [(3, ObjVal.num (77 : ℤ))] : Held }.vals = some (3, ObjVal.num (77 : ℤ)))) :=
  ⟨by decide +kernel, by decide +kernel, by decide +kernel, by decide +kernel⟩

theorem test_FdpServicesFollowTheirRules_1 :
    (okSess 3 = true ∧ st36.d.pow.heldBy = none ∧ st36.d.tuOps = [] ∧ st36.d.metOps = [] ∧ st36.d.warmAsk = false ∧ (st36.d.session 3).isOpen = true ∧ 1 ≤ 2 ∧ 2 ≤ 31 ∧ st36.d.inForce = [] ∧ st36.d.hasRole (Master.fdp 3) (objWr (4368 + 2) 1) = true ∧ 5 + [(1 : Byte), (2 : Byte), (3 : Byte)].length ≤ 4096 ∧ (st36.d.gB (4368 + 2) 1).length ≤ 4096 ∧ [(1 : Byte), (2 : Byte), (3 : Byte)] ≠ [] ∧ writeRule (envOf 7 st36) (begun st36.d) (Master.fdp 3) (4368 + 2) 1 (ObjVal.blob (patch (padTo (st36.d.gB (4368 + 2) 1) (max (st36.d.gB (4368 + 2) 1).length (5 + [(1 : Byte), (2 : Byte), (3 : Byte)].length)) (0 : Byte)) 5 [(1 : Byte), (2 : Byte), (3 : Byte)])) = true) ∧
    (okSess 3 = true ∧ st37.d.pow.heldBy = none ∧ st37.d.tuOps = [] ∧ st37.d.metOps = [] ∧ st37.d.warmAsk = false ∧ (st37.d.session 3).isOpen = true ∧ 1 ≤ 2 ∧ 2 ≤ 31 ∧ st37.d.inForce = [] ∧ st37.d.hasRole (Master.fdp 3) (objWr (4368 + 2) 1) = true ∧ 4096 < 4094 + [(1 : Byte), (2 : Byte), (3 : Byte)].length) :=
  ⟨by decide +kernel, by decide +kernel⟩

theorem test_FdpServicesFollowTheirRules_2 :
    (okSess 3 = true ∧ f0.d.pow.heldBy = none ∧ f0.d.tuOps = [] ∧ f0.d.metOps = [] ∧ f0.d.warmAsk = false ∧ (f0.d.session 3).isOpen = true ∧ 5 < 16 ∧ f0.met.sessions = [] ∧ 2 ≤ roleRank (f0.d.session 3).role ∧ ((f0.d.stream 5).isOpen = false ∨ (f0.d.stream 5).owner = 3)) ∧
    (okSess 3 = true ∧ st39.d.pow.heldBy = none ∧ st39.d.tuOps = [] ∧ st39.d.metOps = [] ∧ st39.d.warmAsk = false ∧ (st39.d.session 3).isOpen = true ∧ 5 < 16 ∧ st39.met.sessions = [] ∧ (st39.d.stream 5).isOpen = true ∧ (st39.d.stream 5).owner = 3) ∧
    (okSess 3 = true ∧ st40.d.pow.heldBy = none ∧ st40.d.tuOps = [] ∧ st40.d.metOps = [] ∧ st40.d.warmAsk = false ∧ (st40.d.session 3).isOpen = true ∧ 5 < 16 ∧ st40.met.sessions = [] ∧ (roleRank (st40.d.session 3).role < 2 ∨ (st40.d.stream 5).isOpen = true ∧ (st40.d.stream 5).owner ≠ 3)) :=
  ⟨by decide +kernel, by decide +kernel, by decide +kernel⟩

theorem test_FdpServicesFollowTheirRules_3 :
    (okMg 1 = true ∧ f0.d.pow.heldBy = none ∧ f0.d.tuOps = [] ∧ f0.d.metOps = [] ∧ f0.d.warmAsk = false ∧ f0.met.sessions = [] ∧ fdpOn f0.d 1 = true ∧ 2 < 4 ∧ (List.find? (fun (j : ℕ) => !(f0.d.session j).isOpen) (List.range 16) = some 0) ∧ 3 < 16 ∧ (f0.d.session 3).isOpen = true ∧ 3 ≠ 0) := by decide +kernel

theorem test_FdpServicesFollowTheirRules_4 :
    (okSess 3 = true ∧ st43.d.pow.heldBy = none ∧ st43.d.tuOps = [] ∧ st43.d.metOps = [] ∧ st43.d.warmAsk = false ∧ st43.met.sessions = [] ∧ (st43.d.session 3).isOpen = true ∧ (List.filter (fun (p : ℕ × Stream) => p.2.isOpen && p.2.owner == 3) st43.d.streams = []) ∧ (envOf 7 st43).now < (st43.d.session 3).lastAt + st43.d.gn 5152 2 * 16000000000) ∧
    (okSess 3 = true ∧ st44.d.pow.heldBy = none ∧ st44.d.tuOps = [] ∧ st44.d.metOps = [] ∧ st44.d.warmAsk = false ∧ st44.met.sessions = [] ∧ (st44.d.session 3).isOpen = true ∧ (List.filter (fun (p : ℕ × Stream) => p.2.isOpen && p.2.owner == 3) st44.d.streams = []) ∧ (st44.d.session 3).lastAt + st44.d.gn 5152 2 * 16000000000 ≤ (envOf 7 st44).now) :=
  ⟨by decide +kernel, by decide +kernel⟩

theorem test_FdpServicesFollowTheirRules_5 :
    (okMg 1 = true ∧ f0.d.pow.heldBy = none ∧ f0.d.tuOps = [] ∧ f0.d.metOps = [] ∧ f0.d.warmAsk = false ∧ f0.met.sessions = [] ∧ fdpOn f0.d 1 = true ∧ 32 ≤ (dg 5 [(1 : Byte), (2 : Byte), (3 : Byte)]).length ∧ (dg 5 [(1 : Byte), (2 : Byte), (3 : Byte)]).length = 32 + beAt (dg 5 [(1 : Byte), (2 : Byte), (3 : Byte)]) 6 2 ∧ beAt (dg 5 [(1 : Byte), (2 : Byte), (3 : Byte)]) 6 2 ≤ 1440 ∧ beAt (dg 5 [(1 : Byte), (2 : Byte), (3 : Byte)]) 0 2 = 17988 ∧ beAt (dg 5 [(1 : Byte), (2 : Byte), (3 : Byte)]) 2 1 = 1 ∧ beAt (dg 5 [(1 : Byte), (2 : Byte), (3 : Byte)]) 3 1 = 1 ∧ beAt (dg 5 [(1 : Byte), (2 : Byte), (3 : Byte)]) 8 4 ≠ 0 ∧ (List.find? (fun (j : ℕ) => (f0.d.session j).isOpen && (f0.d.session j).id == beAt (dg 5 [(1 : Byte), (2 : Byte), (3 : Byte)]) 8 4) (List.range 16) = some 3) ∧ beAt (dg 5 [(1 : Byte), (2 : Byte), (3 : Byte)]) 5 1 = roleCode (f0.d.session 3).role ∧ List.drop (16 + beAt (dg 5 [(1 : Byte), (2 : Byte), (3 : Byte)]) 6 2) (dg 5 [(1 : Byte), (2 : Byte), (3 : Byte)]) = List.take 16 (hmacSha256 (f0.d.session 3).key (List.take (16 + beAt (dg 5 [(1 : Byte), (2 : Byte), (3 : Byte)]) 6 2) (dg 5 [(1 : Byte), (2 : Byte), (3 : Byte)]))) ∧ (0 : ℤ) < wrapI 32 (↑(beAt (dg 5 [(1 : Byte), (2 : Byte), (3 : Byte)]) 12 4) - ↑(f0.d.session 3).last) ∧ List.take (beAt (dg 5 [(1 : Byte), (2 : Byte), (3 : Byte)]) 6 2) (List.drop 16 (dg 5 [(1 : Byte), (2 : Byte), (3 : Byte)])) = [(8 : Byte), (0 : Byte), (0 : Byte), (0 : Byte)]) ∧
    (okMg 1 = true ∧ f0.d.pow.heldBy = none ∧ f0.d.tuOps = [] ∧ f0.d.metOps = [] ∧ f0.d.warmAsk = false ∧ f0.met.sessions = [] ∧ fdpOn f0.d 1 = true ∧ 32 ≤ (dg 4 [(1 : Byte), (2 : Byte), (3 : Byte)]).length ∧ (dg 4 [(1 : Byte), (2 : Byte), (3 : Byte)]).length = 32 + beAt (dg 4 [(1 : Byte), (2 : Byte), (3 : Byte)]) 6 2 ∧ beAt (dg 4 [(1 : Byte), (2 : Byte), (3 : Byte)]) 6 2 ≤ 1440 ∧ beAt (dg 4 [(1 : Byte), (2 : Byte), (3 : Byte)]) 0 2 = 17988 ∧ beAt (dg 4 [(1 : Byte), (2 : Byte), (3 : Byte)]) 2 1 = 1 ∧ beAt (dg 4 [(1 : Byte), (2 : Byte), (3 : Byte)]) 3 1 = 1 ∧ beAt (dg 4 [(1 : Byte), (2 : Byte), (3 : Byte)]) 8 4 ≠ 0 ∧ (List.find? (fun (j : ℕ) => (f0.d.session j).isOpen && (f0.d.session j).id == beAt (dg 4 [(1 : Byte), (2 : Byte), (3 : Byte)]) 8 4) (List.range 16) = some 3) ∧ beAt (dg 4 [(1 : Byte), (2 : Byte), (3 : Byte)]) 5 1 = roleCode (f0.d.session 3).role ∧ List.drop (16 + beAt (dg 4 [(1 : Byte), (2 : Byte), (3 : Byte)]) 6 2) (dg 4 [(1 : Byte), (2 : Byte), (3 : Byte)]) = List.take 16 (hmacSha256 (f0.d.session 3).key (List.take (16 + beAt (dg 4 [(1 : Byte), (2 : Byte), (3 : Byte)]) 6 2) (dg 4 [(1 : Byte), (2 : Byte), (3 : Byte)]))) ∧ beAt (dg 4 [(1 : Byte), (2 : Byte), (3 : Byte)]) 12 4 = (f0.d.session 3).last) ∧
    (okMg 1 = true ∧ f0.d.pow.heldBy = none ∧ f0.d.tuOps = [] ∧ f0.d.metOps = [] ∧ f0.d.warmAsk = false ∧ f0.met.sessions = [] ∧ fdpOn f0.d 1 = true ∧ 32 ≤ (dg 3 [(1 : Byte), (2 : Byte), (3 : Byte)]).length ∧ (dg 3 [(1 : Byte), (2 : Byte), (3 : Byte)]).length = 32 + beAt (dg 3 [(1 : Byte), (2 : Byte), (3 : Byte)]) 6 2 ∧ beAt (dg 3 [(1 : Byte), (2 : Byte), (3 : Byte)]) 6 2 ≤ 1440 ∧ beAt (dg 3 [(1 : Byte), (2 : Byte), (3 : Byte)]) 0 2 = 17988 ∧ beAt (dg 3 [(1 : Byte), (2 : Byte), (3 : Byte)]) 2 1 = 1 ∧ beAt (dg 3 [(1 : Byte), (2 : Byte), (3 : Byte)]) 3 1 = 1 ∧ beAt (dg 3 [(1 : Byte), (2 : Byte), (3 : Byte)]) 8 4 ≠ 0 ∧ (List.find? (fun (j : ℕ) => (f0.d.session j).isOpen && (f0.d.session j).id == beAt (dg 3 [(1 : Byte), (2 : Byte), (3 : Byte)]) 8 4) (List.range 16) = some 3) ∧ beAt (dg 3 [(1 : Byte), (2 : Byte), (3 : Byte)]) 5 1 = roleCode (f0.d.session 3).role ∧ List.drop (16 + beAt (dg 3 [(1 : Byte), (2 : Byte), (3 : Byte)]) 6 2) (dg 3 [(1 : Byte), (2 : Byte), (3 : Byte)]) = List.take 16 (hmacSha256 (f0.d.session 3).key (List.take (16 + beAt (dg 3 [(1 : Byte), (2 : Byte), (3 : Byte)]) 6 2) (dg 3 [(1 : Byte), (2 : Byte), (3 : Byte)]))) ∧ beAt (dg 3 [(1 : Byte), (2 : Byte), (3 : Byte)]) 12 4 ≠ (f0.d.session 3).last ∧ wrapI 32 (↑(beAt (dg 3 [(1 : Byte), (2 : Byte), (3 : Byte)]) 12 4) - ↑(f0.d.session 3).last) ≤ (0 : ℤ)) ∧
    (okMg 1 = true ∧ f0.d.pow.heldBy = none ∧ f0.d.tuOps = [] ∧ f0.d.metOps = [] ∧ f0.d.warmAsk = false ∧ f0.met.sessions = [] ∧ fdpOn f0.d 1 = true ∧ 32 ≤ (dg 5 [(1 : Byte), (2 : Byte), (4 : Byte)]).length ∧ (dg 5 [(1 : Byte), (2 : Byte), (4 : Byte)]).length = 32 + beAt (dg 5 [(1 : Byte), (2 : Byte), (4 : Byte)]) 6 2 ∧ beAt (dg 5 [(1 : Byte), (2 : Byte), (4 : Byte)]) 6 2 ≤ 1440 ∧ beAt (dg 5 [(1 : Byte), (2 : Byte), (4 : Byte)]) 0 2 = 17988 ∧ beAt (dg 5 [(1 : Byte), (2 : Byte), (4 : Byte)]) 2 1 = 1 ∧ beAt (dg 5 [(1 : Byte), (2 : Byte), (4 : Byte)]) 3 1 = 1 ∧ beAt (dg 5 [(1 : Byte), (2 : Byte), (4 : Byte)]) 8 4 ≠ 0 ∧ (List.find? (fun (j : ℕ) => (f0.d.session j).isOpen && (f0.d.session j).id == beAt (dg 5 [(1 : Byte), (2 : Byte), (4 : Byte)]) 8 4) (List.range 16) = some 3) ∧ (¬(beAt (dg 5 [(1 : Byte), (2 : Byte), (4 : Byte)]) 5 1 = roleCode (f0.d.session 3).role ∧ List.drop (16 + beAt (dg 5 [(1 : Byte), (2 : Byte), (4 : Byte)]) 6 2) (dg 5 [(1 : Byte), (2 : Byte), (4 : Byte)]) = List.take 16 (hmacSha256 (f0.d.session 3).key (List.take (16 + beAt (dg 5 [(1 : Byte), (2 : Byte), (4 : Byte)]) 6 2) (dg 5 [(1 : Byte), (2 : Byte), (4 : Byte)])))))) :=
  ⟨by decide +kernel, by decide +kernel, by decide +kernel, by decide +kernel⟩

theorem test_UnitCommandsFollowTheirRules_0 :
    (masterOk C = true ∧ S.d.pow.heldBy = none ∧ 32 ≤ 35 ∧ 35 < 48 ∧ (S.d.unit 0).cmd = none ∧ 1 ≤ 4 ∧ (S.d.unit 35).cmd = none ∧ S.d.accepts C (28672 + 35) 6 ((1 : Nat) : Int) = true ∧ (S.d.unit 35).state ≠ stateOf 1 ∧ rotOwns S.d 35 = false ∧ S.d.rot.state ≠ 5 ∧ S.d.accepts C (28672 + 35) 6 (6 : ℤ) = true) ∧
    (masterOk C = true ∧ S.d.pow.heldBy = none ∧ 32 ≤ 35 ∧ 35 < 48 ∧ (S.d.unit 0).cmd = none ∧ 0 ≤ 4 ∧ (S.d.unit 35).cmd = none ∧ S.d.accepts C (28672 + 35) 6 ((0 : Nat) : Int) = true ∧ (S.d.unit 35).state = stateOf 0) ∧
    (masterOk C = true ∧ st52.d.pow.heldBy = none ∧ 32 ≤ 35 ∧ 35 < 48 ∧ (st52.d.unit 0).cmd = none ∧ (st52.d.unit 35).cmd = none ∧ st52.d.accepts C (28672 + 35) 6 (5 : ℤ) = true ∧ (st52.d.unit 35).state ≠ UState.off ∧ rotOwns st52.d 35 = false) ∧
    (masterOk C = true ∧ st53.d.pow.heldBy = none ∧ 32 ≤ 35 ∧ 35 < 48 ∧ (st53.d.unit 0).cmd = none ∧ 2 ≤ 4 ∧ (st53.d.unit 35).cmd = none ∧ st53.d.accepts C (28672 + 35) 6 ((2 : Nat) : Int) = true ∧ (st53.d.unit 35).state ≠ stateOf 2 ∧ rotOwns st53.d 35 = true) ∧
    (masterOk C = true ∧ c1.d.pow.heldBy = none ∧ 32 ≤ 35 ∧ 35 < 48 ∧ (c1.d.unit 0).cmd = none ∧ c1.d.accepts C (28672 + 35) 6 (6 : ℤ) = true ∧ (c1.d.unit 35).cmd ≠ none) :=
  ⟨by decide +kernel, by decide +kernel, by decide +kernel, by decide +kernel, by decide +kernel⟩

theorem test_UnitCommandsFollowTheirRules_1 :
    (c1.d.pow.heldBy = none ∧ 32 ≤ 35 ∧ 35 < 48 ∧ (c1.d.unit 35).cmd = some c0 ∧ c0.steps = [(35, UState.shadow)] ∧ c0.reset = false ∧ (c1.d.unit 35).state ≠ UState.shadow ∧ (∀ p ∈ c1.d.units, p.1 ≠ 35 → p.2.cmd = none) ∧ 5 ≠ 35) := by decide +kernel

theorem test_OverlaysFollowTheirRules_0 :
    (masterOk C = true ∧ okOvl 5 = true ∧ st60.d.pow.heldBy = none ∧ st60.d.accepts C (4368 + 5) 2 (1 : ℤ) = true ∧ ((st60.d.ovl 5).state = OvlState.empty ∨ (st60.d.ovl 5).state = OvlState.stored) ∧ List.find? (entryFails (envOf 7 st60) (begun st60.d) (roleRank (st60.d.roleOfM C)) (st60.d.domOfM C) (chunks 257 16 (st60.d.gB (4368 + 5) 1)) (readEntries (st60.d.gB (4368 + 5) 1))) (List.range (chunks 257 16 (st60.d.gB (4368 + 5) 1)).length) = none ∧ readEntries (st60.d.gB (4368 + 5) 1) ≠ [] ∧ st60.d.gn (4368 + 5) 5 ≠ 2 ∧ st60.d.inForce = []) ∧
    (masterOk C = true ∧ okOvl 5 = true ∧ st61.d.pow.heldBy = none ∧ st61.d.accepts C (4368 + 5) 2 (1 : ℤ) = true ∧ ((st61.d.ovl 5).state = OvlState.empty ∨ (st61.d.ovl 5).state = OvlState.stored) ∧ List.find? (entryFails (envOf 7 st61) (begun st61.d) (roleRank (st61.d.roleOfM C)) (st61.d.domOfM C) (chunks 257 16 (st61.d.gB (4368 + 5) 1)) (readEntries (st61.d.gB (4368 + 5) 1))) (List.range (chunks 257 16 (st61.d.gB (4368 + 5) 1)).length) = some 1) ∧
    (masterOk C = true ∧ okOvl 5 = true ∧ st62.d.pow.heldBy = none ∧ st62.d.accepts C (4368 + 5) 2 (1 : ℤ) = true ∧ ((st62.d.ovl 5).state = OvlState.pendingOn ∨ (st62.d.ovl 5).state = OvlState.active ∨ (st62.d.ovl 5).state = OvlState.pendingOff)) :=
  ⟨by decide +kernel, by decide +kernel, by decide +kernel⟩

theorem test_OverlaysFollowTheirRules_1 :
    (masterOk C = true ∧ okOvl 5 = true ∧ st67.d.pow.heldBy = none ∧ st67.d.accepts C (4368 + 5) 11 (1 : ℤ) = true ∧ (st67.d.ovl 5).state = OvlState.stored ∧ (st67.d.ovl 5).entries.all (entryTakes (envOf 7 st67) (ovlTrial (begun st67.d) (st67.d.ovl 5).entries) (st67.d.ovl 5).owner) = true ∧ entriesAt (st67.d.ovl 5) 0 = [] ∧ gridTop st67.d = some (42 : ℤ) ∧ st67.d.gn (4368 + 5) 8 ≠ 4) ∧
    (masterOk C = true ∧ okOvl 5 = true ∧ st68.d.pow.heldBy = none ∧ st68.d.accepts C (4368 + 5) 11 (1 : ℤ) = true ∧ ((st68.d.ovl 5).state = OvlState.pendingOn ∨ (st68.d.ovl 5).state = OvlState.active)) :=
  ⟨by decide +kernel, by decide +kernel⟩

theorem test_OverlaysFollowTheirRules_2 :
    (masterOk C = true ∧ okOvl 5 = true ∧ st69.d.pow.heldBy = none ∧ st69.d.accepts C (4368 + 5) 11 (2 : ℤ) = true ∧ (st69.d.ovl 5).state = OvlState.active ∧ entriesAt (st69.d.ovl 5) 0 = [] ∧ gridTop st69.d = some (42 : ℤ) ∧ st69.d.inForce = []) ∧
    (masterOk C = true ∧ okOvl 5 = true ∧ st70.d.pow.heldBy = none ∧ st70.d.accepts C (4368 + 5) 11 (2 : ℤ) = true ∧ (st70.d.ovl 5).state ≠ OvlState.active) :=
  ⟨by decide +kernel, by decide +kernel⟩

theorem test_OverlaysFollowTheirRules_3 :
    (masterOk C = true ∧ okOvl 5 = true ∧ st71.d.pow.heldBy = none ∧ st71.d.accepts C (4368 + 5) 11 (3 : ℤ) = true ∧ (st71.d.ovl 5).state = OvlState.pendingOn) ∧
    (masterOk C = true ∧ okOvl 5 = true ∧ st72.d.pow.heldBy = none ∧ st72.d.accepts C (4368 + 5) 11 (3 : ℤ) = true ∧ (st72.d.ovl 5).state = OvlState.pendingOff ∧ (st72.d.ovl 5).removed = false ∧ st72.d.gn (4368 + 5) 8 ≠ 4) :=
  ⟨by decide +kernel, by decide +kernel⟩

theorem test_OverlaysFollowTheirRules_4 :
    (okOvl 5 = true ∧ okUnit 12 = true ∧ st75.d.pow.heldBy = none ∧ st75.d.ovls = [(5, x1)] ∧ x1.entries = [{ idx := 12800, sub := 10, val := (77 : ℤ) : OvlEntry }] ∧ ovlUnit { idx := 12800, sub := 10, val := (77 : ℤ) : OvlEntry }.idx = 12 ∧ 12 ≠ 0 ∧ isWo { idx := 12800, sub := 10, val := (77 : ℤ) : OvlEntry }.idx { idx := 12800, sub := 10, val := (77 : ℤ) : OvlEntry }.sub = false ∧ x1.wIdx ≠ none ∧ x1.state = OvlState.pendingOn ∧ x1.applied = [] ∧ ovlReached st75.d x1 12 true = false ∧ ovlReached st75.d x1 12 false = true ∧ st75.d.gn (4368 + 5) 8 ≠ 2 ∧ st75.d.inForce = []) ∧
    (okOvl 5 = true ∧ okUnit 12 = true ∧ st77.d.pow.heldBy = none ∧ st77.d.ovls = [(5, x2)] ∧ x2.entries = [{ idx := 12800, sub := 10, val := (77 : ℤ) : OvlEntry }] ∧ ovlUnit { idx := 12800, sub := 10, val := (77 : ℤ) : OvlEntry }.idx = 12 ∧ 12 ≠ 0 ∧ isWo { idx := 12800, sub := 10, val := (77 : ℤ) : OvlEntry }.idx { idx := 12800, sub := 10, val := (77 : ℤ) : OvlEntry }.sub = false ∧ x2.wIdx ≠ none ∧ x2.state = OvlState.pendingOff ∧ x2.applied = [0] ∧ ovlReached st77.d x2 12 true = true) :=
  ⟨by decide +kernel, by decide +kernel⟩

theorem test_OverlayCheckedAgainAtActivation_0 :
    (masterOk C = true ∧ okOvl 5 = true ∧ st78.d.pow.heldBy = none ∧ st78.d.accepts C (4368 + 5) 11 (1 : ℤ) = true ∧ (st78.d.ovl 5).state = OvlState.stored ∧ (∃ q ∈ (st78.d.ovl 5).entries, entryTakes (envOf 7 st78) (ovlTrial (begun st78.d) (st78.d.ovl 5).entries) (st78.d.ovl 5).owner q = false)) := by decide +kernel



end W20

namespace W21
def OS (s : State) (l : List (Nat × Nat × Int)) : State := l.foldl (fun s x => O s x.1 x.2.1 x.2.2) s
def mb (x : Mbox) := D (OS S [(0x1624,1,0),(0x1624,2,3)]) fun d => {d with mboxes := [(4,x)]}
def C3 : Master := .core 3 true
def e8 := [1,2,3,4,5,6,7,8]
def db := OS S [(0x1608,2,5),(0x1608,3,9)]
def ic := OS db [(0x1640, 99, 0x8301), (0x1640, 97, 0x8401), (0x1641, 36, 0x8101)]
def g : Granted := {at_ := 0, stamp := 5, data := 6, chan := 7, seq := 8}
def ic2 := D (OS S [(0x1640, 34, 0x8001)]) fun d => d.setTask 0x121 {work := some g}

def st8 : State := (mb {})
def st10 : State := (mb {ab := [7,8]})
def st12 : State := (mb {})
def st15 : State := (mb {ab := e8})
def st18 : State := (D S fun d => {d with locks := [(5,1)]})
def st21 : State := (D S fun d => {d with locks := [(5,9)]})
def st26 : State := (D S fun d => {d with locks := [(5,9)]})
def st27 : State := (D S fun d => {d with locks := [(5,9)]})
def st31 : State := (D ic fun d => {d with irqFlags := 8})
def st36 : State := (D ic2 fun d => {d with irqActive := [(33,0)]})
def st37 : State := (D ic2 fun d => {d with irqActive := [(98,0)]})
def st38 : State := (D ic2 fun d => {d with irqActive := [(98,1)]})

theorem test_MailboxWordsPassInOrder_0 :
    (masterOk C = true ∧ okMbox 4 = true ∧ st8.d.pow.heldBy = none ∧ mbSide st8.d C 4 = some 0 ∧ (¬(4 = 31 ∧ 0 = 1)) ∧ (0 : ℤ) ≤ (5 : ℤ) ∧ (5 : ℤ) < (4294967296 : ℤ) ∧ (mbIn st8.d 4 (1 - 0)).length < 8 ∧ masterOk C3 = true ∧ mbSide st8.d C3 4 = some (1 - 0) ∧ mbIn st8.d 4 (1 - 0) = [] ∧ mbIn st8.d 4 0 = []) ∧
    (masterOk C3 = true ∧ okMbox 4 = true ∧ st10.d.pow.heldBy = none ∧ mbSide st10.d C3 4 = some 1 ∧ mbIn st10.d 4 1 = [7, 8]) ∧
    (masterOk (Master.core 5 true) = true ∧ okMbox 4 = true ∧ st12.d.pow.heldBy = none ∧ mbSide st12.d (Master.core 5 true) 4 = none ∧ (0 : ℤ) ≤ (1 : ℤ) ∧ (1 : ℤ) < (4294967296 : ℤ)) :=
  ⟨by decide +kernel, by decide +kernel, by decide +kernel⟩

theorem test_FullMailboxRefusesSend_1 :
    (masterOk C = true ∧ okMbox 4 = true ∧ st15.d.pow.heldBy = none ∧ mbSide st15.d C 4 = some 0 ∧ (¬(4 = 31 ∧ 0 = 1)) ∧ (0 : ℤ) ≤ (99 : ℤ) ∧ (99 : ℤ) < (4294967296 : ℤ) ∧ 8 ≤ (mbIn st15.d 4 (1 - 0)).length ∧ masterOk C3 = true ∧ mbSide st15.d C3 4 = some (1 - 0) ∧ mbIn st15.d 4 (1 - 0) = [1, 2, 3, 4, 5, 6, 7, 8] ∧ [2, 3, 4, 5, 6, 7, 8].length = 7) := by decide +kernel

theorem test_LocksAreTakenByReading_0 :
    (masterOk C = true ∧ okLock 5 = true ∧ S.d.pow.heldBy = none ∧ ((match C with | Master.fdp _ => false | _ => decide (5 < 96) || S.d.secureM C) = true) ∧ tabFind S.d.locks 5 = none ∧ (0 : ℤ) ≤ (5 : ℤ) ∧ (5 : ℤ) < (65536 : ℤ) ∧ ((5 : ℤ) ≠ (0 : ℤ) ∨ tabFind S.d.locks 5 ≠ some (masterId C + 1))) ∧
    (masterOk C = true ∧ okLock 5 = true ∧ st18.d.pow.heldBy = none ∧ ((match C with | Master.fdp _ => false | _ => decide (5 < 96) || st18.d.secureM C) = true) ∧ tabFind st18.d.locks 5 = some 1 ∧ tabFind st18.d.locks 5 = some (masterId C + 1) ∧ tabWf st18.d.locks = true) ∧
    (masterOk (Master.core 2 false) = true ∧ okLock 99 = true ∧ st21.d.pow.heldBy = none ∧ ((match Master.core 2 false with | Master.fdp _ => false | _ => decide (99 < 96) || st21.d.secureM (Master.core 2 false)) = false) ∧ (0 : ℤ) ≤ (9 : ℤ) ∧ (9 : ℤ) < (65536 : ℤ)) :=
  ⟨by decide +kernel, by decide +kernel, by decide +kernel⟩

theorem test_DoorbellsAndInterruptsFollowTheirRules_0 :
    (masterOk C = true ∧ db.d.pow.heldBy = none ∧ (0 : ℤ) ≤ (12 : ℤ) ∧ (12 : ℤ) < (18446744073709551616 : ℤ) ∧ ((match C with | Master.fdp _ => db.d.hasRole C Role.integrator | _ => db.d.hasRole C Role.service) = true) ∧ db.d.inForce = [] ∧ bitsOf 64 (Int.toNat (12 : ℤ) &&& dbReach db.d C) = [2, 3] ∧ db.d.hasRole C Role.service = true) ∧
    (masterOk C = true ∧ db.d.pow.heldBy = none ∧ (0 : ℤ) ≤ (0 : ℤ) ∧ (0 : ℤ) < (18446744073709551616 : ℤ) ∧ ((match C with | Master.fdp _ => db.d.hasRole C Role.integrator | _ => db.d.hasRole C Role.service) = true) ∧ db.d.inForce = [] ∧ bitsOf 64 (Int.toNat (0 : ℤ) &&& dbReach db.d C) = []) :=
  ⟨by decide +kernel, by decide +kernel⟩

theorem test_DoorbellsAndInterruptsFollowTheirRules_1 :
    (masterOk C = true ∧ st26.d.pow.heldBy = none ∧ st26.d.accepts C 5729 1 ((5 : Nat) : Int) = true ∧ tabFind st26.d.locks 5 = some 9) ∧
    (masterOk C = true ∧ st27.d.pow.heldBy = none ∧ st27.d.accepts C 5729 1 ((6 : Nat) : Int) = true ∧ tabFind st27.d.locks 6 = none) :=
  ⟨by decide +kernel, by decide +kernel⟩

theorem test_DoorbellsAndInterruptsFollowTheirRules_2 :
    (okCore 0 = true ∧ ic.d.pow.heldBy = none ∧ 98 < 164 ∧ intClaimable ic.d 0 true 98 = true ∧ (∀ j < 164, intClaimable ic.d 0 true j = true → field (intCfg ic.d 98) 11 8 < field (intCfg ic.d j) 11 8 ∨ field (intCfg ic.d 98) 11 8 = field (intCfg ic.d j) 11 8 ∧ 98 ≤ j) ∧ 64 ≤ 98 ∧ 98 < 160) ∧
    (okCore 0 = true ∧ st31.d.pow.heldBy = none ∧ 163 < 164 ∧ intClaimable st31.d 0 true 163 = true ∧ (∀ j < 164, intClaimable st31.d 0 true j = true → field (intCfg st31.d 163) 11 8 < field (intCfg st31.d j) 11 8 ∨ field (intCfg st31.d 163) 11 8 = field (intCfg st31.d j) 11 8 ∧ 163 ≤ j) ∧ 160 ≤ 163) ∧
    (okCore 0 = true ∧ ic2.d.pow.heldBy = none ∧ 33 < 164 ∧ intClaimable ic2.d 0 true 33 = true ∧ (∀ j < 164, intClaimable ic2.d 0 true j = true → field (intCfg ic2.d 33) 11 8 < field (intCfg ic2.d j) 11 8 ∨ field (intCfg ic2.d 33) 11 8 = field (intCfg ic2.d j) 11 8 ∧ 33 ≤ j) ∧ 33 < 64 ∧ (ic2.d.task (256 + 33)).work = some g) ∧
    (okCore 0 = true ∧ S.d.pow.heldBy = none ∧ (∀ i < 164, intClaimable S.d 0 true i = false) ∧ 2 < 8 ∧ 2 ≠ 0) :=
  ⟨by decide +kernel, by decide +kernel, by decide +kernel, by decide +kernel⟩

theorem test_DoorbellsAndInterruptsFollowTheirRules_3 :
    (okCore 0 = true ∧ st36.d.pow.heldBy = none ∧ 33 < 164 ∧ tabFind st36.d.irqActive 33 = some 0 ∧ 33 < 64 ∧ (st36.d.task (256 + 33)).held = []) ∧
    (okCore 0 = true ∧ st37.d.pow.heldBy = none ∧ 98 < 164 ∧ tabFind st37.d.irqActive 98 = some 0 ∧ 64 ≤ 98) ∧
    (okCore 0 = true ∧ st38.d.pow.heldBy = none ∧ 98 < 164 ∧ tabFind st38.d.irqActive 98 ≠ some 0) :=
  ⟨by decide +kernel, by decide +kernel, by decide +kernel⟩



end W21

namespace W22
def OS (s : State) (l : List (Nat × Nat × Int)) : State := l.foldl (fun s x => O s x.1 x.2.1 x.2.2) s
def M (f : Met → Met) : State := { S with met := f { powered := true, l0 := 500, c := 77, roll := 5, rollStart := 100, tickAt := 9000000000, pulsed := 0, rtcAt := some (99, 100), eventCounter := 7, msgSeq := 9 } }
def okm : Met → Met := fun m => {m with okOut := true}
def hi (a : Bool) (since : Nat) : PinFilter := { lvl := a, acc := !a, since := since }
def slots3 : List MetSlot := [⟨9, 4, 10, 20, 5, 7, 0⟩, ⟨8, 4, 10, 19, 5, 7, 0⟩, ⟨7, 4, 10, 18, 5, 7, 0⟩]
def rm : MetMsg := ⟨2,5,6,7⟩
def live (s : State) : State := U (U s 0x007 .inService) 0x101 .inService
def tm : MetMsg := {kind := 1, w1 := 77500, w2 := 0, w3 := 5 }
def op (f : Met → Met) : State := M fun m => f {m with sessions := [(3,{isOpen := true, role := .metrology})], sealPin := {}}
def cl (f : Met → Met) : State := M fun m => f {m with okOut := true, sessions := [(3,{isOpen := true, role := .metrology})]}


def st10 : State := (M okm)
def st11 : State := (M fun m => {okm m with pinA := hi true 500})
def st13 : State := (M fun m => {okm m with pinA := hi true 500, pinB := {lvl := true, acc := true}, par := {m.par with quadMult := 1}})
def st15 : State := (M fun m => {okm m with pinA := hi true 500, c := 999999, pulsed := 999000000, par := {m.par with pulseLen := 1000}})
def st17 : State := (M fun m => {okm m with pinB := hi true 500})
def st18 : State := (M fun m => {okm m with pinB := hi true 500, par := {m.par with quadMult := 2}})
def st20 : State := (M fun m => {okm m with pinB := hi true 500, pinA := hi true 500, par := {m.par with errMax := 100}})
def st21 : State := (M fun m => {okm m with pinZ := hi true 501})
def st23 : State := {(M fun m => {okm m with pulseEnd := some 60}) with now := 50}
def st24 : State := (M fun m => {okm m with pulseEnd := some 999})
def st25 : State := (M fun m => {okm m with pulseEnd := some 999, pulsesDue := 3, pulseFrom := some 555})
def st27 : State := (M fun m => {okm m with powered := false, okOut := false, pulseEnd := some 5, sessions := [(1,{})]})
def st29 : State := (M okm)
def st30 : State := (M okm)
def st32 : State := (M fun m => {m with okOut := true, slots := slots3, warned := true})
def st33 : State := (M okm)
def st34 : State := (M okm)
def st35 : State := (M fun m => {m with sealPin := {lvl := false, acc := false}})
def st36 : State := (M fun m => {m with sealPin := {lvl := false, acc := false}, storeFault := true})
def st37 : State := (M fun m => {m with slots := slots3})
def st38 : State := (M fun m => {m with slots := slots3, kept := some ⟨[],[],3,{},[1]⟩})
def st42 : State := (U (M fun m => {m with tryDue := true, queue := [rm,rm]}) 7 .off)
def st43 : State := (live (M fun m => {m with tryDue := true, queue := [rm,rm]}))
def st44 : State := (D (live (M fun m => {m with tryDue := true, queue := [rm,rm]})) fun d => {d with mboxes := [(31,{ab := [3]})]})
def st46 : State := (D (live (M fun m => {m with tryDue := true, totalDue := true})) fun d => {d with mboxes := [(31,{ab := [3]})]})
def st47 : State := (live (M fun m => {m with tryDue := true}))
def st49 : State := (live (M fun m => {m with powered := false, tryDue := true}))
def st50 : State := (M fun m => m)
def st56 : State := (cl fun m => m)
def st58 : State := (cl fun m => m)
def st59 : State := (cl fun m => m)
def st60 : State := (cl fun m => m)
def st62 : State := (op fun m => m)
def st63 : State := (op fun m => {m with slots := slots3})
def st70 : State := (op fun m => m)

theorem test_SealedCountFollowsItsRules_0 :
    (st10.met.okOut = metOk st10.met ∧ st10.met.powered = true ∧ (st10.met.pinA.lvl != st10.met.pinA.acc && decide (ceilTo 80 st10.met.pinA.since + (st10.met.par.filterN - 1) * 80 ≤ max st10.now 7)) = false ∧ (st10.met.pinB.lvl != st10.met.pinB.acc && decide (ceilTo 80 st10.met.pinB.since + (st10.met.par.filterN - 1) * 80 ≤ max st10.now 7)) = false ∧ (st10.met.pinZ.lvl != st10.met.pinZ.acc && decide (ceilTo 80 st10.met.pinZ.since + (st10.met.par.filterN - 1) * 80 ≤ max st10.now 7)) = false ∧ st10.met.pulseEnd = none) ∧
    (st11.met.okOut = metOk st11.met ∧ st11.met.powered = true ∧ (st11.met.pinA.lvl != st11.met.pinA.acc && decide (ceilTo 80 st11.met.pinA.since + (st11.met.par.filterN - 1) * 80 ≤ max st11.now 7)) = true ∧ (st11.met.pinB.lvl != st11.met.pinB.acc && decide (ceilTo 80 st11.met.pinB.since + (st11.met.par.filterN - 1) * 80 ≤ max st11.now 7)) = false ∧ (st11.met.pinZ.lvl != st11.met.pinZ.acc && decide (ceilTo 80 st11.met.pinZ.since + (st11.met.par.filterN - 1) * 80 ≤ max st11.now 7)) = false ∧ (st11.met.par.quadMult = 4 ∨ st11.met.par.quadMult = 2 ∨ st11.met.par.quadMult = 1 ∧ st11.met.pinB.acc = st11.met.par.invert) ∧ ((1000 : ℤ) * ↑st11.met.par.pulseLen = (0 : ℤ) ∨ metTotal { { st11.met with pinA := { st11.met.pinA with acc := st11.met.pinA.lvl } } with c := wrapI 64 ({ st11.met with pinA := { st11.met.pinA with acc := st11.met.pinA.lvl } }.c + if ((st11.met.pinA.lvl != st11.met.pinB.acc) != st11.met.par.invert) = true then (1 : ℤ) else (-1 : ℤ)) } / ((1000 : ℤ) * ↑st11.met.par.pulseLen) ≤ max (st11.met.pulsed / ((1000 : ℤ) * ↑st11.met.par.pulseLen)) (metTotal st11.met / ((1000 : ℤ) * ↑st11.met.par.pulseLen)))) ∧
    (st13.met.okOut = metOk st13.met ∧ st13.met.powered = true ∧ (st13.met.pinA.lvl != st13.met.pinA.acc && decide (ceilTo 80 st13.met.pinA.since + (st13.met.par.filterN - 1) * 80 ≤ max st13.now 7)) = true ∧ (st13.met.pinB.lvl != st13.met.pinB.acc && decide (ceilTo 80 st13.met.pinB.since + (st13.met.par.filterN - 1) * 80 ≤ max st13.now 7)) = false ∧ (st13.met.pinZ.lvl != st13.met.pinZ.acc && decide (ceilTo 80 st13.met.pinZ.since + (st13.met.par.filterN - 1) * 80 ≤ max st13.now 7)) = false ∧ (¬(st13.met.par.quadMult = 4 ∨ st13.met.par.quadMult = 2 ∨ st13.met.par.quadMult = 1 ∧ st13.met.pinB.acc = st13.met.par.invert))) ∧
    (st15.met.okOut = metOk st15.met ∧ st15.met.powered = true ∧ (st15.met.pinA.lvl != st15.met.pinA.acc && decide (ceilTo 80 st15.met.pinA.since + (st15.met.par.filterN - 1) * 80 ≤ max st15.now 7)) = true ∧ (st15.met.pinB.lvl != st15.met.pinB.acc && decide (ceilTo 80 st15.met.pinB.since + (st15.met.par.filterN - 1) * 80 ≤ max st15.now 7)) = false ∧ (st15.met.pinZ.lvl != st15.met.pinZ.acc && decide (ceilTo 80 st15.met.pinZ.since + (st15.met.par.filterN - 1) * 80 ≤ max st15.now 7)) = false ∧ (st15.met.par.quadMult = 4 ∨ st15.met.par.quadMult = 2 ∨ st15.met.par.quadMult = 1 ∧ st15.met.pinB.acc = st15.met.par.invert) ∧ (1000 : ℤ) * ↑st15.met.par.pulseLen ≠ (0 : ℤ) ∧ 1 ≤ 1 ∧ (metTotal { { st15.met with pinA := { st15.met.pinA with acc := st15.met.pinA.lvl } } with c := wrapI 64 ({ st15.met with pinA := { st15.met.pinA with acc := st15.met.pinA.lvl } }.c + if ((st15.met.pinA.lvl != st15.met.pinB.acc) != st15.met.par.invert) = true then (1 : ℤ) else (-1 : ℤ)) } / ((1000 : ℤ) * ↑st15.met.par.pulseLen) = max (st15.met.pulsed / ((1000 : ℤ) * ↑st15.met.par.pulseLen)) (metTotal st15.met / ((1000 : ℤ) * ↑st15.met.par.pulseLen)) + ((1 : Nat) : Int)) ∧ st15.met.pulseEnd = none ∧ st15.met.pulsesDue = 0) ∧
    (st17.met.okOut = metOk st17.met ∧ st17.met.powered = true ∧ (st17.met.pinA.lvl != st17.met.pinA.acc && decide (ceilTo 80 st17.met.pinA.since + (st17.met.par.filterN - 1) * 80 ≤ max st17.now 7)) = false ∧ (st17.met.pinB.lvl != st17.met.pinB.acc && decide (ceilTo 80 st17.met.pinB.since + (st17.met.par.filterN - 1) * 80 ≤ max st17.now 7)) = true ∧ (st17.met.pinZ.lvl != st17.met.pinZ.acc && decide (ceilTo 80 st17.met.pinZ.since + (st17.met.par.filterN - 1) * 80 ≤ max st17.now 7)) = false ∧ st17.met.par.quadMult = 4 ∧ ((1000 : ℤ) * ↑st17.met.par.pulseLen = (0 : ℤ) ∨ metTotal { { st17.met with pinB := { st17.met.pinB with acc := st17.met.pinB.lvl } } with c := wrapI 64 ({ st17.met with pinB := { st17.met.pinB with acc := st17.met.pinB.lvl } }.c + if ((st17.met.pinB.lvl == st17.met.pinA.acc) != st17.met.par.invert) = true then (1 : ℤ) else (-1 : ℤ)) } / ((1000 : ℤ) * ↑st17.met.par.pulseLen) ≤ max (st17.met.pulsed / ((1000 : ℤ) * ↑st17.met.par.pulseLen)) (metTotal st17.met / ((1000 : ℤ) * ↑st17.met.par.pulseLen)))) ∧
    (st18.met.okOut = metOk st18.met ∧ st18.met.powered = true ∧ (st18.met.pinA.lvl != st18.met.pinA.acc && decide (ceilTo 80 st18.met.pinA.since + (st18.met.par.filterN - 1) * 80 ≤ max st18.now 7)) = false ∧ (st18.met.pinB.lvl != st18.met.pinB.acc && decide (ceilTo 80 st18.met.pinB.since + (st18.met.par.filterN - 1) * 80 ≤ max st18.now 7)) = true ∧ (st18.met.pinZ.lvl != st18.met.pinZ.acc && decide (ceilTo 80 st18.met.pinZ.since + (st18.met.par.filterN - 1) * 80 ≤ max st18.now 7)) = false ∧ st18.met.par.quadMult ≠ 4) ∧
    (st20.met.okOut = metOk st20.met ∧ st20.met.powered = true ∧ (st20.met.pinA.lvl != st20.met.pinA.acc && decide (ceilTo 80 st20.met.pinA.since + (st20.met.par.filterN - 1) * 80 ≤ max st20.now 7)) = true ∧ (st20.met.pinB.lvl != st20.met.pinB.acc && decide (ceilTo 80 st20.met.pinB.since + (st20.met.par.filterN - 1) * 80 ≤ max st20.now 7)) = true ∧ (st20.met.pinZ.lvl != st20.met.pinZ.acc && decide (ceilTo 80 st20.met.pinZ.since + (st20.met.par.filterN - 1) * 80 ≤ max st20.now 7)) = false ∧ ceilTo 80 st20.met.pinA.since = ceilTo 80 st20.met.pinB.since ∧ metOk { { st20.met with pinA := { st20.met.pinA with acc := st20.met.pinA.lvl } } with pinB := { st20.met with pinB := { st20.met.pinB with acc := st20.met.pinB.lvl } }.pinB, rollErrors := min (st20.met.rollErrors + 1) 4294967295, quadErrors := (st20.met.quadErrors + 1) % 4294967296 } = st20.met.okOut) ∧
    (st21.met.okOut = metOk st21.met ∧ st21.met.powered = true ∧ (st21.met.pinA.lvl != st21.met.pinA.acc && decide (ceilTo 80 st21.met.pinA.since + (st21.met.par.filterN - 1) * 80 ≤ max st21.now 7)) = false ∧ (st21.met.pinB.lvl != st21.met.pinB.acc && decide (ceilTo 80 st21.met.pinB.since + (st21.met.par.filterN - 1) * 80 ≤ max st21.now 7)) = false ∧ (st21.met.pinZ.lvl != st21.met.pinZ.acc && decide (ceilTo 80 st21.met.pinZ.since + (st21.met.par.filterN - 1) * 80 ≤ max st21.now 7)) = true) ∧
    (st23.met.okOut = metOk st23.met ∧ st23.met.powered = true ∧ st23.met.pulseEnd = some 60 ∧ max st23.now 7 < 60) ∧
    (st24.met.okOut = metOk st24.met ∧ st24.met.powered = true ∧ st24.met.pulseEnd = some 999 ∧ 999 ≤ max st24.now 7 ∧ st24.met.pulsesDue = 0) ∧
    (st25.met.okOut = metOk st25.met ∧ st25.met.powered = true ∧ st25.met.pulseEnd = some 999 ∧ 999 ≤ max st25.now 7 ∧ st25.met.pulsesDue ≠ 0 ∧ st25.met.pulseFrom = some 555) ∧
    (st27.met.okOut = metOk st27.met ∧ st27.met.powered = false) :=
  ⟨by decide +kernel, by decide +kernel, by decide +kernel, by decide +kernel, by decide +kernel, by decide +kernel, by decide +kernel, by decide +kernel, by decide +kernel, by decide +kernel, by decide +kernel, by decide +kernel⟩

theorem test_SealedRecordsFollowTheirRules_0 :
    (st29.met.okOut = metOk st29.met ∧ st29.met.powered = true ∧ max st29.now 7 < st29.met.tickAt + 1600000000 ∧ st29.met.warned = false ∧ st29.met.okOut = true ∧ true = st29.met.sealPin.acc ∧ st29.met.tryDue = false) ∧
    (st30.met.okOut = metOk st30.met ∧ st30.met.powered = true ∧ st30.met.tickAt + 1600000000 ≤ max st30.now 10600000001) ∧
    (st32.met.okOut = metOk st32.met ∧ (st32.met.powered = false ∨ st32.met.warned = true)) ∧
    (st33.met.okOut = metOk st33.met ∧ true = st33.met.sealPin.acc) ∧
    (st34.met.okOut = metOk st34.met ∧ false ≠ st34.met.sealPin.acc ∧ st34.met.powered = true ∧ metOk { st34.met with sealPin := { st34.met.sealPin with lvl := false, acc := false }, rollSeal := st34.met.rollSeal || !false } = false ∧ st34.met.okOut = true) ∧
    (st35.met.okOut = metOk st35.met ∧ st35.met.powered = true ∧ st35.met.okOut = false ∧ true ≠ st35.met.sealPin.acc ∧ metOk { st35.met with sealPin := { st35.met.sealPin with lvl := true, acc := true }, rollSeal := st35.met.rollSeal || !true } = true) ∧
    (st36.met.okOut = metOk st36.met ∧ true ≠ st36.met.sealPin.acc ∧ st36.met.powered = true ∧ metOk { st36.met with sealPin := { st36.met.sealPin with lvl := true, acc := true }, rollSeal := st36.met.rollSeal || !true } = st36.met.okOut) ∧
    (st37.met.kept = none ∧ ({ seq := 8, roll := 4, l0 := (10 : ℤ), c := (19 : ℤ), rollStart := (5 : ℤ), rtc := 7, flags := 0 : MetSlot } ∈ List.filter (fun (x : MetSlot) => ! [9].contains x.seq) st37.met.slots) ∧ (∀ y ∈ List.filter (fun (x : MetSlot) => ! [9].contains x.seq) st37.met.slots, y.seq < { seq := 8, roll := 4, l0 := (10 : ℤ), c := (19 : ℤ), rollStart := (5 : ℤ), rtc := 7, flags := 0 : MetSlot }.seq ∨ y = { seq := 8, roll := 4, l0 := (10 : ℤ), c := (19 : ℤ), rollStart := (5 : ℤ), rtc := 7, flags := 0 : MetSlot })) ∧
    (st38.met.kept = some { rollLog := [], audit := [], eventCounter := 3, par := { : MetParams }, approved := [(1 : Byte)] : MetStore } ∧ (List.filter (fun (x : MetSlot) => ! [9, 8, 7].contains x.seq) st38.met.slots = [])) ∧
    (st42.met.powered = true ∧ st42.met.tryDue = true ∧ (st42.met.queue = [rm, rm] ∧ (M fun (m : Met) => { m with queue := [rm], tryDue := false }).met = { st42.met with queue := [rm], tryDue := false } ∨ st42.met.queue = [] ∧ st42.met.totalDue = true ∧ (M fun (m : Met) => { m with queue := [rm], tryDue := false }).met = { st42.met with totalDue := false, tryDue := false } ∧ rm = { kind := 1, w1 := wrapU 64 (st42.met.l0 + st42.met.c * ↑st42.met.par.scale / (1000 : ℤ)) % 4294967296, w2 := wrapU 64 (st42.met.l0 + st42.met.c * ↑st42.met.par.scale / (1000 : ℤ)) / 4294967296, w3 := st42.met.roll : MetMsg }) ∧ (st42.d.pow.heldBy.isNone && st42.d.inSvc 7) = false) ∧
    (st43.met.powered = true ∧ st43.met.tryDue = true ∧ (st43.met.queue = [rm, rm] ∧ (M fun (m : Met) => { m with queue := [rm], tryDue := false }).met = { st43.met with queue := [rm], tryDue := false } ∨ st43.met.queue = [] ∧ st43.met.totalDue = true ∧ (M fun (m : Met) => { m with queue := [rm], tryDue := false }).met = { st43.met with totalDue := false, tryDue := false } ∧ rm = { kind := 1, w1 := wrapU 64 (st43.met.l0 + st43.met.c * ↑st43.met.par.scale / (1000 : ℤ)) % 4294967296, w2 := wrapU 64 (st43.met.l0 + st43.met.c * ↑st43.met.par.scale / (1000 : ℤ)) / 4294967296, w3 := st43.met.roll : MetMsg }) ∧ (st43.d.pow.heldBy.isNone && st43.d.inSvc 7) = true ∧ (st43.d.mbox 31).ab = [] ∧ st43.d.ustate (256 + mbEnd st43.d 31 1 % 8) ≠ UState.off ∧ rm.kind < 256 ∧ rm.w1 < 4294967296 ∧ rm.w2 < 4294967296 ∧ rm.w3 < 4294967296 ∧ st43.met.eventCounter < 4294967296) ∧
    (st44.met.powered = true ∧ st44.met.tryDue = true ∧ (st44.met.queue = [rm, rm] ∧ (M fun (m : Met) => { m with queue := [rm], tryDue := false }).met = { st44.met with queue := [rm], tryDue := false } ∨ st44.met.queue = [] ∧ st44.met.totalDue = true ∧ (M fun (m : Met) => { m with queue := [rm], tryDue := false }).met = { st44.met with totalDue := false, tryDue := false } ∧ rm = { kind := 1, w1 := wrapU 64 (st44.met.l0 + st44.met.c * ↑st44.met.par.scale / (1000 : ℤ)) % 4294967296, w2 := wrapU 64 (st44.met.l0 + st44.met.c * ↑st44.met.par.scale / (1000 : ℤ)) / 4294967296, w3 := st44.met.roll : MetMsg }) ∧ (st44.d.pow.heldBy.isNone && st44.d.inSvc 7) = true ∧ (st44.d.mbox 31).ab ≠ [] ∧ rm.kind ≠ 1) ∧
    (st46.met.powered = true ∧ st46.met.tryDue = true ∧ (st46.met.queue = [tm] ∧ (M fun (m : Met) => { m with queue := [], tryDue := false }).met = { st46.met with queue := [], tryDue := false } ∨ st46.met.queue = [] ∧ st46.met.totalDue = true ∧ (M fun (m : Met) => { m with queue := [], tryDue := false }).met = { st46.met with totalDue := false, tryDue := false } ∧ tm = { kind := 1, w1 := wrapU 64 (st46.met.l0 + st46.met.c * ↑st46.met.par.scale / (1000 : ℤ)) % 4294967296, w2 := wrapU 64 (st46.met.l0 + st46.met.c * ↑st46.met.par.scale / (1000 : ℤ)) / 4294967296, w3 := st46.met.roll : MetMsg }) ∧ (st46.d.pow.heldBy.isNone && st46.d.inSvc 7) = true ∧ (st46.d.mbox 31).ab ≠ [] ∧ tm.kind = 1) ∧
    (st47.met.powered = true ∧ st47.met.tryDue = true ∧ st47.met.queue = [] ∧ st47.met.totalDue = false) ∧
    (st49.met.powered = false) ∧
    (((match Instr.metWatchdog 7 with | Instr.metFilterAccept i => i == 7 | Instr.metPulseEnd i => i == 7 | Instr.totalizerSlotWrite i => i == 7 | Instr.vddMetWarning i => i == 7 | Instr.vddMetWarningEnd i => i == 7 | Instr.metWatchdog i => i == 7 | Instr.sealChange i level => i == 7 | Instr.metEncPinChange i pin level => i == 7 | Instr.vddMetPowerOn i image version badSlots => i == 7 | _ => false) = true) ∧ (nextOf (exec (Instr.metWatchdog 7) st50)).met.okOut ≠ st50.met.okOut) :=
  ⟨by decide +kernel, by decide +kernel, by decide +kernel, by decide +kernel, by decide +kernel, by decide +kernel, by decide +kernel, by decide +kernel, by decide +kernel, by decide +kernel, by decide +kernel, by decide +kernel, by decide +kernel, by decide +kernel, by decide +kernel, by decide +kernel⟩

theorem test_SealedWritesFollowTheirRules_0 :
    (okSess 3 = true ∧ st56.d.pow.heldBy = none ∧ st56.d.tuOps = [] ∧ st56.d.metOps = [] ∧ st56.d.warmAsk = false ∧ (tabGet st56.met.sessions { : Session } 3).isOpen = true ∧ st56.met.queue.length < 15 ∧ metOk { st56.met with rollErrors := 0 } = st56.met.okOut ∧ st56.met.okOut = metOk st56.met ∧ 0 < 8) ∧
    (okSess 3 = true ∧ st58.d.pow.heldBy = none ∧ st58.d.tuOps = [] ∧ st58.d.metOps = [] ∧ st58.d.warmAsk = false ∧ (tabGet st58.met.sessions { : Session } 3).isOpen = true ∧ sealOpen st58.met = false ∧ (0 : ℤ) ≤ (6 : ℤ) ∧ (6 : ℤ) < (4294967296 : ℤ) ∧ 6 < 8) ∧
    (okSess 4 = true ∧ st59.d.pow.heldBy = none ∧ st59.d.tuOps = [] ∧ st59.d.metOps = [] ∧ st59.d.warmAsk = false ∧ (¬(tabGet st59.met.sessions { : Session } 4).isOpen = true)) ∧
    (okSess 4 = true ∧ st60.d.pow.heldBy = none ∧ st60.d.tuOps = [] ∧ st60.d.metOps = [] ∧ st60.d.warmAsk = false ∧ 6 < 8) ∧
    (okSess 3 = true ∧ st62.d.pow.heldBy = none ∧ st62.d.tuOps = [] ∧ st62.d.metOps = [] ∧ st62.d.warmAsk = false ∧ (tabGet st62.met.sessions { : Session } 3).isOpen = true ∧ sealOpen st62.met = true ∧ st62.met.okOut = false ∧ st62.met.queue.length < 15 ∧ st62.met.eventCounter < 4294967295 ∧ 17 < 4294967296) ∧
    (okSess 3 = true ∧ st63.d.pow.heldBy = none ∧ st63.d.tuOps = [] ∧ st63.d.metOps = [] ∧ st63.d.warmAsk = false ∧ (tabGet st63.met.sessions { : Session } 3).isOpen = true ∧ sealOpen st63.met = true ∧ st63.met.okOut = false ∧ st63.met.queue.length < 15 ∧ st63.met.eventCounter < 4294967295 ∧ (2 = 2 ∧ (4 = 1 ∨ 4 = 2 ∨ 4 = 4) ∧ 4 = st63.met.par.quadMult ∧ { (M fun (m : Met) => m).met.par with quadMult := 4 } = { st63.met.par with quadMult := 4 } ∨ 2 = 3 ∧ 1 ≤ 4 ∧ 4 < 256 ∧ 4 = st63.met.par.filterN ∧ { (M fun (m : Met) => m).met.par with quadMult := 4 } = { st63.met.par with filterN := 4 } ∨ 2 = 4 ∧ 4 < 2 ∧ 4 = b2n st63.met.par.invert ∧ { (M fun (m : Met) => m).met.par with quadMult := 4 } = { st63.met.par with invert := 4 == 1 } ∨ 2 = 5 ∧ 4 < 4294967296 ∧ 4 = st63.met.par.resUm ∧ { (M fun (m : Met) => m).met.par with quadMult := 4 } = { st63.met.par with resUm := 4 } ∨ 2 = 6 ∧ 4 < 4294967296 ∧ 4 = st63.met.par.pulseLen ∧ { (M fun (m : Met) => m).met.par with quadMult := 4 } = { st63.met.par with pulseLen := 4 } ∨ 2 = 7 ∧ 1 ≤ 4 ∧ 4 ≤ 10000 ∧ 4 = st63.met.par.pulseWidth ∧ { (M fun (m : Met) => m).met.par with quadMult := 4 } = { st63.met.par with pulseWidth := 4 } ∨ 2 = 8 ∧ 4 < 4294967296 ∧ 4 = st63.met.par.errMax ∧ { (M fun (m : Met) => m).met.par with quadMult := 4 } = { st63.met.par with errMax := 4 })) ∧
    (okSess 3 = true ∧ st70.d.pow.heldBy = none ∧ st70.d.tuOps = [] ∧ st70.d.metOps = [] ∧ st70.d.warmAsk = false ∧ (tabGet st70.met.sessions { : Session } 3).isOpen = true ∧ sealOpen st70.met = true ∧ st70.met.okOut = false ∧ st70.met.queue.length < 15 ∧ st70.met.eventCounter < 4294967295 ∧ (List.replicate 32 (7 : Byte)).length = 32) :=
  ⟨by decide +kernel, by decide +kernel, by decide +kernel, by decide +kernel, by decide +kernel, by decide +kernel, by decide +kernel⟩



end W22

namespace W23
def OS (s : State) (l : List (Nat × Nat × Int)) : State := l.foldl (fun s x => O s x.1 x.2.1 x.2.2) s
def acc1 : MonAcc := {start := 5, startRaw := 6, taken := 3, count := 3, sum := 40, min := 2, max := 30, hist := [1,2,3], skipped := 4, alarms := 1}
def mn (l : List (Nat × Nat × Int)) (st : UState) (a : MonAcc) : State := D (U (OS S ([(0x1913,1,0x4003)] ++ l)) 0x73 st) fun d => {d with mons := [(3,a)]}
def tps := [1800,1840,1900,2160,2200,1807,1808,1809,0,-5,6,7,8,9,10,11].map (fun (x : Int) => x)
def cold16 : List Int := List.replicate 16 5
def R (s : State) (r : Rot) : State := D s fun d => {d with rot := r}
def sv := U (U S 0x14 .inService) 0x24 .inService

def st8 : State := (mn [(0x1913,5,0)] .inService acc1)
def st13 : State := (mn [(0x1913,5,0)] .test acc1)
def st14 : State := (mn [(0x1913,5,1),(0x1913,6,100)] .inService acc1)
def st15 : State := (mn [(0x1913,5,1),(0x1913,6,100000)] .inService acc1)
def st18 : State := (mn [(0x1913,5,2),(0x1913,7,3),(0x1913,8,1)] .off acc1)
def st19 : State := (mn [(0x1913,5,2),(0x1913,7,30),(0x1913,8,1)] .test acc1)
def st23 : State := (D (U (OS S [(0x1913,1,0xB002),(0x1913,5,0)]) 0x73 .inService) fun d => {d with mons := [(3,acc1)], o := tabSet d.o (okey 0x1950 1) (.blob ([1,2,3,4,0xF0,0xFF] ++ List.replicate 26 0))})
def st27 : State := (D (O S 0x1950 3 0xFFFF) fun d => {d with pow := {d.pow with hot := [(3,55),(9,66)]}})
def st30 : State := (D (O S 0x1950 3 0xFFF7) fun d => {d with pow := {d.pow with hot := [(3,55),(9,66)]}})
def st31 : State := (D S fun d => {d with pow := {d.pow with coolWait := true, boot := .step 1}})
def st34 : State := (R sv {next := 4})
def st35 : State := (R sv {next := 4, wanted := true})
def st37 : State := (R (U sv 0x30 .test) {next := 4, wanted := true})
def st38 : State := (R sv {next := 5, wanted := true, bist := [9,5]})
def st41 : State := (R (U sv 0x24 .bypass) {next := 4, wanted := true})
def st42 : State := (R sv {next := 4, wanted := true})
def st44 : State := (R sv {next := 5, wanted := true, bist := [9,5]})
def st45 : State := (R sv {next := 5, pipe := 4, wanted := true, state := 2, bist := [9,4], serves := some 4})
def st46 : State := (R (U sv 0x30 .inService) {next := 5, pipe := 7, wanted := true, state := 2, bist := [9,4,7], serves := some 7})
def st49 : State := (R sv {bist := [4]})
def st51 : State := (R sv {bist := [4,16], state := 4, pipe := 7})
def st52 : State := (R sv {bist := [4,16], state := 4, pipe := 7})
def st53 : State := (R sv {bist := [4,16], state := 2, pipe := 4, serves := some 4})
def st55 : State := (R sv {bist := [4,16], state := 2, pipe := 4, serves := some 4, disagree := true})
def st56 : State := (R sv {bist := [4,16], state := 2, pipe := 4, serves := none, disagree := true, back := .bypass})
def st57 : State := (R sv {bist := [4,16], state := 2, pipe := 4, serves := none, disagree := true, back := .bypass})

theorem test_MonitorsFollowTheirRules_0 :
    (okMbox 3 = true ∧ st8.d.pow.heldBy = none ∧ st8.d.ustate (112 + 3) = UState.inService ∧ st8.d.gn (6416 + 3) 1 / 4096 ≠ 0 ∧ st8.d.gn (6416 + 3) 1 / 4096 ≠ 8 ∧ (¬(st8.d.gn (6416 + 3) 5 = 1 ∧ (st8.d.mon 3).startRaw + st8.d.gn (6416 + 3) 6 * 16000 ≤ rawAt 7 st8 ∨ st8.d.gn (6416 + 3) 5 = 2 ∧ 0 < st8.d.gn (6416 + 3) 7 ∧ st8.d.gn (6416 + 3) 7 ≤ (st8.d.mon 3).taken)) ∧ probeHeld st8.d (st8.d.gn (6416 + 3) 1) = none ∧ (st8.d.ustate (112 + 3) = UState.off ∨ ¬(st8.d.gn (6416 + 3) 5 = 1 ∧ (st8.d.mon 3).startRaw + st8.d.gn (6416 + 3) 6 * 16000 ≤ rawAt 7 st8 ∨ st8.d.gn (6416 + 3) 5 = 2 ∧ 0 < st8.d.gn (6416 + 3) 7 ∧ st8.d.gn (6416 + 3) 7 ≤ (st8.d.mon 3).taken))) ∧
    (okMbox 3 = true ∧ st13.d.pow.heldBy = none ∧ ([(1 : ℤ), (2 : ℤ)] = [] ∨ st13.d.ustate (112 + 3) ≠ UState.inService ∨ st13.d.gn (6416 + 3) 1 / 4096 = 0)) ∧
    (okMbox 3 = true ∧ st14.d.pow.heldBy = none ∧ st14.d.ustate (112 + 3) ≠ UState.off ∧ (st14.d.gn (6416 + 3) 5 = 1 ∧ (st14.d.mon 3).startRaw + st14.d.gn (6416 + 3) 6 * 16000 ≤ rawAt 7 st14 ∨ st14.d.gn (6416 + 3) 5 = 2 ∧ 0 < st14.d.gn (6416 + 3) 7 ∧ st14.d.gn (6416 + 3) 7 ≤ (st14.d.mon 3).taken)) ∧
    (okMbox 3 = true ∧ st15.d.pow.heldBy = none ∧ masterOk C = true ∧ st15.d.accepts C (6416 + 3) 9 (1 : ℤ) = true ∧ st15.d.ustate (112 + 3) ≠ UState.off ∧ st15.d.accepts C (6416 + 3) 9 (0 : ℤ) = true ∧ st15.d.accepts C (6416 + 3) 13 (9 : ℤ) = true ∧ st15.d.ustate (112 + 3) ≠ UState.test) ∧
    (okMbox 3 = true ∧ st18.d.pow.heldBy = none ∧ masterOk C = true ∧ st18.d.accepts C (6416 + 3) 9 (1 : ℤ) = true ∧ st18.d.ustate (112 + 3) = UState.off) ∧
    (okMbox 3 = true ∧ st19.d.pow.heldBy = none ∧ masterOk C = true ∧ st19.d.accepts C (6416 + 3) 13 (9 : ℤ) = true ∧ st19.d.ustate (112 + 3) = UState.test ∧ (¬(st19.d.gn (6416 + 3) 5 = 1 ∧ (st19.d.mon 3).startRaw + st19.d.gn (6416 + 3) 6 * 16000 ≤ rawAt 7 st19 ∨ st19.d.gn (6416 + 3) 5 = 2 ∧ 0 < st19.d.gn (6416 + 3) 7 ∧ st19.d.gn (6416 + 3) 7 ≤ (st19.d.mon 3).taken))) ∧
    (okMbox 3 = true ∧ st23.d.pow.heldBy = none ∧ st23.d.ustate (112 + 3) = UState.inService ∧ st23.d.gn (6416 + 3) 1 / 4096 ≠ 0 ∧ st23.d.gn (6416 + 3) 1 / 4096 ≠ 8 ∧ (¬(st23.d.gn (6416 + 3) 5 = 1 ∧ (st23.d.mon 3).startRaw + st23.d.gn (6416 + 3) 6 * 16000 ≤ rawAt 7 st23 ∨ st23.d.gn (6416 + 3) 5 = 2 ∧ 0 < st23.d.gn (6416 + 3) 7 ∧ st23.d.gn (6416 + 3) 7 ≤ (st23.d.mon 3).taken)) ∧ probeHeld st23.d (st23.d.gn (6416 + 3) 1) = some (-16 : ℤ)) :=
  ⟨by decide +kernel, by decide +kernel, by decide +kernel, by decide +kernel, by decide +kernel, by decide +kernel, by decide +kernel⟩

theorem test_MonitorsFollowTheirRules_1 :
    (tps.length = 16 ∧ S.d.pow.heldBy = none ∧ S.d.inForce = [] ∧ 3 < 16 ∧ tabWf S.d.pow.hot = true) ∧
    (tps.length = 16 ∧ st27.d.pow.heldBy = none ∧ st27.d.inForce = [] ∧ (∀ k < 16, bit (st27.d.gn 6480 3) k = false → nth tps k (0 : ℤ) < st27.d.gi 6481 1)) ∧
    (tps.length = 16 ∧ st30.d.pow.heldBy = none ∧ st30.d.inForce = [] ∧ 3 < 16 ∧ bit (st30.d.gn 6480 3) 3 = false ∧ st30.d.gi 6481 1 ≤ nth tps 3 (0 : ℤ) ∧ (∀ j < 16, j ≠ 3 → bit (st30.d.gn 6480 3) j = false → nth tps j (0 : ℤ) < st30.d.gi 6481 1)) ∧
    (cold16.length = 16 ∧ st31.d.pow.heldBy = none ∧ st31.d.inForce = [] ∧ st31.d.pow.coolWait = true ∧ st31.d.pow.boot = BootState.step 1 ∧ (∀ x ∈ cold16, x < st31.d.gi 6481 1)) :=
  ⟨by decide +kernel, by decide +kernel, by decide +kernel, by decide +kernel⟩

theorem test_RotationFollowsItsRules_0 :
    (st34.d.pow.heldBy = none ∧ st34.d.rot.serves = none ∧ (st34.d.rot.state ≠ 0 ∨ ¬(st34.d.rot.wanted = true ∨ st34.d.gb 6496 1 = true ∧ st34.d.rot.at_ + st34.d.gn 6496 2 * 16000000000 ≤ rawAt 7 st34))) ∧
    (st35.d.pow.heldBy = none ∧ st35.d.rot.serves = none ∧ st35.d.rot.state = 0 ∧ (st35.d.rot.wanted = true ∨ st35.d.gb 6496 1 = true ∧ st35.d.rot.at_ + st35.d.gn 6496 2 * 16000000000 ≤ rawAt 7 st35) ∧ st35.d.inSvc (uPort st35.d.rot.next) = true ∧ st35.d.inSvc (uPipe st35.d.rot.next) = true ∧ st35.d.ustate (uPipe 16) = UState.off ∧ demandOf (envOf 7 st35) (begun st35.d) st35.d.rot.next * (100 + st35.d.gn 6144 1) ≤ 99 * 100) ∧
    (st37.d.pow.heldBy = none ∧ st37.d.rot.serves = none ∧ st37.d.rot.state = 0 ∧ (st37.d.rot.wanted = true ∨ st37.d.gb 6496 1 = true ∧ st37.d.rot.at_ + st37.d.gn 6496 2 * 16000000000 ≤ rawAt 7 st37) ∧ st37.d.inSvc (uPort st37.d.rot.next) = true ∧ (¬(st37.d.inSvc (uPipe st37.d.rot.next) = true ∧ st37.d.ustate (uPipe 16) = UState.off ∧ demandOf (envOf 7 st37) (begun st37.d) st37.d.rot.next * (100 + st37.d.gn 6144 1) ≤ 99 * 100))) ∧
    (st38.d.pow.heldBy = none ∧ st38.d.rot.serves = none ∧ st38.d.rot.state = 0 ∧ (st38.d.rot.wanted = true ∨ st38.d.gb 6496 1 = true ∧ st38.d.rot.at_ + st38.d.gn 6496 2 * 16000000000 ≤ rawAt 7 st38) ∧ (¬st38.d.inSvc (uPort st38.d.rot.next) = true)) :=
  ⟨by decide +kernel, by decide +kernel, by decide +kernel, by decide +kernel⟩

theorem test_RotationFollowsItsRules_1 :
    (masterOk C = true ∧ st41.d.pow.heldBy = none ∧ st41.d.accepts C 6496 4 (1 : ℤ) = true ∧ st41.d.rot.state = 0 ∧ st41.d.inSvc (uPort st41.d.rot.next) = true ∧ (¬(st41.d.inSvc (uPipe st41.d.rot.next) = true ∧ st41.d.ustate (uPipe 16) = UState.off ∧ demandOf (envOf 7 st41) (begun st41.d) st41.d.rot.next * (100 + st41.d.gn 6144 1) ≤ tabGet st41.d.paces 0 16 * 100)) ∧ st41.d.accepts C 6496 4 (2 : ℤ) = true ∧ (¬(1 ≤ st41.d.rot.state ∧ st41.d.rot.state ≤ 4))) ∧
    (masterOk C = true ∧ st42.d.pow.heldBy = none ∧ st42.d.accepts C 6496 4 (1 : ℤ) = true ∧ st42.d.rot.state = 0 ∧ st42.d.inSvc (uPort st42.d.rot.next) = true ∧ st42.d.inSvc (uPipe st42.d.rot.next) = true ∧ st42.d.ustate (uPipe 16) = UState.off ∧ demandOf (envOf 7 st42) (begun st42.d) st42.d.rot.next * (100 + st42.d.gn 6144 1) ≤ tabGet st42.d.paces 0 16 * 100) ∧
    (masterOk C = true ∧ st44.d.pow.heldBy = none ∧ st44.d.accepts C 6496 4 (1 : ℤ) = true ∧ st44.d.rot.state = 0 ∧ (¬st44.d.inSvc (uPort st44.d.rot.next) = true)) ∧
    (masterOk C = true ∧ st45.d.pow.heldBy = none ∧ st45.d.accepts C 6496 4 (1 : ℤ) = true ∧ st45.d.rot.state ≠ 0 ∧ st45.d.accepts C 6496 4 (2 : ℤ) = true ∧ 1 ≤ st45.d.rot.state ∧ st45.d.rot.state ≤ 4 ∧ st45.d.rot.serves = some st45.d.rot.pipe ∧ st45.d.inSvc (uPort st45.d.rot.pipe) = true) ∧
    (masterOk C = true ∧ st46.d.pow.heldBy = none ∧ st46.d.accepts C 6496 4 (2 : ℤ) = true ∧ 1 ≤ st46.d.rot.state ∧ st46.d.rot.state ≤ 4 ∧ st46.d.rot.pipe < 16 ∧ (st46.d.rot.serves ≠ some st46.d.rot.pipe ∨ st46.d.inSvc (uPort st46.d.rot.pipe) = false)) :=
  ⟨by decide +kernel, by decide +kernel, by decide +kernel, by decide +kernel, by decide +kernel⟩

theorem test_RotationFollowsItsRules_2 :
    (okPipe 4 = true ∧ st49.d.pow.heldBy = none ∧ st49.d.rot.bist.contains 4 = true ∧ (st49.d.rot.state = 0 ∨ 4 ≠ 16 ∧ st49.d.rot.pipe ≠ 4 ∨ 4 = 16 ∧ st49.d.rot.state ≠ 4)) ∧
    (okPipe 16 = true ∧ st51.d.pow.heldBy = none ∧ st51.d.rot.bist.contains 16 = true ∧ 16 = 16 ∧ st51.d.rot.state = 4 ∧ true = true) ∧
    (okPipe 16 = true ∧ st52.d.pow.heldBy = none ∧ st52.d.rot.bist.contains 16 = true ∧ 16 = 16 ∧ st52.d.rot.state = 4 ∧ false = false) ∧
    (okPipe 4 = true ∧ st53.d.pow.heldBy = none ∧ st53.d.rot.bist.contains 4 = true ∧ 4 ≠ 16 ∧ st53.d.rot.pipe = 4 ∧ st53.d.rot.state = 2 ∧ st53.d.rot.serves = some 4 ∧ true = true) ∧
    (okPipe 4 = true ∧ st55.d.pow.heldBy = none ∧ st55.d.rot.bist.contains 4 = true ∧ 4 ≠ 16 ∧ st55.d.rot.pipe = 4 ∧ st55.d.rot.state = 2 ∧ st55.d.rot.serves = some 4 ∧ false = false) ∧
    (okPipe 4 = true ∧ st56.d.pow.heldBy = none ∧ st56.d.rot.bist.contains 4 = true ∧ 4 ≠ 16 ∧ st56.d.rot.pipe = 4 ∧ st56.d.rot.state = 2 ∧ st56.d.rot.serves ≠ some 4) ∧
    (okPipe 5 = true ∧ st57.d.pow.heldBy = none ∧ st57.d.rot.bist.contains 5 = false) :=
  ⟨by decide +kernel, by decide +kernel, by decide +kernel, by decide +kernel, by decide +kernel, by decide +kernel, by decide +kernel⟩



end W23

namespace W24
def OS (s : State) (l : List (Nat × Nat × Int)) : State := l.foldl (fun s x => O s x.1 x.2.1 x.2.2) s
def W (s : State) (f : PowerD → PowerD) : State := D s fun d => {d with pow := f d.pow}
def gov (f : PowerD → PowerD) : State := W (S) fun p => f {p with boot := .step 5}
def sl : State := U (OS (U (gov fun p => {p with lastDemand := [(18,99999999999999999999)]}) 0x00B .inService) [(0x1B00,1,4096)]) 0x010 .inService

def rcv (f : PowerD → PowerD) : State := W S fun p => f {p with boot := .recovery 1}

def st10 : State := (gov fun p => p)
def st11 : State := (gov fun p => {p with reached := false, lowSince := some (3,true)})
def st12 : State := (gov fun p => {p with reached := false, lowSince := some (3,true)})
def st13 : State := (gov fun p => {p with reached := false, lowSince := some (3,false)})
def st14 : State := (gov fun p => {p with reached := false})
def st15 : State := (gov fun p => {p with reached := false, avsOff := true})
def st16 : State := (O (gov fun p => {p with reached := false, avsOff := true}) 0x1200 1 0)
def st18 : State := (gov fun p => {p with avsFails := 2})
def st19 : State := (gov fun p => {p with avsFails := 3})
def st20 : State := (gov fun p => {p with avsOff := true})
def st21 : State := (gov fun p => {p with avsOff := true})
def st22 : State := (gov fun p => {p with avsOff := true})
def st23 : State := (O (gov fun p => {p with avsOff := true}) 0x1218 2 500)
def st24 : State := (O (gov fun p => {p with inspecting := true, beat := 77}) 0x1218 2 500)
def st26 : State := (W (OB S 0x1210 3 (List.replicate 28 9)) fun p => {p with vcmd := 650, hot := [(3,5)], avsOff := true})
def st27 : State := (W (OB S 0x1210 3 (List.replicate 28 9)) fun p => {p with heldBy := some 1, vcmd := 650, hot := [(3,5)], coolWait := true, avsOff := true})
def st28 : State := (W (OB S 0x1210 3 (List.replicate 28 9)) fun p => {p with heldBy := some 1, vcmd := 650, hot := [(3,5)], coolWait := true, avsOff := true})
def st33 : State := (O S 0x1230 1 3)
def st34 : State := (rcv fun p => p)
def st35 : State := (rcv fun p => p)
def st36 : State := (rcv fun p => {p with announceAt := some 9999999999})
def st37 : State := (rcv fun p => {p with recv := [1,2]})
def st38 : State := (rcv fun p => {p with recv := [1,2]})
def st39 : State := (rcv fun p => {p with recv := [1,2]})

theorem test_GovernorAndWatchdogFollowTheirRules_0 :
    (S.d.pow.heldBy = none ∧ S.d.inForce = [] ∧ (¬govRuns S.d = true)) ∧
    (st10.d.pow.heldBy = none ∧ st10.d.inForce = [] ∧ govRuns st10.d = true ∧ (st10.d.pow.avsOff = true ∨ st10.d.pow.vcmd ≤ 700 + 30) ∧ (st10.d.pow.reached = true ∨ true = true) ∧ (∀ x ∈ govStages (envOf 7 st10) (begun st10.d), 17 ≤ x) ∧ st10.d.pow.avsOff = false ∧ st10.d.gb 4608 1 = true ∧ govStages (envOf 7 st10) (begun st10.d) = []) ∧
    (st11.d.pow.heldBy = none ∧ st11.d.inForce = [] ∧ govRuns st11.d = true ∧ (st11.d.pow.avsOff = true ∨ st11.d.pow.vcmd ≤ 700 + 30) ∧ st11.d.pow.reached = false ∧ false = false) ∧
    (st12.d.pow.heldBy = none ∧ st12.d.inForce = [] ∧ govRuns st12.d = true ∧ (¬(st12.d.pow.avsOff = true ∨ st12.d.pow.vcmd ≤ 100 + 30)) ∧ st12.d.pow.reached = false ∧ false = false ∧ st12.d.pow.lowSince = some (3, true) ∧ (true = true ∨ rawAt 7 st12 < 3 + 16000000)) ∧
    (st13.d.pow.heldBy = none ∧ st13.d.inForce = [] ∧ govRuns st13.d = true ∧ (¬(st13.d.pow.avsOff = true ∨ st13.d.pow.vcmd ≤ 100 + 30)) ∧ st13.d.pow.reached = false ∧ false = false ∧ st13.d.pow.lowSince = some (3, false) ∧ 3 + 16000000 ≤ rawAt 7 st13) ∧
    (st14.d.pow.heldBy = none ∧ st14.d.inForce = [] ∧ govRuns st14.d = true ∧ (¬(st14.d.pow.avsOff = true ∨ st14.d.pow.vcmd ≤ 100 + 30)) ∧ st14.d.pow.reached = false ∧ false = false ∧ st14.d.pow.lowSince = none) ∧
    (st15.d.pow.heldBy = none ∧ st15.d.inForce = [] ∧ govRuns st15.d = true ∧ (st15.d.pow.avsOff = true ∨ st15.d.pow.vcmd ≤ 70000 + 30) ∧ (st15.d.pow.reached = true ∨ true = true) ∧ (∀ x ∈ govStages (envOf 7 st15) (begun st15.d), 17 ≤ x) ∧ st15.d.pow.avsOff = true) ∧
    (st16.d.pow.heldBy = none ∧ st16.d.inForce = [] ∧ govRuns st16.d = true ∧ (st16.d.pow.avsOff = true ∨ st16.d.pow.vcmd ≤ 70000 + 30) ∧ (st16.d.pow.reached = true ∨ true = true) ∧ (∀ x ∈ govStages (envOf 7 st16) (begun st16.d), 17 ≤ x) ∧ (¬st16.d.gb 4608 1 = true)) :=
  ⟨by decide +kernel, by decide +kernel, by decide +kernel, by decide +kernel, by decide +kernel, by decide +kernel, by decide +kernel, by decide +kernel⟩

theorem test_GovernorAndWatchdogFollowTheirRules_1 :
    (st18.d.pow.heldBy = none ∧ govRuns st18.d = true ∧ st18.d.pow.avsOff = false ∧ st18.d.pow.avsFails < 3) ∧
    (st19.d.pow.heldBy = none ∧ govRuns st19.d = true ∧ st19.d.pow.avsOff = false ∧ 3 ≤ st19.d.pow.avsFails) ∧
    (st20.d.pow.heldBy = none ∧ (govRuns st20.d = false ∨ st20.d.pow.avsOff = true)) :=
  ⟨by decide +kernel, by decide +kernel, by decide +kernel⟩

theorem test_GovernorAndWatchdogFollowTheirRules_2 :
    (masterOk C = true ∧ st21.d.pow.heldBy = none ∧ st21.d.accepts C 4632 3 (1 : ℤ) = true ∧ st21.d.accepts C 4632 3 (0 : ℤ) = true ∧ st21.d.accepts C 4632 2 (55 : ℤ) = true) := by decide +kernel

theorem test_GovernorAndWatchdogFollowTheirRules_3 :
    (st22.d.pow.heldBy = none ∧ (¬(st22.d.gn 4632 2 ≠ 0 ∧ st22.d.pow.wdogMissed = false ∧ st22.d.pow.kickAt + st22.d.gn 4632 2 * 16000000 ≤ rawAt 7 st22))) ∧
    (st23.d.pow.heldBy = none ∧ st23.d.gn 4632 2 ≠ 0 ∧ st23.d.pow.wdogMissed = false ∧ st23.d.pow.kickAt + st23.d.gn 4632 2 * 16000000 ≤ rawAt 7 st23 ∧ st23.d.pow.inspecting = false) ∧
    (st24.d.pow.heldBy = none ∧ st24.d.gn 4632 2 ≠ 0 ∧ st24.d.pow.wdogMissed = false ∧ st24.d.pow.kickAt + st24.d.gn 4632 2 * 16000000 ≤ rawAt 7 st24 ∧ st24.d.pow.inspecting = true) :=
  ⟨by decide +kernel, by decide +kernel, by decide +kernel⟩

theorem test_ResetsFollowTheirRules_0 :
    (S.d.pow.heldBy = none ∧ S.d.inForce = [] ∧ 5 ∉ [okey 4656 6, okey 4656 7] ∧ 5 ∉ [okey 4624 2, okey 4624 3] ∧ 5 ≠ okey 4609 1 ∧ 5 ≠ okey 4608 1 ∧ S.d.gn 4656 1 < 6 ∧ (5 ∉ [okey 4096 4, okey 4656 1, okey 5888 2, okey 5888 3, okey 14337 2] ++ List.map (okey 5889) [1, 2, 3, 4, 11] ++ List.map (fun (c : ℕ) => okey (5656 + c) 3) (List.range 8) ++ List.map (fun (n : ℕ) => okey (13576 + n) 7) (List.range 4)) ∧ (∀ q ∈ S.d.pow.hot, max S.now 7 - S.tu.rawBase < q.2 + 16000000) ∧ 0 ∉ [okey 4656 6, okey 4656 7] ∧ 0 ≠ okey 4624 2 ∧ 3 < 6) ∧
    ((∃ q ∈ st26.d.pow.hot, q.2 + 16000000 ≤ max st26.now 7 - st26.tu.rawBase) ∧ st26.d.pow.heldBy = none ∧ st26.d.gn 4656 1 < 6 ∧ st26.d.inForce = [] ∧ 5 ∉ [okey 4656 6, okey 4656 7] ∧ 5 ∉ [okey 4624 2, okey 4624 3] ∧ (5 ∉ [okey 4096 4, okey 4656 1, okey 5888 2, okey 5888 3, okey 14337 2] ++ List.map (okey 5889) [1, 2, 3, 4, 11] ++ List.map (fun (c : ℕ) => okey (5656 + c) 3) (List.range 8) ++ List.map (fun (n : ℕ) => okey (13576 + n) 7) (List.range 4)) ∧ 5 ≠ okey 4609 1 ∧ 5 ≠ okey 4608 1) ∧
    (st27.d.pow.heldBy ≠ none ∧ (∃ q ∈ st27.d.pow.hot, q.2 + 16000000 ≤ max st27.now 7 - st27.tu.rawBase) ∧ st27.d.inForce = [] ∧ 3 % 8 < 6) ∧
    (st28.d.pow.heldBy ≠ none ∧ st28.d.inForce = [] ∧ 6 ≤ 7 % 8) ∧
    (masterOk C = true ∧ S.d.tuOps = [] ∧ S.d.metOps = [] ∧ S.d.warmAsk = false ∧ S.d.pow.heldBy = none ∧ S.d.accepts C 4624 1 (1 : ℤ) = true ∧ S.d.inForce = [] ∧ S.d.gn 4656 1 < 6 ∧ 0 ∉ [okey 4656 6, okey 4656 7] ∧ 0 ∉ [okey 4624 2, okey 4624 3] ∧ (0 ∉ [okey 4096 4, okey 4656 1, okey 5888 2, okey 5888 3, okey 14337 2] ++ List.map (okey 5889) [1, 2, 3, 4, 11] ++ List.map (fun (c : ℕ) => okey (5656 + c) 3) (List.range 8) ++ List.map (fun (n : ℕ) => okey (13576 + n) 7) (List.range 4)) ∧ 0 ≠ okey 4609 1 ∧ 0 ≠ okey 4608 1 ∧ S.d.accepts C 4624 1 (0 : ℤ) = true) ∧
    (masterOk (Master.fdp 3) = true ∧ S.d.tuOps = [] ∧ S.d.metOps = [] ∧ S.d.warmAsk = false ∧ S.d.pow.heldBy = none ∧ S.d.hasRole (Master.fdp 3) Role.service = false ∧ S.d.inForce = []) :=
  ⟨by decide +kernel, by decide +kernel, by decide +kernel, by decide +kernel, by decide +kernel, by decide +kernel⟩

theorem test_BootAndRecoveryFollowTheirRules_0 :
    (S.d.pow.heldBy = none ∧ S.d.inForce = [] ∧ S.d.pow.boot = BootState.step 2 ∧ (S.d.gn 4656 1 = 0 ∨ 5 ≤ S.d.gn 4656 1) ∧ imageValid S.d [] false = false ∧ imageValid S.d [(1 : Byte)] false = false ∧ S.d.flash = [] ∧ ((match S.d.pow.boot with | BootState.recovery _ => false | _ => true) = true)) ∧
    (st33.d.pow.heldBy = none ∧ st33.d.inForce = [] ∧ st33.d.pow.boot = BootState.step 2 ∧ 1 ≤ st33.d.gn 4656 1 ∧ st33.d.gn 4656 1 ≤ 4) ∧
    (st34.d.pow.heldBy = none ∧ st34.d.inForce = [] ∧ st34.d.pow.boot ≠ BootState.step 2) ∧
    (st35.d.pow.heldBy = none ∧ st35.d.inForce = [] ∧ st35.d.pow.boot = BootState.recovery 1 ∧ (st35.d.pow.announceAt = none ∨ ∃ (x : ℕ), st35.d.pow.announceAt = some x ∧ x + 16000000000 ≤ rawAt 7 st35)) ∧
    (st36.d.pow.heldBy = none ∧ st36.d.inForce = [] ∧ st36.d.pow.boot = BootState.recovery 1 ∧ st36.d.pow.announceAt = some 9999999999 ∧ rawAt 7 st36 < 9999999999 + 16000000000) ∧
    (st37.d.pow.heldBy = none ∧ st37.d.inForce = [] ∧ okMg 0 = true ∧ st37.d.pow.boot ≠ BootState.recovery 0) ∧
    (st38.d.pow.heldBy = none ∧ st38.d.inForce = [] ∧ okMg 1 = true ∧ st38.d.pow.boot = BootState.recovery 1 ∧ (List.replicate 6 (255 : Byte) = toBE 4 45159936 ++ toBE 2 (st38.d.gn 4096 4 % 1024) ∨ List.replicate 6 (255 : Byte) = List.replicate 6 (255 : Byte)) ∧ [(1 : Byte), (2 : Byte), (3 : Byte), (4 : Byte), (5 : Byte), (6 : Byte)].length = 6 ∧ 2 < 4294967296 ∧ 1 ≤ [(9 : Byte), (8 : Byte)].length ∧ [(9 : Byte), (8 : Byte)].length ≤ 1400 ∧ 2 = st38.d.pow.recv.length ∧ (2 ≠ st38.d.pow.recv.length ∨ imageValid st38.d st38.d.pow.recv true = false) ∧ st38.d.flash = []) ∧
    (st39.d.pow.heldBy = none ∧ st39.d.inForce = [] ∧ okMg 1 = true ∧ st39.d.pow.boot = BootState.recovery 1 ∧ ([(2 : Byte), (177 : Byte), (22 : Byte), (0 : Byte), (0 : Byte), (0 : Byte)] = toBE 4 45159936 ++ toBE 2 (st39.d.gn 4096 4 % 1024) ∨ [(2 : Byte), (177 : Byte), (22 : Byte), (0 : Byte), (0 : Byte), (0 : Byte)] = List.replicate 6 (255 : Byte)) ∧ [(1 : Byte), (2 : Byte), (3 : Byte), (4 : Byte), (5 : Byte), (6 : Byte)].length = 6 ∧ 3 < 4294967296 ∧ [(9 : Byte), (8 : Byte)].length ≤ 1400 ∧ ([(9 : Byte), (8 : Byte)] = [] ∨ 3 ≠ st39.d.pow.recv.length)) :=
  ⟨by decide +kernel, by decide +kernel, by decide +kernel, by decide +kernel, by decide +kernel, by decide +kernel, by decide +kernel, by decide +kernel⟩



end W24

namespace W24x
def OS (s : State) (l : List (Nat × Nat × Int)) : State := l.foldl (fun s x => O s x.1 x.2.1 x.2.2) s
def W (s : State) (f : PowerD → PowerD) : State := D s fun d => {d with pow := f d.pow}
def sl (f : PowerD → PowerD) : State := D (U (U (OS (W S fun p => f {p with boot := .step 5}) [(0x1B00,1,4096),(0x1B00,3,1),(0x3580,1,0),(0x3540,1,0),(0x3540,3,1000000)]) 0x00B .inService) 0x010 .inService) fun d => {d with encs := [(0,{})]}
def sm (f : PowerD → PowerD) : State := D (sl f) fun d => {d with peaks := [(0,[(9999999999, 65536000)])]}
def dm := stageDemand16 (envOf 7 (sm id)) (sm id).d 18
def lst : PowerD → PowerD := fun p => {p with lastDemand := [(18,99999999999999999999999)]}

def st13 : State := (sm id)
def st14 : State := (sm lst)
def st15 : State := (sm lst)
def st18 : State := (sm lst)
def st19 : State := (O (sm fun p => {lst p with goodSince := some 9999999000}) 0x1200 8 0)

theorem test_GovernorAndWatchdogFollowTheirRules_0 :
    (st13.d.pow.heldBy = none ∧ st13.d.inForce = [] ∧ govRuns st13.d = true ∧ (st13.d.pow.avsOff = true ∨ st13.d.pow.vcmd ≤ 700 + 30) ∧ (st13.d.pow.reached = true ∨ true = true) ∧ (∀ x ∈ govStages (envOf 7 st13) (begun st13.d), 17 ≤ x) ∧ st13.d.pow.avsOff = false ∧ st13.d.gb 4608 1 = true ∧ (∃ x ∈ govStages (envOf 7 st13) (begun st13.d), tabGet st13.d.pow.lastDemand 0 x * 105 < stageDemand16 (envOf 7 st13) (begun st13.d) x * 100)) ∧
    (st14.d.pow.heldBy = none ∧ st14.d.inForce = [] ∧ govRuns st14.d = true ∧ (st14.d.pow.avsOff = true ∨ st14.d.pow.vcmd ≤ 700 + 30) ∧ (st14.d.pow.reached = true ∨ true = true) ∧ (∀ x ∈ govStages (envOf 7 st14) (begun st14.d), 17 ≤ x) ∧ st14.d.gb 4608 1 = true ∧ govStages (envOf 7 st14) (begun st14.d) ≠ [] ∧ (¬∃ x ∈ govStages (envOf 7 st14) (begun st14.d), tabGet st14.d.pow.lastDemand 0 x * 105 < stageDemand16 (envOf 7 st14) (begun st14.d) x * 100) ∧ ((∃ x ∈ govStages (envOf 7 st14) (begun st14.d), (match List.find? (fun (q : ℕ × ℕ) => q.1 == x) [(18, 50)] with | some q => if stageDemand16 (envOf 7 st14) (begun st14.d) x = 0 then none else some (q.2 * 65536000000 * 100 * 4096 / (stageDemand16 (envOf 7 st14) (begun st14.d) x * (100 + st14.d.gn 6144 1))) | none => none) = some (match stageRatio (sm lst).d 50 dm with | some x => x | none => 0)) ∧ ∀ x ∈ govStages (envOf 7 st14) (begun st14.d), ∀ (y : ℕ), (match List.find? (fun (q : ℕ × ℕ) => q.1 == x) [(18, 50)] with | some q => if stageDemand16 (envOf 7 st14) (begun st14.d) x = 0 then none else some (q.2 * 65536000000 * 100 * 4096 / (stageDemand16 (envOf 7 st14) (begun st14.d) x * (100 + st14.d.gn 6144 1))) | none => none) = some y → (match stageRatio (sm lst).d 50 dm with | some x => x | none => 0) ≤ y) ∧ ((match stageRatio (sm lst).d 50 dm with | some x => x | none => 0) < 4096)) ∧
    (st15.d.pow.heldBy = none ∧ st15.d.inForce = [] ∧ govRuns st15.d = true ∧ (st15.d.pow.avsOff = true ∨ st15.d.pow.vcmd ≤ 700 + 30) ∧ (st15.d.pow.reached = true ∨ true = true) ∧ (∀ x ∈ govStages (envOf 7 st15) (begun st15.d), 17 ≤ x) ∧ st15.d.gb 4608 1 = true ∧ govStages (envOf 7 st15) (begun st15.d) ≠ [] ∧ (¬∃ x ∈ govStages (envOf 7 st15) (begun st15.d), tabGet st15.d.pow.lastDemand 0 x * 105 < stageDemand16 (envOf 7 st15) (begun st15.d) x * 100) ∧ ((∃ x ∈ govStages (envOf 7 st15) (begun st15.d), (match List.find? (fun (q : ℕ × ℕ) => q.1 == x) [(18, 40000000000)] with | some q => if stageDemand16 (envOf 7 st15) (begun st15.d) x = 0 then none else some (q.2 * 65536000000 * 100 * 4096 / (stageDemand16 (envOf 7 st15) (begun st15.d) x * (100 + st15.d.gn 6144 1))) | none => none) = some (match stageRatio (sm lst).d 40000000000 dm with | some x => x | none => 0)) ∧ ∀ x ∈ govStages (envOf 7 st15) (begun st15.d), ∀ (y : ℕ), (match List.find? (fun (q : ℕ × ℕ) => q.1 == x) [(18, 40000000000)] with | some q => if stageDemand16 (envOf 7 st15) (begun st15.d) x = 0 then none else some (q.2 * 65536000000 * 100 * 4096 / (stageDemand16 (envOf 7 st15) (begun st15.d) x * (100 + st15.d.gn 6144 1))) | none => none) = some y → (match stageRatio (sm lst).d 40000000000 dm with | some x => x | none => 0) ≤ y) ∧ (4096 ≤ match stageRatio (sm lst).d 40000000000 dm with | some x => x | none => 0) ∧ (4096 * (100 + st15.d.gn 4608 7) ≤ 100 * match stageRatio (sm lst).d 40000000000 dm with | some x => x | none => 0) ∧ rawAt 7 st15 < st15.d.pow.goodSince.getD (rawAt 7 st15) + st15.d.gn 4608 8 * 16000000) ∧
    (st18.d.pow.heldBy = none ∧ st18.d.inForce = [] ∧ govRuns st18.d = true ∧ (st18.d.pow.avsOff = true ∨ st18.d.pow.vcmd ≤ 700 + 30) ∧ (st18.d.pow.reached = true ∨ true = true) ∧ (∀ x ∈ govStages (envOf 7 st18) (begun st18.d), 17 ≤ x) ∧ st18.d.gb 4608 1 = true ∧ govStages (envOf 7 st18) (begun st18.d) ≠ [] ∧ (¬∃ x ∈ govStages (envOf 7 st18) (begun st18.d), tabGet st18.d.pow.lastDemand 0 x * 105 < stageDemand16 (envOf 7 st18) (begun st18.d) x * 100) ∧ ((∃ x ∈ govStages (envOf 7 st18) (begun st18.d), (match List.find? (fun (q : ℕ × ℕ) => q.1 == x) [(18, 20400000000)] with | some q => if stageDemand16 (envOf 7 st18) (begun st18.d) x = 0 then none else some (q.2 * 65536000000 * 100 * 4096 / (stageDemand16 (envOf 7 st18) (begun st18.d) x * (100 + st18.d.gn 6144 1))) | none => none) = some (match stageRatio (sm lst).d 20400000000 dm with | some x => x | none => 0)) ∧ ∀ x ∈ govStages (envOf 7 st18) (begun st18.d), ∀ (y : ℕ), (match List.find? (fun (q : ℕ × ℕ) => q.1 == x) [(18, 20400000000)] with | some q => if stageDemand16 (envOf 7 st18) (begun st18.d) x = 0 then none else some (q.2 * 65536000000 * 100 * 4096 / (stageDemand16 (envOf 7 st18) (begun st18.d) x * (100 + st18.d.gn 6144 1))) | none => none) = some y → (match stageRatio (sm lst).d 20400000000 dm with | some x => x | none => 0) ≤ y) ∧ (4096 ≤ match stageRatio (sm lst).d 20400000000 dm with | some x => x | none => 0) ∧ ((100 * match stageRatio (sm lst).d 20400000000 dm with | some x => x | none => 0) < 4096 * (100 + st18.d.gn 4608 7))) ∧
    (st19.d.pow.heldBy = none ∧ st19.d.inForce = [] ∧ govRuns st19.d = true ∧ (st19.d.pow.avsOff = true ∨ st19.d.pow.vcmd ≤ 700 + 30) ∧ (st19.d.pow.reached = true ∨ true = true) ∧ (∀ x ∈ govStages (envOf 7 st19) (begun st19.d), 17 ≤ x) ∧ st19.d.gb 4608 1 = true ∧ govStages (envOf 7 st19) (begun st19.d) ≠ [] ∧ (¬∃ x ∈ govStages (envOf 7 st19) (begun st19.d), tabGet st19.d.pow.lastDemand 0 x * 105 < stageDemand16 (envOf 7 st19) (begun st19.d) x * 100) ∧ ((∃ x ∈ govStages (envOf 7 st19) (begun st19.d), (match List.find? (fun (q : ℕ × ℕ) => q.1 == x) [(18, 40000000000)] with | some q => if stageDemand16 (envOf 7 st19) (begun st19.d) x = 0 then none else some (q.2 * 65536000000 * 100 * 4096 / (stageDemand16 (envOf 7 st19) (begun st19.d) x * (100 + st19.d.gn 6144 1))) | none => none) = some (match stageRatio (sm lst).d 40000000000 dm with | some x => x | none => 0)) ∧ ∀ x ∈ govStages (envOf 7 st19) (begun st19.d), ∀ (y : ℕ), (match List.find? (fun (q : ℕ × ℕ) => q.1 == x) [(18, 40000000000)] with | some q => if stageDemand16 (envOf 7 st19) (begun st19.d) x = 0 then none else some (q.2 * 65536000000 * 100 * 4096 / (stageDemand16 (envOf 7 st19) (begun st19.d) x * (100 + st19.d.gn 6144 1))) | none => none) = some y → (match stageRatio (sm lst).d 40000000000 dm with | some x => x | none => 0) ≤ y) ∧ (4096 ≤ match stageRatio (sm lst).d 40000000000 dm with | some x => x | none => 0) ∧ (4096 * (100 + st19.d.gn 4608 7) ≤ 100 * match stageRatio (sm lst).d 40000000000 dm with | some x => x | none => 0) ∧ st19.d.pow.goodSince.getD (rawAt 7 st19) + st19.d.gn 4608 8 * 16000000 ≤ rawAt 7 st19) :=
  ⟨by decide +kernel, by decide +kernel, by decide +kernel, by decide +kernel, by decide +kernel⟩



end W24x

end Sys2Proof.Tests
end

section
/-! SUPPORT. The edge at PPS_IN (R462): what it publishes, and that it asks nothing of the time unit. -/

namespace Sys2Proof.Machine

/-! ### What the edge is built on -/

/-- With nothing asked of it yet, a command sees the time unit of the state. -/
theorem tuOf_of_quiet (e : Env) (d : Dev) (h : d.tuOps = []) : tuOf e d = e.tu := by
  unfold tuOf
  rw [h, List.foldl_nil]

/-- Publishing fields of a result group asks nothing of the time unit (R473). -/
@[simp] theorem pub_tuOps (d : Dev) (i : Nat) (vs : List (Nat × Int)) : (d.pub i vs).tuOps = d.tuOps := by
  unfold Dev.pub
  rw [publish_tuOps]
  exact foldl_keeps Dev.tuOps _ (fun d p => put_tuOps d i p.1 p.2) vs d

/-- The signed distance of a PTP time in tt from the nearest second: the time past its second where that is less than half a
second, and otherwise what is left to the next second, negative (R462). -/
theorem nearestSecond_distance (n : Int) :
    (n + 8000000000) % 16000000000 - 8000000000 =
      if n % 16000000000 < 8000000000 then n % 16000000000 else n % 16000000000 - 16000000000 := by
  split <;> omega

/-! ### The edge at PPS_IN -/

/-- Without PPS_IN_EN the edge changes nothing (R462). -/
theorem ppsIn_disabled (e : Env) (d : Dev) (hen : d.gb 0x1348 4 = false) : ppsIn e d = d := by
  unfold ppsIn
  simp [hen]

/-- With PPS_IN_EN set and nothing asked of the time unit, the edge counts, publishes its stamp and its distance from the nearest
second, and offers the event (R462). -/
theorem ppsIn_enabled (e : Env) (d : Dev) (hq : d.tuOps = []) (hen : d.gb 0x1348 4 = true) :
    let edge := ceilTo 16 e.raw
    let stamp := wrapU 64 (((e.tu.paramsAt edge).applied edge : Int) - d.gi 0x1348 5)
    let past := ((stamp : Int) + e.tu.epoch * 16000000000) % 16000000000
    ppsIn e d = (((d.inc 0x1349 3).pub 0x1349
      [(1, (stamp : Int)), (2, if past < 8000000000 then past else past - 16000000000)]).raise e 0x287 0) := by
  intro edge stamp past
  unfold ppsIn stampA ptpN
  simp only [hen, Bool.not_true, Bool.false_eq_true, if_false, tuOf_of_quiet e d hq]
  rw [nearestSecond_distance]

/-- The edge at PPS_IN asks nothing of the time unit: it monitors time and never steers it (R462). -/
theorem ppsIn_tuOps (e : Env) (d : Dev) : (ppsIn e d).tuOps = d.tuOps := by
  unfold ppsIn
  split
  · rfl
  · rw [raise_tuOps, pub_tuOps, inc_tuOps]

/-- PPS_IN_EDGE moves the instant and applies the edge to the main domain; the time unit and the sealed domain stay. -/
theorem exec_ppsInEdge (t : Nat) (s : State) (ha : Awake s) :
    exec (.ppsInEdge t) s = .next (s.moved t (ppsIn (envOf t s) (begun s.d))) :=
  main_moved (f := ppsIn) rfl ha rfl (ppsIn_tuOps _ _)

/-- Settles O43: the edge asks nothing of the time unit, so the command comes to the edge's own effect, which is empty without
PPS_IN_EN and otherwise publishes the stamp and the distance. -/
theorem ppsInMonitorsTime : Obligations.PpsInMonitorsTime := by
  intro t s ha
  rw [exec_ppsInEdge t s ha]
  constructor
  · intro hen
    rw [ppsIn_disabled (envOf t s) (begun s.d) hen]
  · intro hen edge stamp past
    rw [ppsIn_enabled (envOf t s) (begun s.d) (begun_tuOps s.d) hen]
    rfl

end Sys2Proof.Machine
end

section
/-! SUPPORT. An activation request of a stored overlay that the check at its instant refuses (R494). -/

namespace Sys2Proof.Machine

/-- Whether an overlay's entries pass the check at activation: each is taken, for the domain that stored the overlay, against the
values in force with the rest of the overlay's values among them (R494). -/
def ovlPasses (e : Env) (d : Dev) (x : Ovl) : Bool := x.entries.all (entryTakes e (ovlTrial d x.entries) x.owner)

/-- One refused entry is enough for the whole overlay to fail the check (R494). -/
theorem ovlPasses_eq_false_iff (e : Env) (d : Dev) (x : Ovl) :
    ovlPasses e d x = false ↔ ∃ q ∈ x.entries, entryTakes e (ovlTrial d x.entries) x.owner q = false := by
  unfold ovlPasses
  simp only [List.all_eq_false, Bool.not_eq_true]

/-- An activation request of a stored overlay that fails the check writes OVL_STATUS and nothing else, whichever trigger
brings it (R492, R494). -/
theorem ovlOn_refused (e : Env) (d : Dev) (k : Nat) (late : Bool) (wp : Option Int) (sos : Option (Nat × Nat))
    (hst : (d.ovl k).state = .stored) (hchk : ovlPasses e d (d.ovl k) = false) :
    ovlOn e d k late wp sos = d.put (oIdx k) 0x0D 2 := by
  unfold ovlPasses at hchk
  simp [ovlOn, hst, hchk]

/-- An accepted write of 1 to OVL_CMD is an activation request at that instant, with no trigger's operands (R492). -/
theorem exec_ovlActivate (t k : Nat) (m : Master) (s : State) (d : Dev) (hm : masterOk m = true) (hk : okOvl k = true)
    (ha : Awake s) (hw : s.d.accepts m (oIdx k) 0x0B 1 = true)
    (hd : ovlOn (envOf t s) (begun s.d) k false none none = d) (hq : d.tuOps = []) :
    exec (.ovlActivate t m k) s = .next (s.moved t (d.ended m stOK)) :=
  write_moved (g := fun e d => (ovlOn e d k false none none).ended m stOK)
    (ok2 hm hk) ha hw (congrArg (Dev.ended · m stOK) hd) ((ended_tuOps d m stOK).trans hq)

/-- Settles O48: the entry that is not taken fails the overlay's check, so the request comes to the write of OVL_STATUS. -/
theorem overlayCheckedAgainAtActivation : Obligations.OverlayCheckedAgainAtActivation := by
  intro t k m s hm hk ha hw x hst hbad
  have hchk : ovlPasses (envOf t s) (begun s.d) x = false :=
    (ovlPasses_eq_false_iff (envOf t s) (begun s.d) x).mpr hbad
  exact exec_ovlActivate t k m s _ hm hk ha hw (ovlOn_refused (envOf t s) (begun s.d) k false none none hst hchk) rfl

end Sys2Proof.Machine
end

section
/-! SUPPORT. Reads and writes of a lock (R517): what each comes to, with access and without it, and that a lock that is freed is
free. -/

namespace Sys2Proof.Machine

/-- In a table whose keys rise, an entry that is taken out is not found again. -/
theorem tabFind_tabErase_self {α : Type} (t : Tab α) (n : Nat) (h : tabWf t = true) : tabFind (tabErase t n) n = none := by
  rw [tabWf_iff] at h
  induction t with
  | nil => rfl
  | cons p r ih =>
    obtain ⟨k, v⟩ := p
    rw [List.pairwise_cons] at h
    obtain ⟨hlow, hr⟩ := h
    by_cases hk : k = n
    · subst hk
      simpa [tabErase] using tabFind_low r k hlow
    · simp [tabErase, tabFind, hk, ih hr]

/-- A U16 object holds the numbers of 16 bits. -/
theorem u16_holds {v : Int} (h0 : 0 ≤ v) (h1 : v < 65536) : ObjType.u16.holds v = true := by
  simp [ObjType.holds, ObjType.signed, ObjType.bytes, h0, h1]

/-! ### The effects -/

/-- A read of a free lock by a master with access takes the lock. -/
theorem lockRead_free (d : Dev) (m : Master) (n : Nat) (hacc : lockAccess d m n = true) (hf : tabFind d.locks n = none) :
    lockRead d m n = { d with locks := tabSet d.locks n (masterId m + 1) }.readEnded m stOK (.num 0) := by
  simp [lockRead, hacc, hf]

/-- A read of an owned lock by a master with access tells its owner. -/
theorem lockRead_owned (d : Dev) (m : Master) (n o : Nat) (hacc : lockAccess d m n = true) (hf : tabFind d.locks n = some o) :
    lockRead d m n = d.readEnded m stOK (.num (o : Nat)) := by
  simp [lockRead, hacc, hf]

/-- A read of a lock without access never reads 0. -/
theorem lockRead_denied (d : Dev) (m : Master) (n : Nat) (hacc : lockAccess d m n = false) :
    lockRead d m n = d.readEnded m stDenied (.num 0xFFFF) := by
  simp [lockRead, hacc]

/-- A write of 0 by the owner takes the lock out of the table. -/
theorem lockWrite_owner (d : Dev) (m : Master) (n : Nat) (hacc : lockAccess d m n = true)
    (ho : tabFind d.locks n = some (masterId m + 1)) :
    lockWrite d m n 0 = { d with locks := tabErase d.locks n }.ended m stOK := by
  simp [lockWrite, u16_holds, hacc, ho]

/-- Any other write by a master with access is a refused write of the locks' range. -/
theorem lockWrite_refused (d : Dev) (m : Master) (n : Nat) (v : Int) (hacc : lockAccess d m n = true) (h0 : 0 ≤ v)
    (h1 : v < 65536) (hv : v ≠ 0 ∨ tabFind d.locks n ≠ some (masterId m + 1)) : lockWrite d m n v = d.reject m 0x1660 := by
  have hno : ¬ (v = 0 ∧ tabFind d.locks n = some (masterId m + 1)) := fun ⟨hz, ho⟩ => hv.elim (· hz) (· ho)
  simp [lockWrite, u16_holds h0 h1, hacc, hno]

/-- A write of a lock without access. -/
theorem lockWrite_denied (d : Dev) (m : Master) (n : Nat) (v : Int) (hacc : lockAccess d m n = false) (h0 : 0 ≤ v)
    (h1 : v < 65536) : lockWrite d m n v = d.ended m stDenied := by
  simp [lockWrite, u16_holds h0 h1, hacc]

/-! ### The commands -/

/-- A read of a lock asks nothing of the time unit. -/
theorem lockRead_tuOps (d : Dev) (m : Master) (n : Nat) : (lockRead d m n).tuOps = d.tuOps := by
  unfold lockRead
  split
  · rfl
  · split <;> rfl

/-- A write of a lock asks nothing of the time unit. -/
theorem lockWrite_tuOps (d : Dev) (m : Master) (n : Nat) (v : Int) : (lockWrite d m n v).tuOps = d.tuOps := by
  unfold lockWrite
  split
  · unfold Dev.badType
    split <;> rfl
  · split
    · rfl
    · split
      · rfl
      · exact reject_tuOps d m 0x1660

/-- LOCK_ACQUIRE is the read of the lock. -/
theorem exec_lockAcquire (t n : Nat) (m : Master) (s : State) (d : Dev) (hm : masterOk m = true) (hn : okLock n = true)
    (ha : Awake s) (hd : lockRead (begun s.d) m n = d) : exec (.lockAcquire t m n) s = .next (s.moved t d) :=
  main_moved (f := fun _ d => lockRead d m n) (ok2 hm hn) ha hd (hd ▸ lockRead_tuOps _ _ _)

/-- LOCK_FREE is the write of the lock. -/
theorem exec_lockFree (t n : Nat) (m : Master) (v : Int) (s : State) (d : Dev) (hm : masterOk m = true) (hn : okLock n = true)
    (ha : Awake s) (hd : lockWrite (begun s.d) m n v = d) : exec (.lockFree t m n v) s = .next (s.moved t d) :=
  main_moved (f := fun _ d => lockWrite d m n v) (ok2 hm hn) ha hd (hd ▸ lockWrite_tuOps _ _ _ _)

/-- Access to a lock, as R517 gives it: never over FDP, and to locks 96 to 127 from a secure domain only. -/
theorem lockAccess_eq (d : Dev) (m : Master) (n : Nat) :
    lockAccess d m n = (match m with | .fdp _ => false | _ => decide (n < 96) || d.secureM m) := by
  cases m <;> rfl

/-- Settles O51: each command is the read or the write of the lock, and the reads and writes split by access and by what the
table of locks finds. -/
theorem locksAreTakenByReading : Obligations.LocksAreTakenByReading := by
  intro t n m s hm hn ha access
  have hacc : lockAccess (begun s.d) m n = access := lockAccess_eq s.d m n
  refine ⟨fun h hf => ?_, fun o h hf => ?_, fun h => ?_, fun h ho => ⟨?_, tabFind_tabErase_self s.d.locks n⟩,
    fun v h h0 h1 hv => ?_, fun v h h0 h1 => ?_⟩
  · exact exec_lockAcquire t n m s _ hm hn ha (lockRead_free _ m n (hacc.trans h) hf)
  · exact exec_lockAcquire t n m s _ hm hn ha (lockRead_owned _ m n o (hacc.trans h) hf)
  · exact exec_lockAcquire t n m s _ hm hn ha (lockRead_denied _ m n (hacc.trans h))
  · exact exec_lockFree t n m 0 s _ hm hn ha (lockWrite_owner _ m n (hacc.trans h) ho)
  · exact exec_lockFree t n m v s _ hm hn ha (lockWrite_refused _ m n v (hacc.trans h) h0 h1 hv)
  · exact exec_lockFree t n m v s _ hm hn ha (lockWrite_denied _ m n v (hacc.trans h) h0 h1)

end Sys2Proof.Machine
end

section
/-! SUPPORT. What the wake of a core leaves alone (R515): the mailboxes, the objects, the power state and the requests to the time
unit. -/

namespace Sys2Proof.Machine

/-- What decides who a mailbox's ends are and whether the main domain is awake, and what is asked of the time unit, stay as they
were. -/
structure KeepsEnds (d d' : Dev) : Prop where
  o : d'.o = d.o
  inForce : d'.inForce = d.inForce
  pow : d'.pow = d.pow
  tuOps : d'.tuOps = d.tuOps

/-- The words under way stay as they were too. -/
structure KeepsMail (d d' : Dev) : Prop extends KeepsEnds d d' where
  mboxes : d'.mboxes = d.mboxes

theorem KeepsEnds.trans {d d' d'' : Dev} (h : KeepsEnds d d') (h' : KeepsEnds d' d'') : KeepsEnds d d'' :=
  ⟨h'.o.trans h.o, h'.inForce.trans h.inForce, h'.pow.trans h.pow, h'.tuOps.trans h.tuOps⟩

theorem KeepsMail.refl (d : Dev) : KeepsMail d d := ⟨⟨rfl, rfl, rfl, rfl⟩, rfl⟩

theorem KeepsMail.trans {d d' d'' : Dev} (h : KeepsMail d d') (h' : KeepsMail d' d'') : KeepsMail d d'' :=
  ⟨h.toKeepsEnds.trans h'.toKeepsEnds, h'.mboxes.trans h.mboxes⟩

/-! ### Records of units and power domains -/

theorem setUnit_keepsMail (d : Dev) (u : Nat) (r : UnitRec) : KeepsMail d (d.setUnit u r) := ⟨⟨rfl, rfl, rfl, rfl⟩, rfl⟩

theorem raise_keepsMail (d : Dev) (e : Env) (p x : Nat) : KeepsMail d (d.raise e p x) := ⟨⟨rfl, rfl, rfl, rfl⟩, rfl⟩

theorem domainSet_keepsMail (e : Env) (d : Dev) (k : Nat) (on : Bool) : KeepsMail d (domainSet e d k on) := by
  unfold domainSet
  split
  · exact .refl _
  · exact ⟨⟨rfl, rfl, rfl, rfl⟩, rfl⟩

theorem domainFollow_keepsMail (e : Env) (d : Dev) (u : Nat) : KeepsMail d (domainFollow e d u) := by
  unfold domainFollow
  dsimp only
  split
  · exact .refl _
  · split
    · exact domainSet_keepsMail e d _ _
    · split
      · exact .refl _
      · exact domainSet_keepsMail e d _ _

theorem cancelReaching_keepsMail (d : Dev) (u : Nat) : KeepsMail d (cancelReaching d u) := by
  unfold cancelReaching
  dsimp only
  split
  · exact ⟨⟨rfl, rfl, rfl, rfl⟩, rfl⟩
  · exact .refl _

theorem unitMove_keepsMail (e : Env) (d : Dev) (u : Nat) (st : UState) : KeepsMail d (unitMove e d u st) := by
  unfold unitMove
  dsimp only
  split
  · exact .refl _
  · exact (cancelReaching_keepsMail d u).trans ((setUnit_keepsMail _ u _).trans (domainFollow_keepsMail e _ u))

/-! ### Commands of a unit -/

theorem unitAbort_keepsMail (d : Dev) (u : Nat) (st : CmdStatus) : KeepsMail d (unitAbort d u st) := by
  unfold unitAbort
  split <;> exact ⟨⟨rfl, rfl, rfl, rfl⟩, rfl⟩

theorem deployedBack_keepsMail (e : Env) (d : Dev) (u : Nat) : KeepsMail d (deployedBack e d u) := by
  have hbist (d' : Dev) (k : Nat) : KeepsMail d' (bistStart d' k) := ⟨⟨rfl, rfl, rfl, rfl⟩, rfl⟩
  exact (unitMove_keepsMail e d u .test).trans ((setUnit_keepsMail _ u _).trans (hbist _ _))

/-- A step of a command that is no RESET clears nothing. -/
theorem resetStep_of_not_reset (e : Env) (d : Dev) (x : Nat) (st : UState) : resetStep e d x false st = d := rfl

/-- The steps of a command that is no RESET touch records of units alone, however many of them find their unit in its state. -/
theorem cmdSettle_keepsMail (e : Env) (f : Nat) (d : Dev) (u : Nat) (h : ∀ c, (d.unit u).cmd = some c → c.reset = false) :
    KeepsMail d (cmdSettle e f d u) := by
  induction f generalizing d with
  | zero => exact .refl _
  | succ f ih =>
    unfold cmdSettle
    split
    · exact .refl _
    next c hc =>
      split
      · exact setUnit_keepsMail d u _
      · split
        · dsimp only
          rw [h c hc, resetStep_of_not_reset]
          refine (setUnit_keepsMail d u _).trans (ih _ fun c' hc' => ?_)
          rw [setUnit_unit] at hc'
          obtain rfl := Option.some.inj hc'
          rfl
        · exact .refl _

theorem cmdStart_keepsMail (e : Env) (d : Dev) (u : Nat) (st : UState) (steps : List (Nat × UState)) :
    KeepsMail d (cmdStart e d u st steps false) := by
  refine (setUnit_keepsMail d u _).trans (cmdSettle_keepsMail e _ _ u fun c hc => ?_)
  rw [setUnit_unit] at hc
  obtain rfl := Option.some.inj hc
  rfl

/-! ### A core commanded to IN_SERVICE (R509) -/

/-- A core has no members: a command to it reaches it alone. -/
theorem reach_core : ∀ c < 8, reach (0x100 + c) = [(0, 0x100 + c)] := by decide

/-- A core's entry condition records nothing (R509). -/
theorem entryCheck_core (d : Dev) (m : Master) (st : UState) (reset : Bool) :
    ∀ c < 8, (entryCheck d m (0x100 + c) st reset).2 = d := by
  intro c hc
  unfold entryCheck
  by_cases h : d.ustate (0x100 + c) = st
  · rw [if_pos h]
  · rw [if_neg h]
    interval_cases c <;> rfl

/-- Whether a core's command is refused or not, the check changes nothing. -/
theorem firstRefusal_core (d : Dev) (m : Master) (c : Nat) (hc : c < 8) (st : UState) (reset : Bool) :
    (firstRefusal d m (0x100 + c) st reset [0x100 + c]).2 = d := by
  have hcause : (refuseCause d m (0x100 + c) st reset).2 = d := by
    unfold refuseCause
    split
    · rfl
    · split
      · rfl
      · split
        · rfl
        · exact entryCheck_core d m st reset c hc
  unfold firstRefusal
  generalize refuseCause d m (0x100 + c) st reset = answer at hcause ⊢
  obtain ⟨cause, d'⟩ := answer
  obtain rfl : d' = d := hcause
  dsimp only
  split
  · rfl
  · split <;> rfl

theorem cmdState_core_keepsMail (e : Env) (d : Dev) (m : Master) (c : Nat) (hc : c < 8) :
    KeepsMail d (cmdState e d m (0x100 + c) .inService) := by
  have hlane : ¬ 0x200 ≤ 0x100 + c := by omega
  have hchk := firstRefusal_core d m c hc .inService false
  have horder : stepOrder true [(0, 0x100 + c)] = [0x100 + c] := rfl
  unfold cmdState
  simp only [reach_core c hc, beq_self_eq_true, horder, hchk, hlane, decide_false, Bool.false_and, Bool.false_eq_true, if_false]
  split
  · exact setUnit_keepsMail d _ _
  · split
    · split <;> exact setUnit_keepsMail d _ _
    · split
      · exact deployedBack_keepsMail e d _
      · exact cmdStart_keepsMail e d _ _ _

/-- The wake of a core, taken or refused, leaves mail and ends alone (R515). -/
theorem coreWake_keepsMail (e : Env) (d : Dev) (c : Nat) (hc : c < 8) : KeepsMail d (coreWake e d c) := by
  unfold coreWake unitCmd
  split
  · exact setUnit_keepsMail d _ _
  · simp only [Nat.reduceEqDiff, if_false]
    split
    · split
      · exact setUnit_keepsMail d _ _
      · exact (unitAbort_keepsMail d _ _).trans (cmdState_core_keepsMail e _ _ c hc)
    · exact cmdState_core_keepsMail e d _ c hc

end Sys2Proof.Machine
end

section
/-! SUPPORT. The queues of a mailbox and its commands (R512 to R514): what a SEND and a RECV come to, by end, room and words under
way. -/

namespace Sys2Proof.Machine

/-! ### Queues and ends -/

/-- An end of a mailbox is A, 0, or B, 1. -/
theorem mbSide_le_one {d : Dev} {m : Master} {b side : Nat} (h : mbSide d m b = some side) : side ≤ 1 := by
  unfold mbSide at h
  split at h
  · cases h
  · split at h
    · exact Option.some.inj h ▸ Nat.zero_le 1
    · split at h
      · exact Option.some.inj h ▸ Nat.le_refl 1
      · cases h

/-- Who the ends are rests on the objects alone (R510). -/
theorem mbSide_congr {d d' : Dev} (h : KeepsEnds d d') (m : Master) (b : Nat) : mbSide d' m b = mbSide d m b := by
  have hend (side : Nat) : mbEnd d' b side = mbEnd d b side := by
    unfold mbEnd
    rw [gn_congr h.inForce (congrArg (tabFind · _) h.o)]
  unfold mbSide
  rw [hend 0, hend 1]

/-- What is under way rests on the table of the mailboxes alone. -/
theorem mbox_congr {d d' : Dev} (h : d'.mboxes = d.mboxes) (b : Nat) : d'.mbox b = d.mbox b := by
  unfold Dev.mbox
  rw [h]

theorem mbIn_congr {d d' : Dev} (h : d'.mboxes = d.mboxes) (b side : Nat) : mbIn d' b side = mbIn d b side := by
  unfold mbIn
  rw [mbox_congr h]

theorem mbSetIn_keepsEnds (d : Dev) (b side : Nat) (l : List Nat) : KeepsEnds d (mbSetIn d b side l) := ⟨rfl, rfl, rfl, rfl⟩

@[simp] theorem mbSetIn_mbox_self (d : Dev) (b side : Nat) (l : List Nat) :
    (mbSetIn d b side l).mbox b = if side = 0 then { d.mbox b with ba := l } else { d.mbox b with ab := l } :=
  tabGet_tabSet_self _ _ _ _

/-- The other mailboxes stay as they are. -/
theorem mbSetIn_mbox_ne (d : Dev) (b side : Nat) (l : List Nat) {b' : Nat} (h : b' ≠ b) :
    (mbSetIn d b side l).mbox b' = d.mbox b' :=
  tabGet_tabSet_ne _ _ _ _ _ h

/-- A queue reads as it was written. -/
@[simp] theorem mbIn_mbSetIn_self (d : Dev) (b side : Nat) (l : List Nat) : mbIn (mbSetIn d b side l) b side = l := by
  by_cases h : side = 0 <;> simp [mbIn, h]

/-- The queue of the other direction stays as it is. -/
theorem mbIn_mbSetIn_other (d : Dev) (b : Nat) {side : Nat} (l : List Nat) (h : side ≤ 1) :
    mbIn (mbSetIn d b (1 - side) l) b side = mbIn d b side := by
  obtain rfl | rfl : side = 0 ∨ side = 1 := by omega
  · simp [mbIn]
  · simp [mbIn]

/-- Flags in bits 0 and 1 under counts from bit 8 on. -/
theorem bit_flags (x y : Nat) (p q : Bool) :
    bit (x * 4096 + y * 256 + b2n p * 2 + b2n q) 0 = q ∧ bit (x * 4096 + y * 256 + b2n p * 2 + b2n q) 1 = p := by
  have hp : b2n p ≤ 1 := by cases p <;> decide
  have hq : b2n q ≤ 1 := by cases q <;> decide
  constructor
  · have hlow : (x * 4096 + y * 256 + b2n p * 2 + b2n q) % 2 = b2n q := by omega
    rw [bit, Nat.shiftRight_zero, hlow]
    cases q <;> rfl
  · have hnext : (x * 4096 + y * 256 + b2n p * 2 + b2n q) / 2 % 2 = b2n p := by omega
    rw [bit, Nat.shiftRight_eq_div_pow, pow_one, hnext]
    cases p <;> rfl

/-- Bits 0 and 1 of MB_STATUS are FULL of A and of B (R513, R523). -/
theorem mbStatus_full (d : Dev) (b : Nat) {side : Nat} (h : side ≤ 1) :
    bit (mbStatus d b) side = decide ((mbIn d b (1 - side)).length = 8) := by
  obtain ⟨hA, hB⟩ := bit_flags (d.mbox b).ab.length (d.mbox b).ba.length ((d.mbox b).ba.length == 8) ((d.mbox b).ab.length == 8)
  obtain rfl | rfl : side = 0 ∨ side = 1 := by omega
  · exact hA
  · exact hB

/-! ### One command after another at one instant -/

/-- A state that keeps the power state is awake as it was. -/
theorem awake_moved {s : State} (t : Nat) {d : Dev} (ha : Awake s) (h : KeepsEnds (begun s.d) d) : Awake (s.moved t d) := by
  show d.pow.heldBy = none
  rw [h.pow]
  exact ha

@[simp] theorem moved_d (s : State) (t : Nat) (d : Dev) : (s.moved t d).d = d := rfl

/-- Two commands at one instant. -/
theorem moved_moved (s : State) (t : Nat) (d d' : Dev) : (s.moved t d).moved t d' = s.moved t d' := by
  simp [State.moved]

/-! ### RECV -/

/-- A RECV by an end takes the oldest word of its incoming queue out and returns it with VALID. -/
theorem mbRecv_word (d : Dev) (m : Master) (b side w : Nat) (rest : List Nat) (hs : mbSide d m b = some side)
    (hq : mbIn d b side = w :: rest) :
    mbRecv d m b = (mbSetIn d b side rest).readEnded m stOK (.num (w + 4294967296 : Nat)) := by
  simp [mbRecv, hs, hq]

/-- A RECV of an empty queue returns 0 and takes nothing. -/
theorem mbRecv_empty (d : Dev) (m : Master) (b side : Nat) (hs : mbSide d m b = some side) (hq : mbIn d b side = []) :
    mbRecv d m b = d.readEnded m stOK (.num 0) := by
  simp [mbRecv, hs, hq]

/-- MB_RECV is the read of RECV. -/
theorem exec_mbRecv (t b : Nat) (m : Master) (s : State) (d : Dev) (hm : masterOk m = true) (hb : okMbox b = true) (ha : Awake s)
    (hd : mbRecv (begun s.d) m b = d) (hq : d.tuOps = []) : exec (.mbRecv t m b) s = .next (s.moved t d) :=
  main_moved (f := fun _ d => mbRecv d m b) (ok2 hm hb) ha hd hq

/-- An end's MB_RECV of a queue that holds a word. -/
theorem exec_mbRecv_word (t b side w : Nat) (rest : List Nat) (m : Master) (s : State) (hm : masterOk m = true)
    (hb : okMbox b = true) (ha : Awake s) (hs : mbSide s.d m b = some side) (hq : mbIn s.d b side = w :: rest) :
    exec (.mbRecv t m b) s =
      .next (s.moved t ((mbSetIn (begun s.d) b side rest).readEnded m stOK (.num (w + 4294967296 : Nat)))) :=
  exec_mbRecv t b m s _ hm hb ha (mbRecv_word (begun s.d) m b side w rest hs hq) rfl

/-- What an end's MB_RECV of a queue that holds a word leaves: the rest of the queue, and the ends as they were. -/
theorem exec_mbRecv_takes (t b side w : Nat) (rest : List Nat) (m : Master) (s : State) (hm : masterOk m = true)
    (hb : okMbox b = true) (ha : Awake s) (hs : mbSide s.d m b = some side) (hq : mbIn s.d b side = w :: rest) :
    ∃ d, exec (.mbRecv t m b) s = .next (s.moved t d) ∧ KeepsEnds (begun s.d) d ∧ mbIn d b side = rest ∧
      d.resp = { status := stOK, val := .num (w + 4294967296 : Nat) } :=
  ⟨_, exec_mbRecv_word t b side w rest m s hm hb ha hs hq, ⟨rfl, rfl, rfl, rfl⟩,
    (mbIn_congr rfl b side).trans (mbIn_mbSetIn_self (begun s.d) b side rest), rfl⟩

/-! ### SEND -/

/-- A U32 object holds the numbers of 32 bits. -/
theorem u32_holds {v : Int} (h0 : 0 ≤ v) (h1 : v < 4294967296) : ObjType.u32.holds v = true := by
  simp [ObjType.holds, ObjType.signed, ObjType.bytes, h0, h1]

/-- A refused write leaves the flags of interrupts 160 to 163 alone. -/
theorem reject_irqFlags (d : Dev) (m : Master) (i : Nat) : (d.reject m i).irqFlags = d.irqFlags := by
  unfold Dev.reject
  split <;> rfl

/-- MY_STATUS of its master shows a refused write (R498). -/
theorem reject_refused (d : Dev) (m : Master) (i : Nat) : ((d.reject m i).mrec m).refused = true := by
  have hshown (d' : Dev) : ((d'.ended m stRefused).mrec m).refused = true := by
    simp [Dev.ended, Dev.mrec, Dev.setMrec, stRefused, stOK, stOverlaid, stDenied]
  exact hshown _

section
variable (wake : Env → Dev → Nat → Dev) (e : Env) (d : Dev) (m : Master) (b side : Nat) (v : Int)

/-- A SEND by a master that is no end. -/
theorem mbSend_denied (hs : mbSide d m b = none) (h0 : 0 ≤ v) (h1 : v < 4294967296) :
    mbSend wake e d m b v = d.ended m stDenied := by
  simp [mbSend, u32_holds h0 h1, hs]

/-- A SEND to a full queue: nothing is queued, the refused write and the overflow are counted and offered, and interrupt 162 is
pending (R514). -/
theorem mbSend_full (hs : mbSide d m b = some side) (hB : ¬(b = 31 ∧ side = 1)) (h0 : 0 ≤ v) (h1 : v < 4294967296)
    (hfull : 8 ≤ (mbIn d b (1 - side)).length) :
    mbSend wake e d m b v =
      { (((d.inc (0x1620 + b) 6).reject m 0x1620).raise e 0x2A1 b) with irqFlags := setBit d.irqFlags 2 } := by
  simp [mbSend, u32_holds h0 h1, hs, hB, hfull, mbRefuse, reject_irqFlags]

/-- A SEND that finds room queues its word at the tail; the event and the wake that follow touch neither the mailboxes nor what
decides their ends (R512, R515). -/
theorem mbSend_room (hwake : ∀ e d c, c < 8 → KeepsMail d (wake e d c)) (hs : mbSide d m b = some side)
    (hB : ¬(b = 31 ∧ side = 1)) (h0 : 0 ≤ v) (h1 : v < 4294967296) (hroom : (mbIn d b (1 - side)).length < 8) :
    ∃ d', mbSend wake e d m b v = d'.ended m stOK ∧
      KeepsMail (mbSetIn d b (1 - side) (mbIn d b (1 - side) ++ [v.toNat])) d' := by
  simp only [mbSend, u32_holds h0 h1, hs, hB, Nat.not_le.mpr hroom, Bool.not_true, Bool.false_eq_true, if_false,
    Bool.and_eq_true, decide_eq_true_eq]
  refine ⟨_, rfl, ?_⟩
  split
  · exact (raise_keepsMail _ e 0x2A0 b).trans (hwake _ _ _ (Nat.mod_lt _ (by decide)))
  · exact raise_keepsMail _ e 0x2A0 b

end

/-- MB_SEND is the write of SEND. -/
theorem exec_mbSend (t b : Nat) (m : Master) (v : Int) (s : State) (d : Dev) (hm : masterOk m = true) (hb : okMbox b = true)
    (ha : Awake s) (hd : mbSend coreWake (envOf t s) (begun s.d) m b v = d) (hq : d.tuOps = []) :
    exec (.mbSend t m b v) s = .next (s.moved t d) :=
  main_moved (f := fun e d => mbSend coreWake e d m b v) (ok2 hm hb) ha hd hq

/-- An end's MB_SEND that finds room. -/
theorem exec_mbSend_room (t b side : Nat) (m : Master) (v : Int) (s : State) (hm : masterOk m = true) (hb : okMbox b = true)
    (ha : Awake s) (hs : mbSide s.d m b = some side) (hB : ¬(b = 31 ∧ side = 1)) (h0 : 0 ≤ v) (h1 : v < 4294967296)
    (hroom : (mbIn s.d b (1 - side)).length < 8) :
    ∃ d, exec (.mbSend t m b v) s = .next (s.moved t d) ∧ KeepsEnds (begun s.d) d ∧
      d.mboxes = (mbSetIn s.d b (1 - side) (mbIn s.d b (1 - side) ++ [v.toNat])).mboxes ∧
      d.resp = { status := stOK, val := .num 0 } := by
  obtain ⟨d, hd, hkeep⟩ := mbSend_room coreWake (envOf t s) (begun s.d) m b side v coreWake_keepsMail hs hB h0 h1 hroom
  have hends : KeepsEnds (begun s.d) (d.ended m stOK) :=
    (mbSetIn_keepsEnds _ b _ _).trans (hkeep.toKeepsEnds.trans ⟨rfl, rfl, rfl, rfl⟩)
  exact ⟨d.ended m stOK, exec_mbSend t b m v s _ hm hb ha hd hends.tuOps, hends, hkeep.mboxes, rfl⟩

/-! ### The obligations -/

/-- Settles O49: a SEND that finds room writes the queue with the word at its tail, and a RECV takes the queue's head. -/
theorem mailboxWordsPassInOrder : Obligations.MailboxWordsPassInOrder := by
  intro t b m s hm hb ha
  refine ⟨fun side v hs hB h0 h1 hroom => ?_, fun v hs h0 h1 => ?_, fun side w rest hs hq => ?_, fun side hs hq => ?_⟩
  · obtain ⟨d, hexec, hends, hmail, hresp⟩ := exec_mbSend_room t b side m v s hm hb ha hs hB h0 h1 hroom
    have htail : mbIn d b (1 - side) = mbIn s.d b (1 - side) ++ [v.toNat] :=
      (mbIn_congr hmail b _).trans (mbIn_mbSetIn_self s.d b _ _)
    refine ⟨d, hexec, htail, (mbIn_congr hmail b _).trans (mbIn_mbSetIn_other s.d b _ (mbSide_le_one hs)),
      fun b' hb' => (mbox_congr hmail b').trans (mbSetIn_mbox_ne s.d b _ _ hb'), hresp, fun m2 hm2 hs2 hempty => ?_⟩
    rw [hempty, List.nil_append] at htail
    obtain ⟨d2, hexec2, -, hleft, hword⟩ := exec_mbRecv_takes t b (1 - side) v.toNat [] m2 (s.moved t d) hm2 hb
      (awake_moved t ha hends) ((mbSide_congr hends m2 b).trans hs2) htail
    have hv : ((v.toNat + 4294967296 : Nat) : Int) = v + 4294967296 := by omega
    rw [moved_moved] at hexec2
    rw [hv] at hword
    exact ⟨d2, hexec2, hword, hleft⟩
  · exact exec_mbSend t b m v s _ hm hb ha (mbSend_denied coreWake (envOf t s) (begun s.d) m b v hs h0 h1) rfl
  · exact exec_mbRecv_word t b side w rest m s hm hb ha hs hq
  · exact exec_mbRecv t b m s _ hm hb ha (mbRecv_empty (begun s.d) m b side hs hq) rfl

/-- Settles O50: FULL is a bit of MB_STATUS; a SEND to a full queue queues nothing; a RECV that leaves seven words clears FULL, so
the SEND after it finds room. -/
theorem fullMailboxRefusesSend : Obligations.FullMailboxRefusesSend := by
  refine ⟨fun d b => ⟨mbStatus_full d b (Nat.zero_le 1), mbStatus_full d b (Nat.le_refl 1)⟩, ?_⟩
  intro t b side m v s hm hb ha hs hB h0 h1 hfull
  refine ⟨?_, reject_refused _ m 0x1620, fun m2 w rest hm2 hs2 hq hlen => ?_⟩
  · exact exec_mbSend t b m v s _ hm hb ha
      (mbSend_full coreWake (envOf t s) (begun s.d) m b side v hs hB h0 h1 hfull)
      (reject_tuOps ((begun s.d).inc (0x1620 + b) 6) m 0x1620)
  · obtain ⟨d1, hexec1, hends, hleft, -⟩ := exec_mbRecv_takes t b (1 - side) w rest m2 s hm2 hb ha hs2 hq
    have hroom : (mbIn d1 b (1 - side)).length < 8 := by
      rw [hleft, hlen]
      decide
    obtain ⟨d2, hexec2, -, hmail, hresp⟩ := exec_mbSend_room t b side m v (s.moved t d1) hm hb (awake_moved t ha hends)
      ((mbSide_congr hends m b).trans hs) hB h0 h1 hroom
    rw [moved_moved] at hexec2
    refine ⟨d1, hexec1, ?_, d2, hexec2, ?_, hresp⟩
    · rw [mbStatus_full d1 b (mbSide_le_one hs), decide_eq_false_iff_not]
      exact hroom.ne
    · rw [mbIn_congr hmail, mbIn_mbSetIn_self, moved_d, hleft]

end Sys2Proof.Machine
end
